-- ==== Sys2Proof/Word.lean ====
section
/-! DEFINITION. Sys2Proof/Word.lean: the words of the part (00_scope "Notation and units"): 32-bit registers,
bytes, 16-bit halves and the 64-bit flits of Sapflow; IEEE 754 binary32 and binary64 numbers are words too. -/

namespace Sys2Proof

/-- A 32-bit register word (R34). -/
abbrev Word := BitVec 32
/-- A byte. -/
abbrev Byte := BitVec 8
/-- A 16-bit half word. -/
abbrev Half := BitVec 16
/-- A 64-bit Sapflow flit (01, "Sapflow"). -/
abbrev Flit := BitVec 64
/-- An IEEE 754 binary32 number as its bits (00, "Notation and units"). -/
abbrev F32 := BitVec 32
/-- An IEEE 754 binary64 number as its bits. -/
abbrev F64 := BitVec 64

end Sys2Proof
end

