-- ==== Sys2Proof/Syntax.lean ====
section
/-! DEFINITION. Sys2Proof/Syntax.lean: the commands and events of the block, one constructor per row of the opcode
table, and the types of their operands: what the world outside supplies with each. -/

namespace Sys2Proof

/-- The power domains (01, "Power domains"). -/
inductive Dom where
  | bkp | aon | crn | cmb | rta | rtb | rtp | grr | hwd | bus | gft | brk
deriving DecidableEq, Repr

/-- The die links (R10). -/
inductive DieLink where
  /-- BKB, to the Bark die. -/
  | bark
  /-- HWB, to the Heartwood die. -/
  | heartwood
deriving DecidableEq, Repr

/-- One conversion as the world supplies it: the voltage at the pin in nV (at the converter for an internal channel,
at the preamplifier output in PYRO), that at AINn+1 for an RTD3 pair, and whether nothing is connected to a VOLT2V5
pin (R119, R126, R127, R138). -/
structure Sample where
  pin : Int
  pin2 : Int
  floating : Bool
deriving DecidableEq, Repr

/-- A producer of results (R157 to R160). -/
inductive Producer where
  | converter (c : Fin 6)
  | stage (n : Fin 96)
  | i2c (p : Fin 8)
  | twig (u : Fin 80)
  | fan (f : Fin 16)
  | drive (n : Fin 48)
  /-- A slot destination that names a virtual point (R166, R233). -/
  | slot (n : Fin 256)
deriving DecidableEq, Repr

/-- A reader of the latest-value table, the recorder window and the clock (R173, R472, R491). -/
inductive Reader where
  | core0 | core1 | host
deriving DecidableEq, Repr

/-- How an I2C transaction ended (R182 to R186). -/
inductive I2cOutcome where
  /-- Every byte was acknowledged; the bytes read. -/
  | done (read : List Byte)
  /-- A byte was not acknowledged. -/
  | nack
  /-- SCL was held low for longer than the limit. -/
  | timeout
deriving DecidableEq, Repr

/-- What happens to a record write of Heartwood (R434, R438, R442). -/
inductive Medium where
  /-- The read-back verifies. -/
  | ok
  /-- The read-back differs after the third repetition. -/
  | bad
  /-- The die does not answer. -/
  | silent
  /-- The power-fail warning arrives, or a device reset, before step 4, or the Crown die goes into reset before step 2: the
  write stops there. -/
  | cut
  /-- The Crown die goes into reset from step 2 on: the controller completes steps 2 to 6, and the commit entry is missing
  (R532). -/
  | cutMarked
deriving DecidableEq, Repr

/-- What happens to the record writes of a save (R447). -/
structure SaveMedium where
  control : Medium
  models : Medium
  recorder : Medium
deriving DecidableEq, Repr

/-- A frame on an RS-485 line (R381): its bytes, the longest silence between two of them in µs, how many of them came with a
framing or parity error. -/
structure SerialFrame where
  bytes : List Byte
  gapUs : Nat
  errs : Nat
deriving DecidableEq, Repr

/-- A flit whose CRC fails (R10): the die link, and the flit's number on it. -/
structure FailedFlit where
  link : DieLink
  flit : Nat
deriving DecidableEq, Repr

/-- One end of a fabric link (R25, R26): the link, and which of its two ends. -/
structure LinkEnd where
  link : Fin 14
  rev : Bool
deriving DecidableEq, Repr

/-- How a read frame stands (R48, R609): whether its last byte is cut short; the addresses of mailbox words that have lost
their parity since the last frame. -/
structure ReadTail where
  part : Bool
  upsets : List Nat
deriving DecidableEq, Repr

/-- How a write frame stands (R48, R609, R6): whether its last byte is cut short; the addresses of mailbox words that have
lost their parity when it has been applied; the flags that hardware sets in the same cycle, by register. -/
structure WriteTail where
  part : Bool
  upsets : List Nat
  hw : List (Nat × Word)
deriving DecidableEq, Repr

/-- The command STORE.WRITE that runs, by its number, and the outcome of its write (R434, R442). -/
structure StoreJob where
  id : Nat
  medium : Medium
deriving DecidableEq, Repr

/-- The command TREND.DRAIN that runs, by its number, and which of the records it reads fail their CRC (R459). -/
structure DrainJob where
  id : Nat
  bad : Word
deriving DecidableEq, Repr

/-- The voltage at an input pin in mV (R121). -/
structure PinVoltage where
  n : Fin 96
  mv : Int
deriving DecidableEq, Repr

/-- How long an input in CURR has drawn its limit, in µs (R121). -/
structure PinLimit where
  n : Fin 96
  heldUs : Nat
deriving DecidableEq, Repr

/-- The voltages of the two lines of a sensor port in mV (R180). -/
structure LineVolts where
  scl : Int
  sda : Int
deriving DecidableEq, Repr

/-- A sensor port and the voltages of its lines (R180). -/
structure PortVolts where
  port : Fin 8
  mv : LineVolts
deriving DecidableEq, Repr

/-- What one scheduler cycle measures: VFIELD in mV (R363), and the current of each stage that was read, in mA (R324). -/
structure CycleReadings where
  vfMv : Int
  ma : List (Nat × Int)
deriving DecidableEq, Repr

/-- A frame on an MS/TP line and the silence before it in ms; no bytes: a silence alone. -/
structure MstpFrame where
  quietMs : Nat
  frame : SerialFrame
deriving DecidableEq, Repr

/-- What a Graft port has seen of its line (R396): code violations, or no signal. -/
structure LineFault where
  violations : Nat
  silent : Bool
deriving DecidableEq, Repr

/-- How a page of the trend store was programmed, and the sector after it erased (R457). -/
structure PageWrite where
  ok : Bool
  erased : Bool
deriving DecidableEq, Repr

/-- A reading of the supply (R514): PFAIL_N low, VIN in mV; and the outcome of the save that a warning starts (R447). -/
structure SupplyReading where
  pin : Bool
  vinMv : Nat
  medium : SaveMedium
deriving DecidableEq, Repr

/-- Where a BACnet request came from. -/
structure BacReq where
  port : Fin 6
  source : Byte
  invoke : Byte
deriving DecidableEq, Repr

/-- An object and a property (R378): object type, instance, property identifier, array index. -/
structure BacRef where
  obj : Nat
  inst : Nat
  prop : Nat
  index : Option Nat
deriving DecidableEq, Repr

/-- A property value written (R379): the bits of the value, NULL as none, the priority. -/
structure BacWrite where
  ref : BacRef
  value : Option Word
  prio : Nat
deriving DecidableEq, Repr

/-- How a ReadRange request names its records (R380). -/
inductive BacBy where
  | position | sequence | time
deriving DecidableEq, Repr

/-- The range of a ReadRange request: the trend log, the reference by position, sequence number or time word, and the
count, negative to read backwards. -/
structure BacRange where
  by_ : BacBy
  log : Nat
  first : Nat
  count : Int
deriving DecidableEq, Repr

/-- A COV subscription request: process identifier, object, confirmed or not, lifetime in s; cancel when `cancel`. -/
structure BacSub where
  process : Word
  obj : Nat
  inst : Nat
  confirmed : Bool
  lifetime : Nat
  cancel : Bool
deriving DecidableEq, Repr

/-- The argument of DeviceCommunicationControl. -/
inductive BacComm where
  | enable | disable | disableInitiation
deriving DecidableEq, Repr

/-- What start-up finds outside the part (R529, R530, R515, R390). -/
structure BootPins where
  role : Fin 4
  bootSel : Fin 4
  vinMv : Nat
  /-- The flash answers with SFDP tables; its size in Mbit. -/
  flashMbit : Nat
  sfdp : Bool
  /-- The Heartwood die answers. -/
  heartwood : Bool
deriving DecidableEq, Repr


/-- The commands and events, in the order of the opcode table. -/
inductive Instr where
  /-- FLIT_CRC_FAIL (R10): A die-link flit arrives with a failing CRC-8 and is retransmitted, or after the third
  retransmission the pending request is answered LINK_FAIL. -/
  | flitCrcFail (f : FailedFlit)
  /-- BRIDGE_LINK_TIMEOUT (R10): A bridge has received no valid word for 1 ms, or no response 1 ms after a
  request, and answers every pending and later request with LINK_FAIL. -/
  | bridgeLinkTimeout (link : DieLink)
  /-- LINK_VALID_WORDS_RETURN (R10): Valid words arrive again on a failed die link, and the bridge stops
  answering LINK_FAIL. -/
  | linkValidWordsReturn (link : DieLink)
  /-- IDLE_WORD (R11): A die-link side that has had no flit to send for 10 µs sends an idle word. -/
  | idleWord (link : DieLink) (far : Bool)
  /-- BARK_LINK_LOSS (R11): The Bark die has received no valid word for 2 ms, applies every channel's SAFEVAL
  and drives every fan to full duty. -/
  | barkLinkLoss
  /-- SYS_OPP_WRITE (R16): A write to SYS_OPPn requests a new operating point, or is refused with OPPREJ, and
  the part steps voltage and clock in order. -/
  | sysOppWrite (n : Fin 2) (v : Word)
  /-- OPP_STEP_COMPLETE (R16): One step of an operating-point change takes effect, shown in FACT and VACT, and
  the next step follows. -/
  | oppStepComplete (n : Fin 2)
  /-- ROUTER_RECEIVE (R24): A router receives a Sapflow packet and forwards it on its DST, or discards it or
  answers DOMAIN_OFF. -/
  | routerReceive (hdr : BitVec 64) (payload : List (BitVec 64))
  /-- CREDIT_RETURN (R25): A credit for a class returns on a link and a waiting request flit of that class is
  forwarded. -/
  | creditReturn (at_ : LinkEnd) (cls : Fin 3)
  /-- FABRIC_RESPONSE (R27): A response arrives at the source of a request and is accepted into its reserved
  space. -/
  | fabricResponse (src : Fin 16) (tag : Fin 64)
  /-- REGISTER_WRITE (R3): A write reaches a register that has no row of its own and applies per field type,
  with W1C, W1S and RWL behaviour and secure-field masking. -/
  | registerWrite (sec : Bool) (addr : Nat) (v : Word) (hw : Word)
  /-- STATUS_FRAME (R41): A status frame returns HSTAT and up to three words of HP_IRQ, HP_CHIRQ and HP_DBOUT.
  -/
  | statusFrame (secure : Bool) (gap : Nat) (mosi : List Byte) (partialByte : Bool)
  /-- READ_FRAME (R41): A read frame returns HSTAT and the words from its address, with CRC when asked. -/
  | readFrame (secure : Bool) (gap : Nat) (mosi : List Byte) (fin : ReadTail)
  /-- WRITE_FRAME (R48): A write frame is checked and, at the rise of its chip select, applies its words in
  ascending address order with CTL last, or is rejected whole. -/
  | writeFrame (secure : Bool) (gap : Nat) (mosi : List Byte) (fin : WriteTail)
  /-- BOTHCS (R39): Both chip selects fall together; the frame is ignored and logged with reason BOTHCS. -/
  | bothcs
  /-- GO (R56): Writing GO to an inbound channel's CTL sends the message: FULL sets and TAKEN, TMO, WITHDRAWN
  and BUSERR clear. -/
  | go (ch : Fin 16)
  /-- ABORT (R61): Writing ABORT to an inbound channel withdraws a message not yet taken. -/
  | abort (ch : Fin 16)
  /-- REPLY_RELEASE (R67): Writing GO to an outbound channel releases the reply; FULL clears, TAKEN sets and the
  next queued reply can post. -/
  | replyRelease (ch : Fin 16)
  /-- NEPOCH_WRITE (R71): A write changing NEPOCH starts a non-secure epoch change: pending bit set and FULL
  inbound messages withdrawn, or BUSY if one is pending. -/
  | nepochWrite (secure : Bool) (v : Half)
  /-- SEPOCH_WRITE (R71): A secure write changing SEPOCH starts a secure epoch change, or is rejected BUSY while
  one is pending. -/
  | sepochWrite (v : Half)
  /-- EPOCH_CHANGE (R72): Ohmest firmware clears old replies, aborts abortable commands, releases claims, clears
  R68 records and rings EPOCHCHG or SEPOCHCHG. -/
  | epochChange (secure : Bool)
  /-- HOSTWD_WRITE (R76): A write to HP_HOSTWD sets the host-watchdog interval and restarts its count. -/
  | hostwdWrite (secure : Bool) (v : Word)
  /-- DBIN_WRITE (R69): Your host sets HP_DBIN bits, which wait for firmware to act on them. -/
  | dbinWrite (secure : Bool) (v : Word)
  /-- DOORBELL_ACTION (R302): Firmware acts on a set HP_DBIN bit as its assigned action, or clears an unassigned
  bit, once READY is 1. -/
  | doorbellAction (bit : Fin 32)
  /-- MESSAGE_TAKE (R58): Ohmest firmware takes a FULL inbound message, copying M0–M15 and SEQ, clearing FULL,
  setting TAKEN and IEMPTY, and starts its command. -/
  | messageTake
  /-- INBOUND_TIMEOUT (R60): An inbound message not taken within TMO.MS is withdrawn with WITHDRAWN and TMO set.
  -/
  | inboundTimeout (ch : Fin 16)
  /-- REPLY_POST (R65): Firmware posts the next reply from the reply store on its outbound channel, setting FULL
  and OFULL. -/
  | replyPost (ch : Fin 16)
  /-- REPLY_TIMEOUT (R67): A posted reply not released within the outbound TMO.MS is withdrawn and REPLYLOST
  rings. -/
  | replyTimeout (ch : Fin 16)
  /-- HOST_WATCHDOG_EXPIRY (R76): No frame without rejection has arrived for INTERVAL seconds and the part
  enters host-loss state. -/
  | hostWatchdogExpiry
  /-- CROWN_WATCHDOG_EXPIRY (R79): The Crown watchdog expires; AON sets CWD and CRST, the Bark die applies safe
  values and the Crown die restarts. -/
  | crownWatchdogExpiry
  /-- WATCHDOG_KICK (R522): A write of KEY 0xC3A5 to SYS_CWD kicks the Crown watchdog; other keys are ignored.
  -/
  | watchdogKick (v : Word)
  /-- CROWN_RESTART (R532): The Crown die restarts in service, recovers Heartwood writes, boots, reloads state
  from AON and Heartwood and returns READY with restart replies. -/
  | crownRestart
  /-- SYS_INFO (R566): Returns HP_ID, the device identifier, firmware versions, boot state, configuration
  identity and grove role. -/
  | sysInfo (id : Nat)
  /-- SYS_STATUS (R567): Returns host-port, reset, boot, power, thermal, fabric and scheduler status from one
  pass. -/
  | sysStatus (id : Nat)
  /-- SYS_ABORT (R95): Stops an abortable running command by tag, or answers CONFLICT or NOT_FOUND. -/
  | sysAbort (id : Nat)
  /-- SYS_OWNER (R107): Returns the owner word of one object. -/
  | sysOwner (id : Nat)
  /-- SYS_RESET (R524): Requests a Crown restart, a device reset, or a device reset into recovery boot, saving
  first for a device reset. -/
  | sysReset (id : Nat)
  /-- DIAG_DUMP_COLLECT (R568): Builds the 687-word diagnostic dump, replacing any earlier one. -/
  | diagDumpCollect (id : Nat)
  /-- DIAG_DUMP_READ (R568): Returns up to 13 words of the held diagnostic dump from an offset. -/
  | diagDumpRead (id : Nat)
  /-- FW_UPDATE_ERASE (R535): Erases an image slot that is not running. -/
  | fwUpdateErase (id : Nat)
  /-- FW_UPDATE_WRITE (R535): Programs 1–13 words into an erased image slot. -/
  | fwUpdateWrite (id : Nat)
  /-- FW_UPDATE_VERIFY (R535): Checks hash, signature and SVN of a slot and programs its STATE pending. -/
  | fwUpdateVerify (id : Nat)
  /-- FW_UPDATE_CONFIRM (R535): The running trial image confirms its slot, clears TRIAL and raises SVNF. -/
  | fwUpdateConfirm (id : Nat)
  /-- FW_UPDATE_STATUS (R535): Returns slot states, SVNF, image source and versions. -/
  | fwUpdateStatus (id : Nat)
  /-- CFG_LOAD_BEGIN (R303): Opens a configuration load session of a given scope, length and CRC. -/
  | cfgLoadBegin (id : Nat)
  /-- CFG_LOAD_DATA (R304): Writes data words at an offset into the open load session. -/
  | cfgLoadData (id : Nat)
  /-- CFG_LOAD_END (R305): Checks the session image, and unless checking only, commits it to Heartwood and
  activates it. -/
  | cfgLoadEnd (id : Nat) (medium : Medium)
  /-- CFG_MODE (R309): Sets or cancels a mode override for a zone or the device, with an optional expiry. -/
  | cfgMode (id : Nat)
  /-- CFG_CONDITION (R309): Sets or releases the command trigger of a condition overlay, with an optional
  expiry. -/
  | cfgCondition (id : Nat)
  /-- CFG_QUERY (R310): Returns image identity, or the state of an overlay or a zone. -/
  | cfgQuery (id : Nat)
  /-- POINT_READ (R176): Returns value and time-and-flags words of up to 7 points coherently, STALE when any
  carries AGED. -/
  | pointRead (id : Nat)
  /-- POINT_WRITE (R176): Writes a value to a virtual point. -/
  | pointWrite (id : Nat)
  /-- POINT_STREAM_DRAIN (R176): Returns and removes up to 4 entries of the host-stream partition with its fill
  and lost count. -/
  | pointStreamDrain (id : Nat)
  /-- POINT_STREAM_ADD (R177): Adds points to the host stream by setting CHOST. -/
  | pointStreamAdd (id : Nat)
  /-- POINT_STREAM_REMOVE (R177): Removes points from the host stream by clearing CHOST. -/
  | pointStreamRemove (id : Nat)
  /-- POINT_INFO (R176): Returns a point's configuration, limits, plausibility limit and source word. -/
  | pointInfo (id : Nat)
  /-- LOOP_READ (R242): Returns a slot's status, PV, SP, output, integrator and error from one evaluation. -/
  | loopRead (id : Nat)
  /-- LOOP_SET (R243): Stages a masked set of slot parameters after range checks. -/
  | loopSet (id : Nat)
  /-- LOOP_MODE (R244): Stages a slot's commanded mode, optionally keeping the output as MANVAL. -/
  | loopMode (id : Nat)
  /-- LOOP_TUNE (R255): Starts a relay auto-tune run on a slot and reports Ku, Tu and derived settings at its
  end. -/
  | loopTune (id : Nat)
  /-- ZONE_READ (R267): Returns a zone's model state, setpoint, temperatures, confidence and leads. -/
  | zoneRead (id : Nat)
  /-- ZONE_SETPOINT (R267): Sets or cancels a zone setpoint override with expiry. -/
  | zoneSetpoint (id : Nat)
  /-- ZONE_MODEL (R267): Returns a zone model's parameters and statistics. -/
  | zoneModel (id : Nat)
  /-- ZONE_MODEL_RESET (R267): Resets a zone model. -/
  | zoneModelReset (id : Nat)
  /-- SCHED_READ (R309): Returns a schedule's header, default and one day profile. -/
  | schedRead (id : Nat)
  /-- SCHED_WRITE (R309): Writes a schedule header and one day profile, taking effect at once. -/
  | schedWrite (id : Nat)
  /-- SCHED_CALENDAR (R309): Reads or writes one exception calendar entry. -/
  | schedCalendar (id : Nat)
  /-- SCHED_OCCUPANCY (R309): Returns up to 52 presence histogram bins of a zone. -/
  | schedOccupancy (id : Nat)
  /-- DRIVE_READ (R343): Returns a channel's diagnosis, demand, position, current and counters. -/
  | driveRead (id : Nat)
  /-- DRIVE_COMMAND (R344): Sets or cancels a drive-channel demand override with expiry. -/
  | driveCommand (id : Nat)
  /-- DRIVE_DIAG (R343): Returns a channel's diagnosis and measurements, optionally clearing LATCHED and seen
  flags. -/
  | driveDiag (id : Nat)
  /-- DRIVE_SAFEVAL (R343): Changes a channel's safe value until the next configuration load. -/
  | driveSafeval (id : Nat)
  /-- DRIVE_CALIBRATE (R345): Measures stroke times and currents of a pair by end-stop runs, or the current of
  an LSW channel. -/
  | driveCalibrate (id : Nat)
  /-- DRIVE_BUDGET (R369): Returns the budget terms, fixed load, admitted load and queue state from one
  scheduler cycle. -/
  | driveBudget (id : Nat)
  /-- FAN_READ (R346): Returns a fan's status, demand, duty, speed and counters. -/
  | fanRead (id : Nat)
  /-- FAN_COMMAND (R346): Sets or cancels a fan demand override with expiry. -/
  | fanCommand (id : Nat)
  /-- FAN_FAILSAFE (R346): Sets a fan's FAILDUTY until the next configuration load. -/
  | fanFailsafe (id : Nat)
  /-- FAN_CLEAR_FAIL (R338): Resets a fan's retry count and FAN_FAILED, kicking at once during a wait. -/
  | fanClearFail (id : Nat)
  /-- BUS_PORT (R387): Changes an RS-485 port configuration until the next configuration load. -/
  | busPort (id : Nat)
  /-- BUS_STATUS (R387): Returns the status of an RS-485 port, I²C port or Twig segment. -/
  | busStatus (id : Nat)
  /-- BUS_RAW (R387): Sends bytes on a raw UART port and returns received bytes. -/
  | busRaw (id : Nat)
  /-- BUS_TWIG_DISCOVER (R210): Runs an ADD or FULL discovery of Twig units on a segment. -/
  | busTwigDiscover (id : Nat)
  /-- BUS_I2C_SCRIPT (R189): Stages or commits a replacement transaction of an I²C port script. -/
  | busI2cScript (id : Nat)
  /-- GROVE_STATUS (R430): Returns the node's grove status, node map, tick and port states. -/
  | groveStatus (id : Nat)
  /-- GROVE_RESET_NODE (R430): The acting master sends RESET to a grove node. -/
  | groveResetNode (id : Nat)
  /-- GROVE_ALLOTMENT (R430): Reads or writes a share group's limit and members and returns allotments in force.
  -/
  | groveAllotment (id : Nat)
  /-- GROVE_SCHED_PUSH (R430): The acting master sends named schedules and optionally the calendar to named
  nodes. -/
  | groveSchedPush (id : Nat)
  /-- STORE_READ (R460): Reads user-area words or a counter value, checking the read password. -/
  | storeRead (id : Nat) (medium : Medium)
  /-- STORE_WRITE (R460): Writes user-area shadow words or presets a counter, checking the write password. -/
  | storeWrite (job : StoreJob)
  /-- STORE_COMMIT (R460): Writes a user area's shadow to Heartwood as a record. -/
  | storeCommit (id : Nat) (medium : Medium)
  /-- STORE_PASSWORD (R460): Sets a user area's read or write password and commits the keys record. -/
  | storePassword (id : Nat) (medium : Medium)
  /-- STORE_STATUS (R460): Returns Heartwood status, ECC counts, record selection, save state and password
  state. -/
  | storeStatus (id : Nat)
  /-- REC_READ (R484): Returns words of one layer or the summaries of a recorder channel from one consistent
  snapshot. -/
  | recRead (id : Nat)
  /-- REC_CONFIG (R484): Writes a recorder channel's configuration. -/
  | recConfig (id : Nat)
  /-- REC_CLEAR_TOKEN (R482): Names a clear scope and object and returns a clear token. -/
  | recClearToken (id : Nat)
  /-- REC_CLEAR (R483): Clears the named scope with a valid token and records it in the clear history. -/
  | recClear (id : Nat)
  /-- REC_HEALTH (R484): Returns recorder status, health words, scar entries or clear history. -/
  | recHealth (id : Nat)
  /-- CLOCK_GET (R507): Returns the time word, clock status, subseconds and switch count from one capture. -/
  | clockGet (id : Nat)
  /-- CLOCK_SET (R507): Sets the clock from a time word and applies R285. -/
  | clockSet (id : Nat)
  /-- CLOCK_ALARM (R507): Writes an alarm's time and date words and optionally clears its flag. -/
  | clockAlarm (id : Nat)
  /-- CLOCK_CALIBRATE (R507): Writes CAL and returns the previous value. -/
  | clockCalibrate (id : Nat)
  /-- EXPERT_READ (R99): Reads k consecutive registers of the expert block space through one fabric request. -/
  | expertRead (id : Nat)
  /-- EXPERT_WRITE (R100): Writes k consecutive registers through one fabric request after claim and address
  checks. -/
  | expertWrite (id : Nat)
  /-- EXPERT_CLAIM (R102): Claims up to 15 resources all or nothing. -/
  | expertClaim (id : Nat)
  /-- EXPERT_RELEASE (R104): Releases up to 15 claims all or nothing, rewriting each resource from its owning
  layer. -/
  | expertRelease (id : Nat)
  /-- EXPERT_CLAIMS (R104): Returns up to 7 held claims from an index. -/
  | expertClaims (id : Nat)
  /-- SAFE_STATUS (R553): Returns the safety-stop state, thermistor values, die states and thermal counts. -/
  | safeStatus (id : Nat)
  /-- SAFE_FORCE (R554): Forces SAFE_STOP_N and/or triggers the safety overlay, with optional expiry. -/
  | safeForce (id : Nat)
  /-- SAFE_RELEASE (R553): Ends the forces it names. -/
  | safeRelease (id : Nat)
  /-- TREND_STATUS (R461): Returns trend-store state, positions and loss counts. -/
  | trendStatus (id : Nat)
  /-- TREND_SNAPSHOT (R459): Sets the snapshot end to the next write position and R to the committed cursor. -/
  | trendSnapshot (id : Nat)
  /-- TREND_DRAIN (R459): Returns up to 4 trend records from R towards E and advances R. -/
  | trendDrain (job : DrainJob)
  /-- TREND_ADVANCE (R459): Sets and saves the committed cursor C to a position between C and R. -/
  | trendAdvance (id : Nat)
  /-- OVERRIDE_EXPIRY (R606): An override, trigger or force ends at the first second boundary at which the clock
  reaches its expiry. -/
  | overrideExpiry
  /-- INPUT_TRIP (R121): A stage's window comparator trips and the isolation switch opens, setting OVR, ISOL and
  OVRSEEN. -/
  | inputTrip (r : PinVoltage)
  /-- CURR_LIMIT_TRIP (R121): A CURR input has been limited at 30 mA for 5 ms; the shunt opens and ILIM sets. -/
  | currLimitTrip (r : PinLimit)
  /-- ISOL_RETEST (R122): An isolated stage re-tests its pin, closing its switch after passing checks. -/
  | isolRetest (n : Fin 96) (reading : Int)
  /-- OVR_CLEAR (R122): OVR clears 1 ms after the isolation switch closes. -/
  | ovrClear (n : Fin 96)
  /-- AINCFG_WRITE (R142): A write to ROOT_AINCFGn changes an input's mode and settings, or is refused with
  CFGERR. -/
  | aincfgWrite (n : Fin 96) (v : Word)
  /-- DRY_READ (R132): A DRY input's wetting pulse ends, the comparator is read and a new state is accepted
  after DEB equal readings. -/
  | dryRead (n : Fin 96) (mv : Int)
  /-- PULSE_EDGE (R132): A PULSE input's level has held 1 ms and an edge is accepted, advancing its capture
  unit. -/
  | pulseEdge (n : Fin 96) (mv : Int)
  /-- STAGE_REPORT (R137): A stage sends its 1 s or change report to the result queue. -/
  | stageReport (n : Fin 96)
  /-- PIR_EXCURSION (R135): A presence detector's preamplifier leaves the threshold band and an excursion is
  counted, possibly declaring presence. -/
  | pirExcursion (k : Fin 12) (outMv : Nat) (srcMv : Nat)
  /-- PIR_HOLD_EXPIRY (R135): HOLD seconds pass after the last excursion and PRES falls. -/
  | pirHoldExpiry (k : Fin 12)
  /-- PIR_WARMUP_END (R136): 30 s after enabling, WARM clears. -/
  | pirWarmupEnd (k : Fin 12)
  /-- PIR_SAT_RESUME (R135): 2 s after SAT clears, excursion counting resumes. -/
  | pirSatResume (k : Fin 12)
  /-- PASS_START (R148): A converter starts a pass at its period or at once, setting OVRUN on overrun. -/
  | passStart (c : Fin 6)
  /-- ENTRY_RESULT (R150): A converter completes an entry and sends its result packet to the result queue. -/
  | entryResult (c : Fin 6) (samples : List Sample)
  /-- SEQ_ENTRY_WRITE (R152): A write to ROOT_SEQLOn or ROOT_SEQHIn changes an entry from its next run, or is
  refused with CFGERR. -/
  | seqEntryWrite (n : Fin 192) (hi : Bool) (v : Word)
  /-- CNVCTL_WRITE (R151): A write to ROOT_CNVCTLc enables or stops a converter or changes NENT and PERIOD from
  the next pass. -/
  | cnvctlWrite (c : Fin 6) (v : Word)
  /-- URGENT_REQUEST (R155): A write to ROOT_URGc queues, merges or drops an urgent request for an entry. -/
  | urgentRequest (c : Fin 6) (v : Word)
  /-- URGENT_RUN (R153): A converter runs a pending urgent entry once in full and resumes its sequence. -/
  | urgentRun (c : Fin 6) (samples : List Sample)
  /-- RESULT_ARRIVAL (R161): The result queue extends, scales, checks, compares, writes the latest-value table
  and appends a value to partitions. -/
  | resultArrival (src : Producer)
  /-- AGED_SWEEP (R174): Once a second the queue sets AGED in entries at least 2²³ ms old. -/
  | agedSweep
  /-- LVT_LOW_READ (R173): A read of a latest-value table low word copies the high word into the reader's
  shadow. -/
  | lvtLowRead (reader : Reader) (p : Fin 256)
  /-- I2C_PASS_START (R181): An I²C port starts a script pass, copying the script, or sets OVRUN. -/
  | i2cPassStart (p : Fin 8)
  /-- I2C_TRANSACTION_END (R184): An I²C transaction ends; on success extractions send raw values, on failure it
  is repeated once or sends OPEN. -/
  | i2cTransactionEnd (p : Fin 8) (out : I2cOutcome)
  /-- I2C_DELAY_END (R182): A transaction's DELAY ends and the next transaction starts. -/
  | i2cDelayEnd (p : Fin 8)
  /-- I2C_BUS_RECOVERY (R186): A stuck bus is recovered with up to 9 SCL pulses, setting STUCK on failure,
  repeated every 1 s. -/
  | i2cBusRecovery (p : Fin 8) (pulses : Nat)
  /-- I2C_OVERVOLTAGE (R180): An I²C line rises above 6.0 V; the port releases its lines and sets OVV. -/
  | i2cOvervoltage (r : PortVolts)
  /-- I2C_OVV_RETEST (R180): Every 100 ms an overvoltage port re-tests its lines and restores after two good
  tests. -/
  | i2cOvvRetest (p : Fin 8) (v : LineVolts)
  /-- TWIG_ROUND (R204): A Twig segment starts a round polling each assigned unit, then queued requests and
  search steps. -/
  | twigRound (g : Fin 5)
  /-- TWIG_POLL_REPLY (R205): A valid POLL reply arrives and raw values are sent for enabled objects. -/
  | twigPollReply (g : Fin 5) (frame : List Byte)
  /-- TWIG_REPLY_TIMEOUT (R199): No reply has begun 1,000 µs after a request; MISS counts or the request is
  repeated. -/
  | twigReplyTimeout (g : Fin 5)
  /-- TWIG_REPLY (R200): A valid reply to IDENT, DISPLAY, SETCFG, WINK or ASSIGN arrives from a unit. -/
  | twigReply (g : Fin 5) (frame : List Byte)
  /-- TWIG_SHORT (R191): A segment has limited for 20 ms and goes to fault-off. -/
  | twigShort (g : Fin 5)
  /-- TWIG_POWER_RETRY (R191): Every 5 s a fault-off segment is switched on again. -/
  | twigPowerRetry (g : Fin 5)
  /-- TWIG_POWER_UP_WAIT (R192): 500 ms after switch-on the segment sends its first frame. -/
  | twigPowerUpWait (g : Fin 5)
  /-- TWIG_SEARCH_STEP (R208): A SEARCH step extends the prefix by one bit, or at L = 64 sends ASSIGN. -/
  | twigSearchStep (g : Fin 5) (seen : Bool)
  /-- TWIG_AUTO_SEARCH (R210): With AUTOADD, a SEARCH with L = 0 runs at least every 5 s and presence starts an
  ADD run. -/
  | twigAutoSearch (g : Fin 5) (seen : Bool)
  /-- DISPLAY (R203): Firmware writes a changed zone value to a unit's display field, at most once per second
  per field. -/
  | display (u : Fin 80) (field : Fin 8) (data : List Byte)
  /-- CAMB_ENABLE (R215): Setting CAMB_GCTL.EN starts the engine tick count T at 0. -/
  | cambEnable
  /-- CAMB_TICK (R217): At each 250 µs tick Cambium evaluates the due slots in CAMB_ORDER order. -/
  | cambTick
  /-- CAMB_SLOT_WRITE (R218): A write to a slot's RW registers is staged for its next sample boundary, or
  refused with CFGERR. -/
  | cambSlotWrite (n : Fin 96) (off : Byte) (v : Word)
  /-- CAMB_LOCK (R218): A write of CAMB_CTLn.LOCK applies at once, holding or releasing staged writes. -/
  | cambLock (n : Fin 96) (lock : Bool)
  /-- CAMB_STATE_WRITE (R239): A write to CAMB_INTn or CAMB_OUTn applies while EMODE is OFF, else sets CFGERR.
  -/
  | cambStateWrite (n : Fin 96) (out : Bool) (v : Word)
  /-- CAMB_POINT_ARRIVAL (R223): A point value from the Cambium partition arrives and is stored with its arrival
  time. -/
  | cambPointArrival
  /-- STALE_LIMIT (R226): A PV or SP stale count reaches STALE; the slot substitutes from its model or enters
  HOLD. -/
  | staleLimit (n : Fin 96)
  /-- FF_STALE (R227): The FF stale count reaches STALE; FF is frozen and FFSTALE sets. -/
  | ffStale (n : Fin 96)
  /-- SUBST_EXPIRY (R271): The substitution count reaches SUBMAX and the slot enters HOLD with SUBST_EXP. -/
  | substExpiry (n : Fin 96)
  /-- SUBST_COUNT_RESET (R271): After 10 min of valid measured PV the substitution count returns to 0. -/
  | substCountReset (n : Fin 96)
  /-- TUNER_ARM (R274): Setting CAMB_TCTLk.EN arms a relay-tune run, or is refused with CFGERR. -/
  | tunerArm (k : Fin 8) (v : Word)
  /-- TUNER_STOP (R253): Clearing CAMB_TCTLk.EN ends the run with STOPPED at the next evaluation. -/
  | tunerStop (k : Fin 8)
  /-- TUNE_TIME_LIMIT (R253): TMAX seconds pass since the run's first evaluation and the run ends with TIME. -/
  | tuneTimeLimit (k : Fin 8)
  /-- TUNE_CYCLE_LIMIT (R253): 20 complete cycles pass without a result and the run ends with CYCLES. -/
  | tuneCycleLimit (k : Fin 8)
  /-- TUNE_RUN_END (R257): A tuning run ends; the slot returns to U0 and firmware hands the slot back, applies
  settings and posts the final reply. -/
  | tuneRunEnd (k : Fin 8)
  /-- MODEL_UPDATE (R260): At a zone's model boundary the lane updates the model by RLS or free-runs, and
  recomputes outputs and leads. -/
  | modelUpdate (z : Fin 48)
  /-- MODEL_CTL_WRITE (R265): A write to a zone model's control, sources or parameters applies at the next
  boundary or while EN is 0, or sets CFGERR. -/
  | modelCtlWrite (z : Fin 48) (off : Byte) (v : Word)
  /-- MODEL_SAVE (R266): Every 6 h firmware writes θ, ρ and NUPD to the parameters partition. -/
  | modelSave (medium : Medium)
  /-- SCHEDULE_EVALUATION (R285): At each minute boundary firmware evaluates every schedule and recomputes zone
  modes and setpoints. -/
  | scheduleEvaluation
  /-- CLOCK_CHANGE (R607): The clock runs again after a halt; firmware evaluates schedules, the recorder closes
  layers and expiries are judged anew. -/
  | clockChange
  /-- PRESENCE_BIN_END (R293): At the end of each 15-minute bin firmware updates the zone's presence histogram
  bin. -/
  | presenceBinEnd (z : Fin 48)
  /-- TRIGGER_EVALUATION (R295): Firmware reads condition-trigger points and judges each trigger, activating or
  ending overlays. -/
  | triggerEvaluation
  /-- TRIGGER_DELAY_EXPIRY (R295): A point trigger's TON or TOFF delay runs out and the trigger changes state.
  -/
  | triggerDelayExpiry (ov : Fin 16) (pt : Fin 2)
  /-- TRIGGER_STARTUP_TIMEOUT (R298): 10 s after activation a point trigger without a valid value leaves its
  start-up state to R295. -/
  | triggerStartupTimeout (ov : Fin 16) (pt : Fin 2)
  /-- DEMAND_ARRIVAL (R314): A demand for a drive channel arrives at the energy scheduler and requests are
  formed or cancelled. -/
  | demandArrival
  /-- SCHEDULER_CYCLE (R353): Every 1 ms the scheduler takes requests, removes ended ones, recomputes the
  budget, sheds, rejects and admits. -/
  | schedulerCycle (r : CycleReadings)
  /-- REQUEST_DURATION_END (R353): An admitted request's DUR runs out and it is removed. -/
  | requestDurationEnd (n : Fin 48)
  /-- REQUEST_AGED (R362): A pending request has waited 4 × DUR and is marked aged. -/
  | requestAged (n : Fin 48)
  /-- LEASE_END (R363): A HOLD_ON lease ends and renews, or is suspended for an aged head that does not fit. -/
  | leaseEnd (n : Fin 48)
  /-- PDCLASS_CHANGE (R356): A new PDCLASS pin value has been stable for 10 ms and takes effect, setting PDCHG.
  -/
  | pdclassChange (cls : Fin 8)
  /-- ALLOTMENT_TIMEOUT (R368): No allotment has arrived for 5 s and the fallback allotment applies. -/
  | allotmentTimeout
  /-- AMBIENT_ESTIMATE (R358): Every 100 ms the scheduler estimates Ta from the ambient point or the Bark die.
  -/
  | ambientEstimate
  /-- ACTUATOR_REQUEST (R22): An actuator request arrives at the Bark drive stage, which drives, pulses or stops
  its output. -/
  | actuatorRequest
  /-- MOVE_DEAD_TIME_END (R319): 200 ms after a cancelled or shed move, a new MOVE is formed from the updated
  position. -/
  | moveDeadTimeEnd (n : Fin 48)
  /-- END_STOP (R318): After inrush blanking a current at or above IEND for 100 ms ends an H-bridge run at an
  end stop. -/
  | endStop (n : Fin 48)
  /-- CURRENT_LIMIT_TRIP (R325): A stage holds its hardware current limit for 100 µs and switches off, setting a
  short flag. -/
  | currentLimitTrip (n : Fin 48) (high : Bool)
  /-- OPEN_LOAD (R326): On-state current below IOPEN for 200 ms sets OPEN. -/
  | openLoad (n : Fin 48)
  /-- OFF_STATE_TEST (R326): An off LSW pin stays at 3–7 V or below 1 V for 100 ms, setting OPEN or SHORT_GND.
  -/
  | offStateTest (n : Fin 48) (mv : Int)
  /-- STAGE_OVERTEMP (R327): A stage reaches 150 °C and switches off with OVERTEMP. -/
  | stageOvertemp (n : Fin 48)
  /-- STAGE_COOLED (R327): A stage falls below 135 °C and accepts requests again. -/
  | stageCooled (n : Fin 48)
  /-- VFIELD_REVERSE (R328): VFIELD falls below −1.0 V; every drive stage and Twig segment switches off and
  VFREV sets. -/
  | vfieldReverse
  /-- VFIELD_RESTORE (R328): VFIELD has stayed above 16.0 V for 1 s; VFREV clears and channels follow their
  demands. -/
  | vfieldRestore
  /-- DRV_CTL_WRITE (R347): A write to DRV_CTLn changes a channel's mode, switching off first, or is refused
  with CFGERR. -/
  | drvCtlWrite (n : Fin 48) (v : Word)
  /-- MODE_CHANGE_DELAY_END (R313): 10 ms after switch-off the channel's new mode applies. -/
  | modeChangeDelayEnd (n : Fin 48)
  /-- DIN_READ (R322): A DIN channel reads its contact at the end of a wetting pulse and accepts a new state
  after DEB readings. -/
  | dinRead (n : Fin 48) (mv : Int)
  /-- DRIVE_REPORT (R323): A channel with PEN sends its state or current to its point. -/
  | driveReport (n : Fin 48) (ma : List Int)
  /-- SAFE_RUN (R330): The Bark die starts the next H-bridge safe run, 20 ms after the previous. -/
  | safeRun
  /-- DRV_SAFECLR_WRITE (R331): Writing 1 to a channel's DRV_SAFECLR bit releases it from SAFE and sets its
  position. -/
  | drvSafeclrWrite (hi : Bool) (v : Word)
  /-- DRV_MAN_WRITE (R365): A write to DRV_MANn drives a claimed channel directly and reserves its current
  limit. -/
  | drvManWrite (n : Fin 48) (v : Word)
  /-- TACH_EDGE (R333): A fan tach falling edge is accepted, advancing its capture unit and restarting the stall
  window. -/
  | tachEdge (f : Fin 16)
  /-- FAN_SPEED_LOOP (R334): Every 100 ms a speed-mode fan recomputes its duty. -/
  | fanSpeedLoop (f : Fin 16)
  /-- STALL (R336): No tach edge arrives for STALLWIN and the fan is judged stalled, going to WAIT or TACH_LOST.
  -/
  | stall (f : Fin 16) (ma : List Int)
  /-- TACH_LOST_TIMEOUT (R340): Supply current leaves the band for 1 s during TACH_LOST and the stall procedure
  starts. -/
  | tachLostTimeout (f : Fin 16)
  /-- KICK (R337): A fan's wait ends and it kicks at 100 % duty once its supply request is admitted. -/
  | kick (f : Fin 16)
  /-- KICK_END (R337): A 3 s kick ends; it succeeds and the fan runs, or it fails and the next wait begins. -/
  | kickEnd (f : Fin 16)
  /-- RETRY_COUNT_RESET (R338): After 60 s of running without a stall the fan's retry count returns to the
  start. -/
  | retryCountReset (f : Fin 16)
  /-- FAN_DUTY_ARRIVAL (R233): A slot's duty value arrives at a fan port. -/
  | fanDutyArrival
  /-- FAN_SAFECLR_WRITE (R342): Writing 1 to a fan's FAN_SAFECLR bit releases it from SAFE. -/
  | fanSafeclrWrite (v : Word)
  /-- PORT_CONFIG_WRITE (R374): A write to BUS_PCFGp changes a port's protocol after its current frame, or is
  refused with CFGERR. -/
  | portConfigWrite (p : Fin 6) (v : Word)
  /-- MSTP_FRAME_RECEIVE (R375): An MS/TP frame is received and handled by the token-passing state machines. -/
  | mstpFrameReceive (p : Fin 6) (r : MstpFrame)
  /-- READ_PROPERTY (R380): Serves a BACnet ReadProperty request. -/
  | readProperty (req : BacReq) (obj : BacRef)
  /-- READ_PROPERTY_MULTIPLE (R380): Serves a BACnet ReadPropertyMultiple request. -/
  | readPropertyMultiple (req : BacReq) (objs : List BacRef)
  /-- WRITE_PROPERTY (R379): Serves a BACnet WriteProperty request through the priority array and firmware
  commands. -/
  | writeProperty (req : BacReq) (w : BacWrite)
  /-- WRITE_PROPERTY_MULTIPLE (R379): Serves a BACnet WritePropertyMultiple request. -/
  | writePropertyMultiple (req : BacReq) (ws : List BacWrite)
  /-- READ_RANGE (R380): Serves a BACnet ReadRange request on a Trend Log. -/
  | readRange (req : BacReq) (range : BacRange)
  /-- SUBSCRIBE_COV (R380): Creates or cancels a COV subscription. -/
  | subscribeCov (req : BacReq) (sub : BacSub)
  /-- COV_NOTIFICATION (R380): The part initiates a confirmed or unconfirmed COV notification for a
  subscription. -/
  | covNotification (i : Fin 32)
  /-- COV_SUBSCRIPTION_EXPIRY (R380): A COV subscription's lifetime runs out. -/
  | covSubscriptionExpiry (i : Fin 32)
  /-- WHO_IS (R380): Answers a Who-Is with I-Am. -/
  | whoIs (limits : Option (Nat × Nat))
  /-- WHO_HAS (R380): Answers a Who-Has with I-Have. -/
  | whoHas (limits : Option (Nat × Nat)) (obj : Nat) (inst : Nat)
  /-- TIME_SYNCHRONIZATION (R380): Sets the clock as CLOCK.SET, ignored on a grove member. -/
  | timeSynchronization (t : Word)
  /-- UTC_TIME_SYNCHRONIZATION (R380): Sets the clock from a UTC time synchronisation, ignored on a grove
  member. -/
  | utcTimeSynchronization (t : Word)
  /-- DEVICE_COMMUNICATION_CONTROL (R453): Serves DeviceCommunicationControl after checking the area-0 write
  password. -/
  | deviceCommunicationControl (req : BacReq) (mode : BacComm) (minutes : Nat) (pw : List Byte)
  /-- REINITIALIZE_DEVICE (R453): Serves ReinitializeDevice WARMSTART after checking the area-0 write password.
  -/
  | reinitializeDevice (req : BacReq) (warm : Bool) (pw : List Byte)
  /-- MODBUS_FUNCTION_01 (R382): Modbus slave reads coils. -/
  | modbusFunction01 (p : Fin 6) (frame : SerialFrame)
  /-- MODBUS_FUNCTION_02 (R382): Modbus slave reads discrete inputs. -/
  | modbusFunction02 (p : Fin 6) (frame : SerialFrame)
  /-- MODBUS_FUNCTION_03 (R383): Modbus slave reads holding registers, coherent for binary32 pairs. -/
  | modbusFunction03 (p : Fin 6) (frame : SerialFrame)
  /-- MODBUS_FUNCTION_04 (R383): Modbus slave reads input registers. -/
  | modbusFunction04 (p : Fin 6) (frame : SerialFrame)
  /-- MODBUS_FUNCTION_05 (R382): Modbus slave writes one coil as a drive override. -/
  | modbusFunction05 (p : Fin 6) (frame : SerialFrame)
  /-- MODBUS_FUNCTION_06 (R383): Modbus slave writes one register, refusing a lone half of a pair. -/
  | modbusFunction06 (p : Fin 6) (frame : SerialFrame)
  /-- MODBUS_FUNCTION_15 (R382): Modbus slave writes multiple coils. -/
  | modbusFunction15 (p : Fin 6) (frame : SerialFrame)
  /-- MODBUS_FUNCTION_16 (R383): Modbus slave writes multiple registers as point, setpoint or demand writes. -/
  | modbusFunction16 (p : Fin 6) (frame : SerialFrame)
  /-- MODBUS_POLL_ROUND (R384): A Modbus master port starts a round of its poll-list entries. -/
  | modbusPollRound (p : Fin 6)
  /-- MODBUS_MASTER_REPLY (R384): A valid slave reply arrives and its raw value is sent to the entry's point. -/
  | modbusMasterReply (p : Fin 6) (frame : SerialFrame)
  /-- MODBUS_MASTER_TIMEOUT (R385): No valid reply within TMO; the request is repeated once or raw 0 with OPEN
  is sent. -/
  | modbusMasterTimeout (p : Fin 6)
  /-- RAW_BYTE_RECEIVE (R386): A raw UART byte arrives and is stored, counted in FERR, or dropped into RXLOST.
  -/
  | rawByteReceive (p : Fin 6) (byte : Byte) (err : Bool)
  /-- SERVICE_FRAME (R389): A service UART command frame is written into channel 15 and sent, or refused or
  discarded. -/
  | serviceFrame (wire : List Byte)
  /-- LINK_UP (R395): A Graft port has received 100 µs of valid characters and is UP. -/
  | linkUp (p : Fin 2)
  /-- LINK_DOWN (R395): A Graft port goes DOWN; routes move to the other port and held frames are discarded. -/
  | linkDown (p : Fin 2) (v : LineFault)
  /-- PING (R396): Every 10 ms a node sends PING on each UP port; a received PING is answered with ECHO. -/
  | ping (p : Fin 2) (rx : Option Byte)
  /-- ECHO (R396): An ECHO arrives and the cable delay is updated. -/
  | echo (p : Fin 2) (n : Byte) (turnaround : Byte)
  /-- CREDIT (R400): A CREDIT set returns Graft buffers of one class and waiting frames are sent. -/
  | credit (p : Fin 2) (d : Byte)
  /-- HOP_CREDIT_TIMEOUT (R401): A control or stream frame without credit for 1 ms is discarded and counted in
  HOPDROP. -/
  | hopCreditTimeout (p : Fin 2) (cls : Fin 4)
  /-- GRAFT_FRAME_FORWARD (R402): A frame not addressed to the node is forwarded with H decremented, or
  discarded at H = 0 or own SRC. -/
  | graftFrameForward (p : Fin 2) (frame : List Byte)
  /-- ACK_TIMEOUT (R404): A request frame or MBOX_REPLY has no ACK after 20 ms and is retransmitted, or fails.
  -/
  | ackTimeout (cls : Fin 4) (seq : Half)
  /-- TICK (R411): A TICK arrives; the node forwards it with added delay and takes its grove tick from the
  master-side copy. -/
  | tick (p : Fin 2) (count : Byte) (delay : Half)
  /-- TICK_SEND (R411): Every 1 ms the acting master sends TICK out of both ports. -/
  | tickSend
  /-- TICK_LOSS (R412): After 3 ms without TICK the node generates ticks from its own clock. -/
  | tickLoss
  /-- HELLO (R409): A HELLO arrives; routes, presence and identity or role conflicts are updated. -/
  | hello (p : Fin 2) (frame : List Byte)
  /-- HELLO_SEND (R408): Every 100 ms a joined node sends HELLO. -/
  | helloSend
  /-- NODE_ABSENCE (R408): No HELLO from a node for 500 ms and it counts as absent. -/
  | nodeAbsence (node : Fin 16)
  /-- GRAFT_CTL_WRITE (R408): Writing GRAFT_CTL sets NODE and EN, starting to join or leaving the grove. -/
  | graftCtlWrite (v : Word)
  /-- LISTEN_END (R408): After 20 ms of LISTEN the node joins and opens its bypass, or stays OUT. -/
  | listenEnd
  /-- ROLECONF_RELISTEN (R409): A strapped master OUT with ROLECONF listens again every 10 s. -/
  | roleconfRelisten
  /-- TIME (R413): A TIME frame arrives and the member writes the time word at the named tick. -/
  | time (p : Fin 2) (frame : List Byte)
  /-- TIME_SEND (R413): The acting master sends TIME each hour, at a join and after a clock change. -/
  | timeSend
  /-- ALLOT (R368): An ALLOT frame arrives and the member applies its entry if the round is not older. -/
  | allot (p : Fin 2) (frame : List Byte)
  /-- ALLOCATION_CYCLE (R425): Every 100 ms the acting master computes allotments and sends lowering and raising
  ALLOT frames. -/
  | allocationCycle
  /-- ALLOT_REPEAT (R426): An unanswered lowering is repeated every 20 ms. -/
  | allotRepeat (g : Fin 4)
  /-- DEMAND (R424): A DEMAND frame arrives at the acting master. -/
  | demand (p : Fin 2) (frame : List Byte)
  /-- DEMAND_SEND (R424): Every 100 ms, and after applying an ALLOT, a member sends DEMAND. -/
  | demandSend
  /-- TAKEBACK (R428): A standby acting as master receives TAKEBACK, sends its last TICK and returns to member
  behaviour. -/
  | takeback (p : Fin 2) (frame : List Byte)
  /-- MASTER_LOSS (R427): A standby master has heard no TICK or HELLO for 2 s and acts as master. -/
  | masterLoss
  /-- MBOX (R421): A member receives a forwarded command and runs it in the given world. -/
  | mbox (p : Fin 2) (frame : List Byte)
  /-- MBOX_REPLY (R421): The master receives a forwarded reply and posts it on the command's outbound channel.
  -/
  | mboxReply (p : Fin 2) (frame : List Byte)
  /-- ACK (R404): An ACK arrives and ends retransmission of the acknowledged frame. -/
  | ack (p : Fin 2) (frame : List Byte)
  /-- FORWARD_NODE_ABSENT (R422): A node absent for 2 s with a forwarded command in flight makes the master
  answer GROVE_UNREACHABLE. -/
  | forwardNodeAbsent (node : Fin 16)
  /-- ABORT_FRAME (R423): A member receives ABORT for a forwarded command and stops it. -/
  | abortFrame (p : Fin 2) (frame : List Byte)
  /-- RESET (R525): A node receives RESET, acknowledges, saves and resets its device. -/
  | reset (p : Fin 2) (frame : List Byte)
  /-- SCHED (R420): A member receives a SCHED frame and applies it as SCHED.WRITE, or refuses it. -/
  | sched (p : Fin 2) (frame : List Byte)
  /-- CAL (R420): A member receives a CAL frame and applies it as SCHED.CALENDAR, or refuses it. -/
  | cal (p : Fin 2) (frame : List Byte)
  /-- POINT (R415): A POINT frame arrives and each entry is written to a virtual point or counted in IMPDROP. -/
  | point (p : Fin 2) (frame : List Byte)
  /-- EXPORT_DUE (R414): An export entry's period falls due and its value is sent in a POINT frame. -/
  | exportDue (k : Fin 64)
  /-- IMPORT_TIMEOUT (R416): No entry for an imported point for 3 periods and its last value is rewritten with
  OPEN. -/
  | importTimeout (p : Fin 256)
  /-- ZONE (R418): A ZONE frame arrives and linked zones take their mode and setpoint from it. -/
  | zone (p : Fin 2) (frame : List Byte)
  /-- ZONE_ENTRY_SEND (R417): The home device sends a ZONE entry at a change, and at least every 10 s. -/
  | zoneEntrySend (z : Fin 48)
  /-- ZONE_LINK_TIMEOUT (R418): No ZONE entry for 30 s; LINKLOST sets and the zone runs on its own schedule. -/
  | zoneLinkTimeout (z : Fin 48)
  /-- HEARTWOOD_SCRUB (R435): Once a day the controller reads every sector and rewrites corrected ones. -/
  | heartwoodScrub (corr1 : Nat) (corr2 : Nat) (unver : Nat) (uncorr : Nat)
  /-- COUNTER_EVENT (R445): An event of a counter's source occurs and every DIV events a slot write is queued.
  -/
  | counterEvent (k : Fin 128)
  /-- COUNTER_SLOT_WRITE (R444): A queued counter change is written to the next ring slot. -/
  | counterSlotWrite
  /-- PERIODIC_SAVE (R447): Every SAVEINT minutes firmware saves CONTROL, MODELS and RECORDER. -/
  | periodicSave (medium : SaveMedium)
  /-- PARAMETERS_SAVE (R449): Firmware writes the parameters record after a change, at most once a second, and
  every 6 h. -/
  | parametersSave (medium : Medium)
  /-- LOCKOUT_END (R452): A user area's password lockout runs out. -/
  | lockoutEnd (a : Fin 4)
  /-- TREND_RECORD (R455): At a second boundary a trend log records its point by interval, delta or flag change,
  or drops it with TLOST. -/
  | trendRecord (l : Fin 128)
  /-- TREND_PROGRAM (R456): With 16 records waiting or 10 s after the oldest, firmware programs a page and
  advances and erases sectors. -/
  | trendProgram (w : PageWrite)
  /-- TREND_OPEN (R458): After READY firmware opens the trend store, finding the head and first empty record. -/
  | trendOpen
  /-- RECORDER_SECOND (R466): At each second boundary the recorder closes ended layers and takes the arrived
  samples into each channel. -/
  | recorderSecond
  /-- RECORDER_SAMPLE (R463): A sample stream packet for a recorder channel arrives at the GRR island. -/
  | recorderSample (c : Fin 256)
  /-- GRR_CURSOR_WRITE (R472): A write to GRR_CURSOR loads 16 words into the reader's window. -/
  | grrCursorWrite (reader : Reader) (v : Word)
  /-- GRR_PRESWR_WRITE (R475): A write to GRR_PRESWR updates one presence bin. -/
  | grrPreswrWrite (v : Word)
  /-- SAVE_DEFERRAL_TIMEOUT (R473): A deferral not ended after 2 s ends at once and the save is recorded as
  failed. -/
  | saveDeferralTimeout
  /-- RECORDER_SCRUB (R477): Every 60 s the recorder scrubs all 5 banks and rewrites corrected words. -/
  | recorderScrub (corrected : Nat)
  /-- BANK_FAILURE (R478): An uncorrectable word in a bank in service retires it to the spare or stops a group,
  writing a scar entry. -/
  | bankFailure (bank : Fin 5) (words : List Nat)
  /-- GRR_POWER_UP (R481): At GRR power-up the recorder tests its banks, maps groups and restores the recorder
  section. -/
  | grrPowerUp (failed : BitVec 5)
  /-- CLEAR_TOKEN_EXPIRY (R482): A recorder clear token becomes void 60 s after issue. -/
  | clearTokenExpiry
  /-- RTC_SECOND (R487): The clock steps a second with carries, checks alarms and may overflow. -/
  | rtcSecond
  /-- RTC_CAPTURE (R491): A read of RTC_SEC captures the time registers into the reader's shadow. -/
  | rtcCapture (reader : Reader)
  /-- RTC_TIME_WRITE (R493): A write to a time register applies while halted and in range, else sets WIGN or
  BADVAL. -/
  | rtcTimeWrite (i : Fin 9) (v : Word)
  /-- RTC_HALT (R494): Setting RTC_CTL.HALT stops the clock. -/
  | rtcHalt
  /-- RTC_RUN (R495): Clearing HALT checks the date and runs the clock, or keeps HALT with DATEERR. -/
  | rtcRun
  /-- RTC_CAL_WRITE (R496): A write to RTC_CAL sets the calibration from the next window, or is refused. -/
  | rtcCalWrite (v : Word)
  /-- CAL_WINDOW (R496): The 20-bit oscillator counter wraps and a new calibration window starts. -/
  | calWindow
  /-- POWER_PATH_SWITCH (R499): VIN crosses a threshold and the BKP supply moves between VIN and VBAT. -/
  | powerPathSwitch (vinMv : Nat)
  /-- FSOARM_WRITE (R503): Writing ARM to RTC_FSOARM arms the first-switch-over capture. -/
  | fsoarmWrite (v : Word)
  /-- BROWNOUT (R500): VBKC falls below 1.60 V and TLOST sets with cause BROWNOUT. -/
  | brownout
  /-- BKPRESET (R500): VBKC falls below 1.50 V and the BKP domain resets. -/
  | bkpreset
  /-- OSCSTOP (R501): The 32.768 kHz oscillator gives no edge for 1 ms and TLOST sets with OSCSTOP. -/
  | oscstop
  /-- VBLOW_SAMPLE (R502): Once a second VBAT is sampled and VBLOW follows it. -/
  | vblowSample (vbatMv : Nat)
  /-- TRICKLE_WRITE (R504): A write to RTC_TRKL sets the charger, enabling it only with KEY 0x5A. -/
  | trickleWrite (sec : Bool) (v : Word)
  /-- VFLOW (R510): VFIELD below 16.0 V for 10 ms sets VFLOW, suspending open-load tests and Twig. -/
  | vflow
  /-- VFLOW_CLEAR (R510): VFIELD above 17.0 V for 100 ms clears VFLOW. -/
  | vflowClear
  /-- SYS_PWRCTL_WRITE (R511): A write to SYS_PWRCTL switches domains off under R31 or on with reset registers.
  -/
  | sysPwrctlWrite (v : Word)
  /-- DOMAIN_POWER_UP (R511): A switched-on domain is powered and de-isolated and firmware rewrites its
  registers. -/
  | domainPowerUp (d : Fin 9)
  /-- POWER_ON_RESET (R513): VIN falls through 2.30 V and the power-on reset asserts, resetting all but BKP and
  releasing SAFE_STOP_N. -/
  | powerOnReset
  /-- POWER_ON_RESET_RELEASE (R513): VIN rises through 2.40 V and the power-on reset releases, sampling
  SAFE_SEL. -/
  | powerOnResetRelease (safeSel : Fin 8) (ten : Bool)
  /-- RESET_PIN (R519): RESET_N low for 10 µs holds a device reset, abandoning any power-fail save. -/
  | resetPin (low : Bool)
  /-- START_UP (R530): The part runs the start-up sequence from AON power-up through boot, recovery, activation
  and READY. -/
  | startUp (boot : BootPins)
  /-- POWER_FAIL_WARNING (R516): The warning rises; firmware stops record writes, switches domains off, lowers
  CRN and runs the power-fail save. -/
  | powerFailWarning (r : SupplyReading)
  /-- POWER_FAIL_CLEAR (R517): The warning clears without reset; firmware restores domains and the operating
  point. -/
  | powerFailClear
  /-- THERMAL_SAMPLE (R540): The thermal monitor samples its sensors, judges exclusions and die levels, and
  throttles or shuts down. -/
  | thermalSample (readings : List (Option Int))
  /-- SHUTDOWN_HOLD_END (R545): The shut-down hold ends after cooling or 60 s and start-up runs from step 2. -/
  | shutdownHoldEnd (readings : List (Option Int))
  /-- SAFETY_INPUT_FAULT (R548): A SAFE_THx input has been HOT, OPEN or SHORT for 100 ms and SAFE_STOP_N is
  asserted. -/
  | safetyInputFault (i : Fin 2) (mv : Nat)
  /-- SAFETY_FAULT_END (R548): A SAFE_THx fault has ended for 100 ms. -/
  | safetyFaultEnd (i : Fin 2) (mv : Nat)
  /-- SAFE_STOP_HOLD_END (R549): SAFE_STOP_N is released 5 s after the last fault or force ends. -/
  | safeStopHoldEnd
  /-- FB (R550): SAFE_STOP_N reads back against its drive for more than 1 ms and FB sets. -/
  | fb (high : Bool)
  /-- SAFECTL_WRITE (R549): A write to THERM_SAFECTL sets FORCE or OVLEN. -/
  | safectlWrite (sec : Bool) (v : Word)
  /-- DEVICE_RESET (R524): A device reset requested by SYS.RESET scope 1 or 2, or by a grove RESET frame, falls
  due and resets every domain except BKP. -/
  | deviceReset
  /-- TWIG_LIMITING (R191): A Twig segment's line current reaches or falls back from ILIM, so PWR changes
  between on and limiting, with foldback below 12 V. -/
  | twigLimiting (g : Fin 5) (limiting : Bool) (deciV : Nat) (ma : Nat)
  /-- SAFEDUR_END (R329): An H-bridge safe run reaches the end of SAFEDUR without an end stop and stops, leaving
  SAFEEND clear. -/
  | safedurEnd (n : Fin 48)
  /-- FAN_SPEED_REPORT (R160): Every 1 s, a fan with PEN = 1 sends its speed as a raw packet to its point,
  carrying OPEN in WAIT, KICK, TACH_LOST or FAN_FAILED. -/
  | fanSpeedReport (f : Fin 16)
  /-- MODBUS_OTHER_FUNCTION (R382): A Modbus slave request with a function other than 01–06, 15 and 16 is
  answered with exception 01. -/
  | modbusOtherFunction (p : Fin 6) (frame : SerialFrame)
  /-- UNRECOGNIZED_SERVICE (R380): A BACnet confirmed service outside the supported set is rejected with
  UNRECOGNIZED_SERVICE, and an unsupported unconfirmed service is ignored. -/
  | unrecognizedService (req : BacReq) (confirmed : Bool)
  /-- LINK_TRAINING (R395): Valid characters begin to arrive on a DOWN Graft port, and the port becomes
  TRAINING. -/
  | linkTraining (p : Fin 2)
  /-- OSCILLATOR_RESTART (R501): The 32.768 kHz oscillator gives edges again after OSCSTOP, and the clock
  resumes counting with TLOST still set. -/
  | oscillatorRestart
  /-- BKP_RESET_RELEASE (R500): VBKC rises high enough for the BKP domain to leave reset, and its registers
  start at their reset values and the calibration window counter starts at 0. -/
  | bkpResetRelease
  /-- PRESENCE_CHANGE (R289): Firmware's 100 ms read of a zone's presence and setpoint-offset points finds a
  change, and it recomputes the zone's effective mode and setpoint. -/
  | presenceChange (z : Fin 48)
deriving DecidableEq, Repr

end Sys2Proof
end

