-- ==== Sys2Proof/WellFormed.lean ====
section
/-! DEFINITION. Sys2Proof/WellFormed.lean: which commands the world outside can give: the bounds that the types of the
operands do not hold. No meaning depends on it: exec is total. -/

namespace Sys2Proof

/-- Addresses of words of the host-port register space (R42). -/
def mailboxWords (l : List Nat) : Bool := l.all (fun a => decide (a < 0x1100) && decide (a % 4 = 0))

/-- A stage current in mA that DRV_MEASn can show (R324). -/
def stageMa (x : Int) : Bool := decide (-32768 ≤ x) && decide (x ≤ 32767)

/-- The operands lie within the bounds that the spec gives the thing they stand for. -/
def Instr.wf : Instr → Bool
  | .flitCrcFail _ => true
  | .bridgeLinkTimeout _ => true
  | .linkValidWordsReturn _ => true
  | .idleWord _ _ => true
  | .barkLinkLoss => true
  | .sysOppWrite _ _ => true
  | .oppStepComplete _ => true
  | .routerReceive _ payload => decide (payload.length < 64)
  | .creditReturn _ _ => true
  | .fabricResponse _ _ => true
  | .registerWrite _ addr _ _ => decide (addr < 0x200000) && decide (addr % 4 = 0)
  | .statusFrame _ _ mosi _ => decide (mosi.length ≤ 133)
  | .readFrame _ _ mosi fin => decide (mosi.length ≤ 133) && mailboxWords fin.upsets
  | .writeFrame _ _ mosi fin =>
    decide (mosi.length ≤ 133) && mailboxWords fin.upsets && mailboxWords (fin.hw.map (·.1))
  | .bothcs => true
  | .go _ => true
  | .abort _ => true
  | .replyRelease _ => true
  | .nepochWrite _ _ => true
  | .sepochWrite _ => true
  | .epochChange _ => true
  | .hostwdWrite _ _ => true
  | .dbinWrite _ _ => true
  | .doorbellAction _ => true
  | .messageTake => true
  | .inboundTimeout _ => true
  | .replyPost _ => true
  | .replyTimeout _ => true
  | .hostWatchdogExpiry => true
  | .crownWatchdogExpiry => true
  | .watchdogKick _ => true
  | .crownRestart => true
  | .sysInfo _ => true
  | .sysStatus _ => true
  | .sysAbort _ => true
  | .sysOwner _ => true
  | .sysReset _ => true
  | .diagDumpCollect _ => true
  | .diagDumpRead _ => true
  | .fwUpdateErase _ => true
  | .fwUpdateWrite _ => true
  | .fwUpdateVerify _ => true
  | .fwUpdateConfirm _ => true
  | .fwUpdateStatus _ => true
  | .cfgLoadBegin _ => true
  | .cfgLoadData _ => true
  | .cfgLoadEnd _ _ => true
  | .cfgMode _ => true
  | .cfgCondition _ => true
  | .cfgQuery _ => true
  | .pointRead _ => true
  | .pointWrite _ => true
  | .pointStreamDrain _ => true
  | .pointStreamAdd _ => true
  | .pointStreamRemove _ => true
  | .pointInfo _ => true
  | .loopRead _ => true
  | .loopSet _ => true
  | .loopMode _ => true
  | .loopTune _ => true
  | .zoneRead _ => true
  | .zoneSetpoint _ => true
  | .zoneModel _ => true
  | .zoneModelReset _ => true
  | .schedRead _ => true
  | .schedWrite _ => true
  | .schedCalendar _ => true
  | .schedOccupancy _ => true
  | .driveRead _ => true
  | .driveCommand _ => true
  | .driveDiag _ => true
  | .driveSafeval _ => true
  | .driveCalibrate _ => true
  | .driveBudget _ => true
  | .fanRead _ => true
  | .fanCommand _ => true
  | .fanFailsafe _ => true
  | .fanClearFail _ => true
  | .busPort _ => true
  | .busStatus _ => true
  | .busRaw _ => true
  | .busTwigDiscover _ => true
  | .busI2cScript _ => true
  | .groveStatus _ => true
  | .groveResetNode _ => true
  | .groveAllotment _ => true
  | .groveSchedPush _ => true
  | .storeRead _ _ => true
  | .storeWrite _ => true
  | .storeCommit _ _ => true
  | .storePassword _ _ => true
  | .storeStatus _ => true
  | .recRead _ => true
  | .recConfig _ => true
  | .recClearToken _ => true
  | .recClear _ => true
  | .recHealth _ => true
  | .clockGet _ => true
  | .clockSet _ => true
  | .clockAlarm _ => true
  | .clockCalibrate _ => true
  | .expertRead _ => true
  | .expertWrite _ => true
  | .expertClaim _ => true
  | .expertRelease _ => true
  | .expertClaims _ => true
  | .safeStatus _ => true
  | .safeForce _ => true
  | .safeRelease _ => true
  | .trendStatus _ => true
  | .trendSnapshot _ => true
  | .trendDrain _ => true
  | .trendAdvance _ => true
  | .overrideExpiry => true
  | .inputTrip _ => true
  | .currLimitTrip _ => true
  | .isolRetest _ _ => true
  | .ovrClear _ => true
  | .aincfgWrite _ _ => true
  | .dryRead _ _ => true
  | .pulseEdge _ _ => true
  | .stageReport _ => true
  | .pirExcursion _ outMv srcMv => decide (outMv ≤ 5000) && decide (srcMv ≤ 5000)
  | .pirHoldExpiry _ => true
  | .pirWarmupEnd _ => true
  | .pirSatResume _ => true
  | .passStart _ => true
  | .entryResult _ _ => true
  | .seqEntryWrite _ _ _ => true
  | .cnvctlWrite _ _ => true
  | .urgentRequest _ _ => true
  | .urgentRun _ _ => true
  | .resultArrival _ => true
  | .agedSweep => true
  | .lvtLowRead _ _ => true
  | .i2cPassStart _ => true
  | .i2cTransactionEnd _ _ => true
  | .i2cDelayEnd _ => true
  | .i2cBusRecovery _ _ => true
  | .i2cOvervoltage _ => true
  | .i2cOvvRetest _ _ => true
  | .twigRound _ => true
  | .twigPollReply _ _ => true
  | .twigReplyTimeout _ => true
  | .twigReply _ _ => true
  | .twigShort _ => true
  | .twigPowerRetry _ => true
  | .twigPowerUpWait _ => true
  | .twigSearchStep _ _ => true
  | .twigAutoSearch _ _ => true
  | .display _ _ data => decide (data.length ≤ 16)
  | .cambEnable => true
  | .cambTick => true
  | .cambSlotWrite _ _ _ => true
  | .cambLock _ _ => true
  | .cambStateWrite _ _ _ => true
  | .cambPointArrival => true
  | .staleLimit _ => true
  | .ffStale _ => true
  | .substExpiry _ => true
  | .substCountReset _ => true
  | .tunerArm _ _ => true
  | .tunerStop _ => true
  | .tuneTimeLimit _ => true
  | .tuneCycleLimit _ => true
  | .tuneRunEnd _ => true
  | .modelUpdate _ => true
  | .modelCtlWrite _ _ _ => true
  | .modelSave _ => true
  | .scheduleEvaluation => true
  | .clockChange => true
  | .presenceBinEnd _ => true
  | .triggerEvaluation => true
  | .triggerDelayExpiry _ _ => true
  | .triggerStartupTimeout _ _ => true
  | .demandArrival => true
  | .schedulerCycle r => r.ma.all (fun p => decide (p.1 < 48) && stageMa p.2)
  | .requestDurationEnd _ => true
  | .requestAged _ => true
  | .leaseEnd _ => true
  | .pdclassChange _ => true
  | .allotmentTimeout => true
  | .ambientEstimate => true
  | .actuatorRequest => true
  | .moveDeadTimeEnd _ => true
  | .endStop _ => true
  | .currentLimitTrip _ _ => true
  | .openLoad _ => true
  | .offStateTest _ _ => true
  | .stageOvertemp _ => true
  | .stageCooled _ => true
  | .vfieldReverse => true
  | .vfieldRestore => true
  | .drvCtlWrite _ _ => true
  | .modeChangeDelayEnd _ => true
  | .dinRead _ _ => true
  | .driveReport _ ma => ma.all stageMa
  | .safeRun => true
  | .drvSafeclrWrite _ _ => true
  | .drvManWrite _ _ => true
  | .tachEdge _ => true
  | .fanSpeedLoop _ => true
  | .stall _ ma => ma.all stageMa
  | .tachLostTimeout _ => true
  | .kick _ => true
  | .kickEnd _ => true
  | .retryCountReset _ => true
  | .fanDutyArrival => true
  | .fanSafeclrWrite _ => true
  | .portConfigWrite _ _ => true
  | .mstpFrameReceive _ r => decide (r.frame.bytes.length ≤ 512)
  | .readProperty _ _ => true
  | .readPropertyMultiple _ objs => !objs.isEmpty
  | .writeProperty _ _ => true
  | .writePropertyMultiple _ ws => !ws.isEmpty
  | .readRange _ _ => true
  | .subscribeCov _ _ => true
  | .covNotification _ => true
  | .covSubscriptionExpiry _ => true
  | .whoIs _ => true
  | .whoHas _ _ inst => decide (inst < 4194304)
  | .timeSynchronization _ => true
  | .utcTimeSynchronization _ => true
  | .deviceCommunicationControl _ _ _ pw => decide (pw.length ≤ 20)
  | .reinitializeDevice _ _ pw => decide (pw.length ≤ 20)
  | .modbusFunction01 _ frame => decide (frame.bytes.length ≤ 256)
  | .modbusFunction02 _ frame => decide (frame.bytes.length ≤ 256)
  | .modbusFunction03 _ frame => decide (frame.bytes.length ≤ 256)
  | .modbusFunction04 _ frame => decide (frame.bytes.length ≤ 256)
  | .modbusFunction05 _ frame => decide (frame.bytes.length ≤ 256)
  | .modbusFunction06 _ frame => decide (frame.bytes.length ≤ 256)
  | .modbusFunction15 _ frame => decide (frame.bytes.length ≤ 256)
  | .modbusFunction16 _ frame => decide (frame.bytes.length ≤ 256)
  | .modbusPollRound _ => true
  | .modbusMasterReply _ frame => decide (frame.bytes.length ≤ 256)
  | .modbusMasterTimeout _ => true
  | .rawByteReceive _ _ _ => true
  | .serviceFrame _ => true
  | .linkUp _ => true
  | .linkDown _ _ => true
  | .ping _ _ => true
  | .echo _ _ _ => true
  | .credit _ _ => true
  | .hopCreditTimeout _ _ => true
  | .graftFrameForward _ frame => decide (frame.length ≤ 268)
  | .ackTimeout _ _ => true
  | .tick _ _ _ => true
  | .tickSend => true
  | .tickLoss => true
  | .hello _ frame => decide (frame.length ≤ 268)
  | .helloSend => true
  | .nodeAbsence _ => true
  | .graftCtlWrite _ => true
  | .listenEnd => true
  | .roleconfRelisten => true
  | .time _ frame => decide (frame.length ≤ 268)
  | .timeSend => true
  | .allot _ frame => decide (frame.length ≤ 268)
  | .allocationCycle => true
  | .allotRepeat _ => true
  | .demand _ frame => decide (frame.length ≤ 268)
  | .demandSend => true
  | .takeback _ frame => decide (frame.length ≤ 268)
  | .masterLoss => true
  | .mbox _ frame => decide (frame.length ≤ 268)
  | .mboxReply _ frame => decide (frame.length ≤ 268)
  | .ack _ frame => decide (frame.length ≤ 268)
  | .forwardNodeAbsent _ => true
  | .abortFrame _ frame => decide (frame.length ≤ 268)
  | .reset _ frame => decide (frame.length ≤ 268)
  | .sched _ frame => decide (frame.length ≤ 268)
  | .cal _ frame => decide (frame.length ≤ 268)
  | .point _ frame => decide (frame.length ≤ 268)
  | .exportDue _ => true
  | .importTimeout _ => true
  | .zone _ frame => decide (frame.length ≤ 268)
  | .zoneEntrySend _ => true
  | .zoneLinkTimeout _ => true
  | .heartwoodScrub _ _ _ _ => true
  | .counterEvent _ => true
  | .counterSlotWrite => true
  | .periodicSave _ => true
  | .parametersSave _ => true
  | .lockoutEnd _ => true
  | .trendRecord _ => true
  | .trendProgram _ => true
  | .trendOpen => true
  | .recorderSecond => true
  | .recorderSample _ => true
  | .grrCursorWrite _ _ => true
  | .grrPreswrWrite _ => true
  | .saveDeferralTimeout => true
  | .recorderScrub _ => true
  | .bankFailure _ words => words.all (fun w => decide (w < 12288))
  | .grrPowerUp _ => true
  | .clearTokenExpiry => true
  | .rtcSecond => true
  | .rtcCapture _ => true
  | .rtcTimeWrite _ _ => true
  | .rtcHalt => true
  | .rtcRun => true
  | .rtcCalWrite _ => true
  | .calWindow => true
  | .powerPathSwitch vinMv => decide (vinMv ≤ 6000)
  | .fsoarmWrite _ => true
  | .brownout => true
  | .bkpreset => true
  | .oscstop => true
  | .vblowSample vbatMv => decide (vbatMv ≤ 4000)
  | .trickleWrite _ _ => true
  | .vflow => true
  | .vflowClear => true
  | .sysPwrctlWrite _ => true
  | .domainPowerUp _ => true
  | .powerOnReset => true
  | .powerOnResetRelease _ _ => true
  | .resetPin _ => true
  | .startUp boot => decide (boot.vinMv ≤ 6000) && (!boot.sfdp || (decide (16 ≤ boot.flashMbit) && decide (boot.flashMbit ≤ 1024)))
  | .powerFailWarning _ => true
  | .powerFailClear => true
  | .thermalSample readings => decide (readings.length = 9)
  | .shutdownHoldEnd readings => decide (readings.length = 9)
  | .safetyInputFault _ mv => decide (mv ≤ 2500)
  | .safetyFaultEnd _ mv => decide (mv ≤ 2500)
  | .safeStopHoldEnd => true
  | .fb _ => true
  | .safectlWrite _ _ => true
  | .deviceReset => true
  | .twigLimiting _ _ _ _ => true
  | .safedurEnd _ => true
  | .fanSpeedReport _ => true
  | .modbusOtherFunction _ frame => decide (frame.bytes.length ≤ 256)
  | .unrecognizedService _ _ => true
  | .linkTraining _ => true
  | .oscillatorRestart => true
  | .bkpResetRelease => true
  | .presenceChange _ => true

end Sys2Proof
end

