-- ==== Sys2Proof/Decode.lean ====
section
/-! DEFINITION. Sys2Proof/Decode.lean: commands spelled by a word. The opcode table gives no row any bits: no word spells
a command (INVENTORY.md, "Instructions"). -/

namespace Sys2Proof

/-- The command that the word `w` of `nbits` bits spells: none, since no row of the opcode table has bits. -/
def decodeTableWord (_nbits _w : Nat) : Option Instr := none

end Sys2Proof
end

