-- ==== Sys2Proof/Machine/Bits.lean ====
section
/-! DEFINITION. Sys2Proof/Machine/Bits.lean: bit fields of words, saturating counters (R7), byte order and the
cyclic redundancy checks the chapters name. -/

namespace Sys2Proof.Machine

open Sys2Proof

/-- The field of `n` bits whose lowest bit is bit `lo`, as a number. -/
def fld (w : Word) (lo n : Nat) : Nat := w.toNat / 2 ^ lo % 2 ^ n

/-- The mask of the `n` bits from bit `lo` up. -/
def fmask (lo n : Nat) : Word := BitVec.ofNat 32 ((2 ^ n - 1) * 2 ^ lo)

/-- `w` with the field of `n` bits from bit `lo` set to `v` (modulo the field's width). -/
def setFld (w : Word) (lo n v : Nat) : Word :=
  (w &&& ~~~ fmask lo n) ||| BitVec.ofNat 32 (v % 2 ^ n * 2 ^ lo)

/-- Bit `i`. -/
def bit (w : Word) (i : Nat) : Bool := w.getLsbD i

/-- `w` with bit `i` set to `b`. -/
def setBit (w : Word) (i : Nat) (b : Bool) : Word := setFld w i 1 b.toNat

/-- A word with bit `i` alone set. -/
def onehot (i : Nat) : Word := BitVec.ofNat 32 (2 ^ i)

/-- R7: a counter of `n` bits plus `k`, saturating at its largest value. -/
def satAdd (n v k : Nat) : Nat := min (v + k) (2 ^ n - 1)

/-- R7: the counter field of `n` bits from bit `lo` of `w`, counted up by one. -/
def bumpFld (w : Word) (lo n : Nat) : Word := setFld w lo n (satAdd n (fld w lo n) 1)

/-- A two's complement number of `n` bits. -/
def signed (n v : Nat) : Int := if v % 2 ^ n < 2 ^ (n - 1) then (v % 2 ^ n : Nat) else (v % 2 ^ n : Nat) - (2 ^ n : Nat)

/-- The `n` low bits of an integer. -/
def lowBits (n : Nat) (i : Int) : Nat := (i % (2 ^ n : Nat)).toNat

/-- The word that two halves make. -/
def halves (hi lo : Nat) : Word := BitVec.ofNat 32 (hi % 65536 * 65536 + lo % 65536)

/-- The word that four bytes make, the first the most significant. -/
def bytesToWord (b3 b2 b1 b0 : Byte) : Word := b3 ++ b2 ++ b1 ++ b0

/-- The four bytes of a word, most significant first. -/
def wordToBytes (w : Word) : List Byte :=
  [w.extractLsb' 24 8, w.extractLsb' 16 8, w.extractLsb' 8 8, w.extractLsb' 0 8]

/-- The words of a byte list, four bytes to a word, most significant byte first; a tail shorter than a word is
dropped. -/
def wordsOfBytes : List Byte → List Word
  | a :: b :: c :: d :: t => bytesToWord a b c d :: wordsOfBytes t
  | _ => []

/-- The number a byte list spells, most significant byte first. -/
def beNat (l : List Byte) : Nat := l.foldl (fun a b => a * 256 + b.toNat) 0

/-- The number a byte list spells, least significant byte first. -/
def leNat (l : List Byte) : Nat := l.foldr (fun b a => a * 256 + b.toNat) 0

/-- `n` bytes of a number, most significant first. -/
def beBytes : Nat → Nat → List Byte
  | 0, _ => []
  | n + 1, v => beBytes n (v / 256) ++ [BitVec.ofNat 8 v]

/-- `n` bytes of a number, least significant first. -/
def leBytes : Nat → Nat → List Byte
  | 0, _ => []
  | n + 1, v => BitVec.ofNat 8 v :: leBytes n (v / 256)

/-- One bit of a CRC that shifts left: `n` bits wide, polynomial `poly`. -/
def crcStepL (n poly c : Nat) (b : Bool) : Nat :=
  let top := decide (c / 2 ^ (n - 1) % 2 = 1) ^^ b
  let sh := c * 2 % 2 ^ n
  if top then sh ^^^ poly else sh

/-- A CRC that shifts left, over bytes, most significant bit of each first, not reflected. -/
def crcL (n poly init : Nat) (bs : List Byte) : Nat :=
  bs.foldl (fun c b => [7, 6, 5, 4, 3, 2, 1, 0].foldl (fun c i => crcStepL n poly c (b.getLsbD i)) c) init

/-- One bit of a reflected CRC: polynomial `poly` already reflected. -/
def crcStepR (poly c : Nat) (b : Bool) : Nat :=
  let low := decide (c % 2 = 1) ^^ b
  if low then (c / 2) ^^^ poly else c / 2

/-- A reflected CRC over bytes, least significant bit of each first. -/
def crcR (poly init : Nat) (bs : List Byte) : Nat :=
  bs.foldl (fun c b => [0, 1, 2, 3, 4, 5, 6, 7].foldl (fun c i => crcStepR poly c (b.getLsbD i)) c) init

/-- R46: CRC-8 of the host port and the die links, polynomial 0x07, initial value 0. -/
def crc8Host (bs : List Byte) : Byte := BitVec.ofNat 8 (crcL 8 0x07 0 bs)

/-- R183: CRC-8 of the sensor groups, polynomial 0x31, initial value 0xFF. -/
def crc8Sensor (bs : List Byte) : Byte := BitVec.ofNat 8 (crcL 8 0x31 0xFF bs)

/-- R197: CRC-16/CCITT, polynomial 0x1021, initial value 0xFFFF. -/
def crc16Ccitt (bs : List Byte) : Nat := crcL 16 0x1021 0xFFFF bs

/-- The CRC-16 of Modbus RTU (reflected 0x8005, initial value 0xFFFF), sent low byte first. -/
def crc16Modbus (bs : List Byte) : Nat := crcR 0xA001 0xFFFF bs

/-- R436: CRC-32C, reflected, initial value and final XOR 0xFFFF_FFFF. -/
def crc32c (bs : List Byte) : Word := BitVec.ofNat 32 (crcR 0x82F63B78 0xFFFFFFFF bs ^^^ 0xFFFFFFFF)

/-- The CRC-32 of a Graft frame (reflected 0x04C1_1DB7, initial value and final XOR 0xFFFF_FFFF). -/
def crc32Graft (bs : List Byte) : Nat := crcR 0xEDB88320 0xFFFFFFFF bs ^^^ 0xFFFFFFFF

/-- The bytes of a list of words, most significant byte first. -/
def bytesOfWords (ws : List Word) : List Byte := ws.flatMap wordToBytes

/-- The element at `i`, or the default. -/
def nth {α : Type} (l : List α) (i : Nat) (d : α) : α := l.getD i d

/-- The low bits of a list of words as one number, word 0 the least significant (R8). -/
def wordsNat (ws : List Word) : Nat := ws.foldr (fun w a => a * 2 ^ 32 + w.toNat) 0

end Sys2Proof.Machine
end

