-- ==== Sys2Proof/Machine/Num.lean ====
section
/-! DEFINITION. Sys2Proof/Machine/Num.lean: IEEE 754 binary32 and binary64 arithmetic on bits (00, "Notation and
units"; R167, R219, R260). Every operation is computed exactly over the rationals and rounded once, to the nearest
value, ties to even (log entry 4). -/

namespace Sys2Proof.Machine

open Sys2Proof

/-- A natural quotient rounded to the nearest integer, ties to even. -/
def roundDiv (n d : Nat) : Nat :=
  let q := n / d
  let r := n % d
  if 2 * r < d then q else if d < 2 * r then q + 1 else q + q % 2

/-- A rational rounded to the nearest integer, ties to even. -/
def roundRat (q : Rat) : Int :=
  if 0 ≤ q.num then (roundDiv q.num.natAbs q.den : Int) else - (roundDiv q.num.natAbs q.den : Int)

/-- The exponent of the leading bit of `n / d`, for `n` and `d` not 0. -/
def leadExp (n d : Nat) : Int :=
  let e : Int := (Nat.log2 n : Int) - (Nat.log2 d : Int)
  if 0 ≤ e then (if n < d * 2 ^ e.toNat then e - 1 else e)
  else (if n * 2 ^ (-e).toNat < d then e - 1 else e)

/-- The magnitude bits of `n / d` in the format with `mb` fraction bits and exponent bias `bias`: rounded to the
nearest, ties to even; the infinity pattern when the rounded value exceeds the format. -/
def packMag (mb bias n d : Nat) : Nat :=
  if n = 0 then 0 else
  let e := leadExp n d
  let ee : Int := if e < 1 - (bias : Int) then 1 - (bias : Int) else e
  let qe : Int := ee - (mb : Int)
  let m := if 0 ≤ qe then roundDiv n (d * 2 ^ qe.toNat) else roundDiv (n * 2 ^ (-qe).toNat) d
  let bits := ((ee + (bias : Int) - 1).toNat) * 2 ^ mb + m
  let inf := (2 * bias + 1) * 2 ^ mb
  if bits < inf then bits else inf

/-- The rational value of finite magnitude bits. -/
def unpackMag (mb bias v : Nat) : Rat :=
  let e := v / 2 ^ mb
  let f := v % 2 ^ mb
  let m : Nat := if e = 0 then f else f + 2 ^ mb
  let qe : Int := (if e = 0 then 1 else (e : Int)) - (bias : Int) - (mb : Int)
  if 0 ≤ qe then mkRat ((m * 2 ^ qe.toNat : Nat) : Int) 1 else mkRat (m : Int) (2 ^ (-qe).toNat)

/-! ### binary32 -/

/-- The quiet not-a-number. -/
def f32Nan : F32 := 0x7FC00000
/-- Plus infinity. -/
def f32Inf : F32 := 0x7F800000
/-- The exponent field is all ones and the fraction is not 0. -/
def f32IsNan (a : F32) : Bool := decide (0x7F800000 < a.toNat % 2 ^ 31)
/-- The value is finite. -/
def f32Fin (a : F32) : Bool := decide (a.toNat % 2 ^ 31 < 0x7F800000)
/-- R2: a value that a command accepts: neither a NaN, an infinity nor subnormal. -/
def f32Ok (a : F32) : Bool := f32Fin a && (decide (a.toNat % 2 ^ 31 = 0) || decide (0x00800000 ≤ a.toNat % 2 ^ 31))
/-- The rational a finite number stands for. -/
def f32Rat (a : F32) : Rat :=
  let m := unpackMag 23 127 (a.toNat % 2 ^ 31)
  if a.getLsbD 31 then -m else m
/-- The binary32 number nearest to a rational; the sign of a zero result is `neg`. -/
def f32OfRatS (neg : Bool) (q : Rat) : F32 :=
  let m := packMag 23 127 q.num.natAbs q.den
  if decide (q.num < 0) || (decide (q.num = 0) && neg) then BitVec.ofNat 32 (2 ^ 31 + m) else BitVec.ofNat 32 m
/-- The binary32 number nearest to a rational. -/
def f32OfRat (q : Rat) : F32 := f32OfRatS false q
/-- The binary32 number nearest to an integer. -/
def f32OfInt (i : Int) : F32 := f32OfRat (mkRat i 1)
/-- The binary32 number nearest to a natural number. -/
def f32OfNat (n : Nat) : F32 := f32OfInt n
/-- The sign bit. -/
def f32Neg? (a : F32) : Bool := a.getLsbD 31
/-- The number with the opposite sign. -/
def f32Neg (a : F32) : F32 := a ^^^ 0x80000000
/-- The magnitude. -/
def f32Abs (a : F32) : F32 := a &&& 0x7FFFFFFF
/-- An integer that orders the numbers that are not NaN. -/
def f32Key (a : F32) : Int := if a.getLsbD 31 then -((a.toNat % 2 ^ 31 : Nat) : Int) else ((a.toNat % 2 ^ 31 : Nat) : Int)
/-- Less than; false when either is a NaN. -/
def f32Lt (a b : F32) : Bool := !f32IsNan a && !f32IsNan b && decide (f32Key a < f32Key b)
/-- Less than or equal; false when either is a NaN. -/
def f32Le (a b : F32) : Bool := !f32IsNan a && !f32IsNan b && decide (f32Key a ≤ f32Key b)
/-- Equal as numbers. -/
def f32Eq (a b : F32) : Bool := f32Le a b && f32Le b a
/-- The sum. -/
def f32Add (a b : F32) : F32 :=
  if f32IsNan a || f32IsNan b then f32Nan
  else if f32Fin a && f32Fin b then f32OfRatS (f32Neg? a && f32Neg? b) (f32Rat a + f32Rat b)
  else if f32Fin a then b else if f32Fin b then a else if a = b then a else f32Nan
/-- The difference. -/
def f32Sub (a b : F32) : F32 := f32Add a (f32Neg b)
/-- The product. -/
def f32Mul (a b : F32) : F32 :=
  let sg := f32Neg? a ^^ f32Neg? b
  if f32IsNan a || f32IsNan b then f32Nan
  else if f32Fin a && f32Fin b then f32OfRatS sg (f32Rat a * f32Rat b)
  else if f32Abs a = 0 || f32Abs b = 0 then f32Nan
  else if sg then f32Neg f32Inf else f32Inf
/-- The quotient. -/
def f32Div (a b : F32) : F32 :=
  let sg := f32Neg? a ^^ f32Neg? b
  if f32IsNan a || f32IsNan b then f32Nan
  else if f32Fin a && f32Fin b then
    if f32Abs b = 0 then (if f32Abs a = 0 then f32Nan else if sg then f32Neg f32Inf else f32Inf)
    else f32OfRatS sg (f32Rat a / f32Rat b)
  else if f32Fin a then (if sg then 0x80000000 else 0)
  else if f32Fin b then (if sg then f32Neg f32Inf else f32Inf) else f32Nan
/-- The product plus a third, rounded once. -/
def f32Fma (a b c : F32) : F32 :=
  if f32Fin a && f32Fin b && f32Fin c then
    f32OfRatS (f32Neg? c && (f32Neg? a ^^ f32Neg? b)) (f32Rat a * f32Rat b + f32Rat c)
  else f32Add (f32Mul a b) c
/-- The smaller of two numbers. -/
def f32Min (a b : F32) : F32 := if f32Lt b a then b else a
/-- The larger of two numbers. -/
def f32Max (a b : F32) : F32 := if f32Lt a b then b else a
/-- A number held between two limits. -/
def f32Clamp (lo hi a : F32) : F32 := f32Max lo (f32Min hi a)
/-- The nearest integer, ties to even; 0 when not finite. -/
def f32Round (a : F32) : Int := if f32Fin a then roundRat (f32Rat a) else 0
/-- One half. -/
def f32Half : F32 := 0x3F000000
/-- One. -/
def f32One : F32 := 0x3F800000

/-! ### binary64 -/

/-- The quiet not-a-number. -/
def f64Nan : F64 := 0x7FF8000000000000
/-- The value is finite. -/
def f64Fin (a : F64) : Bool := decide (a.toNat % 2 ^ 63 < 0x7FF0000000000000)
/-- The exponent field is all ones and the fraction is not 0. -/
def f64IsNan (a : F64) : Bool := decide (0x7FF0000000000000 < a.toNat % 2 ^ 63)
/-- Plus infinity. -/
def f64Inf : F64 := 0x7FF0000000000000
/-- The rational a finite number stands for. -/
def f64Rat (a : F64) : Rat :=
  let m := unpackMag 52 1023 (a.toNat % 2 ^ 63)
  if a.getLsbD 63 then -m else m
/-- The binary64 number nearest to a rational; the sign of a zero result is `neg`. -/
def f64OfRatS (neg : Bool) (q : Rat) : F64 :=
  let m := packMag 52 1023 q.num.natAbs q.den
  if decide (q.num < 0) || (decide (q.num = 0) && neg) then BitVec.ofNat 64 (2 ^ 63 + m) else BitVec.ofNat 64 m
/-- The binary64 number nearest to a rational. -/
def f64OfRat (q : Rat) : F64 := f64OfRatS false q
/-- The sign bit. -/
def f64Neg? (a : F64) : Bool := a.getLsbD 63
/-- The number with the opposite sign. -/
def f64Neg (a : F64) : F64 := a ^^^ 0x8000000000000000
/-- The magnitude. -/
def f64Abs (a : F64) : F64 := a &&& 0x7FFFFFFFFFFFFFFF
/-- An integer that orders the numbers that are not NaN. -/
def f64Key (a : F64) : Int := if a.getLsbD 63 then -((a.toNat % 2 ^ 63 : Nat) : Int) else ((a.toNat % 2 ^ 63 : Nat) : Int)
/-- Infinity with a sign. -/
def f64InfS (neg : Bool) : F64 := if neg then f64Neg f64Inf else f64Inf
/-- The sum. -/
def f64Add (a b : F64) : F64 :=
  if f64IsNan a || f64IsNan b then f64Nan
  else if f64Fin a && f64Fin b then f64OfRatS (f64Neg? a && f64Neg? b) (f64Rat a + f64Rat b)
  else if f64Fin a then b else if f64Fin b then a else if a = b then a else f64Nan
/-- The difference. -/
def f64Sub (a b : F64) : F64 := f64Add a (f64Neg b)
/-- The product. -/
def f64Mul (a b : F64) : F64 :=
  let sg := f64Neg? a ^^ f64Neg? b
  if f64IsNan a || f64IsNan b then f64Nan
  else if f64Fin a && f64Fin b then f64OfRatS sg (f64Rat a * f64Rat b)
  else if f64Abs a = 0 || f64Abs b = 0 then f64Nan
  else f64InfS sg
/-- The quotient. -/
def f64Div (a b : F64) : F64 :=
  let sg := f64Neg? a ^^ f64Neg? b
  if f64IsNan a || f64IsNan b then f64Nan
  else if f64Fin a && f64Fin b then
    if f64Abs b = 0 then (if f64Abs a = 0 then f64Nan else f64InfS sg) else f64OfRatS sg (f64Rat a / f64Rat b)
  else if f64Fin a then (if sg then 0x8000000000000000 else 0)
  else if f64Fin b then f64InfS sg else f64Nan
/-- Less than; false when either is a NaN. -/
def f64Lt (a b : F64) : Bool := !f64IsNan a && !f64IsNan b && decide (f64Key a < f64Key b)
/-- Less than or equal; false when either is a NaN. -/
def f64Le (a b : F64) : Bool := !f64IsNan a && !f64IsNan b && decide (f64Key a ≤ f64Key b)
/-- A binary32 number widened. -/
def f64OfF32 (a : F32) : F64 :=
  if f32Fin a then f64OfRatS (f32Neg? a) (f32Rat a) else if f32IsNan a then f64Nan else f64InfS (f32Neg? a)
/-- A binary64 number narrowed to the nearest binary32. -/
def f32OfF64 (a : F64) : F32 :=
  if f64Fin a then f32OfRatS (f64Neg? a) (f64Rat a)
  else if f64IsNan a then f32Nan else if f64Neg? a then f32Neg f32Inf else f32Inf
/-- The number as a binary64. -/
def f64OfInt (i : Int) : F64 := f64OfRat (mkRat i 1)

/-- The square root of a rational that is not negative, to 2^-90 relative of its size, never above the root. -/
def sqrtRat (q : Rat) : Rat :=
  let n := q.num.natAbs
  mkRat (Nat.sqrt (n * q.den * 2 ^ 180) : Int) (q.den * 2 ^ 90)
/-- The square root in binary64; a NaN for a negative number. -/
def f64Sqrt (a : F64) : F64 :=
  if f64Abs a = 0 || decide (a = f64Inf) then a
  else if f64Fin a && !f64Neg? a then f64OfRat (sqrtRat (f64Rat a)) else f64Nan

/-- Drop the bits of a rational below 2^-k: keeps the series of `lnRat` short. -/
def truncRat (k : Nat) (q : Rat) : Rat := mkRat (q.num * 2 ^ k / q.den) (2 ^ k)

/-- 2·(y + y³/3 + y⁵/5 + …), `n` terms: the series of ln((1 + y)/(1 − y)). -/
def lnSeries : Nat → Nat → Rat → Rat → Rat
  | 0, _, _, _ => 0
  | n + 1, k, p, y2 => 2 * p / (k : Rat) + lnSeries n (k + 2) (truncRat 120 (p * y2)) y2

/-- The natural logarithm of a positive rational, to about 2^-100: the exponent times ln 2 plus the series over
the mantissa in [1, 2). -/
def lnRat (q : Rat) : Rat :=
  let e := leadExp q.num.natAbs q.den
  let m : Rat := if 0 ≤ e then q / (2 ^ e.toNat : Nat) else q * (2 ^ (-e).toNat : Nat)
  let y := truncRat 120 ((m - 1) / (m + 1))
  let y2 := truncRat 120 ((1 / 3 : Rat) * (1 / 3 : Rat))
  (e : Rat) * lnSeries 40 1 (truncRat 120 (1 / 3)) y2 + lnSeries 40 1 y (truncRat 120 (y * y))
/-- The natural logarithm in binary64: minus infinity for 0, a NaN for a negative number. -/
def f64Ln (a : F64) : F64 :=
  if f64Abs a = 0 then f64InfS true
  else if decide (a = f64Inf) then a
  else if f64Fin a && !f64Neg? a then f64OfRat (lnRat (f64Rat a)) else f64Nan

end Sys2Proof.Machine
end

