-- ==== Sys2Proof/Machine/Types.lean ====
section
/-! DEFINITION. Sys2Proof/Machine/Types.lean: the parts of the state, block by block, as plain data: what the
spec gives each block beside its registers. A sparse table (Tbl) lists only the entries that differ from its default,
keys strictly rising. -/

namespace Sys2Proof.Machine

open Sys2Proof

/-- A sparse table: key and value, keys strictly rising. -/
abbrev Tbl (α : Type) := List (Nat × α)

/-! ### Sapflow and the die links (01) -/

/-- R18: a Sapflow packet: header flit and payload flits. -/
structure Packet where
  hdr : Flit
  payload : List Flit
  /-- When it left its source, and the low word of the sequence entry that a converter result was made with. -/
  sentAt : Nat
  entry : Word
deriving DecidableEq, Repr

/-- R20: a request outstanding at its source. -/
structure FabReq where
  src : Nat
  tag : Nat
  dst : Nat
  addr : Nat
  /-- The last flit left at this time (R10); none while flits of it wait for credit. -/
  sentAt : Option Nat
deriving DecidableEq, Repr

/-- R22, R32: a response: status, address echoed, read words. -/
structure FabResp where
  /-- The island that answers. -/
  from_ : Nat
  /-- The island that the response goes to. -/
  src : Nat
  tag : Nat
  status : Nat
  addr : Nat
  data : List Word
deriving DecidableEq, Repr

/-- R25: a request that waits for credit: the link, the island before it and the one behind it, the flits not yet
forwarded, the packet. -/
structure FabWait where
  link : Nat
  near : Nat
  far : Nat
  left : Nat
  pkt : Packet
deriving DecidableEq, Repr

/-- The state of the fabric and of the die links. -/
structure FabState where
  /-- R28: packets under way, oldest first. -/
  flight : List Packet
  /-- R25: request credits in use, key 2·link, plus 1 for the direction to the link's first island; unlisted: 0. -/
  used : Tbl Nat
  /-- R27: requests waiting for credit, oldest first. -/
  waiting : List FabWait
  /-- R20: requests outstanding. -/
  outstanding : List FabReq
  /-- Responses under way to their source. -/
  answers : List FabResp
  /-- Responses that arrived, newest first, one per source and tag. -/
  arrived : List FabResp
  /-- R20: TAG of the last packet sent, plus 1, key 1024·source + SID; unlisted: 0 (none since reset). -/
  txTag : Tbl Nat
  /-- R20: TAG of the last packet taken at the sink, plus 1, key 1024·(16·sink + source) + SID; unlisted: 0. -/
  rxTag : Tbl Nat
  /-- R20: packets counted lost, same key. -/
  gaps : Tbl Nat
  /-- R10: failed transmissions of the flit in hand, key 0 Bark, 1 Heartwood. -/
  crcFails : Tbl Nat
  /-- R10: the flit that last failed, by its number on the link, plus 1, same key; unlisted: 0, none. -/
  crcFlit : Tbl Nat
  /-- R10: links whose bridge answers LINK_FAIL, key as above. -/
  down : Tbl Bool
  /-- R10, R11: time of the last valid word, key 2·link for the bridge (Crown side), 2·link + 1 for the far die. -/
  lastWord : Tbl Nat
  /-- R11: the Bark die has received no valid word for 2 ms and none since. -/
  barkSafe : Bool
  /-- R10: links of which a LINK_FAIL has been recorded since they failed, key as above. -/
  failSeen : Tbl Bool
deriving DecidableEq, Repr

/-! ### Host port (02) -/

/-- The host port and the mailboxes beside their registers. -/
structure HpState where
  /-- R45: HSTAT bits [3:0] for the next frame on HCS_N. -/
  hstatN : Byte
  /-- R45: the same for HCSS_N. -/
  hstatS : Byte
  /-- R41: the bytes shifted out on HMISO during the last frame, HSTAT first. -/
  hmiso : List Byte
  /-- R50: when the chip select that ended the last write frame rose. -/
  writeRise : Option Nat
  /-- R76: when the last frame without rejection ended, or the count was restarted. -/
  lastGood : Nat
  /-- R59, R60: of each inbound channel: time of its GO, the TMO then. -/
  goAt : Tbl Nat
  goTmo : Tbl Nat
  /-- R67: of each outbound channel: time of the posting and the TMO then. -/
  postAt : Tbl Nat
  postTmo : Tbl Nat
  /-- R609: addresses of mailbox words whose parity fails. -/
  badPar : Tbl Bool
  /-- R389: the message in inbound channel 15 came from the service UART. -/
  svcMsg : Bool
  /-- R77: host loss entered while the Crown die restarts; firmware's part is still to do. -/
  lossDue : Bool
  /-- R78: a frame ended host loss while the Crown die restarts; firmware's part is still to do. -/
  backDue : Bool
  /-- R75 step 5: inbound channels whose message was FULL across a Crown restart. -/
  restarted : Tbl Bool
deriving DecidableEq, Repr

/-! ### Ohmest firmware: commands, ownership (03) -/

/-- Where a command came from and where its reply goes. -/
inductive Origin where
  /-- A mailbox channel. -/
  | mailbox
  /-- The service UART (R388). -/
  | service
  /-- A grove MBOX frame of the node named (R421). -/
  | grove (node : Nat)
deriving DecidableEq, Repr

/-- The state of a command's interim reply (R84, R85). -/
inductive Interim where
  | none
  | queued
  | posted
deriving DecidableEq, Repr

/-- A command taken and not yet freed (R85, R87). -/
structure Cmd where
  id : Nat
  chan : Nat
  seq : Nat
  /-- M0 to M15 as copied at the take (R58). -/
  words : List Word
  secure : Bool
  origin : Origin
  /-- A reply that only reports a duplicate or a refused header: nothing runs. -/
  ghost : Bool
  interim : Interim
  /-- A long command that its row has started. -/
  started : Bool
  /-- The final reply, once it entered the reply store: M0, M1 and the payload. -/
  reply : Option (List Word)
  /-- Its place in the order of the reply store (R65, R85). -/
  order : Nat
  /-- R72, R74: its replies are discarded. -/
  discard : Bool
  /-- R75: replies carry RESTARTED. -/
  restarted : Bool
  /-- Node the command was forwarded to, with the reply awaited (R421). -/
  fwdTo : Option Nat
  /-- R84: the final status and payload of a long command whose effects are done and whose end is still to come. -/
  ending : Option (Nat × List Word)
  /-- R87: a refused command holds its tag until its reply is posted. -/
  holds : Bool
deriving DecidableEq, Repr

/-- R68: a record of a command whose final reply was posted. -/
structure Rec68 where
  chan : Nat
  seq : Nat
  tag : Nat
  status : Nat
deriving DecidableEq, Repr

/-- R102: a claimed resource, the world that claims it, the tag of the command. -/
structure Claim where
  ref : Word
  secure : Bool
  tag : Nat
deriving DecidableEq, Repr

/-- R108: a resource held by a firmware service; `cmd` is the command's id, none for a run of the part itself. -/
structure Service where
  ref : Word
  svc : Nat
  tag : Nat
  cmd : Option Nat
deriving DecidableEq, Repr

/-! ### Configuration (09) -/

/-- One item of a layer: bits of a register, or of a word of a zone record, of an object. -/
structure Item where
  ref : Word
  addr : Nat
  mask : Word
  val : Word
deriving DecidableEq, Repr

/-- R277, R281: kind of an overlay. -/
inductive OvKind where
  /-- Mode overlay of a mode (R278). -/
  | mode (m : Nat)
  /-- Condition overlay; rank 1 frost, 2 smoke, 3 host-loss, 4 maintenance, 5 commissioning (R281). -/
  | cond (rank : Nat)
  /-- Safety overlay. -/
  | safety
deriving DecidableEq, Repr

/-- R295: a point trigger. -/
structure PointTrig where
  point : Nat
  thr : F32
  above : Bool
  hyst : F32
  /-- Delays in s. -/
  ton : Nat
  toff : Nat
  failact : Bool
deriving DecidableEq, Repr

/-- R277: an overlay. -/
structure Overlay where
  kind : OvKind
  /-- Its bytes in the image. -/
  len : Nat
  items : List Item
  trigs : List PointTrig
deriving DecidableEq, Repr

/-- R302: an action of an HP_DBIN bit. -/
inductive DbAction where
  | setCond (overlay : Nat)
  | releaseCond (overlay : Nat)
  /-- Zones as a list, 48 for the device level. -/
  | modeSet (zones : List Nat) (mode : Nat)
  | modeCancel (zones : List Nat)
deriving DecidableEq, Repr

/-- R455: the configuration of a trend log. -/
structure TrendCfg where
  point : Nat
  /-- Interval in s, 0 for change-of-value logging. -/
  interval : Nat
  cov : F32
deriving DecidableEq, Repr

/-- R417, R418: a zone link: the importing zone, the node and zone it follows. -/
structure ZoneLink where
  zone : Nat
  node : Nat
  remote : Nat
deriving DecidableEq, Repr

/-- R415: an imported point: local point, node, remote point, limit in 0.1 s. -/
structure ImportCfg where
  point : Nat
  node : Nat
  remote : Nat
  limit : Nat
deriving DecidableEq, Repr

/-- R379: limits and default of a commandable BACnet object, and what it writes. -/
structure BacObjCfg where
  objType : Nat
  inst : Nat
  relinquish : F32
  /-- The present value follows this object reference. -/
  ref : Word
deriving DecidableEq, Repr

/-- R277: a configuration image as firmware uses it. How bytes spell it is not in the spec (log entry 10). -/
structure Image where
  ident : Word
  base : List Item
  /-- R277: the bytes of the base configuration. -/
  baseLen : Nat
  overlays : List (Option Overlay)
  /-- R279: resources the base assigns to a zone. -/
  zones : List (Word × Nat)
  /-- R282: schedule words, key 128·schedule + 16·day + k; k 0 header, k 1 to 8 switch points (day 1 to 7). -/
  sched : Tbl Word
  /-- R287: calendar words, key 4·entry + word. -/
  cal : Tbl Word
  devSched : Option Nat
  dbin : List (Nat × DbAction)
  /-- R302: HP_DBOUT bit and event code. -/
  dbout : List (Nat × Nat)
  /-- R512: used domains, a SYS_PWRCTL mask. -/
  used : Word
  vwarn : Option Nat
  cwdMs : Option Nat
  /-- R296: the safety overlay is also triggered while SAFE_STOP_N is asserted. -/
  safeStopTrig : Bool
  trend : List TrendCfg
  zoneLinks : List ZoneLink
  imports : List ImportCfg
  /-- R417: zones here that are home zones: zone, node and zone linked to it. -/
  homeLinks : List ZoneLink
  /-- R419: grove schedules (bitmap) and whether the calendar is distributed, on the master; grove-fed on a member. -/
  groveSched : Word
  groveCal : Bool
  /-- R385: TMO of Modbus master ports. -/
  portTmo : List (Nat × Nat)
  bacnet : List BacObjCfg
  /-- R380: device instance. -/
  bacDevice : Nat
  /-- R358: the point that gives the ambient temperature, if any. -/
  ambPoint : Option Nat
  /-- R413: time zone offset in minutes for UTC synchronisation (R380). -/
  utcOffset : Int
deriving DecidableEq, Repr

/-- R303: an open load session; `data` holds the bytes sent, key the byte offset. -/
structure LoadSession where
  scope : Nat
  overlay : Nat
  len : Nat
  crc : Word
  data : Tbl Byte
deriving DecidableEq, Repr

/-- R295, R298: state of a point trigger. -/
structure TrigSt where
  on : Bool
  /-- The judged change now counting, and the time it becomes true. -/
  due : Option (Bool × Nat)
  /-- R298: still in the start-up interval, which ends at this time. -/
  startEnd : Option Nat
  /-- The point was not valid at the last reading. -/
  inv : Bool
deriving DecidableEq, Repr

/-- R289 to R294: state of a zone; key 48 of the table is the device level. -/
structure ZoneSt where
  mode : Option Nat
  sched : Nat
  raise : Bool
  lower : Bool
  pred : Bool
  precond : Bool
  optstop : Bool
  calUsed : Bool
  linkLost : Bool
  /-- R290: effective setpoint. -/
  sp : F32
  present : Bool
  /-- R289: the m of the procedure before its last step was occupied. -/
  occ : Bool
  /-- Times (ticks): last presence, when m became occupied, end of pre-conditioning. -/
  lastPres : Option Nat
  occAt : Nat
  preEnd : Nat
  /-- R293: presence in the running bin: time present so far, start of the present spell, a point was valid. -/
  binPres : Nat
  binValid : Bool
  /-- R268, R269: time words of the start and end targets in force. -/
  tOcc : Nat
  tEnd : Nat
deriving DecidableEq, Repr

/-- R524, R525: a reset that waits: scope (4 for a grove RESET), id and channel of the SYS.RESET command, when it is due
once its reply is posted. -/
structure PendReset where
  scope : Nat
  cmd : Nat
  chan : Nat
  at_ : Option Nat
deriving DecidableEq, Repr

/-- R482: a clear token: its value, when it becomes void, the scope and object it names, SEPOCH at its issue. -/
structure ClearTok where
  value : Word
  until_ : Nat
  scope : Nat
  obj : Word
  epoch : Word
deriving DecidableEq, Repr

/-- Ohmest firmware's own state. -/
structure FwState where
  cmds : List Cmd
  nextId : Nat
  orderCtr : Nat
  /-- R68: newest first, at most 8 per channel. -/
  recs : List Rec68
  claims : List Claim
  services : List Service
  /-- R105, R257: resources of a service run that ended, to be rewritten from their layer before its reply is posted. -/
  handBack : List Word
  /-- R302: doorbell event codes that wait for READY. -/
  events : List Nat
  load : Option LoadSession
  image : Option Image
  imgCrc : Word
  /-- Copy in use: false A, true B. -/
  copyB : Bool
  actTime : Word
  /-- R299: in-force words of zone records, key 64·zone + field; unlisted: the default of 09. -/
  zrec : Tbl Word
  /-- Key 2·overlay + trigger. -/
  trig : Tbl TrigSt
  /-- R295: command triggers set; value the expiry time word, 0 for none. -/
  cmdTrig : Tbl (Option Nat)
  /-- R297: overlays active and pending. -/
  active : List Nat
  pendingOv : List Nat
  zone : Tbl ZoneSt
  /-- Mode and setpoint overrides, key zone, 48 device: value and expiry time word. -/
  modeOvr : Tbl (Option (Nat × Nat))
  spOvr : Tbl (Option (F32 × Nat))
  /-- Schedule and calendar words in force (image or written by command), keys as in Image. -/
  sched : Tbl Word
  cal : Tbl Word
  /-- LEVEL schedules: last value written, key schedule; none before the first. -/
  levelLast : Tbl (Option Int)
  /-- Drive and fan command overrides: value bits and expiry. -/
  driveOvr : Tbl (Option (F32 × Nat))
  fanOvr : Tbl (Option (F32 × Nat))
  /-- R554: SAFE.FORCE in force, expiry time word. -/
  safeForce : Option Nat
  pendReset : Option PendReset
  /-- R569: the last diagnostic dump collected. -/
  dump : List Word
  /-- R569: the 32 most recent INTERNAL faults, oldest first, 4 words each. -/
  faultLog : List Word
  internalCount : Nat
  /-- R177: host-stream list and entries lost. -/
  streamLost : Nat
  /-- R482: the clear token that is valid. -/
  clearToken : Option ClearTok
  recovery : Bool
  /-- Configuration activated since the last device reset (start-up step 6 done). -/
  activated : Bool
  /-- R162: latest values drained from the Crown partition, with their high words. -/
  crownPts : Tbl (Option (F32 × Word))
  /-- R105: registers of held resources that their holders wrote, or that a configuration load left: firmware returns them
  with the resource. -/
  wrote : List (Word × Nat)
deriving DecidableEq, Repr

/-- A zone with no mode yet (R286). -/
def zoneSt0 : ZoneSt := ⟨none, 0, false, false, false, false, false, false, false, 0, false, false, none, 0, 0, 0, false, 0, 0⟩

/-! ### Analogue inputs (04) -/

/-- Hidden state of an input stage. -/
structure InputSt where
  /-- R132: the last accepted state; DRY: contact closed, PULSE: level high. None before the first. -/
  state : Option Bool
  /-- The comparator's last reading and how many equal readings in a row. -/
  last : Option Bool
  equal : Nat
  /-- R132: accepted edges of the kind PEDGE, modulo 2^24. -/
  edges : Nat
  /-- R137: report count, modulo 256. -/
  reports : Nat
  /-- A change report is due. -/
  changed : Bool
  /-- R122: consecutive good checks while isolated. -/
  good : Nat
  /-- R122: when the switch closed after a trip. -/
  closedAt : Option Nat
  /-- R130: when the last mode change took effect. -/
  modeAt : Option Nat
  /-- R132, R137: when the comparator was last read on the 5 ms grid; when the last report was sent. -/
  readAt : Option Nat
  reportAt : Option Nat
  /-- R122, R123: when the switch last closed after a trip, and when OVR last cleared. -/
  joinedAt : Nat
  ovrEnd : Nat
  /-- R122: the trip, or the last check of the isolated stage. -/
  retestAt : Nat
  /-- R130: the input has left OFF and its switch has not closed yet. -/
  joining : Bool
  /-- R130: the mode that a mode change leaves in effect, and when a running conversion of the input ends it. -/
  oldMode : Option (Nat × Nat)
deriving DecidableEq, Repr

/-- Hidden state of a presence detector (R134 to R136). -/
structure PirSt where
  /-- Times of the excursions still inside the window, newest first. -/
  exc : List Nat
  holdEnd : Option Nat
  warmEnd : Option Nat
  satEnd : Option Nat
deriving DecidableEq, Repr

/-- The input stages, detectors and capture units. -/
structure InpState where
  st : Tbl InputSt
  pir : Tbl PirSt
  /-- R133: counts of the 32 capture units. -/
  cap : Tbl Nat
deriving DecidableEq, Repr

/-! ### Converters and the result queue (05) -/

/-- R151, R153: a run of a sequence entry. -/
structure EntryRun where
  k : Nat
  /-- The fields, as copied at the first sampling. -/
  lo : Word
  hi : Word
  /-- R126: each conversion is a pair. -/
  pair : Bool
  /-- When the next sampling phase (SAR) or conversion (P, Q) of the run starts. -/
  start : Nat
  /-- R153: when the conversions already made fell; a pair counts as one. -/
  made : List Nat
deriving DecidableEq, Repr

/-- Hidden state of a converter and its sequencer. -/
structure CnvSt where
  /-- A pass is under way: the entry in hand. -/
  cur : Option EntryRun
  /-- R148: no pass since the converter was enabled. -/
  fresh : Bool
  /-- NENT and PERIOD in force since the last pass start (R151). -/
  nent : Nat
  period : Nat
  /-- Nominal start of the last pass, end of the last pass. -/
  nominal : Nat
  finished : Nat
  /-- R145: when the last bit conversion started; none at a cold start. -/
  bitAt : Option Nat
  /-- R146: the entry just converted, for repeats without change. -/
  lastEntry : Option (Nat × Word × Word)
  /-- R155: pending urgent requests, oldest first. -/
  urgent : List Nat
  /-- R151: EN was cleared; the converter stops when the entry in hand ends. -/
  stopping : Bool
  /-- R145, R151: the entry that is sampled while the last bit conversion of the entry in hand runs, when a write came
  after that sampling began: whether it is of the next pass, its number and its fields as they were. -/
  next : Option (Bool × Nat × Word × Word)
  /-- R153: the urgent run under way. -/
  urg : Option EntryRun
  /-- R153: since when the oldest pending urgent request waits for its turn. -/
  urgAt : Nat
deriving DecidableEq, Repr

/-- R162: an entry of a partition. -/
structure PartEntry where
  point : Nat
  val : F32
  hi : Word
deriving DecidableEq, Repr

/-- The result queue. -/
structure RqState where
  cmb : List PartEntry
  crown : List PartEntry
  stream : List PartEntry
  /-- R163: the next entry delivered from the partition carries LOST. -/
  lostNext : Tbl Bool
  /-- R169: latest SAR result of a shared point: value and time stamp in µs. -/
  lastSar : Tbl (Option (F32 × Nat))
  /-- R170: consecutive passing comparisons. -/
  passes : Tbl Nat
  /-- R173: the shadow of each reader. -/
  shadow : Tbl Word
  /-- R175: when the time base restarted. -/
  origin : Nat
deriving DecidableEq, Repr

/-- An input stage after reset of its domain (R141). -/
def inputSt0 : InputSt := ⟨none, none, 0, 0, 0, false, 0, none, none, none, none, 0, 0, 0, false, none⟩
/-- A presence detector after reset. -/
def pirSt0 : PirSt := ⟨[], none, none, none⟩
/-- A converter after reset of its domain. -/
def cnvSt0 : CnvSt := ⟨none, true, 0, 0, 0, 0, none, none, [], false, none, none, 0⟩

/-! ### Sensor ports and Twig (06) -/

/-- Hidden state of a sensor port. -/
structure I2cSt where
  /-- Transaction in hand. -/
  cur : Option Nat
  fresh : Bool
  nominal : Nat
  finished : Nat
  /-- R185: the transaction in hand has failed once. -/
  retry : Bool
  /-- R182: the wait after a transaction ends then. -/
  delayEnd : Option Nat
  /-- R188: script, write data and extractions as copied at the pass start, keyed by register address. -/
  script : Tbl Word
  ntr : Nat
  /-- R188: SPEED and PULL in force. -/
  line : Nat
  /-- R180: consecutive good tests while OVV. -/
  good : Nat
  /-- R186: when the last recovery ran. -/
  recAt : Nat
  /-- R189: staging copy of BUS.I2C_SCRIPT, keyed by register address. -/
  staged : Tbl Word
  /-- The bytes the port last put on the bus. -/
  out : List Byte
  /-- R180: the overvoltage, or the last test of the lines. -/
  ovvAt : Nat
  /-- R186: a clock stretch above 25 ms: the bus is judged stuck and a recovery is due. -/
  stuckDue : Bool
deriving DecidableEq, Repr

/-- A port after reset of the BUS domain. -/
def i2cSt0 : I2cSt := ⟨none, true, 0, 0, false, none, [], 0, 0, 0, 0, [], [], 0, false⟩

/-- R196, R200: a request frame of the part: address, command, payload, how often it was sent. -/
structure TwReq where
  addr : Nat
  cmd : Nat
  payload : List Byte
  sent : Nat
deriving DecidableEq, Repr

/-- R208 to R211: a discovery run: mode, prefix found so far, its length, addresses assigned and refused. -/
structure TwRun where
  full : Bool
  cmd : Option Nat
  pre : Nat
  len : Nat
  assigned : Nat
  refused : Nat
deriving DecidableEq, Repr

/-- Hidden state of a Twig segment. -/
structure TwSt where
  /-- R192: no frame before this time. -/
  waitEnd : Option Nat
  /-- R191: next switching-on after a fault; the present try follows a fault. -/
  retryAt : Option Nat
  retrying : Bool
  /-- R204: nominal start of the last round, end of the last round, addresses still to poll. -/
  nominal : Nat
  finished : Nat
  fresh : Bool
  toPoll : List Nat
  /-- The request that waits for its reply, with its TGL. -/
  await : Option TwReq
  queue : List TwReq
  run : Option TwRun
  /-- R210: when the last automatic search ran. -/
  autoAt : Nat
  /-- The last frame the part sent (R196), and when its last bit ends. -/
  out : List Byte
  frameEnd : Nat
  /-- R199: the next frame starts no earlier than this. -/
  gap : Nat
  /-- R191: since when the limiter holds the current without a break. -/
  limitAt : Option Nat
deriving DecidableEq, Repr

/-- A segment after reset. -/
def twSt0 : TwSt := ⟨none, none, false, 0, 0, true, [], none, [], none, 0, [], 0, 0, none⟩

/-- Sensor ports and Twig. -/
structure FieldState where
  i2c : Tbl I2cSt
  seg : Tbl TwSt
  /-- R201: TGL of the last new request to unit u. -/
  tgl : Tbl Bool
  /-- R211: consecutive CRC failures with a reply current, per unit. -/
  crcRun : Tbl Nat
  /-- R203: display data last written, key 8·u + field, and when. -/
  disp : Tbl (List Byte)
  dispAt : Tbl (Option Nat)
deriving DecidableEq, Repr

/-! ### Cambium, tuners and zone models (07, 08) -/

/-- R223: what Cambium keeps of a point: the latest valid value, how many valid values have arrived, and whether the
latest value to arrive was valid. -/
structure PointIn where
  val : F32
  /-- The number of its last valid arrival; 0 before the first. -/
  arrival : Nat
  ok : Bool
deriving DecidableEq, Repr

/-- Hidden state of a slot. -/
structure SlotSt where
  pvCnt : Nat
  spCnt : Nat
  ffCnt : Nat
  /-- R224: arrivals of values in Cambium up to the last evaluation. -/
  seen : Nat
  /-- Filtered measurement and error of the last evaluation. -/
  pvf : F32
  err : F32
  /-- The last valid PV, SP and FF; none before the first. -/
  pvLast : Option F32
  spLast : Option F32
  ffLast : Option F32
  /-- R222: a remote setpoint has been written. -/
  rspSet : Bool
  /-- R271: ticks with SUBST, ticks of unbroken valid measured PV. -/
  substTicks : Nat
  goodTicks : Nat
deriving DecidableEq, Repr

/-- A slot after reset of the CMB domain. -/
def slotSt0 : SlotSt := ⟨0, 0, 0, 0, 0, 0, none, none, none, false, 0, 0⟩

/-- Hidden state of a tuner (R250 to R252). -/
structure TunSt where
  /-- Relay state: true for +1. -/
  up : Bool
  /-- A switch to −1 has been made; tick of the last switch to +1 that began a cycle. -/
  downSeen : Bool
  cycStart : Option Nat
  pvMax : F32
  pvMin : F32
  /-- Lengths of the last cycles in ticks and their amplitudes, newest first, at most three. -/
  periods : List Nat
  amps : List F32
  startTick : Nat
  /-- R253: EN was cleared. -/
  stop : Bool
  /-- The slot of the run, taken from SLOT when it was armed. -/
  slot : Nat
deriving DecidableEq, Repr

/-- A tuner at rest. -/
def tunSt0 : TunSt := ⟨false, false, none, 0, 0, [], [], 0, false, 0⟩

/-- R255: a LOOP.TUNE run: tuner, slot, command, rule set, APPLY, the reason that firmware reports in place of
STOPPED. -/
structure TuneRun where
  tuner : Nat
  slot : Nat
  cmd : Nat
  rule : Nat
  apply : Bool
  reason : Option Nat
  /-- The resources held, with the overlays that named each at the start (R257). -/
  held : List (Word × List Nat)
deriving DecidableEq, Repr

/-- Hidden state of a zone model (R258 to R262). -/
structure ModSt where
  theta : List F64
  p : List F64
  rho2 : F64
  /-- y(k−1) and y(k−2) with whether each was measured. -/
  y1 : F64 × Bool
  y2 : F64 × Bool
  /-- u1(k−1) to u4(k−1). -/
  u : List F64
  /-- Readings of u1 in the running period: sum and count. -/
  uSum : F64
  uCnt : Nat
  /-- R265: the source word of u1 in force. -/
  uSrc : Word
  /-- Period in force and the last boundary. -/
  tm : Nat
  last : Nat
  /-- R264: the number of its last estimate as an arrival. -/
  arrival : Nat
  /-- y last seen valid at a boundary. -/
  yNow : F64
  /-- R268, R269: the start and stop leads last computed, in s. -/
  leads : Nat × Nat
  /-- R259: the second up to which u1 has been read. -/
  uAt : Nat
  /-- R260: no update, restore or model reset since the domain's reset: ρ is still to start at CREF. -/
  fresh : Bool
deriving DecidableEq, Repr

/-- A model after reset (R260, R265): θ = 0, P 1,000 times the identity, ρ = CREF at its reset value. -/
def modSt0 : ModSt :=
  ⟨List.replicate 7 0, (List.range 28).map (fun k => if k ∈ [0, 7, 13, 18, 22, 25, 27] then 0x408F400000000000 else 0),
    0x3FD0000000000000, (0, false), (0, false), [0, 0, 0, 0], 0, 0, 0, 60, 0, 0, 0, (0, 0), 0, true⟩

/-- Cambium, the tuners and the estimator. -/
structure CambState where
  /-- R215: the next tick, and when tick 0 was. -/
  tick : Nat
  t0 : Nat
  /-- R218: values in force of registers with a staged write, keyed by address. -/
  held : Tbl Word
  slot : Tbl SlotSt
  points : Tbl PointIn
  /-- R224: values that have arrived in the point store, and estimates made. -/
  arrived : Nat
  /-- R234: value last sent, key 4·slot + destination; none: send at the next evaluation. -/
  sent : Tbl (Option F32)
  tun : Tbl TunSt
  runs : List TuneRun
  model : Tbl ModSt
deriving DecidableEq, Repr

/-! ### Drive channels, fans, energy scheduler (10, 11) -/

/-- R348, R22: a request of the energy scheduler. -/
structure Req where
  /-- 0 MOVE, 1 HOLD_ON, 2 PULSE. -/
  kind : Nat
  /-- 0 safety, 1 comfort, 2 maintenance. -/
  cls : Nat
  dir : Bool
  /-- Predicted current in mA. -/
  icur : Nat
  /-- DUR in ms, 0 until cancelled; R350: what is still to be issued after it. -/
  dur : Nat
  rest : Nat
  /-- The demand it serves; a MOVE to an end stop. -/
  target : F32
  toEnd : Bool
deriving DecidableEq, Repr

/-- What the energy scheduler and the Bark stage hold of a drive channel beside its registers. -/
structure ChanSt where
  /-- R314: the latest value from the slot destination, or from the fan controller (R335). -/
  slotDem : Option F32
  /-- R349, R353: what arrived since the last cycle: a request, cancellation of the pending and of the running one. -/
  fresh : Option Req
  cancelPend : Bool
  cancelRun : Bool
  pend : Option Req
  /-- Join time and its place among equal join times; R362: place in the order of aging; R360; R363. -/
  joined : Nat
  joinOrd : Nat
  aged : Option Nat
  rejected : Bool
  suspended : Bool
  run : Option Req
  admAt : Nat
  admOrd : Nat
  leaseEnd : Nat
  /-- R319, R366: no MOVE is formed before; a shed MOVE keeps its join time. -/
  deadEnd : Option Nat
  keepJoin : Option (Nat × Nat)
  /-- R320: the run in hand looks for the closed end. -/
  homing : Bool
  /-- R315: start of the next TPM period. -/
  tpmAt : Option Nat
  /-- Stage: on since; direction; p then; sum and count of current readings after the first 300 ms (R351). -/
  startAt : Option Nat
  dir : Bool
  p0 : F32
  imSum : Nat
  imCnt : Nat
  /-- R321: the AO code in force. -/
  ao : Nat
  /-- R325: consecutive shorts; no switching on before. -/
  shorts : Nat
  retryAt : Nat
  /-- R313: the new mode applies then. -/
  modeDue : Option Nat
  /-- R322: last accepted state, last reading and how many equal. -/
  din : Option Bool
  dinLast : Bool
  dinEqual : Nat
  /-- R330: a safe run: its direction; it is under way. -/
  safeRun : Option Bool
  safeOn : Bool
  /-- R322, R323: the last reading of the contact and the last report. -/
  readAt : Option Nat
  reportAt : Option Nat
  /-- R324: the current readings in mA of the last 10 ms, newest first. -/
  meas : List Int
  /-- R24: DUR in ms of the request that the stage carries out, 0 until cancelled. -/
  stageDur : Nat
  /-- R327, R328: the AO output is switched off. -/
  aoOff : Bool
  /-- R329: the safe value ON of an LSW channel is in force. -/
  safeLsw : Bool
  /-- R318: when a run last ended at its DUR, with its DIR and whether its target was an end. -/
  doneAt : Option (Nat × Bool × Bool)
deriving DecidableEq, Repr

/-- A channel after reset. -/
def chanSt0 : ChanSt :=
  ⟨none, none, false, false, none, 0, 0, none, false, false, none, 0, 0, 0, none, none, false, none, none, false, 0, 0, 0,
    0, 0, 0, none, none, false, 0, none, false, none, none, [], 0, false, false, none⟩

/-- R345: a DRIVE.CALIBRATE run: command, channel (even for a pair), phase 0 closing, 1 opening, 2 closing, 3 an LSW
channel on; times found in 10 ms. -/
structure CalRun where
  cmd : Nat
  chan : Nat
  phase : Nat
  tOpen : Nat
  tClose : Nat
  runMa : Nat
  /-- Milliseconds already run in this phase before its request was shed or suspended. -/
  ran : Nat
deriving DecidableEq, Repr

/-- The energy scheduler and the drive stages. -/
structure DrvState where
  chan : Tbl ChanSt
  /-- R330: pairs whose safe run is still to start, in order; no start before. -/
  safeQ : List (Nat × Bool)
  safeAt : Nat
  /-- Counters that order joins, agings and admissions. -/
  joinCtr : Nat
  ageCtr : Nat
  admCtr : Nat
  /-- R361: the last motor start. -/
  lastMotor : Option Nat
  /-- R355: VFIELD samples in mV, newest first, at most 100. -/
  vf : List Int
  /-- R358: the estimate of Ta in force; none before the first. -/
  ta : Option F32
  taAt : Nat
  /-- R368: when the last allotment arrived. -/
  allotAt : Option Nat
  cycleAt : Nat
  cal : List CalRun
deriving DecidableEq, Repr

/-- Hidden state of a fan (R333 to R342). -/
structure FanSt where
  slotDem : Option F32
  /-- Times of accepted edges, newest first, at most 5. -/
  edges : List Nat
  /-- R336: start of the stall window. -/
  winAt : Nat
  /-- R337: waits since the count was at its start; end of the wait; start of the kick and the edges in it. -/
  waits : Nat
  waitEnd : Option Nat
  kickAt : Option Nat
  kickEdges : List Nat
  /-- R339: the wait is over and the kick waits for its supply. -/
  kickDue : Bool
  /-- R338: running since. -/
  runAt : Nat
  integ : F32
  duty : F32
  loopAt : Nat
  /-- The last speed report. -/
  reportAt : Option Nat
  /-- R340: since when the current of the supply is outside its band during TACH_LOST. -/
  outAt : Option Nat
deriving DecidableEq, Repr

/-- A fan after reset of BRK. -/
def fanSt0 : FanSt := ⟨none, [], 0, 0, none, none, [], false, 0, 0, 0, 0, none, none⟩

/-! ### Building buses (12) -/

/-- What the BACnet device says: the body of a message (R378 to R380). -/
inductive BacBody where
  | simpleAck
  /-- Property values; a list of words each, in the order asked. -/
  | values (l : List (BacRef × List Word))
  /-- ReadRange: first record, records. -/
  | range (first : Nat) (l : List (List Word))
  /-- Error class and code, by name. -/
  | denied
  | outOfRange
  | unknownObject
  | unknownProperty
  | passwordFailure
  | noResource
  | reject
  | abort
  | iAm (device : Nat)
  | iHave (device obj inst : Nat)
  | cov (confirmed : Bool) (process : Word) (obj inst : Nat) (value flags : Word) (left : Nat)
deriving DecidableEq, Repr

/-- A message of the BACnet device: port, destination (none: broadcast), invoke identifier where it answers. -/
structure BacMsg where
  port : Nat
  dest : Option Byte
  invoke : Option Byte
  body : BacBody
deriving DecidableEq, Repr

/-- Hidden state of an RS-485 port. -/
structure BusPort where
  /-- R386: raw receive and transmit buffers, at most 256 bytes each. -/
  rx : List Byte
  tx : List Byte
  /-- When the first byte of the transmit buffer began to leave. -/
  txAt : Nat
  /-- The frames last put on the bus. -/
  out : List (List Byte)
  /-- R375: messages of the BACnet device that wait for the token, oldest first. -/
  queue : List BacMsg
  /-- R375: station polled for master; tokens since the last poll. -/
  pollSt : Nat
  tokens : Nat
  /-- R377: a Data Expecting Reply in hand: its source. -/
  expecting : Option Byte
  /-- The last NPDU delivered to firmware: source and octets. -/
  npdu : Option (Byte × List Byte)
  /-- R385: TMO in ms. -/
  tmo : Nat
  /-- R384: entry polled, whether it has been repeated, when its request ends; entries still to poll. -/
  await : Option (Nat × Bool × Nat)
  todo : List Nat
  /-- R375: the token: 0 not held, 1 just passed, 2 held while the port polls for masters, 3 held by the only master. -/
  token : Nat
  /-- R375: the token has been passed a second time; the port is the only master. -/
  again : Bool
  sole : Bool
deriving DecidableEq, Repr

/-- A port after reset of BUS; TMO at its smallest value (log entry 13). -/
def busPort0 : BusPort := ⟨[], [], 0, [], [], 0, 0, none, none, 10, none, [], 0, false, false⟩

/-- R380: a COV subscription. -/
structure CovSub where
  port : Nat
  source : Byte
  process : Word
  obj : Nat
  inst : Nat
  confirmed : Bool
  /-- When it ends; none: indefinite. -/
  until_ : Option Nat
  /-- Value and flags last notified. -/
  last : Option (Word × Word)
deriving DecidableEq, Repr

/-- The building buses. -/
structure BusState where
  port : Tbl BusPort
  /-- R384: when poll-list entry k last started. -/
  polled : Tbl (Option Nat)
  /-- R379: priority arrays, key 16·object + level; objects as the Analog Output instances. -/
  prio : Tbl (Option F32)
  subs : Tbl (Option CovSub)
  /-- Messages of the BACnet device, newest last; those of the last step. -/
  sent : List BacMsg
  /-- R380: communication 0 enabled, 1 disabled, 2 initiation disabled; until then. -/
  comm : Nat
  commEnd : Option Nat
  /-- R388: bytes last sent on SVC_TX. -/
  svcTx : List Byte
deriving DecidableEq, Repr

/-! ### Graft and the grove (13) -/

/-- What a node knows of another from its HELLOs. -/
structure GrNode where
  lastHello : Nat
  /-- R403: H of the latest HELLO on GFA and on GFB, plus 1; 0 none. -/
  hA : Nat
  hB : Nat
  ident : Nat
  role : Nat
  acting : Bool
  /-- SEQ of the latest HELLO. -/
  seq : Nat
deriving DecidableEq, Repr

/-- R400, R401: a frame that waits for credit at a port: its class, since when, and whether it is forwarded from the other
port, whose buffer it holds. -/
structure GrHeld where
  port : Nat
  cls : Nat
  at_ : Nat
  fwd : Bool
  frame : List Byte
deriving DecidableEq, Repr

/-- R404: an own request-class frame or MBOX_REPLY that waits for its ACK, or to be sent. -/
structure GrSend where
  cls : Nat
  seq : Nat
  dst : Nat
  frame : List Byte
  sentAt : Nat
  tries : Nat
  /-- The command that waits for the outcome. -/
  cmd : Option Nat
deriving DecidableEq, Repr

/-- R394: ordered sets sent. -/
inductive GrSet where
  | ping (n : Byte)
  | echo (n turnaround : Byte)
  | credit (cls count : Nat)
  | tick (count : Byte) (delay : Half)
deriving DecidableEq, Repr

/-- R424: the latest DEMAND of a node. -/
structure GrDemand where
  round : Nat
  ifix : Nat
  safe : Nat
  need : Nat
  allot : Nat
deriving DecidableEq, Repr

/-- R426: allocation of a share group: round last sent, members whose DEMAND must name it, entries of the lowering
frame, entries to raise, when last sent. -/
structure GrRound where
  round : Nat
  waiting : List Nat
  low : List (Nat × Nat)
  high : List (Nat × Nat)
  sentAt : Nat
deriving DecidableEq, Repr

/-- R430: a GROVE.SCHED_PUSH run: command, frames outstanding per node, nodes refused or unreachable. -/
structure PushRun where
  cmd : Nat
  nodes : Nat
  left : List (Nat × Nat)
  bad : Nat
deriving DecidableEq, Repr

/-- R415, R416: an imported point: last entry, period in 100 ms, next repeat. -/
structure ImportSt where
  at_ : Nat
  period : Nat
deriving DecidableEq, Repr

/-- R417, R418: a linked zone: last entry, mode, flags, setpoint. -/
structure ZoneIn where
  at_ : Nat
  mode : Nat
  flags : Nat
  sp : F32
deriving DecidableEq, Repr

/-- Graft and the grove services. -/
structure GraftState where
  nodes : Tbl (Option GrNode)
  /-- R398: SEQ last sent, key class; SEQ values accepted, key 4·source + class. -/
  seqTx : Tbl Nat
  seen : Tbl (List Nat)
  /-- R400: buffers of the neighbour in use, key 4·port + class; frames that wait: port, class, since, frame. -/
  used : Tbl Nat
  held : List GrHeld
  unacked : List GrSend
  backlog : List GrSend
  /-- What the node put on the line in the last step: port and frame, port and ordered set. -/
  out : List (Nat × List Byte)
  sets : List (Nat × GrSet)
  /-- R396: PING number and time outstanding per port; the next number; the last 16 delays per port; last PING. -/
  ping : Tbl (Option (Nat × Nat))
  pingNo : Nat
  delays : Tbl (List Nat)
  pingAt : Tbl Nat
  listenAt : Nat
  outAt : Nat
  helloAt : Nat
  /-- R411, R412: time of the last tick, its count modulo 256, free-running. -/
  tickAt : Nat
  tickMod : Nat
  freeRun : Bool
  /-- R427: when a TICK or HELLO of the acting master was last heard. -/
  masterAt : Nat
  /-- R413: a time word and the tick at which it applies. -/
  timeDue : Option (Word × Nat)
  /-- When TIME became due, plus 1; 0: not due. -/
  timeAt : Nat
  demand : Tbl (Option GrDemand)
  /-- When the next DEMAND is due; when the last allocation was. -/
  demandAt : Nat
  allocAt : Nat
  round : Tbl GrRound
  /-- R424, R427: round last applied, plus 1, key group; round last heard, plus 1, key 4 + group; allotments of the last
  ALLOT heard, key node. -/
  applied : Tbl Nat
  heard : Tbl Nat
  imports : Tbl (Option ImportSt)
  exportAt : Tbl (Option Nat)
  zoneIn : Tbl (Option ZoneIn)
  /-- R417: when the entry of a home zone was last sent, with what. -/
  zoneOut : Tbl (Option (Nat × Nat × Nat × F32))
  push : List PushRun
  /-- R422: when a node with forwarded commands in flight was last present. -/
  absentAt : Tbl (Option Nat)
deriving DecidableEq, Repr

/-- No allocation yet. -/
def grRound0 : GrRound := ⟨0, [], [], [], 0⟩

/-! ### Heartwood and the trend store (14) -/

/-- R449: what the parameters record holds. -/
structure ParamRec where
  /-- θ, ρ and NUPD of each zone. -/
  models : Tbl (List F64 × F64 × Word)
  cmdTrig : Tbl (Option Nat)
  modeOvr : Tbl (Option (Nat × Nat))
  spOvr : Tbl (Option (F32 × Nat))
  /-- Schedule and calendar words written by command or received from the grove, keys as in Image. -/
  sched : Tbl (Option Word)
  cal : Tbl (Option Word)
  /-- The trend cursor C: SSEQ and index. -/
  cursor : Nat × Nat
  bad : List Nat
deriving DecidableEq, Repr

/-- R446: CONTROL: the CRC of the image; of each slot INT, OUT, PV_f and EMODE; of each channel p, POSUNK, IRUN and
LEARNED. -/
structure ControlRec where
  imgCrc : Word
  slots : Tbl (Word × Word × F32 × Nat)
  chans : Tbl (F32 × Bool × Nat × Nat)
deriving DecidableEq, Repr

/-- The payload of a record; `torn` while a write has begun and not ended, or failed. -/
inductive Payload where
  | torn
  | image (len : Nat) (bytes : Tbl Byte)
  | params (p : ParamRec)
  | control (c : ControlRec)
  | models (m : Tbl (List F64))
  | recorder (m : Tbl Word)
  | user (w : Tbl Word)
  | keys (k : Tbl Nat)
deriving DecidableEq, Repr

/-- R436: a record frame and its payload. MAGIC, PART and SECT follow from the frame's number. -/
structure RecFrame where
  mark : Bool
  seq : Nat
  len : Nat
  crc : Word
  susp : Bool
  payload : Payload
  /-- R447: of a saved-state section, the number of the save that wrote it. -/
  save : Nat
deriving DecidableEq, Repr

/-- An empty frame. -/
def recFrame0 : RecFrame := ⟨false, 0, 0, 0, false, .torn, 0⟩

/-- R439: a journal entry; kind 1 intent, 2 commit, 3 rollback. -/
structure JEntry where
  jseq : Nat
  kind : Nat
  frame : Nat
  seq : Nat
  len : Nat
  crc : Word
deriving DecidableEq, Repr

/-- Heartwood and what firmware keeps beside it. -/
structure HeartState where
  /-- The record frames with their payloads, key frame. -/
  frames : Tbl RecFrame
  /-- R439: the journal, key JSEQ modulo 256. -/
  journal : Tbl (Option JEntry)
  /-- R443: slots of the counter rings, key 32·counter + slot: SEQ and value; SEQ 0: invalid. -/
  rings : Tbl (Nat × Nat)
  /-- R445: events since the last increment; queued slot writes, oldest first. -/
  cntAcc : Tbl Nat
  cntQ : List Nat
  /-- R450: the shadows of the user areas, key 2048·area + word. -/
  shadow : Tbl Word
  /-- R452: failed passwords of each area, and the end of its lockout: in the backup SRAM. -/
  fails : Tbl Nat
  lockEnd : Tbl (Option Nat)
  /-- R452: the backup SRAM has lost its contents since firmware last wrote it. -/
  bramLost : Bool
  /-- R442: a record write stopped by the power-fail warning: target frame and the command that caused it. -/
  stopped : Option (Nat × Option Nat)
  parAt : Nat
  saveAt : Nat
  /-- R447: saves so far; the number of the last completed power-fail save. -/
  saveCtr : Nat
  pfSave : Option Nat
  /-- R266: a ZONE.MODEL_RESET since the parameters record was last written. -/
  modelDue : Bool
  /-- R445: what each counter has taken of its source: the count of edges or of started requests, or the time up to which
  seconds have counted. -/
  cntMark : Tbl Nat
  /-- R435: the last scrub. -/
  scrubAt : Nat
deriving DecidableEq, Repr

/-- R454: a trend record. -/
structure TrendRec where
  time : Word
  log : Nat
  point : Nat
  pflags : Nat
  rflags : Nat
  val : F32
deriving DecidableEq, Repr

/-- R454: a sector with its number in the store, its SSEQ and its records, oldest first. -/
structure TrSec where
  phys : Nat
  sseq : Nat
  recs : List TrendRec
deriving DecidableEq, Repr

/-- The trend store. -/
structure TrendState where
  /-- R456: the buffer, oldest first, with times of arrival. -/
  buf : List (TrendRec × Nat)
  /-- The sectors that hold a header, oldest first, the head last. -/
  secs : List TrSec
  /-- Sectors of the store; those that failed. -/
  nsec : Nat
  bad : List Nat
  open_ : Bool
  closed : Bool
  /-- R455, R456: per log: the next record carries GAP; value and flags last recorded; the second of the last record. -/
  gap : Tbl Bool
  last : Tbl (Option (F32 × Nat))
  lastSec : Tbl (Option Nat)
  /-- R459: cursor C, read pointer R, snapshot end E: SSEQ and index. -/
  c : Nat × Nat
  r : Nat × Nat
  e : Nat × Nat
  tlost : Nat
  badrec : Nat
  lostc : Nat
deriving DecidableEq, Repr

/-! ### Recorder (15) -/

/-- R463: a sample that arrived: channel, number and time word of its boundary (none: time invalid), value, flags. -/
structure RecSample where
  chan : Nat
  sec : Nat
  time : Option Word
  val : F32
  flags : Nat
deriving DecidableEq, Repr

/-- The growth-ring recorder. -/
structure RecorderState where
  /-- R481: its banks have been tested since the domain powered up. -/
  up : Bool
  /-- R468: the memory, by word address. -/
  mem : Tbl Word
  /-- R472: per reader 0, 1 core, 2 host: cursor; window, key 16·reader + k. -/
  cursor : Tbl Word
  win : Tbl Word
  /-- Samples that arrived and wait for their boundary; R473: since when updates are deferred. -/
  samples : List RecSample
  defer : Option Nat
  /-- R473: presence writes deferred. -/
  presWait : List Word
  /-- The number of the last boundary whose layers were closed, and its time word (none: time invalid). -/
  doneSec : Nat
  lastWord : Option Word
  /-- R466: a change of the clock not yet acted on. -/
  changed : Bool
  scrubAt : Nat
  /-- R483: clears so far. -/
  clears : Nat
  /-- R463: the last boundary of which a channel took a sample, plus 1. -/
  took : Tbl Nat
deriving DecidableEq, Repr

/-! ### Clock and backup domain (16) -/

/-- The real-time clock beside its registers. -/
structure RtcState where
  /-- Second boundaries counted since the state after reset, and when the last one was. -/
  secs : Nat
  phase : Nat
  /-- R494: RTC_SUBSEC while halted or the oscillator is stopped. -/
  sub : Nat
  /-- R491: the readers' shadows, key 16·reader + register. -/
  shadow : Tbl Word
  /-- R495: RTC_SEC has been written in this halt. -/
  secWritten : Bool
  /-- R496: CAL in force, and when the last window ended. -/
  cal : Nat
  winAt : Nat
  oscStop : Bool
  /-- R500: BKP is held in reset. -/
  held : Bool
  /-- R607: a change of the clock not yet acted on. -/
  change : Bool
  /-- R506: a grove TIME that waits for the release of the RTC block. -/
  waitTime : Option Word
  vbat : Nat
  /-- R496: how far the calibration window had come when the oscillator stopped. -/
  winCnt : Nat
deriving DecidableEq, Repr

/-! ### Power, reset, thermal (17, 18) -/

/-- R519: why a device reset is held. -/
inductive Held where
  /-- Power-on reset asserted. -/
  | por
  /-- RESET_N low. -/
  | pin
  /-- Thermal shut-down of a die (R545): since when. -/
  | therm (die : Nat) (at_ : Nat)
deriving DecidableEq, Repr

/-- Power, reset and start-up beside the registers. -/
structure PowerState where
  held : Option Held
  /-- RESET_N is low. -/
  pinLow : Bool
  /-- Start-up step 8 has been passed (R516); start-up is due. -/
  inService : Bool
  startDue : Bool
  /-- R524: SYS.RESET with SCOPE 2: the next start-up is a recovery boot. -/
  recNext : Bool
  /-- R75, R532: a Crown restart after a watchdog expiry is under way since then. -/
  crownAt : Option Nat
  /-- R522: the last kick, or the release of the Crown reset; SYS_CWD has been written. -/
  kickAt : Nat
  cwdLocked : Bool
  /-- R530: t0 of the last device start. -/
  t0 : Nat
  /-- R516, R517: domains the warning switched off; the request in SYS_OPP0 that it replaced, 0 for none. -/
  pfOff : Word
  pfOpp : Word
  /-- R511: domains that power up then, key the bit in SYS_PWRCTL. -/
  upAt : Tbl (Option Nat)
  /-- The two image slots of the flash, key 131072·slot + word; unlisted: erased. -/
  flash : Tbl Word
  /-- R390, R391: size of the flash in Mbit; its SFDP tables have been read. -/
  flashMbit : Nat
  sfdp : Bool
  /-- R533: the Heartwood die answered at start-up. -/
  heartOk : Bool
  /-- R535: fuses blown in service. -/
  svnf : Option Nat
  /-- R564: TEN was high when the power-on reset released. -/
  tenHi : Bool
  /-- R514: since when PFAIL_N is high and VIN more than 100 mV above VWARN, by the last readings; none: not so. -/
  vinGood : Option Nat
  /-- R516: the warning rose during a Crown restart, and firmware's part is still to do. -/
  pfLate : Bool
deriving DecidableEq, Repr

/-- The thermal monitor and the safety comparator. -/
structure ThermState where
  /-- R540: excluded sensors: consecutive clean samples, plus 1; 0 not excluded. -/
  excl : Tbl Nat
  sampleAt : Nat
  /-- R539: since when every good sensor has read below the lower limit. -/
  coolAt : Option Nat
  /-- R545: consecutive cool samples in a hold. -/
  cool : Nat
  /-- R549: SAFE_STOP_N stays asserted until then. -/
  assertEnd : Option Nat
  /-- R554: expiries of SAFE.FORCE: PIN (0 none), OVERLAY in FwState. -/
  pinForce : Option Nat
  safeSel : Nat
  /-- R542: the level that the temperature of a die has reached, by die. -/
  level : Tbl Nat
  /-- R528: when the power-on reset released: the comparator works 1 ms later. -/
  porAt : Nat
deriving DecidableEq, Repr

end Sys2Proof.Machine
end

