-- ==== Sys2Proof/Config.lean ====
section
/-! DEFINITION. Sys2Proof/Config.lean: what the spec leaves open. Every constant here has no body: nothing can be
proved of its value, so a claim holds whatever it is (the log entries name each). -/

namespace Sys2Proof

open Sys2Proof.Machine

/-- A free value: the word drawn at a count of State.free (log entry 5). -/
opaque Config.freeWord : Nat → Word
/-- R303, R305: the image that bytes spell; none when the header or format check of step 2 fails. The byte layout of
an image is not in the spec (log entry 10). -/
opaque Config.parseImage : List Byte → Option Image
/-- R303, R305: the bytes of the active image with overlay k replaced by the bytes sent; none when the check of step 2
fails (log entry 10). -/
opaque Config.mergeOverlay : List Byte → Nat → List Byte → Option (List Byte)
/-- R534: HASH matches the body and SIG verifies with the public key in ROM (log entry 11). -/
opaque Config.imageSigned : List Word → Bool
/-- R535: the fused security floor as manufactured. -/
opaque Config.svnFloor : Fin 32
/-- R446, R449: a word of the payload of a record whose byte layout the spec does not give: frame, SEQ and word offset
(log entry 16). -/
opaque Config.heartWord : Nat → Nat → Nat → Word
/-- R566: the serial number of the device, less 1, modulo 2^48 - 1: it is never 0. -/
opaque Config.serial : Nat

end Sys2Proof
end

