-- ==== Sys2Proof/Machine/RegMap.lean ====
section
/-! DEFINITION. Sys2Proof/Machine/RegMap.lean: every register of the expert block space (R34): one address function
and one table entry per register family, with the write masks of its fields by type (R3), its reset value (R5), its
power domain (R34, R35) and the object it belongs to (R93). The host-port registers stand at their mirror (R34). -/

namespace Sys2Proof.Machine

open Sys2Proof

/-- How the power domain of a register family is found (R34, R35). -/
inductive DomKind where
  /-- One domain for the whole family. -/
  | one (d : Dom)
  /-- Input n: RTA for 0 to 47, RTB for 48 to 95. -/
  | byAin
  /-- Sequence entry n of converter n / 32: RTA for A and B, RTB for C and D, RTP for P and Q. -/
  | bySeq
  /-- Converter n, as above. -/
  | byCnv
deriving DecidableEq, Repr

/-- How the object of a register is found (R93, R102). -/
inductive ObjKind where
  /-- The block object 0x1F with the block number of R93. -/
  | blk (n : Nat)
  /-- An object of type `t`, its number the first index. -/
  | idx (t : Nat)
  /-- Presence detector k: the pin object of AIN84 + k. -/
  | pir
  /-- A script entry of the sensor ports: the port its PORT field names. -/
  | i2cx
deriving DecidableEq, Repr

/-- How the reset value depends on the index. -/
inductive RstKind where
  /-- The same value for every instance. -/
  | const
  /-- ROOT_SEQHI: 0x3E8 for converters P and Q, else 3 (R152). -/
  | seqHi
  /-- CAMB_ORDERi: i (R217). -/
  | index
  /-- MODEL_Pzk: 1000.0 at the diagonal of the triangle, else 0 (R260). -/
  | modelP
deriving DecidableEq, Repr

/-- One register family: base, (stride, count) of each index, field masks by type, reset value, domain, object. -/
structure RegDesc where
  base : Nat
  dims : List (Nat × Nat)
  rw : Word
  w1c : Word
  w1s : Word
  reset : Word
  rst : RstKind
  dom : DomKind
  obj : ObjKind
deriving DecidableEq, Repr

/-- SYS_RSTCAUSE: R520, R537 (17_power_reset_startup.md). -/
def aSysRstcause : Nat := 0x010000
/-- SYS_STRAP: R529, R537 (17_power_reset_startup.md). -/
def aSysStrap : Nat := 0x010004
/-- SYS_BOOTSTAT: R537 (17_power_reset_startup.md). -/
def aSysBootstat : Nat := 0x010008
/-- SYS_CWD: R522, R537 (17_power_reset_startup.md). -/
def aSysCwd : Nat := 0x01000C
/-- SYS_PWRCTL: R511, R537 (17_power_reset_startup.md). -/
def aSysPwrctl : Nat := 0x010010
/-- SYS_PWRSTAT: R511, R537 (17_power_reset_startup.md). -/
def aSysPwrstat : Nat := 0x010014
/-- SYS_PFCFG: R514, R515, R537 (17_power_reset_startup.md). -/
def aSysPfcfg : Nat := 0x010018
/-- SYS_PFSTAT: R515, R516, R510, R537 (17_power_reset_startup.md). -/
def aSysPfstat : Nat := 0x01001C
/-- SYS_OPPn: R14-R17 (01_architecture.md). -/
def aSysOpp (n : Nat) : Nat := 0x010020 + 4 * n
/-- SYS_SFERR: R33 (01_architecture.md). -/
def aSysSferr : Nat := 0x010040
/-- SYS_SFDROP: R19, R31 (01_architecture.md). -/
def aSysSfdrop : Nat := 0x010044
/-- HP_ID: R53 (02_host_port_mailboxes.md). -/
def aHpId : Nat := 0x020000
/-- HP_STAT: R53 (02_host_port_mailboxes.md). -/
def aHpStat : Nat := 0x020004
/-- HP_IRQ: R53, R54 (CH and DB are computed) (02_host_port_mailboxes.md). -/
def aHpIrq : Nat := 0x020008
/-- HP_IRQEN: R53 (02_host_port_mailboxes.md). -/
def aHpIrqen : Nat := 0x02000C
/-- HP_EPOCH: R71 (02_host_port_mailboxes.md). -/
def aHpEpoch : Nat := 0x020010
/-- HP_ERRLOG: R51, R55 (02_host_port_mailboxes.md). -/
def aHpErrlog : Nat := 0x020014
/-- HP_HOSTWD: R76 (EXPIRED is HP_STAT.HOSTLOSS) (02_host_port_mailboxes.md). -/
def aHpHostwd : Nat := 0x020018
/-- HP_DBIN: R69 (02_host_port_mailboxes.md). -/
def aHpDbin : Nat := 0x020020
/-- HP_DBOUT: R69, R70 (02_host_port_mailboxes.md). -/
def aHpDbout : Nat := 0x020024
/-- HP_CHIRQ: R54, R57 (OFULL mirrors STAT.FULL) (02_host_port_mailboxes.md). -/
def aHpChirq : Nat := 0x020028
/-- HP_CHIRQEN: R54 (02_host_port_mailboxes.md). -/
def aHpChirqen : Nat := 0x02002C
/-- HP_IN_Mnk: R56, R80 (02_host_port_mailboxes.md). -/
def aHpInM (n : Nat) (k : Nat) : Nat := 0x020100 + 128 * n + 4 * k
/-- HP_IN_CTLn: R56, R61, R67 (02_host_port_mailboxes.md). -/
def aHpInCtl (n : Nat) : Nat := 0x020140 + 128 * n
/-- HP_IN_STATn: R56 (02_host_port_mailboxes.md). -/
def aHpInStat (n : Nat) : Nat := 0x020144 + 128 * n
/-- HP_IN_TMOn: R60, R67 (02_host_port_mailboxes.md). -/
def aHpInTmo (n : Nat) : Nat := 0x020148 + 128 * n
/-- HP_IN_SEQn: R66 (02_host_port_mailboxes.md). -/
def aHpInSeq (n : Nat) : Nat := 0x02014C + 128 * n
/-- HP_OUT_Mnk: R56, R80 (02_host_port_mailboxes.md). -/
def aHpOutM (n : Nat) (k : Nat) : Nat := 0x020900 + 128 * n + 4 * k
/-- HP_OUT_CTLn: R56, R61, R67 (02_host_port_mailboxes.md). -/
def aHpOutCtl (n : Nat) : Nat := 0x020940 + 128 * n
/-- HP_OUT_STATn: R56 (02_host_port_mailboxes.md). -/
def aHpOutStat (n : Nat) : Nat := 0x020944 + 128 * n
/-- HP_OUT_TMOn: R60, R67 (02_host_port_mailboxes.md). -/
def aHpOutTmo (n : Nat) : Nat := 0x020948 + 128 * n
/-- HP_OUT_SEQn: R66 (02_host_port_mailboxes.md). -/
def aHpOutSeq (n : Nat) : Nat := 0x02094C + 128 * n
/-- ROOT_SEQLOn: R149-R152 (05_converters_results.md). -/
def aRootSeqlo (n : Nat) : Nat := 0x030000 + 8 * n
/-- ROOT_SEQHIn: R152 (05_converters_results.md). -/
def aRootSeqhi (n : Nat) : Nat := 0x030004 + 8 * n
/-- ROOT_CNVCTLn: R148, R151 (05_converters_results.md). -/
def aRootCnvctl (n : Nat) : Nat := 0x030800 + 16 * n
/-- ROOT_CNVSTATn: R148, R151, R155 (05_converters_results.md). -/
def aRootCnvstat (n : Nat) : Nat := 0x030804 + 16 * n
/-- ROOT_URGn: R153-R156 (05_converters_results.md). -/
def aRootUrg (n : Nat) : Nat := 0x030808 + 16 * n
/-- ROOT_CNVCNTn: R148, R155 (05_converters_results.md). -/
def aRootCnvcnt (n : Nat) : Nat := 0x03080C + 16 * n
/-- ROOT_AINCFGn: R116, R142 (04_analogue_inputs.md). -/
def aRootAincfg (n : Nat) : Nat := 0x034000 + 4 * n
/-- ROOT_AINSTATn: R121-R124 (04_analogue_inputs.md). -/
def aRootAinstat (n : Nat) : Nat := 0x034200 + 4 * n
/-- ROOT_PIRCFGn: R135 (04_analogue_inputs.md). -/
def aRootPircfg (n : Nat) : Nat := 0x034400 + 4 * n
/-- ROOT_PIRSTATn: R134-R136 (04_analogue_inputs.md). -/
def aRootPirstat (n : Nat) : Nat := 0x034440 + 4 * n
/-- ROOT_STDAC: R138 (04_analogue_inputs.md). -/
def aRootStdac : Nat := 0x034480
/-- RQ_PCFGn: R165 (05_converters_results.md). -/
def aRqPcfg (n : Nat) : Nat := 0x040000 + 64 * n
/-- RQ_PLIMn: R169 (05_converters_results.md). -/
def aRqPlim (n : Nat) : Nat := 0x040004 + 64 * n
/-- RQ_LOn: R161 (05_converters_results.md). -/
def aRqLo (n : Nat) : Nat := 0x040008 + 64 * n
/-- RQ_HIn: R161 (05_converters_results.md). -/
def aRqHi (n : Nat) : Nat := 0x04000C + 64 * n
/-- RQ_Cnk: R167 (05_converters_results.md). -/
def aRqC (n : Nat) (k : Nat) : Nat := 0x040010 + 64 * n + 4 * k
/-- RQ_XMINn: R167, R608 (05_converters_results.md). -/
def aRqXmin (n : Nat) : Nat := 0x040028 + 64 * n
/-- RQ_XMAXn: R167, R608 (05_converters_results.md). -/
def aRqXmax (n : Nat) : Nat := 0x04002C + 64 * n
/-- RQ_PTSTATn: R169, R170, R608 (05_converters_results.md). -/
def aRqPtstat (n : Nat) : Nat := 0x040030 + 64 * n
/-- RQ_TABnk: R167 (05_converters_results.md). -/
def aRqTab (n : Nat) (k : Nat) : Nat := 0x044000 + 256 * n + 4 * k
/-- RQ_LVTLOn: R172, R175 (05_converters_results.md). -/
def aRqLvtlo (n : Nat) : Nat := 0x048000 + 8 * n
/-- RQ_LVTHIn: R172, R175 (05_converters_results.md). -/
def aRqLvthi (n : Nat) : Nat := 0x048004 + 8 * n
/-- RQ_PARTn: R162, R163 (05_converters_results.md). -/
def aRqPart (n : Nat) : Nat := 0x048800 + 4 * n
/-- RQ_TIMEMS: R159 (computed from the time base) (05_converters_results.md). -/
def aRqTimems : Nat := 0x04880C
/-- CAMB_CTLn: R237 (07_loop_engine.md). -/
def aCambCtl (n : Nat) : Nat := 0x050000 + 256 * n
/-- CAMB_PERIODn: R216 (07_loop_engine.md). -/
def aCambPeriod (n : Nat) : Nat := 0x050004 + 256 * n
/-- CAMB_PHASEn: R216 (07_loop_engine.md). -/
def aCambPhase (n : Nat) : Nat := 0x050008 + 256 * n
/-- CAMB_STATn: R224, R237 (07_loop_engine.md). -/
def aCambStat (n : Nat) : Nat := 0x05000C + 256 * n
/-- CAMB_SRCPVn: R222 (07_loop_engine.md). -/
def aCambSrcpv (n : Nat) : Nat := 0x050010 + 256 * n
/-- CAMB_SRCSPn: R222 (07_loop_engine.md). -/
def aCambSrcsp (n : Nat) : Nat := 0x050014 + 256 * n
/-- CAMB_SRCFFn: R222 (07_loop_engine.md). -/
def aCambSrcff (n : Nat) : Nat := 0x050018 + 256 * n
/-- CAMB_URGn: R225 (07_loop_engine.md). -/
def aCambUrg (n : Nat) : Nat := 0x05001C + 256 * n
/-- CAMB_KPn: R219, R247 (07_loop_engine.md). -/
def aCambKp (n : Nat) : Nat := 0x050020 + 256 * n
/-- CAMB_TIn: R219, R247 (07_loop_engine.md). -/
def aCambTi (n : Nat) : Nat := 0x050024 + 256 * n
/-- CAMB_TDn: R219, R247 (07_loop_engine.md). -/
def aCambTd (n : Nat) : Nat := 0x050028 + 256 * n
/-- CAMB_TFn: R219, R247 (07_loop_engine.md). -/
def aCambTf (n : Nat) : Nat := 0x05002C + 256 * n
/-- CAMB_DBn: R219, R247 (07_loop_engine.md). -/
def aCambDb (n : Nat) : Nat := 0x050030 + 256 * n
/-- CAMB_OUTMINn: R219, R247 (07_loop_engine.md). -/
def aCambOutmin (n : Nat) : Nat := 0x050034 + 256 * n
/-- CAMB_OUTMAXn: R219, R247 (07_loop_engine.md). -/
def aCambOutmax (n : Nat) : Nat := 0x050038 + 256 * n
/-- CAMB_RATEn: R219, R247 (07_loop_engine.md). -/
def aCambRate (n : Nat) : Nat := 0x05003C + 256 * n
/-- CAMB_KFFn: R219, R247 (07_loop_engine.md). -/
def aCambKff (n : Nat) : Nat := 0x050040 + 256 * n
/-- CAMB_SPKn: R219, R247 (07_loop_engine.md). -/
def aCambSpk (n : Nat) : Nat := 0x050044 + 256 * n
/-- CAMB_MANVALn: R219, R247 (07_loop_engine.md). -/
def aCambManval (n : Nat) : Nat := 0x050048 + 256 * n
/-- CAMB_SAFEOUTn: R219, R247 (07_loop_engine.md). -/
def aCambSafeout (n : Nat) : Nat := 0x05004C + 256 * n
/-- CAMB_DSTEPn: R219, R247 (07_loop_engine.md). -/
def aCambDstep (n : Nat) : Nat := 0x050050 + 256 * n
/-- CAMB_RSPn: R219, R247 (07_loop_engine.md). -/
def aCambRsp (n : Nat) : Nat := 0x050054 + 256 * n
/-- CAMB_PVn: R219, R247 (07_loop_engine.md). -/
def aCambPv (n : Nat) : Nat := 0x050058 + 256 * n
/-- CAMB_SPn: R219, R247 (07_loop_engine.md). -/
def aCambSp (n : Nat) : Nat := 0x05005C + 256 * n
/-- CAMB_OUTn: R239 (07_loop_engine.md). -/
def aCambOut (n : Nat) : Nat := 0x050060 + 256 * n
/-- CAMB_INTn: R239 (07_loop_engine.md). -/
def aCambInt (n : Nat) : Nat := 0x050064 + 256 * n
/-- CAMB_ERRn: R219, R247 (07_loop_engine.md). -/
def aCambErr (n : Nat) : Nat := 0x050068 + 256 * n
/-- CAMB_CNTn: R225, R237 (07_loop_engine.md). -/
def aCambCnt (n : Nat) : Nat := 0x05006C + 256 * n
/-- CAMB_DSTnk: R233 (07_loop_engine.md). -/
def aCambDst (n : Nat) (k : Nat) : Nat := 0x050070 + 256 * n + 4 * k
/-- CAMB_XLOnk: R235 (07_loop_engine.md). -/
def aCambXlo (n : Nat) (k : Nat) : Nat := 0x050080 + 256 * n + 16 * k
/-- CAMB_XHInk: R235 (07_loop_engine.md). -/
def aCambXhi (n : Nat) (k : Nat) : Nat := 0x050084 + 256 * n + 16 * k
/-- CAMB_YLOnk: R235 (07_loop_engine.md). -/
def aCambYlo (n : Nat) (k : Nat) : Nat := 0x050088 + 256 * n + 16 * k
/-- CAMB_YHInk: R235 (07_loop_engine.md). -/
def aCambYhi (n : Nat) (k : Nat) : Nat := 0x05008C + 256 * n + 16 * k
/-- CAMB_SUBTn: R271 (08_tuning_zone_models.md). -/
def aCambSubt (n : Nat) : Nat := 0x0500C0 + 256 * n
/-- CAMB_GCTL: R215 (07_loop_engine.md). -/
def aCambGctl : Nat := 0x056000
/-- CAMB_GSTAT: R217 (07_loop_engine.md). -/
def aCambGstat : Nat := 0x056004
/-- CAMB_ORDERn: R217, R230 (07_loop_engine.md). -/
def aCambOrder (n : Nat) : Nat := 0x056100 + 4 * n
/-- CAMB_TCTLn: R274 (08_tuning_zone_models.md). -/
def aCambTctl (n : Nat) : Nat := 0x056400 + 64 * n
/-- CAMB_TUDn: R249 (08_tuning_zone_models.md). -/
def aCambTud (n : Nat) : Nat := 0x056404 + 64 * n
/-- CAMB_TEPSn: R249 (08_tuning_zone_models.md). -/
def aCambTeps (n : Nat) : Nat := 0x056408 + 64 * n
/-- CAMB_TBANDn: R249 (08_tuning_zone_models.md). -/
def aCambTband (n : Nat) : Nat := 0x05640C + 64 * n
/-- CAMB_TMAXn: R253 (08_tuning_zone_models.md). -/
def aCambTmax (n : Nat) : Nat := 0x056410 + 64 * n
/-- CAMB_TSTATn: R253 (08_tuning_zone_models.md). -/
def aCambTstat (n : Nat) : Nat := 0x056414 + 64 * n
/-- CAMB_TBIASn: R250-R252 (08_tuning_zone_models.md). -/
def aCambTbias (n : Nat) : Nat := 0x056418 + 64 * n
/-- CAMB_TSPn: R250-R252 (08_tuning_zone_models.md). -/
def aCambTsp (n : Nat) : Nat := 0x05641C + 64 * n
/-- CAMB_TKUn: R250-R252 (08_tuning_zone_models.md). -/
def aCambTku (n : Nat) : Nat := 0x056420 + 64 * n
/-- CAMB_TTUn: R250-R252 (08_tuning_zone_models.md). -/
def aCambTtu (n : Nat) : Nat := 0x056424 + 64 * n
/-- CAMB_TAn: R250-R252 (08_tuning_zone_models.md). -/
def aCambTa (n : Nat) : Nat := 0x056428 + 64 * n
/-- MODEL_CTLn: R258, R265 (08_tuning_zone_models.md). -/
def aModelCtl (n : Nat) : Nat := 0x060000 + 256 * n
/-- MODEL_STATn: R261-R263 (08_tuning_zone_models.md). -/
def aModelStat (n : Nat) : Nat := 0x060004 + 256 * n
/-- MODEL_SRCnk: R259 (08_tuning_zone_models.md). -/
def aModelSrc (n : Nat) (k : Nat) : Nat := 0x060008 + 256 * n + 4 * k
/-- MODEL_LAMBDAn: R260, R262, R275 (08_tuning_zone_models.md). -/
def aModelLambda (n : Nat) : Nat := 0x06001C + 256 * n
/-- MODEL_CREFn: R260, R262, R275 (08_tuning_zone_models.md). -/
def aModelCref (n : Nat) : Nat := 0x060020 + 256 * n
/-- MODEL_CMINn: R260, R262, R275 (08_tuning_zone_models.md). -/
def aModelCmin (n : Nat) : Nat := 0x060024 + 256 * n
/-- MODEL_SUBMAXn: R271 (08_tuning_zone_models.md). -/
def aModelSubmax (n : Nat) : Nat := 0x060028 + 256 * n
/-- MODEL_LEADMAXn: R268, R269 (08_tuning_zone_models.md). -/
def aModelLeadmax (n : Nat) : Nat := 0x06002C + 256 * n
/-- MODEL_STOPDROPn: R269 (08_tuning_zone_models.md). -/
def aModelStopdrop (n : Nat) : Nat := 0x060030 + 256 * n
/-- MODEL_THnk: R259, R265 (08_tuning_zone_models.md). -/
def aModelTh (n : Nat) (k : Nat) : Nat := 0x060034 + 256 * n + 4 * k
/-- MODEL_CONFn: R262 (08_tuning_zone_models.md). -/
def aModelConf (n : Nat) : Nat := 0x060050 + 256 * n
/-- MODEL_TAUn: R262 (08_tuning_zone_models.md). -/
def aModelTau (n : Nat) : Nat := 0x060054 + 256 * n
/-- MODEL_GAINn: R262 (08_tuning_zone_models.md). -/
def aModelGain (n : Nat) : Nat := 0x060058 + 256 * n
/-- MODEL_PREDn: R262 (08_tuning_zone_models.md). -/
def aModelPred (n : Nat) : Nat := 0x06005C + 256 * n
/-- MODEL_USSn: R262 (08_tuning_zone_models.md). -/
def aModelUss (n : Nat) : Nat := 0x060060 + 256 * n
/-- MODEL_RMSn: R262 (08_tuning_zone_models.md). -/
def aModelRms (n : Nat) : Nat := 0x060064 + 256 * n
/-- MODEL_CNTn: R260, R261 (08_tuning_zone_models.md). -/
def aModelCnt (n : Nat) : Nat := 0x060068 + 256 * n
/-- MODEL_OPTn: R268-R270 (08_tuning_zone_models.md). -/
def aModelOpt (n : Nat) : Nat := 0x06006C + 256 * n
/-- MODEL_Pnk: R260 (08_tuning_zone_models.md). -/
def aModelP (n : Nat) (k : Nat) : Nat := 0x060080 + 256 * n + 4 * k
/-- DRV_CTLn: R311, R347 (10_drive_channels_fans.md). -/
def aDrvCtl (n : Nat) : Nat := 0x070000 + 64 * n
/-- DRV_SAFEn: R329 (10_drive_channels_fans.md). -/
def aDrvSafe (n : Nat) : Nat := 0x070004 + 64 * n
/-- DRV_STROKEn: R317, R345 (10_drive_channels_fans.md). -/
def aDrvStroke (n : Nat) : Nat := 0x070008 + 64 * n
/-- DRV_LIMn: R317, R318, R326 (10_drive_channels_fans.md). -/
def aDrvLim (n : Nat) : Nat := 0x07000C + 64 * n
/-- DRV_TPPn: R315 (10_drive_channels_fans.md). -/
def aDrvTpp (n : Nat) : Nat := 0x070010 + 64 * n
/-- DRV_DIAGn: R318, R325-R327, R330 (10_drive_channels_fans.md). -/
def aDrvDiag (n : Nat) : Nat := 0x070014 + 64 * n
/-- DRV_POSn: R317 (10_drive_channels_fans.md). -/
def aDrvPos (n : Nat) : Nat := 0x070018 + 64 * n
/-- DRV_DEMn: R314 (10_drive_channels_fans.md). -/
def aDrvDem (n : Nat) : Nat := 0x07001C + 64 * n
/-- DRV_CNTn: R325, R327 (10_drive_channels_fans.md). -/
def aDrvCnt (n : Nat) : Nat := 0x070020 + 64 * n
/-- DRV_MEASn: R324 (10_drive_channels_fans.md). -/
def aDrvMeas (n : Nat) : Nat := 0x070024 + 64 * n
/-- DRV_MANn: R365 (10_drive_channels_fans.md). -/
def aDrvMan (n : Nat) : Nat := 0x070028 + 64 * n
/-- DRV_GSTAT: R328, R330 (10_drive_channels_fans.md). -/
def aDrvGstat : Nat := 0x071000
/-- DRV_SAFECLRn: R331 (10_drive_channels_fans.md). -/
def aDrvSafeclr (n : Nat) : Nat := 0x071004 + 4 * n
/-- DRV_PWMPERn: R347 (10_drive_channels_fans.md). -/
def aDrvPwmper (n : Nat) : Nat := 0x071100 + 8 * n
/-- DRV_PWMDUTn: R347 (10_drive_channels_fans.md). -/
def aDrvPwmdut (n : Nat) : Nat := 0x071104 + 8 * n
/-- FAN_CFGn: R332, R347 (10_drive_channels_fans.md). -/
def aFanCfg (n : Nat) : Nat := 0x080000 + 64 * n
/-- FAN_LIMn: R336, R347 (10_drive_channels_fans.md). -/
def aFanLim (n : Nat) : Nat := 0x080004 + 64 * n
/-- FAN_LOOPn: R334 (10_drive_channels_fans.md). -/
def aFanLoop (n : Nat) : Nat := 0x080008 + 64 * n
/-- FAN_BANDn: R340 (10_drive_channels_fans.md). -/
def aFanBand (n : Nat) : Nat := 0x08000C + 64 * n
/-- FAN_FAILn: R341 (10_drive_channels_fans.md). -/
def aFanFail (n : Nat) : Nat := 0x080010 + 64 * n
/-- FAN_STATn: R336-R342 (10_drive_channels_fans.md). -/
def aFanStat (n : Nat) : Nat := 0x080014 + 64 * n
/-- FAN_SPDn: R333 (10_drive_channels_fans.md). -/
def aFanSpd (n : Nat) : Nat := 0x080018 + 64 * n
/-- FAN_CNTn: R337 (10_drive_channels_fans.md). -/
def aFanCnt (n : Nat) : Nat := 0x08001C + 64 * n
/-- FAN_DEMn: R334 (10_drive_channels_fans.md). -/
def aFanDem (n : Nat) : Nat := 0x080020 + 64 * n
/-- FAN_SAFECLR: R342 (10_drive_channels_fans.md). -/
def aFanSafeclr : Nat := 0x081000
/-- ESCH_CTL: R355, R358, R361, R363 (11_energy_scheduler.md). -/
def aEschCtl : Nat := 0x090000
/-- ESCH_POECFG: R355 (11_energy_scheduler.md). -/
def aEschPoecfg : Nat := 0x090004
/-- ESCH_VFLIM: R355 (11_energy_scheduler.md). -/
def aEschVflim : Nat := 0x090008
/-- ESCH_ALLOT: R368 (11_energy_scheduler.md). -/
def aEschAllot : Nat := 0x09000C
/-- ESCH_THCFG: R358 (11_energy_scheduler.md). -/
def aEschThcfg : Nat := 0x090010
/-- ESCH_STAT: R353-R370 (11_energy_scheduler.md). -/
def aEschStat : Nat := 0x090014
/-- ESCH_MEAS: R355, R358 (11_energy_scheduler.md). -/
def aEschMeas : Nat := 0x090018
/-- ESCH_BUD0: R355 (11_energy_scheduler.md). -/
def aEschBud0 : Nat := 0x09001C
/-- ESCH_BUD1: R355 (11_energy_scheduler.md). -/
def aEschBud1 : Nat := 0x090020
/-- ESCH_BUD2: R355, R357 (11_energy_scheduler.md). -/
def aEschBud2 : Nat := 0x090024
/-- ESCH_BUD3: R358 (11_energy_scheduler.md). -/
def aEschBud3 : Nat := 0x090028
/-- ESCH_CNT: R360, R362, R366 (11_energy_scheduler.md). -/
def aEschCnt : Nat := 0x09002C
/-- ESCH_MODn: R351, R352 (11_energy_scheduler.md). -/
def aEschMod (n : Nat) : Nat := 0x090100 + 8 * n
/-- ESCH_REQn: R349 (11_energy_scheduler.md). -/
def aEschReq (n : Nat) : Nat := 0x090104 + 8 * n
/-- BUS_PCFGn: R373, R392 (12_building_buses.md). -/
def aBusPcfg (n : Nat) : Nat := 0x0A0000 + 16 * n
/-- BUS_PSTATn: R376, R386 (12_building_buses.md). -/
def aBusPstat (n : Nat) : Nat := 0x0A0004 + 16 * n
/-- BUS_PCNTn: R385, R386 (12_building_buses.md). -/
def aBusPcnt (n : Nat) : Nat := 0x0A0008 + 16 * n
/-- BUS_MBP0n: R384 (12_building_buses.md). -/
def aBusMbp0 (n : Nat) : Nat := 0x0A0100 + 8 * n
/-- BUS_MBP1n: R384 (12_building_buses.md). -/
def aBusMbp1 (n : Nat) : Nat := 0x0A0104 + 8 * n
/-- BUS_I2CCTLn: R180, R181 (06_sensor_ports_twig.md). -/
def aBusI2cctl (n : Nat) : Nat := 0x0A1000 + 4 * n
/-- BUS_I2CSTATn: R185-R187 (06_sensor_ports_twig.md). -/
def aBusI2cstat (n : Nat) : Nat := 0x0A1020 + 4 * n
/-- BUS_I2CXn: R184 (06_sensor_ports_twig.md). -/
def aBusI2cx (n : Nat) : Nat := 0x0A1100 + 4 * n
/-- BUS_I2CTRnk: R182 (06_sensor_ports_twig.md). -/
def aBusI2ctr (n : Nat) (k : Nat) : Nat := 0x0A2000 + 2048 * n + 128 * k
/-- BUS_I2CWDnkj: R182 (06_sensor_ports_twig.md). -/
def aBusI2cwd (n : Nat) (k : Nat) (j : Nat) : Nat := 0x0A2004 + 2048 * n + 128 * k + 4 * j
/-- BUS_I2CRDnkj: R183 (06_sensor_ports_twig.md). -/
def aBusI2crd (n : Nat) (k : Nat) (j : Nat) : Nat := 0x0A2024 + 2048 * n + 128 * k + 4 * j
/-- TWIG_SEGCTLn: R190, R204 (06_sensor_ports_twig.md). -/
def aTwigSegctl (n : Nat) : Nat := 0x0A8000 + 16 * n
/-- TWIG_SEGSTATn: R191, R209, R210 (06_sensor_ports_twig.md). -/
def aTwigSegstat (n : Nat) : Nat := 0x0A8004 + 16 * n
/-- TWIG_SEGMONn: R191 (06_sensor_ports_twig.md). -/
def aTwigSegmon (n : Nat) : Nat := 0x0A8008 + 16 * n
/-- TWIG_SEGCNTn: R208 (06_sensor_ports_twig.md). -/
def aTwigSegcnt (n : Nat) : Nat := 0x0A800C + 16 * n
/-- TWIG_USTATn: R205, R206 (06_sensor_ports_twig.md). -/
def aTwigUstat (n : Nat) : Nat := 0x0A8100 + 32 * n
/-- TWIG_USERLOn: R206, R207 (06_sensor_ports_twig.md). -/
def aTwigUserlo (n : Nat) : Nat := 0x0A8104 + 32 * n
/-- TWIG_USERHIn: R206, R207 (06_sensor_ports_twig.md). -/
def aTwigUserhi (n : Nat) : Nat := 0x0A8108 + 32 * n
/-- TWIG_UMAP0n: R205 (06_sensor_ports_twig.md). -/
def aTwigUmap0 (n : Nat) : Nat := 0x0A810C + 32 * n
/-- TWIG_UMAP1n: R205 (06_sensor_ports_twig.md). -/
def aTwigUmap1 (n : Nat) : Nat := 0x0A8110 + 32 * n
/-- TWIG_UCURn: R209 (06_sensor_ports_twig.md). -/
def aTwigUcur (n : Nat) : Nat := 0x0A8114 + 32 * n
/-- GRAFT_CTL: R408 (13_grove_cascade.md). -/
def aGraftCtl : Nat := 0x0B0000
/-- GRAFT_STAT: R408, R409 (13_grove_cascade.md). -/
def aGraftStat : Nat := 0x0B0004
/-- GRAFT_PORTn: R395, R396 (13_grove_cascade.md). -/
def aGraftPort (n : Nat) : Nat := 0x0B0010 + 16 * n
/-- GRAFT_PCNTn: R395, R398, R401 (13_grove_cascade.md). -/
def aGraftPcnt (n : Nat) : Nat := 0x0B0014 + 16 * n
/-- GRAFT_NODES: R403 (13_grove_cascade.md). -/
def aGraftNodes : Nat := 0x0B0030
/-- GRAFT_TICK: R411 (13_grove_cascade.md). -/
def aGraftTick : Nat := 0x0B0034
/-- GRAFT_EXPn: R414 (13_grove_cascade.md). -/
def aGraftExp (n : Nat) : Nat := 0x0B0100 + 4 * n
/-- GRAFT_SHAREn: R424, R425 (13_grove_cascade.md). -/
def aGraftShare (n : Nat) : Nat := 0x0B0200 + 4 * n
/-- GRAFT_ALLOTn: R425 (13_grove_cascade.md). -/
def aGraftAllot (n : Nat) : Nat := 0x0B0240 + 4 * n
/-- HWD_STAT: R434, R437, R440, R447 (14_storage.md). -/
def aHwdStat : Nat := 0x0C0000
/-- HWD_ECC: R433 (14_storage.md). -/
def aHwdEcc : Nat := 0x0C0004
/-- HWD_SEL: R437, R441 (14_storage.md). -/
def aHwdSel : Nat := 0x0C0008
/-- HWD_SAVE: R447 (14_storage.md). -/
def aHwdSave : Nat := 0x0C000C
/-- HWD_JSEQ: R439 (14_storage.md). -/
def aHwdJseq : Nat := 0x0C0010
/-- HWD_WADDR: R462 (14_storage.md). -/
def aHwdWaddr : Nat := 0x0C0020
/-- HWD_WINn: R451, R462 (14_storage.md). -/
def aHwdWin (n : Nat) : Nat := 0x0C0040 + 4 * n
/-- HWD_LOCKn: R452 (14_storage.md). -/
def aHwdLock (n : Nat) : Nat := 0x0C0080 + 4 * n
/-- HWD_CNTCFGn: R445 (14_storage.md). -/
def aHwdCntcfg (n : Nat) : Nat := 0x0C0400 + 4 * n
/-- GRR_CTL: R463 (15_recorder.md). -/
def aGrrCtl : Nat := 0x0D0000
/-- GRR_STAT: R478, R479 (15_recorder.md). -/
def aGrrStat : Nat := 0x0D0004
/-- GRR_BANKS: R481 (15_recorder.md). -/
def aGrrBanks : Nat := 0x0D0008
/-- GRR_GSEQ: R471 (15_recorder.md). -/
def aGrrGseq : Nat := 0x0D000C
/-- GRR_ECC: R477 (15_recorder.md). -/
def aGrrEcc : Nat := 0x0D0010
/-- GRR_CURSOR: R472 (15_recorder.md). -/
def aGrrCursor : Nat := 0x0D0020
/-- GRR_WINn: R472 (15_recorder.md). -/
def aGrrWin (n : Nat) : Nat := 0x0D0040 + 4 * n
/-- GRR_PRESWR: R475 (15_recorder.md). -/
def aGrrPreswr : Nat := 0x0D0080
/-- GRR_CHCFGn: R463 (15_recorder.md). -/
def aGrrChcfg (n : Nat) : Nat := 0x0D1000 + 4 * n
/-- GRR_EDGEnk: R464 (15_recorder.md). -/
def aGrrEdge (n : Nat) (k : Nat) : Nat := 0x0D2004 + 128 * n + 4 * k
/-- RTC_SEC: R487, R493 (16_rtc.md). -/
def aRtcSec : Nat := 0x0E0000
/-- RTC_MIN: R487, R493 (16_rtc.md). -/
def aRtcMin : Nat := 0x0E0004
/-- RTC_HOUR: R487, R493 (16_rtc.md). -/
def aRtcHour : Nat := 0x0E0008
/-- RTC_WDAY: R487 (16_rtc.md). -/
def aRtcWday : Nat := 0x0E000C
/-- RTC_DATE: R487, R493 (16_rtc.md). -/
def aRtcDate : Nat := 0x0E0010
/-- RTC_MON: R487, R493 (16_rtc.md). -/
def aRtcMon : Nat := 0x0E0014
/-- RTC_YEAR: R487, R493 (16_rtc.md). -/
def aRtcYear : Nat := 0x0E0018
/-- RTC_CENT: R487, R493 (16_rtc.md). -/
def aRtcCent : Nat := 0x0E001C
/-- RTC_SUBSEC: R487, R494 (16_rtc.md). -/
def aRtcSubsec : Nat := 0x0E0020
/-- RTC_CTL: R494, R495 (16_rtc.md). -/
def aRtcCtl : Nat := 0x0E0024
/-- RTC_STAT: R490, R493-R504 (16_rtc.md). -/
def aRtcStat : Nat := 0x0E0028
/-- RTC_CAL: R496 (16_rtc.md). -/
def aRtcCal : Nat := 0x0E002C
/-- RTC_ALMTn: R497 (16_rtc.md). -/
def aRtcAlmt (n : Nat) : Nat := 0x0E0030 + 8 * n
/-- RTC_ALMDn: R497 (16_rtc.md). -/
def aRtcAlmd (n : Nat) : Nat := 0x0E0034 + 8 * n
/-- RTC_TRKL: R504 (16_rtc.md). -/
def aRtcTrkl : Nat := 0x0E0040
/-- RTC_FSOARM: R503 (16_rtc.md). -/
def aRtcFsoarm : Nat := 0x0E0044
/-- RTC_FSOT: R503 (16_rtc.md). -/
def aRtcFsot : Nat := 0x0E0048
/-- RTC_FSOD: R503 (16_rtc.md). -/
def aRtcFsod : Nat := 0x0E004C
/-- RTC_SWCNT: R499 (16_rtc.md). -/
def aRtcSwcnt : Nat := 0x0E0050
/-- RTC_SCARn: R480 (15_recorder.md). -/
def aRtcScar (n : Nat) : Nat := 0x0E0100 + 4 * n
/-- RTC_BRAMn: R506 (16_rtc.md). -/
def aRtcBram (n : Nat) : Nat := 0x0E0200 + 4 * n
/-- THERM_TSn: R538, R540 (18_thermal_safety.md). -/
def aThermTs (n : Nat) : Nat := 0x0F0000 + 4 * n
/-- THERM_DIEn: R541-R543 (18_thermal_safety.md). -/
def aThermDie (n : Nat) : Nat := 0x0F0040 + 4 * n
/-- THERM_CFG: R539, R540, R555 (18_thermal_safety.md). -/
def aThermCfg : Nat := 0x0F0050
/-- THERM_CNT: R540, R543 (18_thermal_safety.md). -/
def aThermCnt : Nat := 0x0F0054
/-- THERM_SAFESTAT: R548-R550 (18_thermal_safety.md). -/
def aThermSafestat : Nat := 0x0F0060
/-- THERM_SAFEVAL: R547 (18_thermal_safety.md). -/
def aThermSafeval : Nat := 0x0F0064
/-- THERM_SAFECTL: R549, R552 (18_thermal_safety.md). -/
def aThermSafectl : Nat := 0x0F0068
/-- QSPI_STAT: R390 (12_building_buses.md). -/
def aQspiStat : Nat := 0x100000

/-- The registers of block SYS. -/
def regsSys : List RegDesc := [
  ⟨0x010000, [], 0x00000000, 0x0000003F, 0x00000000, 0x00000001, .const, .one .aon, .blk 16⟩,
  ⟨0x010004, [], 0x00000000, 0x00000000, 0x00000000, 0x00000000, .const, .one .aon, .blk 16⟩,
  ⟨0x010008, [], 0x00000000, 0x00000000, 0x00000000, 0x00000000, .const, .one .aon, .blk 16⟩,
  ⟨0x01000C, [], 0x00000000, 0x00000000, 0x00000000, 0x000001F4, .const, .one .aon, .blk 16⟩,
  ⟨0x010010, [], 0x000001FF, 0x00000000, 0x00000000, 0x00000000, .const, .one .aon, .blk 16⟩,
  ⟨0x010014, [], 0x00000000, 0x00000000, 0x00000000, 0x00000000, .const, .one .aon, .blk 16⟩,
  ⟨0x010018, [], 0xC000FFFF, 0x00000000, 0x00000000, 0xC00009F6, .const, .one .aon, .blk 16⟩,
  ⟨0x01001C, [], 0x00000000, 0x84000000, 0x00000000, 0x00000000, .const, .one .aon, .blk 16⟩,
  ⟨0x010020, [(4, 2)], 0x000001FF, 0x80000000, 0x00000000, 0x01640164, .const, .one .aon, .blk 16⟩,
  ⟨0x010040, [], 0x00000000, 0x80000000, 0x00000000, 0x00000000, .const, .one .aon, .blk 16⟩,
  ⟨0x010044, [], 0x00000000, 0x00000000, 0x00000000, 0x00000000, .const, .one .aon, .blk 16⟩]

/-- The registers of block HP. -/
def regsHp : List RegDesc := [
  ⟨0x020000, [], 0x00000000, 0x00000000, 0x00000000, 0x96480102, .const, .one .aon, .blk 32⟩,
  ⟨0x020004, [], 0x00000000, 0x00000000, 0x00000000, 0x00000000, .const, .one .aon, .blk 32⟩,
  ⟨0x020008, [], 0x00000000, 0x0000000E, 0x00000000, 0x00000000, .const, .one .aon, .blk 32⟩,
  ⟨0x02000C, [], 0xC000000E, 0x00000000, 0x00000000, 0x00000000, .const, .one .aon, .blk 32⟩,
  ⟨0x020010, [], 0xFFFFFFFF, 0x00000000, 0x00000000, 0x00000000, .const, .one .aon, .blk 32⟩,
  ⟨0x020014, [], 0x00000000, 0x00000000, 0x00000000, 0x00000000, .const, .one .aon, .blk 32⟩,
  ⟨0x020018, [], 0x0000FFFF, 0x00000000, 0x00000000, 0x00000000, .const, .one .aon, .blk 32⟩,
  ⟨0x020020, [], 0x00000000, 0x00000000, 0xF000FFFF, 0x00000000, .const, .one .aon, .blk 32⟩,
  ⟨0x020024, [], 0x00000000, 0xFFFF003F, 0x00000000, 0x00000000, .const, .one .aon, .blk 32⟩,
  ⟨0x020028, [], 0x00000000, 0x0000FFFF, 0x00000000, 0x00000000, .const, .one .aon, .blk 32⟩,
  ⟨0x02002C, [], 0xFFFFFFFF, 0x00000000, 0x00000000, 0x00000000, .const, .one .aon, .blk 32⟩,
  ⟨0x020100, [(128, 16), (4, 16)], 0xFFFFFFFF, 0x00000000, 0x00000000, 0x00000000, .const, .one .aon, .blk 32⟩,
  ⟨0x020140, [(128, 16)], 0x00000000, 0x00000000, 0x00000000, 0x00000000, .const, .one .aon, .blk 32⟩,
  ⟨0x020144, [(128, 16)], 0x00000000, 0x0000001E, 0x00000000, 0x00000000, .const, .one .aon, .blk 32⟩,
  ⟨0x020148, [(128, 16)], 0x0000FFFF, 0x00000000, 0x00000000, 0x000003E8, .const, .one .aon, .blk 32⟩,
  ⟨0x02014C, [(128, 16)], 0x0000FFFF, 0x00000000, 0x00000000, 0x00000000, .const, .one .aon, .blk 32⟩,
  ⟨0x020900, [(128, 16), (4, 16)], 0x00000000, 0x00000000, 0x00000000, 0x00000000, .const, .one .aon, .blk 32⟩,
  ⟨0x020940, [(128, 16)], 0x00000000, 0x00000000, 0x00000000, 0x00000000, .const, .one .aon, .blk 32⟩,
  ⟨0x020944, [(128, 16)], 0x00000000, 0x0000001E, 0x00000000, 0x00000000, .const, .one .aon, .blk 32⟩,
  ⟨0x020948, [(128, 16)], 0x0000FFFF, 0x00000000, 0x00000000, 0x00000000, .const, .one .aon, .blk 32⟩,
  ⟨0x02094C, [(128, 16)], 0x00000000, 0x00000000, 0x00000000, 0x00000000, .const, .one .aon, .blk 32⟩]

/-- The registers of block ROOT. -/
def regsRoot : List RegDesc := [
  ⟨0x030000, [(8, 192)], 0xFFFFFFE0, 0x00000000, 0x00000000, 0x00000000, .const, .bySeq, .idx 16⟩,
  ⟨0x030004, [(8, 192)], 0x0007FFFF, 0x00000000, 0x00000000, 0x00000003, .seqHi, .bySeq, .idx 16⟩,
  ⟨0x030800, [(16, 6)], 0x81FFFFFF, 0x00000000, 0x00000000, 0x00000000, .const, .byCnv, .blk 48⟩,
  ⟨0x030804, [(16, 6)], 0x00000000, 0xE0000000, 0x00000000, 0x00000000, .const, .byCnv, .blk 48⟩,
  ⟨0x030808, [(16, 6)], 0x00000000, 0x00000000, 0x00000000, 0x00000000, .const, .byCnv, .blk 48⟩,
  ⟨0x03080C, [(16, 6)], 0x00000000, 0x00000000, 0x00000000, 0x00000000, .const, .byCnv, .blk 48⟩,
  ⟨0x034000, [(4, 96)], 0x7FFF1FFC, 0x80000000, 0x00000000, 0x00040000, .const, .byAin, .idx 20⟩,
  ⟨0x034200, [(4, 96)], 0x00000000, 0x000000C0, 0x00000000, 0x00000000, .const, .byAin, .idx 20⟩,
  ⟨0x034400, [(4, 12)], 0x8FFF1FFF, 0x00000000, 0x00000000, 0x012C0932, .const, .one .rtb, .pir⟩,
  ⟨0x034440, [(4, 12)], 0x00000000, 0x00000000, 0x00000000, 0x00000000, .const, .one .rtb, .pir⟩,
  ⟨0x034480, [], 0x00000FFF, 0x00000000, 0x00000000, 0x00000800, .const, .one .rta, .blk 48⟩]

/-- The registers of block RQ. -/
def regsRq : List RegDesc := [
  ⟨0x040000, [(64, 256)], 0xFFFFFFE0, 0x00000000, 0x00000000, 0x00014140, .const, .one .rta, .idx 1⟩,
  ⟨0x040004, [(64, 256)], 0xFFFFFFFF, 0x00000000, 0x00000000, 0x00000000, .const, .one .rta, .idx 1⟩,
  ⟨0x040008, [(64, 256)], 0xFFFFFFFF, 0x00000000, 0x00000000, 0xFF7FFFFF, .const, .one .rta, .idx 1⟩,
  ⟨0x04000C, [(64, 256)], 0xFFFFFFFF, 0x00000000, 0x00000000, 0x7F7FFFFF, .const, .one .rta, .idx 1⟩,
  ⟨0x040010, [(64, 256), (4, 6)], 0xFFFFFFFF, 0x00000000, 0x00000000, 0x00000000, .const, .one .rta, .idx 1⟩,
  ⟨0x040028, [(64, 256)], 0xFFFFFFFF, 0x00000000, 0x00000000, 0x00000000, .const, .one .rta, .idx 1⟩,
  ⟨0x04002C, [(64, 256)], 0xFFFFFFFF, 0x00000000, 0x00000000, 0x40200000, .const, .one .rta, .idx 1⟩,
  ⟨0x040030, [(64, 256)], 0x00000000, 0x0000000C, 0x00000000, 0x00000000, .const, .one .rta, .idx 1⟩,
  ⟨0x044000, [(256, 64), (4, 33)], 0xFFFFFFFF, 0x00000000, 0x00000000, 0x00000000, .const, .one .rta, .blk 64⟩,
  ⟨0x048000, [(8, 256)], 0x00000000, 0x00000000, 0x00000000, 0x00000000, .const, .one .rta, .idx 1⟩,
  ⟨0x048004, [(8, 256)], 0x00000000, 0x00000000, 0x00000000, 0x00000001, .const, .one .rta, .idx 1⟩,
  ⟨0x048800, [(4, 3)], 0x00000000, 0x00008000, 0x00000000, 0x00000000, .const, .one .rta, .idx 19⟩,
  ⟨0x04880C, [], 0x00000000, 0x00000000, 0x00000000, 0x00000000, .const, .one .rta, .blk 64⟩]

/-- The registers of block CAMB (part). -/
def regsCamb0 : List RegDesc := [
  ⟨0x050000, [(256, 96)], 0xBFFF8000, 0x00000000, 0x00000000, 0x01FC0000, .const, .one .cmb, .idx 2⟩,
  ⟨0x050004, [(256, 96)], 0x00FFFFFF, 0x00000000, 0x00000000, 0x00000FA0, .const, .one .cmb, .idx 2⟩,
  ⟨0x050008, [(256, 96)], 0x00FFFFFF, 0x00000000, 0x00000000, 0x00000000, .const, .one .cmb, .idx 2⟩,
  ⟨0x05000C, [(256, 96)], 0x00000000, 0xE0000000, 0x00000000, 0x00000000, .const, .one .cmb, .idx 2⟩,
  ⟨0x050010, [(256, 96)], 0xF0FF00FF, 0x00000000, 0x00000000, 0x00030000, .const, .one .cmb, .idx 2⟩,
  ⟨0x050014, [(256, 96)], 0xF0FF00FF, 0x00000000, 0x00000000, 0x00030000, .const, .one .cmb, .idx 2⟩,
  ⟨0x050018, [(256, 96)], 0xF0FF00FF, 0x00000000, 0x00000000, 0x00030000, .const, .one .cmb, .idx 2⟩,
  ⟨0x05001C, [(256, 96)], 0x8000071F, 0x00000000, 0x00000000, 0x00000000, .const, .one .cmb, .idx 2⟩,
  ⟨0x050020, [(256, 96)], 0xFFFFFFFF, 0x00000000, 0x00000000, 0x3F800000, .const, .one .cmb, .idx 2⟩,
  ⟨0x050024, [(256, 96)], 0xFFFFFFFF, 0x00000000, 0x00000000, 0x00000000, .const, .one .cmb, .idx 2⟩,
  ⟨0x050028, [(256, 96)], 0xFFFFFFFF, 0x00000000, 0x00000000, 0x00000000, .const, .one .cmb, .idx 2⟩,
  ⟨0x05002C, [(256, 96)], 0xFFFFFFFF, 0x00000000, 0x00000000, 0x00000000, .const, .one .cmb, .idx 2⟩,
  ⟨0x050030, [(256, 96)], 0xFFFFFFFF, 0x00000000, 0x00000000, 0x00000000, .const, .one .cmb, .idx 2⟩,
  ⟨0x050034, [(256, 96)], 0xFFFFFFFF, 0x00000000, 0x00000000, 0x00000000, .const, .one .cmb, .idx 2⟩,
  ⟨0x050038, [(256, 96)], 0xFFFFFFFF, 0x00000000, 0x00000000, 0x42C80000, .const, .one .cmb, .idx 2⟩,
  ⟨0x05003C, [(256, 96)], 0xFFFFFFFF, 0x00000000, 0x00000000, 0x00000000, .const, .one .cmb, .idx 2⟩,
  ⟨0x050040, [(256, 96)], 0xFFFFFFFF, 0x00000000, 0x00000000, 0x00000000, .const, .one .cmb, .idx 2⟩,
  ⟨0x050044, [(256, 96)], 0xFFFFFFFF, 0x00000000, 0x00000000, 0x00000000, .const, .one .cmb, .idx 2⟩,
  ⟨0x050048, [(256, 96)], 0xFFFFFFFF, 0x00000000, 0x00000000, 0x00000000, .const, .one .cmb, .idx 2⟩,
  ⟨0x05004C, [(256, 96)], 0xFFFFFFFF, 0x00000000, 0x00000000, 0x00000000, .const, .one .cmb, .idx 2⟩,
  ⟨0x050050, [(256, 96)], 0xFFFFFFFF, 0x00000000, 0x00000000, 0x00000000, .const, .one .cmb, .idx 2⟩,
  ⟨0x050054, [(256, 96)], 0x00000000, 0x00000000, 0x00000000, 0x00000000, .const, .one .cmb, .idx 2⟩,
  ⟨0x050058, [(256, 96)], 0x00000000, 0x00000000, 0x00000000, 0x00000000, .const, .one .cmb, .idx 2⟩,
  ⟨0x05005C, [(256, 96)], 0x00000000, 0x00000000, 0x00000000, 0x00000000, .const, .one .cmb, .idx 2⟩,
  ⟨0x050060, [(256, 96)], 0xFFFFFFFF, 0x00000000, 0x00000000, 0x00000000, .const, .one .cmb, .idx 2⟩]

/-- The registers of block CAMB (part). -/
def regsCamb1 : List RegDesc := [
  ⟨0x050064, [(256, 96)], 0xFFFFFFFF, 0x00000000, 0x00000000, 0x00000000, .const, .one .cmb, .idx 2⟩,
  ⟨0x050068, [(256, 96)], 0x00000000, 0x00000000, 0x00000000, 0x00000000, .const, .one .cmb, .idx 2⟩,
  ⟨0x05006C, [(256, 96)], 0x00000000, 0x00000000, 0x00000000, 0x00000000, .const, .one .cmb, .idx 2⟩,
  ⟨0x050070, [(256, 96), (4, 4)], 0x800003FF, 0x00000000, 0x00000000, 0x00000000, .const, .one .cmb, .idx 2⟩,
  ⟨0x050080, [(256, 96), (16, 4)], 0xFFFFFFFF, 0x00000000, 0x00000000, 0x00000000, .const, .one .cmb, .idx 2⟩,
  ⟨0x050084, [(256, 96), (16, 4)], 0xFFFFFFFF, 0x00000000, 0x00000000, 0x42C80000, .const, .one .cmb, .idx 2⟩,
  ⟨0x050088, [(256, 96), (16, 4)], 0xFFFFFFFF, 0x00000000, 0x00000000, 0x00000000, .const, .one .cmb, .idx 2⟩,
  ⟨0x05008C, [(256, 96), (16, 4)], 0xFFFFFFFF, 0x00000000, 0x00000000, 0x42C80000, .const, .one .cmb, .idx 2⟩,
  ⟨0x0500C0, [(256, 96)], 0x00000000, 0x00000000, 0x00000000, 0x00000000, .const, .one .cmb, .idx 2⟩,
  ⟨0x056000, [], 0x80000000, 0x00000000, 0x00000000, 0x00000000, .const, .one .cmb, .blk 80⟩,
  ⟨0x056004, [], 0x00000000, 0x00000000, 0x00000000, 0x00000000, .const, .one .cmb, .blk 80⟩,
  ⟨0x056100, [(4, 96)], 0x0000007F, 0x00000000, 0x00000000, 0x00000000, .index, .one .cmb, .blk 80⟩,
  ⟨0x056400, [(64, 8)], 0x8000007F, 0x00000000, 0x00000000, 0x00000000, .const, .one .cmb, .blk 80⟩,
  ⟨0x056404, [(64, 8)], 0xFFFFFFFF, 0x00000000, 0x00000000, 0x00000000, .const, .one .cmb, .blk 80⟩,
  ⟨0x056408, [(64, 8)], 0xFFFFFFFF, 0x00000000, 0x00000000, 0x00000000, .const, .one .cmb, .blk 80⟩,
  ⟨0x05640C, [(64, 8)], 0xFFFFFFFF, 0x00000000, 0x00000000, 0x00000000, .const, .one .cmb, .blk 80⟩,
  ⟨0x056410, [(64, 8)], 0x0001FFFF, 0x00000000, 0x00000000, 0x00015180, .const, .one .cmb, .blk 80⟩,
  ⟨0x056414, [(64, 8)], 0x00000000, 0x00080000, 0x00000000, 0x00000000, .const, .one .cmb, .blk 80⟩,
  ⟨0x056418, [(64, 8)], 0x00000000, 0x00000000, 0x00000000, 0x00000000, .const, .one .cmb, .blk 80⟩,
  ⟨0x05641C, [(64, 8)], 0x00000000, 0x00000000, 0x00000000, 0x00000000, .const, .one .cmb, .blk 80⟩,
  ⟨0x056420, [(64, 8)], 0x00000000, 0x00000000, 0x00000000, 0x00000000, .const, .one .cmb, .blk 80⟩,
  ⟨0x056424, [(64, 8)], 0x00000000, 0x00000000, 0x00000000, 0x00000000, .const, .one .cmb, .blk 80⟩,
  ⟨0x056428, [(64, 8)], 0x00000000, 0x00000000, 0x00000000, 0x00000000, .const, .one .cmb, .blk 80⟩]

/-- The registers of block MODEL. -/
def regsModel : List RegDesc := [
  ⟨0x060000, [(256, 48)], 0xE3FF0000, 0x00000000, 0x00000000, 0x003C0000, .const, .one .cmb, .idx 3⟩,
  ⟨0x060004, [(256, 48)], 0x00000000, 0xC0000000, 0x00000000, 0x00000000, .const, .one .cmb, .idx 3⟩,
  ⟨0x060008, [(256, 48), (4, 5)], 0xE00000FF, 0x00000000, 0x00000000, 0x00000000, .const, .one .cmb, .idx 3⟩,
  ⟨0x06001C, [(256, 48)], 0xFFFFFFFF, 0x00000000, 0x00000000, 0x3F7FBE77, .const, .one .cmb, .idx 3⟩,
  ⟨0x060020, [(256, 48)], 0xFFFFFFFF, 0x00000000, 0x00000000, 0x3F000000, .const, .one .cmb, .idx 3⟩,
  ⟨0x060024, [(256, 48)], 0xFFFFFFFF, 0x00000000, 0x00000000, 0x3F19999A, .const, .one .cmb, .idx 3⟩,
  ⟨0x060028, [(256, 48)], 0x000007FF, 0x00000000, 0x00000000, 0x00000168, .const, .one .cmb, .idx 3⟩,
  ⟨0x06002C, [(256, 48)], 0xFFFFFFFF, 0x00000000, 0x00000000, 0x00F0003C, .const, .one .cmb, .idx 3⟩,
  ⟨0x060030, [(256, 48)], 0xFFFFFFFF, 0x00000000, 0x00000000, 0x3F000000, .const, .one .cmb, .idx 3⟩,
  ⟨0x060034, [(256, 48), (4, 7)], 0xFFFFFFFF, 0x00000000, 0x00000000, 0x00000000, .const, .one .cmb, .idx 3⟩,
  ⟨0x060050, [(256, 48)], 0x00000000, 0x00000000, 0x00000000, 0x00000000, .const, .one .cmb, .idx 3⟩,
  ⟨0x060054, [(256, 48)], 0x00000000, 0x00000000, 0x00000000, 0x00000000, .const, .one .cmb, .idx 3⟩,
  ⟨0x060058, [(256, 48)], 0x00000000, 0x00000000, 0x00000000, 0x00000000, .const, .one .cmb, .idx 3⟩,
  ⟨0x06005C, [(256, 48)], 0x00000000, 0x00000000, 0x00000000, 0x00000000, .const, .one .cmb, .idx 3⟩,
  ⟨0x060060, [(256, 48)], 0x00000000, 0x00000000, 0x00000000, 0x00000000, .const, .one .cmb, .idx 3⟩,
  ⟨0x060064, [(256, 48)], 0x00000000, 0x00000000, 0x00000000, 0x3F000000, .const, .one .cmb, .idx 3⟩,
  ⟨0x060068, [(256, 48)], 0x00000000, 0x00000000, 0x00000000, 0x00000000, .const, .one .cmb, .idx 3⟩,
  ⟨0x06006C, [(256, 48)], 0x00000000, 0x00000000, 0x00000000, 0x00000000, .const, .one .cmb, .idx 3⟩,
  ⟨0x060080, [(256, 48), (4, 28)], 0x00000000, 0x00000000, 0x00000000, 0x00000000, .modelP, .one .cmb, .idx 3⟩]

/-- The registers of block DRV. -/
def regsDrv : List RegDesc := [
  ⟨0x070000, [(64, 48)], 0x7FFFBF0F, 0x80000000, 0x00000000, 0x00000400, .const, .one .aon, .idx 6⟩,
  ⟨0x070004, [(64, 48)], 0xE0FFFFFF, 0x00000000, 0x00000000, 0x00000000, .const, .one .aon, .idx 6⟩,
  ⟨0x070008, [(64, 48)], 0xFFFFFFFF, 0x00000000, 0x00000000, 0x3A983A98, .const, .one .aon, .idx 6⟩,
  ⟨0x07000C, [(64, 48)], 0xFFFFFF00, 0x00000000, 0x00000000, 0x3E840A00, .const, .one .aon, .idx 6⟩,
  ⟨0x070010, [(64, 48)], 0x00000FFF, 0x00000000, 0x00000000, 0x00000258, .const, .one .aon, .idx 6⟩,
  ⟨0x070014, [(64, 48)], 0x00000000, 0xFC000000, 0x00000000, 0x00000000, .const, .one .aon, .idx 6⟩,
  ⟨0x070018, [(64, 48)], 0x00000000, 0x00000000, 0x00000000, 0x00000000, .const, .one .aon, .idx 6⟩,
  ⟨0x07001C, [(64, 48)], 0x00000000, 0x00000000, 0x00000000, 0x00000000, .const, .one .aon, .idx 6⟩,
  ⟨0x070020, [(64, 48)], 0x00000000, 0x00000000, 0x00000000, 0x00000000, .const, .one .aon, .idx 6⟩,
  ⟨0x070024, [(64, 48)], 0x00000000, 0x00000000, 0x00000000, 0x00000000, .const, .one .brk, .idx 6⟩,
  ⟨0x070028, [(64, 48)], 0xE000FFFF, 0x00000000, 0x00000000, 0x00000000, .const, .one .brk, .idx 6⟩,
  ⟨0x071000, [], 0x00000000, 0x40000000, 0x00000000, 0x00000000, .const, .one .aon, .blk 112⟩,
  ⟨0x071004, [(4, 2)], 0x00000000, 0x00000000, 0x00000000, 0x00000000, .const, .one .aon, .blk 112⟩,
  ⟨0x071100, [(8, 64)], 0x01FFFFFF, 0x00000000, 0x00000000, 0x000003C0, .const, .one .brk, .idx 18⟩,
  ⟨0x071104, [(8, 64)], 0x01FFFFFF, 0x00000000, 0x00000000, 0x00000000, .const, .one .brk, .idx 18⟩]

/-- The registers of block FAN. -/
def regsFan : List RegDesc := [
  ⟨0x080000, [(64, 16)], 0xFFFFFFFF, 0x00000000, 0x00000000, 0x08000000, .const, .one .brk, .idx 7⟩,
  ⟨0x080004, [(64, 16)], 0xFFFFFFFF, 0x00000000, 0x00000000, 0x14140BB8, .const, .one .brk, .idx 7⟩,
  ⟨0x080008, [(64, 16)], 0xFFFF0000, 0x00000000, 0x00000000, 0x32050000, .const, .one .brk, .idx 7⟩,
  ⟨0x08000C, [(64, 16)], 0xFFFFFFFF, 0x00000000, 0x00000000, 0x00000000, .const, .one .brk, .idx 7⟩,
  ⟨0x080010, [(64, 16)], 0x0000007F, 0x00000000, 0x00000000, 0x00000064, .const, .one .aon, .idx 7⟩,
  ⟨0x080014, [(64, 16)], 0x00000000, 0xE0000000, 0x00000000, 0x00000000, .const, .one .brk, .idx 7⟩,
  ⟨0x080018, [(64, 16)], 0x00000000, 0x00000000, 0x00000000, 0x00000000, .const, .one .brk, .idx 7⟩,
  ⟨0x08001C, [(64, 16)], 0x00000000, 0x00000000, 0x00000000, 0x00000000, .const, .one .brk, .idx 7⟩,
  ⟨0x080020, [(64, 16)], 0x00000000, 0x00000000, 0x00000000, 0x00000000, .const, .one .aon, .idx 7⟩,
  ⟨0x081000, [], 0x00000000, 0x00000000, 0x00000000, 0x00000000, .const, .one .aon, .blk 128⟩]

/-- The registers of block ESCH. -/
def regsEsch : List RegDesc := [
  ⟨0x090000, [], 0xFFFFFFC0, 0x00000000, 0x00000000, 0x00050F00, .const, .one .aon, .blk 144⟩,
  ⟨0x090004, [], 0xFFFFF07F, 0x00000000, 0x00000000, 0x3225805A, .const, .one .aon, .blk 144⟩,
  ⟨0x090008, [], 0x0000FFFF, 0x00000000, 0x00000000, 0x00000FA0, .const, .one .aon, .blk 144⟩,
  ⟨0x09000C, [], 0x0000FFFF, 0x00000000, 0x00000000, 0xFFFFFFFF, .const, .one .aon, .blk 144⟩,
  ⟨0x090010, [], 0xFFFF0000, 0x00000000, 0x00000000, 0x1E8C0000, .const, .one .aon, .blk 144⟩,
  ⟨0x090014, [], 0x00000000, 0xF8000000, 0x00000000, 0x00000000, .const, .one .aon, .blk 144⟩,
  ⟨0x090018, [], 0x00000000, 0x00000000, 0x00000000, 0x00000000, .const, .one .aon, .blk 144⟩,
  ⟨0x09001C, [], 0x00000000, 0x00000000, 0x00000000, 0xFFFFFFFF, .const, .one .aon, .blk 144⟩,
  ⟨0x090020, [], 0x00000000, 0x00000000, 0x00000000, 0xFFFFFFFF, .const, .one .aon, .blk 144⟩,
  ⟨0x090024, [], 0x00000000, 0x00000000, 0x00000000, 0x00000000, .const, .one .aon, .blk 144⟩,
  ⟨0x090028, [], 0x00000000, 0x00000000, 0x00000000, 0x00000000, .const, .one .aon, .blk 144⟩,
  ⟨0x09002C, [], 0x00000000, 0x00000000, 0x00000000, 0x00000000, .const, .one .aon, .blk 144⟩,
  ⟨0x090100, [(8, 48)], 0x8FFF0000, 0x00000000, 0x00000000, 0x00000000, .const, .one .aon, .idx 6⟩,
  ⟨0x090104, [(8, 48)], 0x00000000, 0x00000000, 0x00000000, 0x00000000, .const, .one .aon, .idx 6⟩]

/-- The registers of block BUS. -/
def regsBus : List RegDesc := [
  ⟨0x0A0000, [(16, 6)], 0xFFFFFCFF, 0x00000000, 0x00000000, 0x061FCCFF, .const, .one .bus, .idx 8⟩,
  ⟨0x0A0004, [(16, 6)], 0x00000000, 0x80000000, 0x00000000, 0x00000000, .const, .one .bus, .idx 8⟩,
  ⟨0x0A0008, [(16, 6)], 0x00000000, 0x00000000, 0x00000000, 0x00000000, .const, .one .bus, .idx 8⟩,
  ⟨0x0A0100, [(8, 32)], 0xFFFF00FF, 0x00000000, 0x00000000, 0x00000000, .const, .one .bus, .blk 160⟩,
  ⟨0x0A0104, [(8, 32)], 0xFFFFFFFF, 0x00000000, 0x00000000, 0x00000000, .const, .one .bus, .blk 160⟩,
  ⟨0x0A1000, [(4, 8)], 0xFF00FFFF, 0x00000000, 0x00000000, 0x00000064, .const, .one .bus, .idx 9⟩,
  ⟨0x0A1020, [(4, 8)], 0x00000000, 0x0000001C, 0x00000000, 0x00000000, .const, .one .bus, .idx 9⟩,
  ⟨0x0A1100, [(4, 64)], 0xFFFFFCFF, 0x00000000, 0x00000000, 0x00020000, .const, .one .bus, .i2cx⟩,
  ⟨0x0A2000, [(2048, 8), (128, 16)], 0xFFFFFFFF, 0x00000000, 0x00000000, 0xC0000000, .const, .one .bus, .idx 9⟩,
  ⟨0x0A2004, [(2048, 8), (128, 16), (4, 8)], 0xFFFFFFFF, 0x00000000, 0x00000000, 0x00000000, .const, .one .bus, .idx 9⟩,
  ⟨0x0A2024, [(2048, 8), (128, 16), (4, 8)], 0x00000000, 0x00000000, 0x00000000, 0x00000000, .const, .one .bus, .idx 9⟩]

/-- The registers of block TWIG. -/
def regsTwig : List RegDesc := [
  ⟨0x0A8000, [(16, 5)], 0xC0FF0FFF, 0x00000000, 0x00000000, 0x00780319, .const, .one .bus, .idx 10⟩,
  ⟨0x0A8004, [(16, 5)], 0x00000000, 0xF8000000, 0x00000000, 0x00000000, .const, .one .bus, .idx 10⟩,
  ⟨0x0A8008, [(16, 5)], 0x00000000, 0x00000000, 0x00000000, 0x00000000, .const, .one .bus, .idx 10⟩,
  ⟨0x0A800C, [(16, 5)], 0x00000000, 0x00000000, 0x00000000, 0x00000000, .const, .one .bus, .idx 10⟩,
  ⟨0x0A8100, [(32, 80)], 0x00000000, 0x20000000, 0x00000000, 0x00000000, .const, .one .bus, .idx 11⟩,
  ⟨0x0A8104, [(32, 80)], 0x00000000, 0x00000000, 0x00000000, 0x00000000, .const, .one .bus, .idx 11⟩,
  ⟨0x0A8108, [(32, 80)], 0x00000000, 0x00000000, 0x00000000, 0x00000000, .const, .one .bus, .idx 11⟩,
  ⟨0x0A810C, [(32, 80)], 0xFFFFFFFF, 0x00000000, 0x00000000, 0x00000000, .const, .one .bus, .idx 11⟩,
  ⟨0x0A8110, [(32, 80)], 0xFFFF003F, 0x00000000, 0x00000000, 0x00000000, .const, .one .bus, .idx 11⟩,
  ⟨0x0A8114, [(32, 80)], 0x00000000, 0x00000000, 0x00000000, 0x00000000, .const, .one .bus, .idx 11⟩]

/-- The registers of block GRAFT. -/
def regsGraft : List RegDesc := [
  ⟨0x0B0000, [], 0x800F0000, 0x00000000, 0x00000000, 0x00000000, .const, .one .gft, .blk 176⟩,
  ⟨0x0B0004, [], 0x00000000, 0x30010000, 0x00000000, 0x00040000, .const, .one .gft, .blk 176⟩,
  ⟨0x0B0010, [(16, 2)], 0x00000000, 0x00000000, 0x00000000, 0x00000000, .const, .one .gft, .blk 176⟩,
  ⟨0x0B0014, [(16, 2)], 0x00000000, 0x00000000, 0x00000000, 0x00000000, .const, .one .gft, .blk 176⟩,
  ⟨0x0B0030, [], 0x00000000, 0x00000000, 0x00000000, 0x00000000, .const, .one .gft, .blk 176⟩,
  ⟨0x0B0034, [], 0x00000000, 0x00000000, 0x00000000, 0x00000000, .const, .one .gft, .blk 176⟩,
  ⟨0x0B0100, [(4, 64)], 0xFCFFFFFF, 0x00000000, 0x00000000, 0x000A0000, .const, .one .gft, .blk 176⟩,
  ⟨0x0B0200, [(4, 4)], 0xFFFFFFFF, 0x00000000, 0x00000000, 0x00000000, .const, .one .gft, .blk 176⟩,
  ⟨0x0B0240, [(4, 16)], 0x00000000, 0x00000000, 0x00000000, 0x00000000, .const, .one .gft, .blk 176⟩]

/-- The registers of block HWD. -/
def regsHwd : List RegDesc := [
  ⟨0x0C0000, [], 0x00000000, 0xE0000000, 0x00000000, 0x00000000, .const, .one .hwd, .blk 192⟩,
  ⟨0x0C0004, [], 0x00000000, 0x00000000, 0x00000000, 0x00000000, .const, .one .hwd, .blk 192⟩,
  ⟨0x0C0008, [], 0x00000000, 0x00000000, 0x00000000, 0x00000000, .const, .one .hwd, .blk 192⟩,
  ⟨0x0C000C, [], 0xFC000000, 0x00000000, 0x00000000, 0x28000000, .const, .one .hwd, .blk 192⟩,
  ⟨0x0C0010, [], 0x00000000, 0x00000000, 0x00000000, 0x00000000, .const, .one .hwd, .blk 192⟩,
  ⟨0x0C0020, [], 0x000FFFFC, 0x00000000, 0x00000000, 0x00000000, .const, .one .hwd, .blk 192⟩,
  ⟨0x0C0040, [(4, 16)], 0x00000000, 0x00000000, 0x00000000, 0x00000000, .const, .one .hwd, .blk 192⟩,
  ⟨0x0C0080, [(4, 4)], 0x00000000, 0x00000000, 0x00000000, 0x00000000, .const, .one .hwd, .blk 192⟩,
  ⟨0x0C0400, [(4, 128)], 0xF03FFFFF, 0x00000000, 0x00000000, 0x00000001, .const, .one .hwd, .idx 15⟩]

/-- The registers of block GRR. -/
def regsGrr : List RegDesc := [
  ⟨0x0D0000, [], 0x80000000, 0x00000000, 0x00000000, 0x00000000, .const, .one .grr, .blk 208⟩,
  ⟨0x0D0004, [], 0x00000000, 0xC0000000, 0x00000000, 0x00000000, .const, .one .grr, .blk 208⟩,
  ⟨0x0D0008, [], 0x00000000, 0x00000000, 0x00000000, 0x00000000, .const, .one .grr, .blk 208⟩,
  ⟨0x0D000C, [], 0x00000000, 0x00000000, 0x00000000, 0x00000000, .const, .one .grr, .blk 208⟩,
  ⟨0x0D0010, [], 0x00000000, 0x00000000, 0x00000000, 0x00000000, .const, .one .grr, .blk 208⟩,
  ⟨0x0D0020, [], 0x0000FFFF, 0x00000000, 0x00000000, 0x00000000, .const, .one .grr, .blk 208⟩,
  ⟨0x0D0040, [(4, 16)], 0x00000000, 0x00000000, 0x00000000, 0x00000000, .const, .one .grr, .blk 208⟩,
  ⟨0x0D0080, [], 0x00000000, 0x00000000, 0x00000000, 0x00000000, .const, .one .grr, .blk 208⟩,
  ⟨0x0D1000, [(4, 256)], 0xFF0000FF, 0x00000000, 0x00000000, 0x00000000, .const, .one .grr, .idx 13⟩,
  ⟨0x0D2004, [(128, 32), (4, 31)], 0xFFFFFFFF, 0x00000000, 0x00000000, 0x00000000, .const, .one .grr, .blk 208⟩]

/-- The registers of block RTC. -/
def regsRtc : List RegDesc := [
  ⟨0x0E0000, [], 0x00000000, 0x00000000, 0x00000000, 0x00000000, .const, .one .bkp, .blk 224⟩,
  ⟨0x0E0004, [], 0x00000000, 0x00000000, 0x00000000, 0x00000000, .const, .one .bkp, .blk 224⟩,
  ⟨0x0E0008, [], 0x00000000, 0x00000000, 0x00000000, 0x00000000, .const, .one .bkp, .blk 224⟩,
  ⟨0x0E000C, [], 0x00000000, 0x00000000, 0x00000000, 0x00000006, .const, .one .bkp, .blk 224⟩,
  ⟨0x0E0010, [], 0x00000000, 0x00000000, 0x00000000, 0x00000001, .const, .one .bkp, .blk 224⟩,
  ⟨0x0E0014, [], 0x00000000, 0x00000000, 0x00000000, 0x00000001, .const, .one .bkp, .blk 224⟩,
  ⟨0x0E0018, [], 0x00000000, 0x00000000, 0x00000000, 0x00000000, .const, .one .bkp, .blk 224⟩,
  ⟨0x0E001C, [], 0x00000000, 0x00000000, 0x00000000, 0x00000020, .const, .one .bkp, .blk 224⟩,
  ⟨0x0E0020, [], 0x00000000, 0x00000000, 0x00000000, 0x00000000, .const, .one .bkp, .blk 224⟩,
  ⟨0x0E0024, [], 0x80000000, 0x00000000, 0x00000000, 0x00000000, .const, .one .bkp, .blk 224⟩,
  ⟨0x0E0028, [], 0x00000000, 0x0F800000, 0x00000000, 0x80000000, .const, .one .bkp, .blk 224⟩,
  ⟨0x0E002C, [], 0x000001FF, 0x00000000, 0x00000000, 0x00000000, .const, .one .bkp, .blk 224⟩,
  ⟨0x0E0030, [(8, 2)], 0xC73F7F7F, 0x00000000, 0x00000000, 0x00000000, .const, .one .bkp, .blk 224⟩,
  ⟨0x0E0034, [(8, 2)], 0x07071F3F, 0x00000000, 0x00000000, 0x07010101, .const, .one .bkp, .blk 224⟩,
  ⟨0x0E0040, [], 0xF8000000, 0x00000000, 0x00000000, 0x00000000, .const, .one .bkp, .blk 224⟩,
  ⟨0x0E0044, [], 0x80000000, 0x40000000, 0x00000000, 0x00000000, .const, .one .bkp, .blk 224⟩,
  ⟨0x0E0048, [], 0x00000000, 0x00000000, 0x00000000, 0x00000000, .const, .one .bkp, .blk 224⟩,
  ⟨0x0E004C, [], 0x00000000, 0x00000000, 0x00000000, 0x00000000, .const, .one .bkp, .blk 224⟩,
  ⟨0x0E0050, [], 0x00000000, 0x00000000, 0x00000000, 0x00000000, .const, .one .bkp, .blk 224⟩,
  ⟨0x0E0100, [(4, 16)], 0x00000000, 0x00000000, 0x00000000, 0x00000000, .const, .one .bkp, .blk 224⟩,
  ⟨0x0E0200, [(4, 64)], 0xFFFFFFFF, 0x00000000, 0x00000000, 0x00000000, .const, .one .bkp, .blk 224⟩]

/-- The registers of block THERM. -/
def regsTherm : List RegDesc := [
  ⟨0x0F0000, [(4, 9)], 0x00000000, 0x40000000, 0x00000000, 0x00000000, .const, .one .aon, .blk 240⟩,
  ⟨0x0F0040, [(4, 3)], 0x00000000, 0x0C000000, 0x00000000, 0x00000000, .const, .one .aon, .blk 240⟩,
  ⟨0x0F0050, [], 0x0000FFFF, 0x40000000, 0x00000000, 0x00001008, .const, .one .aon, .blk 240⟩,
  ⟨0x0F0054, [], 0x00000000, 0x00000000, 0x00000000, 0x00000000, .const, .one .aon, .blk 240⟩,
  ⟨0x0F0060, [], 0x00000000, 0x40000000, 0x00000000, 0x00000000, .const, .one .aon, .blk 240⟩,
  ⟨0x0F0064, [], 0x00000000, 0x00000000, 0x00000000, 0x00000000, .const, .one .aon, .blk 240⟩,
  ⟨0x0F0068, [], 0xC0000000, 0x00000000, 0x00000000, 0x00000000, .const, .one .aon, .blk 240⟩]

/-- The registers of block QSPI. -/
def regsQspi : List RegDesc := [
  ⟨0x100000, [], 0x00000000, 0x00000000, 0x00000000, 0x00000000, .const, .one .bus, .blk 256⟩]

/-- The families of the block that an address lies in (R34). -/
def regBlock (a : Nat) : List RegDesc :=
  if a < 0x010000 then [] else if a < 0x020000 then regsSys
  else if a < 0x030000 then regsHp
  else if a < 0x040000 then regsRoot
  else if a < 0x050000 then regsRq
  else if a < 0x060000 then regsCamb0 ++ regsCamb1
  else if a < 0x070000 then regsModel
  else if a < 0x080000 then regsDrv
  else if a < 0x090000 then regsFan
  else if a < 0x0A0000 then regsEsch
  else if a < 0x0A8000 then regsBus
  else if a < 0x0B0000 then regsTwig
  else if a < 0x0C0000 then regsGraft
  else if a < 0x0D0000 then regsHwd
  else if a < 0x0E0000 then regsGrr
  else if a < 0x0F0000 then regsRtc
  else if a < 0x100000 then regsTherm
  else if a < 0x110000 then regsQspi
  else []

/-- The indices of an offset from a family's base, first index first; none when no index gives it. -/
def regIndex : List (Nat × Nat) → Nat → Option (List Nat)
  | [], o => if o = 0 then some [] else none
  | (st, c) :: t, o => if o / st < c then (regIndex t (o % st)).map (o / st :: ·) else none

/-- The family and indices of an address, if it holds a register. -/
def regFindIn : List RegDesc → Nat → Option (RegDesc × List Nat)
  | [], _ => none
  | d :: t, a =>
    match (if d.base ≤ a then regIndex d.dims (a - d.base) else none) with
    | some ix => some (d, ix)
    | none => regFindIn t a

/-- The family and indices of an address, if it holds a register. -/
def regFind (a : Nat) : Option (RegDesc × List Nat) := regFindIn (regBlock a) a

/-- The reset value of a register (R5). -/
def RegDesc.resetAt (d : RegDesc) (ix : List Nat) : Word :=
  match d.rst with
  | .const => d.reset
  | .seqHi => if 128 ≤ ix.headD 0 then 0x3E8 else 3
  | .index => BitVec.ofNat 32 (ix.headD 0)
  | .modelP => if ix.getLastD 0 ∈ [0, 7, 13, 18, 22, 25, 27] then 0x447A0000 else 0

/-- The value an address reads before anything is written: the register's reset value, 0 where there is none. -/
def regReset (a : Nat) : Word :=
  match regFind a with
  | some (d, ix) => d.resetAt ix
  | none => 0

/-- The converter's domain (R35). -/
def cnvDom (c : Nat) : Dom := if c < 2 then .rta else if c < 4 then .rtb else .rtp

/-- The domain that a register belongs to. -/
def RegDesc.domAt (d : RegDesc) (ix : List Nat) : Dom :=
  match d.dom with
  | .one x => x
  | .byAin => if ix.headD 0 < 48 then .rta else .rtb
  | .bySeq => cnvDom (ix.headD 0 / 32)
  | .byCnv => cnvDom (ix.headD 0)

/-- R34, R35: the domain of the island that serves an address of the expert space, registers and holes alike. -/
def addrDom (a : Nat) : Dom :=
  match regFind a with
  | some (d, ix) => d.domAt ix
  | none =>
    if a < 0x030000 then .aon else if a < 0x040000 then .rta else if a < 0x050000 then .rta
    else if a < 0x070000 then .cmb else if a < 0x0A0000 then .aon else if a < 0x0B0000 then .bus
    else if a < 0x0C0000 then .gft else if a < 0x0D0000 then .hwd else if a < 0x0E0000 then .grr
    else if a < 0x0F0000 then .bkp else if a < 0x100000 then .aon else .bus

/-- An address inside a block of R34. -/
def addrMapped (a : Nat) : Bool := decide (0x010000 ≤ a) && decide (a ≤ 0x10FFFF)

end Sys2Proof.Machine
end

