-- ==== Sys2Proof/Machine/Tables.lean ====
section
/-! DEFINITION. Sys2Proof/Machine/Tables.lean: the operations on sparse tables. A table lists only entries that
differ from the default of their key, keys strictly rising (log entry 3). -/

namespace Sys2Proof.Machine

open Sys2Proof

/-- The listed value at a key. -/
def tblFind {α : Type} : Tbl α → Nat → Option α
  | [], _ => none
  | (k, v) :: t, x => if x = k then some v else tblFind t x

/-- The value at a key: listed, or the key's default. -/
def tblGetD {α : Type} (dflt : Nat → α) (t : Tbl α) (k : Nat) : α := (tblFind t k).getD (dflt k)

/-- The table without a key. -/
def tblErase {α : Type} : Tbl α → Nat → Tbl α
  | [], _ => []
  | (k, v) :: t, x => if x = k then tblErase t x else (k, v) :: tblErase t x

/-- The table with a key listed, in its place. -/
def tblPut {α : Type} : Tbl α → Nat → α → Tbl α
  | [], x, w => [(x, w)]
  | (k, v) :: t, x, w => if x < k then (x, w) :: (k, v) :: t else if x = k then (x, w) :: t else (k, v) :: tblPut t x w

/-- The table with a key set: writing a key's default removes its entry. -/
def tblSetD {α : Type} [DecidableEq α] (dflt : Nat → α) (t : Tbl α) (k : Nat) (v : α) : Tbl α :=
  if v = dflt k then tblErase t k else tblPut t k v

/-- The value at a key with one default for all keys. -/
def tblGet {α : Type} (d : α) (t : Tbl α) (k : Nat) : α := tblGetD (fun _ => d) t k

/-- The table with a key set, one default for all keys. -/
def tblSet {α : Type} [DecidableEq α] (d : α) (t : Tbl α) (k : Nat) (v : α) : Tbl α := tblSetD (fun _ => d) t k v

/-- The keys rise strictly, all above `lo`. -/
def tblRising {α : Type} : Option Nat → Tbl α → Bool
  | _, [] => true
  | lo, (k, _) :: t => (match lo with | none => true | some l => decide (l < k)) && tblRising (some k) t

/-- The canonical form: keys strictly rising, no entry equal to its default. -/
def tblWf {α : Type} [DecidableEq α] (dflt : Nat → α) (t : Tbl α) : Bool :=
  tblRising none t && t.all (fun e => decide (e.2 ≠ dflt e.1))

/-- The table without the keys that satisfy `p`. -/
def tblDrop {α : Type} (p : Nat → Bool) (t : Tbl α) : Tbl α := t.filter (fun e => !p e.1)

/-- The first element that satisfies `p`, and the list without it. -/
def takeFirst {α : Type} (p : α → Bool) : List α → Option (α × List α)
  | [] => none
  | x :: t => if p x then some (x, t) else (takeFirst p t).map (fun r => (r.1, x :: r.2))

/-- `x` put before the first element that it may stand before. -/
def insertBy {α : Type} (le : α → α → Bool) (x : α) : List α → List α
  | [] => [x]
  | y :: t => if le x y then x :: y :: t else y :: insertBy le x t

/-- The list sorted, equal elements in their order. -/
def sortBy {α : Type} (le : α → α → Bool) (l : List α) : List α := l.foldr (insertBy le) []

/-- `f` run over the numbers below `n` in ascending order. -/
def forRange {σ : Type} (n : Nat) (f : Nat → σ → σ) (s : σ) : σ := (List.range n).foldl (fun s i => f i s) s

/-- `f` run over a list in order. -/
def forEach {σ α : Type} (l : List α) (f : α → σ → σ) (s : σ) : σ := l.foldl (fun s x => f x s) s

end Sys2Proof.Machine
end

