-- ==== Sys2Proof/Machine/State.lean ====
section
/-! DEFINITION. Sys2Proof/Machine/State.lean: the state of the block: every register of the expert space as one sparse
table keyed by address, what each block holds beside its registers, model time, and the queue of waiting commands. -/

namespace Sys2Proof.Machine

open Sys2Proof

/-- The state of the block. -/
structure State where
  /-- Model time in ticks of 50 ns since the state after reset (log entry 1). -/
  now : Nat
  /-- R34: the registers, keyed by address in the expert block space; unlisted: the reset value. -/
  regs : Tbl Word
  /-- How many free values have been drawn (log entry 5). -/
  free : Nat
  /-- The commands that wait, first in, first out. -/
  pending : List Instr
  fab : FabState
  hp : HpState
  fw : FwState
  inp : InpState
  cnv : Tbl CnvSt
  rq : RqState
  /-- Sensor ports and Twig segments. -/
  field : FieldState
  /-- Cambium, the relay tuners and the zone models. -/
  camb : CambState
  /-- The drive channels and the energy scheduler. -/
  drv : DrvState
  /-- The fan controllers. -/
  fan : Tbl FanSt
  /-- The building buses, the BACnet device and the service UART. -/
  bus : BusState
  /-- Graft and the grove. -/
  gft : GraftState
  /-- Heartwood: records, journal, counters, user areas. -/
  heart : HeartState
  /-- The trend store. -/
  trend : TrendState
  /-- The growth-ring recorder. -/
  grr : RecorderState
  /-- The real-time clock. -/
  rtc : RtcState
  /-- Power, reset, start-up, firmware images. -/
  pwr : PowerState
  /-- Thermal monitor and safety comparator. -/
  ther : ThermState
deriving DecidableEq, Repr

/-- Why the block could stop. No row of the table stops (INVENTORY.md, "Faults"). -/
inductive Fault where
  /-- Raised by no meaning: the spec answers, rejects or ignores every wrong command. Safe. -/
  | unreachable
deriving DecidableEq, Repr

/-- Why a command could be refused. -/
inductive Refusal where
  /-- A command that has no meaning yet; raised by the dispatcher alone. Safe: the block stops. -/
  | notModelled (mnemonic : String)
deriving DecidableEq, Repr

/-- Sapflow after reset. -/
def fabReset : FabState := ⟨[], [], [], [], [], [], [], [], [], [], [], [], [], false, []⟩
/-- The host port after reset: no frame yet. -/
def hpReset : HpState := ⟨0, 0, [], none, 0, [], [], [], [], [], false, false, false, []⟩
/-- Ohmest firmware before it runs. -/
def fwReset : FwState :=
  ⟨[], 0, 0, [], [], [], [], [], none, none, 0, false, 0, [], [], [], [], [], [], [], [], [], [], [], [], [], none,
    none, [], [], 0, 0, none, false, false, [], []⟩
/-- The input stages after reset. -/
def inpReset : InpState := ⟨[], [], []⟩
/-- The result queue after reset. -/
def rqReset : RqState := ⟨[], [], [], [], [], [], [], 0⟩
/-- Sensor ports and Twig after reset. -/
def fldReset : FieldState := ⟨[], [], [], [], [], []⟩
/-- Cambium after reset of its domain. -/
def cambReset : CambState := ⟨0, 0, [], [], [], 0, [], [], [], []⟩
/-- The energy scheduler after reset of AON. -/
def drvReset : DrvState := ⟨[], [], 0, 0, 0, 0, none, [], none, 0, none, 0, []⟩
/-- The buses after reset. -/
def busReset : BusState := ⟨[], [], [], [], [], 0, none, []⟩
/-- Graft after reset of GFT. -/
def gftReset : GraftState :=
  ⟨[], [], [], [], [], [], [], [], [], [], 0, [], [], 0, 0, 0, 0, 0, false, 0, none, 0, [], 0, 0, [], [], [], [], [], [], [], [], []⟩
/-- An empty Heartwood, as manufactured. -/
def heartReset : HeartState := ⟨[], [], [], [], [], [], [], [], true, none, 0, 0, 0, none, false, [], 0⟩
/-- The trend store before a flash is seen. -/
def trendReset : TrendState := ⟨[], [], 0, [], false, false, [], [], [], (0, 0), (0, 0), (0, 0), 0, 0, 0⟩
/-- The recorder after reset of GRR. -/
def grrReset : RecorderState := ⟨false, [], [], [], [], none, [], 0, none, false, 0, 0, []⟩
/-- The clock after reset of BKP. -/
def rtcReset : RtcState := ⟨0, 0, 0, [], false, 0, 0, false, false, false, none, 0, 0⟩
/-- Power-on reset has released; start-up is due (R530). -/
def pwrReset : PowerState := ⟨none, false, false, true, false, none, 0, false, 0, 0, 0, [], [], 0, false, false, none, false, none, false⟩
/-- The monitor after the power-on reset. -/
def therReset : ThermState := ⟨[], 0, none, 0, none, none, 0, [], 0⟩

/-- The machine right after the power-on reset releases (R513, R530 step 1): every register at its reset value, the
switchable domains off, no command waiting. -/
def State.reset : State :=
  { now := 0, regs := [], free := 0, pending := [], fab := fabReset, hp := hpReset, fw := fwReset, inp := inpReset,
    cnv := [], rq := rqReset,
    field := fldReset,
    camb := cambReset,
    drv := drvReset,
    fan := [],
    bus := busReset,
    gft := gftReset,
    heart := heartReset,
    trend := trendReset,
    grr := grrReset,
    rtc := rtcReset,
    pwr := pwrReset,
    ther := therReset }

end Sys2Proof.Machine
end

