-- ==== Sys2Proof/Machine/Flags.lean ====
section
/-! DEFINITION. Sys2Proof/Machine/Flags.lean: reading and setting registers, their fields, flags and counters
(R3 to R7), as hardware and firmware do it. -/

namespace Sys2Proof.Machine

open Sys2Proof

/-- The stored value of a register. -/
def State.reg (s : State) (a : Nat) : Word := tblGetD regReset s.regs a
/-- Set the stored value of a register. -/
def State.setReg (s : State) (a : Nat) (v : Word) : State := { s with regs := tblSetD regReset s.regs a v }
/-- Set a field of a register. -/
def State.setF (s : State) (a lo n v : Nat) : State := s.setReg a (setFld (s.reg a) lo n v)
/-- Set a flag of a register. -/
def State.setB (s : State) (a i : Nat) (b : Bool) : State := s.setReg a (setBit (s.reg a) i b)
/-- R7: count a counter field of a register up by one, saturating. -/
def State.bump (s : State) (a lo n : Nat) : State := s.setReg a (bumpFld (s.reg a) lo n)
/-- A field of a register. -/
def State.f (s : State) (a lo n : Nat) : Nat := fld (s.reg a) lo n
/-- A flag of a register. -/
def State.b (s : State) (a i : Nat) : Bool := bit (s.reg a) i
/-- Model time moves on to `t` if it is not there yet (log entry 1). -/
def State.advTo (s : State) (t : Nat) : State := { s with now := max s.now t }
/-- A free value is drawn (log entry 5). -/
def State.draw (s : State) : Word × State := (Config.freeWord s.free, { s with free := s.free + 1 })

end Sys2Proof.Machine
end

