-- ==== Sys2Proof/Machine/Ops.lean ====
section
/-! DEFINITION. Sys2Proof/Machine/Ops.lean: the named operations that the meanings share: reading and writing
registers by field type (R3 to R7), time, power domains (R31, R511), Sapflow streams (R18 to R28), doorbells and
events (R69, R70, R302), ownership (R107 to R110). -/

namespace Sys2Proof.Machine

open Sys2Proof

/-! ### Time -/

/-- Ticks of a number of µs: a tick is 50 ns (log entry 1). -/
def usT (n : Nat) : Nat := 20 * n
/-- Ticks of a number of ms. -/
def msT (n : Nat) : Nat := 20000 * n
/-- Ticks of a number of s. -/
def secT (n : Nat) : Nat := 20000000 * n
/-- The µs time base (R159). -/
def nowUs (s : State) : Nat := s.now / 20
/-- Time in ms. -/
def nowMs (s : State) : Nat := s.now / 20000
/-- Time in s. -/
def nowSec (s : State) : Nat := s.now / 20000000

/-! ### Power domains -/

/-- The bit of a switchable domain in SYS_PWRCTL and SYS_PWRSTAT (R537). -/
def domBit : Dom → Option Nat
  | .cmb => some 0 | .rta => some 1 | .rtb => some 2 | .rtp => some 3 | .grr => some 4
  | .hwd => some 5 | .bus => some 6 | .gft => some 7 | .brk => some 8
  | .bkp => none | .aon => none | .crn => none

/-- R511: the domain is on. -/
def domOn (d : Dom) (s : State) : Bool :=
  match domBit d with
  | some b => bit (s.reg aSysPwrstat) b
  | none => true

/-- R5, R511: every register of a domain at its reset value. -/
def resetDomRegs (d : Dom) (s : State) : State :=
  { s with regs := tblDrop (fun a => match regFind a with | some (r, ix) => decide (r.domAt ix = d) | none => false) s.regs }

/-! ### Writing a register by field type -/

/-- R3, R4: the value of a register after a write of `v`. -/
def writeVal (d : RegDesc) (old v : Word) : Word :=
  (((old &&& ~~~ d.rw) ||| (v &&& d.rw)) ||| (v &&& d.w1s)) &&& ~~~ (v &&& d.w1c)

/-- A write that applies per field type and has no further effect. -/
def plainWrite (a : Nat) (v : Word) (s : State) : State :=
  match regFind a with
  | some (d, _) => s.setReg a (writeVal d (s.reg a) v)
  | none => s

/-! ### Sapflow -/

/-- The domain of an island (R12). -/
def islandDom : Nat → Option Dom
  | 1 => some .crn | 2 => some .cmb | 3 => some .rta | 4 => some .rtb | 5 => some .rtp | 6 => some .grr
  | 7 => some .bus | 8 => some .gft | 9 => some .aon | 10 => some .aon | 11 => some .hwd | _ => none

/-- R12: the destination names an island. -/
def islandOk (i : Nat) : Bool := (islandDom i).isSome

/-- A field of a header flit (R18). -/
def hfld (h : Flit) (lo n : Nat) : Nat := h.toNat / 2 ^ lo % 2 ^ n

/-- R18: a header flit. -/
def mkHdr (dst src cls tag len sid : Nat) (word : Word) : Flit :=
  BitVec.ofNat 64 (((((dst % 16 * 16 + src % 16) * 4 + cls % 4) * 64 + tag % 64) * 64 + len % 64) * 1024 + sid % 1024) <<< 32
    ||| BitVec.setWidth 64 word

/-- R33, R7: a fabric error: counted, and recorded while VALID is 0. -/
def fabricError (kind : Nat) (hdr : Flit) (s : State) : State :=
  let s := s.setReg aSysSfdrop (bumpFld (s.reg aSysSfdrop) 0 16)
  if bit (s.reg aSysSferr) 31 then s
  else s.setReg aSysSferr (BitVec.ofNat 32 (((((8 + kind % 8) * 16 + hfld hdr 56 4) * 16 + hfld hdr 60 4) * 4
    + hfld hdr 54 2) * 64 + hfld hdr 48 6) <<< 12)

/-- R31: a stream packet for an isolated island is discarded and counted. -/
def streamDrop (hdr : Flit) (s : State) : State :=
  fabricError 4 hdr (s.setReg aSysSfdrop (bumpFld (s.reg aSysSfdrop) 16 16))

/-- R20: the TAG of the next stream packet of a source and SID: 1 after reset, then plus 1 modulo 64. -/
def nextTag (src sid : Nat) (s : State) : Nat := tblGet 0 s.fab.txTag (1024 * src + sid) % 64 + (if tblGet 0 s.fab.txTag (1024 * src + sid) = 0 then 1 else 0)

/-- R20, R24, R31: send a stream packet; it is lost when the destination's domain is off. `entry` is the low word of the
sequence entry that a converter result was made with. -/
def sendResult (entry : Word) (src dst sid : Nat) (word : Word) (payload : List Flit) (s : State) : State :=
  let t := nextTag src sid s
  let h := mkHdr dst src 2 t payload.length sid word
  let s := { s with fab := { s.fab with txTag := tblSet 0 s.fab.txTag (1024 * src + sid) (t + 1) } }
  match islandDom dst with
  | some d => if domOn d s then { s with fab := { s.fab with flight := s.fab.flight ++ [⟨h, payload, s.now, entry⟩] } } else streamDrop h s
  | none => fabricError 3 h s

/-- R20: send a stream packet that is no converter result. -/
def sendStream (src dst sid : Nat) (word : Word) (payload : List Flit) (s : State) : State :=
  sendResult 0 src dst sid word payload s

/-- R20: the sink takes a packet's TAG: a gap counts as lost packets, the first packet after reset counts none. -/
def sinkTag (h : Flit) (s : State) : State :=
  let k := 1024 * (16 * hfld h 60 4 + hfld h 56 4) + hfld h 32 10
  let last := tblGet 0 s.fab.rxTag k
  let tag := hfld h 48 6
  let gap := if last = 0 then 0 else (tag + 64 - last % 64) % 64
  { s with fab := { s.fab with rxTag := tblSet 0 s.fab.rxTag k (tag + 1), gaps := tblSet 0 s.fab.gaps k (tblGet 0 s.fab.gaps k + gap) } }

/-- R28: two packets have the same source, destination and class. -/
def sameFlow (h k : Flit) : Bool :=
  decide (hfld h 54 2 = hfld k 54 2) && decide (hfld h 56 4 = hfld k 56 4) && decide (hfld h 60 4 = hfld k 60 4)

/-- R28: the oldest packet under way that satisfies `p` and has no older one of its source, destination and class before
it. -/
def nextPacket (p : Packet → Bool) : List Packet → List Packet → Option (Packet × List Packet)
  | _, [] => none
  | before, x :: t =>
    if p x && !before.any (fun y => sameFlow y.hdr x.hdr) then some (x, before.reverse ++ t)
    else nextPacket p (x :: before) t

/-- R28: the oldest packet that satisfies `p` arrives, when it is the next of its source, destination and class. -/
def takePacket (p : Packet → Bool) (s : State) : Option (Packet × State) :=
  (nextPacket p [] s.fab.flight).map (fun r => (r.1, sinkTag r.1.hdr { s with fab := { s.fab with flight := r.2 } }))

/-- R23: the payload flit of a point or slot value. -/
def valueFlit (v : F32) (stamp : Word) : Flit := v ++ stamp
/-- The value half of a payload flit. -/
def flitVal (f : Flit) : F32 := f.extractLsb' 32 32
/-- The timestamp and flag half. -/
def flitLow (f : Flit) : Word := f.extractLsb' 0 32

/-! ### Doorbells and events -/

/-- READY: firmware serves mailboxes. -/
def ready (s : State) : Bool := bit (s.reg aHpStat) 31

/-- R69: firmware or hardware sets an HP_DBOUT bit. -/
def ringBit (b : Nat) (s : State) : State := s.setReg aHpDbout (setBit (s.reg aHpDbout) b true)

/-- The HP_DBOUT bits that the configuration assigns to an event. -/
def eventBits (code : Nat) (s : State) : List Nat :=
  match s.fw.image with
  | some im => (im.dbout.filter (fun p => p.2 = code)).map (·.1)
  | none => []

/-- R302: an event rings its bits, or once when READY returns. -/
def ringEvent (code : Nat) (s : State) : State :=
  if ready s then forEach (eventBits code s) ringBit s
  else if code ∈ s.fw.events then s else { s with fw := { s.fw with events := s.fw.events ++ [code] } }

/-! ### Objects and owners -/

/-- R97: the instances of an object type; none for an unknown type. -/
def objCount : Nat → Option Nat
  | 0x01 => some 256 | 0x02 => some 96 | 0x03 => some 48 | 0x04 => some 32 | 0x05 => some 1 | 0x06 => some 48
  | 0x07 => some 16 | 0x08 => some 6 | 0x09 => some 8 | 0x0A => some 5 | 0x0B => some 80 | 0x0C => some 128
  | 0x0D => some 256 | 0x0E => some 16 | 0x0F => some 128 | 0x10 => some 192 | 0x11 => some 32 | 0x12 => some 64
  | 0x13 => some 3 | 0x14 => some 96 | 0x1F => some 0x101 | _ => none

/-- R97: an object reference. -/
def mkRef (t n : Nat) : Word := BitVec.ofNat 32 (t * 2 ^ 24 + n)
/-- Its type. -/
def refType (r : Word) : Nat := fld r 24 8
/-- Its instance. -/
def refInst (r : Word) : Nat := fld r 0 16

/-- The block numbers of type 0x1F (R34, R97). -/
def blockNums : List Nat := [0x010, 0x020, 0x030, 0x040, 0x050, 0x060, 0x070, 0x080, 0x090, 0x0A0, 0x0A8, 0x0B0, 0x0C0, 0x0D0, 0x0E0, 0x0F0, 0x100]

/-- R97: the status of naming an object: 0, BAD_ARG for an unknown type or a reserved bit, NOT_FOUND for an instance
out of range. -/
def refCheck (r : Word) : Nat :=
  if fld r 16 8 ≠ 0 then 0x10 else
  match objCount (refType r) with
  | none => 0x10
  | some n => if refType r = 0x1F then (if refInst r ∈ blockNums then 0 else 0x15) else if refInst r < n then 0 else 0x15

/-- R97, R101: the object that a register belongs to. -/
def RegDesc.objRef (d : RegDesc) (ix : List Nat) (s : State) : Word :=
  match d.obj with
  | .blk n => mkRef 0x1F n
  | .idx t => mkRef t (ix.headD 0)
  | .pir => mkRef 0x14 (84 + ix.headD 0)
  | .i2cx => mkRef 0x09 (fld (s.reg (d.base + 4 * ix.headD 0)) 28 3)

/-- R101: the resource that an address belongs to; none where no register stands. -/
def addrRef (a : Nat) (s : State) : Option Word := (regFind a).map (fun p => p.1.objRef p.2 s)

/-- The claim on a resource, if any. -/
def claimOf (r : Word) (s : State) : Option Claim := s.fw.claims.find? (fun c => c.ref = r)
/-- The service that holds a resource, if any. -/
def serviceOf (r : Word) (s : State) : Option Service := s.fw.services.find? (fun c => c.ref = r)
/-- R103: firmware does not write a claimed resource. -/
def claimed (r : Word) (s : State) : Bool := (claimOf r s).isSome

/-- R133, R335: a capture unit follows the pulse input, or the enabled fan, that names it; a PWM generator the enabled fan, or
the channel in LSW PWM: the object whose layers own a resource. -/
def layerRef (r : Word) (s : State) : Word :=
  let u := refInst r
  let fan := fun (lo n : Nat) => ((List.range 16).find? (fun f => s.b (aFanCfg f) 31 && decide (s.f (aFanCfg f) lo n = u))).map (mkRef 0x07)
  if refType r = 0x11 then
    (match (List.range 96).find? (fun n => decide (s.f (aRootAincfg n) 4 4 = 10) && decide (s.f (aRootAincfg n) 8 5 = u)) with
     | some n => mkRef 0x14 n
     | none => (fan 16 5).getD r)
  else if refType r = 0x12 then
    (match fan 21 6 with
     | some f => f
     | none => (((List.range 48).find? (fun n => decide (s.f (aDrvCtl n) 0 4 = 1) && decide (s.f (aDrvCtl n) 12 2 = 1)
         && decide (s.f (aDrvCtl n) 16 6 = u))).map (mkRef 0x06)).getD r)
  else r

/-- The object of an item. -/
def layerNames (items : List Item) (r : Word) : Bool := items.any (fun i => i.ref = r)

/-- R279: the zone of a resource, 48 for the device level. -/
def resZone (r : Word) (s : State) : Nat :=
  if refType r = 0x02 then
    (let z := fld (s.reg (aCambCtl (refInst r))) 18 6; if z = 0x3F then 48 else z)
  else if refType r = 0x03 then refInst r else
  match s.fw.image with
  | some im => (match im.zones.find? (fun p => p.1 = r) with | some p => p.2 | none => 48)
  | none => 48

/-- The state of a zone, 48 for the device level. -/
def zoneSt (z : Nat) (s : State) : ZoneSt := tblGet zoneSt0 s.fw.zone z
/-- Set the state of a zone. -/
def setZone (z : Nat) (v : ZoneSt) (s : State) : State := { s with fw := { s.fw with zone := tblSet zoneSt0 s.fw.zone z v } }

/-- An overlay of the image in force. -/
def overlayOf (k : Nat) (s : State) : Option Overlay := s.fw.image.bind (fun im => (im.overlays.getD k none))

/-- R281, R109: the active condition and safety overlays, highest rank first. -/
def rankedActive (s : State) : List Nat :=
  let rank := fun k => match overlayOf k s with
    | some o => (match o.kind with | .safety => 0 | .cond r => r | .mode _ => 6)
    | none => 7
  (List.range 6).flatMap (fun r => s.fw.active.filter (fun k => rank k = r))

/-- R279: the number of the mode overlay in force for a zone or the device level. -/
def modeOverlayOf (z : Nat) (s : State) : Option Nat :=
  match (zoneSt z s).mode with
  | none => none
  | some m => (List.range 16).find? (fun k => match overlayOf k s with | some o => decide (o.kind = .mode m) | none => false)

/-- R280, R109: the active overlays that bear on a resource, highest first: safety and condition overlays, then the
mode overlay of its zone. -/
def layersFor (r : Word) (s : State) : List Nat :=
  rankedActive s ++ (match modeOverlayOf (resZone r s) s with | some k => [k] | none => [])

/-- An owner word (R107). -/
def ownerWord (kind idx svc tag : Nat) : Word := BitVec.ofNat 32 (((kind * 16 + idx) * 256 + svc) * 64 + tag) <<< 10

/-- R107, R109, R280: the owner of a resource. -/
def ownerOf (r : Word) (s : State) : Word :=
  let q := layerRef r s
  let hi := (rankedActive s).find? (fun k => match overlayOf k s with | some o => layerNames o.items q | none => false)
  match hi with
  | some k => ownerWord (match overlayOf k s with | some o => if o.kind = .safety then 4 else 3 | none => 3) k 0 63
  | none =>
    match claimOf r s with
    | some c => ownerWord 6 c.secure.toNat 0 c.tag
    | none =>
      match serviceOf r s with
      | some v => ownerWord 5 0 v.svc v.tag
      | none =>
        match (modeOverlayOf (resZone q s) s).filter (fun k => match overlayOf k s with | some o => layerNames o.items q | none => false) with
        | some k => ownerWord 2 k 0 63
        | none =>
          match s.fw.image with
          | some im => if layerNames im.base q then ownerWord 1 0 0 63 else ownerWord 0 0 0 63
          | none => ownerWord 0 0 0 63

/-- The kind of an owner word. -/
def ownerKind (w : Word) : Nat := fld w 28 4

/-- R102, R110: a claim or a service may take the resource. -/
def ownerFree (r : Word) (s : State) : Bool := decide (ownerKind (ownerOf r s) ≤ 2)

/-- R309: owned by the base configuration or the mode overlay (or by none). -/
def ownerBase (r : Word) (s : State) : Bool := decide (ownerKind (ownerOf r s) ≤ 2)

/-! ### Time words -/

/-- R490, R606: the clock has a valid time. -/
def clockValid (s : State) : Bool := !bit (s.reg aRtcStat) 31

end Sys2Proof.Machine
end

