-- ==== Sys2Proof/Machine/ResultQueue.lean ====
section
/-! DEFINITION. Sys2Proof/Machine/ResultQueue.lean: the result queue (05): time extension, scalers, shared points,
partitions, the latest-value table and its readers. -/

namespace Sys2Proof.Machine

open Sys2Proof

/-- R159: the µs time base of the RTA island. -/
def timeBaseUs (s : State) : Nat := (s.now - s.rq.origin) / 20
/-- R172: the time base in whole ms. -/
def timeBaseMs (s : State) : Nat := timeBaseUs s / 1000

/-- R159: the latest time at or before `t` whose low 9 bits are `ts`. -/
def extendTs (t ts : Nat) : Nat := t - (t + 512 - ts % 512) % 512

/-! ### Scaling (R167, R168) -/

/-- R167: the polynomial by Horner's rule, with fused multiply-add. -/
def polyScale (n : Nat) (x : F32) (s : State) : F32 :=
  [4, 3, 2, 1, 0].foldl (fun y k => f32Fma y x (s.reg (aRqC n k))) (s.reg (aRqC n 5))

/-- R167: the table, linear between its 33 values; true when x lay outside XMIN to XMAX. -/
def tableScale (n : Nat) (x : F32) (s : State) : F32 × Bool :=
  let t := s.f (aRqPcfg n) 22 6
  let lo := s.reg (aRqXmin n)
  let hi := s.reg (aRqXmax n)
  if f32Lt x lo then (s.reg (aRqTab t 0), true)
  else if f32Lt hi x then (s.reg (aRqTab t 32), true)
  else
    let pos := f32Div (f32Mul (f32Sub x lo) (f32OfNat 32)) (f32Sub hi lo)
    let k := min 31 (if f32Fin pos then (f32Rat pos).floor.toNat else 0)
    let a := s.reg (aRqTab t k)
    let b := s.reg (aRqTab t (k + 1))
    (f32Fma (f32Sub pos (f32OfNat k)) (f32Sub b a) a, false)

/-- R167, R168: the engineering value of input x of a point, and whether RANGE sets. -/
def scalePoint (n : Nat) (x : F32) (s : State) : F32 × Bool :=
  let r := if s.b (aRqPcfg n) 28 then tableScale n x s else (polyScale n x s, false)
  if f32Fin r.1 then (r.1, r.2 || f32Lt r.1 (s.reg (aRqLo n)) || f32Lt (s.reg (aRqHi n)) r.1)
  else (s.reg (aRqLo n), true)

/-- R151, R167: the scaler's input for a converter result: the voltage at the converter, by the gain that the entry ran
with. -/
def converterX (conv : Nat) (entry : Word) (data : Nat) : F32 :=
  let gain := 2 ^ fld entry 12 3
  if conv < 4 then f32OfRat (mkRat ((data * 5 : Nat) : Int) (2 * gain * 2 ^ 24))
  else f32OfRat (mkRat (signed 24 data * 5) (2 * gain * 2 ^ 23))

/-! ### Partitions (R162 to R164) -/

/-- Entries of partition p. -/
def partOf (p : Nat) (s : State) : List PartEntry := if p = 0 then s.rq.cmb else if p = 1 then s.rq.crown else s.rq.stream
/-- R162: capacity of partition p. -/
def partCap (p : Nat) : Nat := if p = 1 then 512 else 256
/-- Set partition p and show its fill. -/
def setPart (p : Nat) (l : List PartEntry) (s : State) : State :=
  let rq := if p = 0 then { s.rq with cmb := l } else if p = 1 then { s.rq with crown := l } else { s.rq with stream := l }
  State.setF { s with rq := rq } (aRqPart p) 0 10 l.length

/-- R163, R164: append a value to partition p: the oldest entry is dropped from a full one, which counts, sets OVF
and marks the next entry delivered; a host stream that fills past 128 rings STREAM_HALF. -/
def appendPart (p : Nat) (e : PartEntry) (s : State) : State :=
  let l := partOf p s
  let full := decide (partCap p ≤ l.length)
  let s := if full then
      ((s.bump (aRqPart p) 16 16).setB (aRqPart p) 15 true)
    else s
  let s := if full then { s with rq := { s.rq with lostNext := tblSet false s.rq.lostNext p true } } else s
  let s := if full ∧ p = 2 then { s with fw := { s.fw with streamLost := min 65535 (s.fw.streamLost + 1) } } else s
  let s := setPart p ((if full then l.drop 1 else l) ++ [e]) s
  if p = 2 && decide (l.length = 128) then ringEvent 2 s else s

/-- R163: the oldest entry of partition p is delivered, with LOST after a drop. -/
def popPart (p : Nat) (s : State) : Option (PartEntry × State) :=
  match partOf p s with
  | [] => none
  | e :: t =>
    let lost := tblGet false s.rq.lostNext p
    let e := if lost then { e with hi := setBit e.hi 1 true } else e
    some (e, setPart p t { s with rq := { s.rq with lostNext := tblSet false s.rq.lostNext p false } })

/-- R162, R163: firmware drains the Crown partition and keeps each point's latest value; the first entry it gets carries
LOST after a drop. -/
def crownDrain (s : State) : State :=
  let lost := tblGet false s.rq.lostNext 1
  let l := match s.rq.crown with | [] => [] | e :: t => (if lost then { e with hi := setBit e.hi 1 true } else e) :: t
  let pts := l.foldl (fun t e => tblSet none t e.point (some (e.val, e.hi))) s.fw.crownPts
  if l.isEmpty then s else
    let s := { s with fw := { s.fw with crownPts := pts } }
    let s := { s with rq := { s.rq with crown := [], lostNext := tblSet false s.rq.lostNext 1 false } }
    s.setF (aRqPart 1) 0 10 0

/-- R161 steps 5 and 6: write the latest-value table entry and append to the partitions the point names. -/
def publish (n : Nat) (v : F32) (ms : Nat) (flags : Nat) (s : State) : State :=
  let hi : Word := BitVec.ofNat 32 (ms % 2 ^ 24 * 256 + flags % 256)
  let s := (s.setReg (aRqLvtlo n) v).setReg (aRqLvthi n) hi
  let s := s.setB (aRqPtstat n) 1 (decide (flags / 4 % 2 = 1))
  let e : PartEntry := ⟨n, v, hi⟩
  let c := s.reg (aRqPcfg n)
  let s := if bit c 21 then appendPart 0 e s else s
  let s := if bit c 20 then appendPart 1 e s else s
  if bit c 19 then appendPart 2 e s else s

/-- R166, R168: a value of a virtual point: not finite gives LO with RANGE; outside LO to HI sets RANGE. Nothing
happens while the RTA domain is off. -/
def publishVirtual (n : Nat) (v : F32) (s : State) : State :=
  if domOn .rta s then
    let fin := f32Fin v
    let y := if fin then v else s.reg (aRqLo n)
    let range := !fin || f32Lt v (s.reg (aRqLo n)) || f32Lt (s.reg (aRqHi n)) v
    publish n y (timeBaseMs s) (if range then 4 else 0) s
  else s

/-! ### Shared points (R169, R170) -/

/-- R170: a comparison that failed or passed. -/
def judgePlaus (n : Nat) (fail : Bool) (s : State) : State :=
  if fail then
    let s := (((s.setB (aRqPtstat n) 0 true).setB (aRqPtstat n) 2 true).bump (aRqPtstat n) 24 8)
    { s with rq := { s.rq with passes := tblSet 0 s.rq.passes n 0 } }
  else
    let k := tblGet 0 s.rq.passes n + 1
    let s := { s with rq := { s.rq with passes := tblSet 0 s.rq.passes n k } }
    if max 1 (s.f (aRqPcfg n) 13 4) ≤ k then s.setB (aRqPtstat n) 0 false else s

/-- R169: a delta-sigma result of value `y` at time `t` (µs) compares with the latest SAR result, unless that is stamped
more than PWIN ms earlier. -/
def compareShared (n : Nat) (y : F32) (t : Nat) (s : State) : State :=
  let lim := s.reg (aRqPlim n)
  if f32Abs lim = 0 then s else
  match tblGet none s.rq.lastSar n with
  | some (ys, ts) =>
    if t - ts ≤ 1000 * max 1 (s.f (aRqPcfg n) 5 8) then
      judgePlaus n (!f32Le (f32Abs (f32Sub y ys)) lim) s
    else s.bump (aRqPtstat n) 16 8
  | none => s.bump (aRqPtstat n) 16 8

/-- R161 steps 4 to 6, R169, R170: a scaled value of a converter, stage or raw source. -/
def deliver (n : Nat) (shared sar : Bool) (y : F32) (t flags : Nat) (s : State) : State :=
  let s := if shared && sar then { s with rq := { s.rq with lastSar := tblSet none s.rq.lastSar n (some (y, t)) } }
    else if shared then compareShared n y t s else s
  let trusted := !shared || (s.b (aRqPcfg n) 18 ^^ sar)
  if trusted then
    let plaus := shared && s.b (aRqPtstat n) 0
    if plaus && s.b (aRqPcfg n) 17 then s.setB (aRqLvthi n) 5 true
    else publish n y (t / 1000) (flags ||| (if plaus then 32 else 0)) s
  else s

/-! ### Arrivals (R161) -/

/-- The converter index in a result packet (R157). -/
def resConv (f : Flit) : Nat := hfld f 61 3
/-- The input in a result packet. -/
def resInput (f : Flit) : Nat := hfld f 54 7
/-- R157: a result packet. -/
def mkResult (conv input entry pass data flags ts : Nat) : Flit :=
  BitVec.ofNat 64 ((((((conv % 8 * 128 + input % 128) * 32 + entry % 32) * 256 + pass % 256) * 2 ^ 24 + data % 2 ^ 24) * 256
    + flags % 256) * 512 + ts % 512)

/-- The packet is a result of this producer on its way to the queue. -/
def fromProducer (src : Producer) (p : Packet) : Bool :=
  let f := p.payload.headD 0
  decide (hfld p.hdr 60 4 = 3) && decide (hfld p.hdr 54 2 = 2) && decide (p.payload.length = 1) &&
  match src with
  | .converter c => decide (hfld p.hdr 56 4 ≤ 5 ∧ 3 ≤ hfld p.hdr 56 4 ∧ resConv f = c.val)
  | .stage n => decide (3 ≤ hfld p.hdr 56 4 ∧ hfld p.hdr 56 4 ≤ 4 ∧ 6 ≤ resConv f ∧ resInput f = n.val)
  | .i2c _ => decide (hfld p.hdr 56 4 = 7)
  | .twig _ => decide (hfld p.hdr 56 4 = 7)
  | .fan _ => decide (hfld p.hdr 56 4 = 10)
  | .drive _ => decide (hfld p.hdr 56 4 = 10)
  | .slot n => decide (hfld p.hdr 56 4 = 2 ∧ hfld p.hdr 32 10 = n.val)

/-- R161: the result queue handles one arrival. -/
def queueArrival (p : Packet) (s : State) : State :=
  let f := p.payload.headD 0
  let n := hfld p.hdr 32 8
  if hfld p.hdr 56 4 = 2 then (if s.f (aRqPcfg n) 29 3 = 4 then publishVirtual n (flitVal f) s else s)
  else if hfld p.hdr 56 4 ≤ 5 then
    let conv := resConv f
    let data := hfld f 17 24
    let flags := hfld f 9 8
    let t := extendTs (timeBaseUs s) (hfld f 0 9)
    let x := if conv < 6 then converterX conv p.entry data else f32OfNat data
    let r := scalePoint n x s
    let shared := decide (conv < 6) && bit p.entry 30
    deliver n shared (decide (conv < 4)) r.1 t (flags ||| (if r.2 then 4 else 0)) s
  else
    let r := scalePoint n (f32OfInt (signed 32 (hfld f 32 32))) s
    deliver n false false r.1 (timeBaseUs s) (hfld f 0 8 ||| (if r.2 then 4 else 0)) s

/-- R161: the rank of a result packet among those of one cycle: converters A to D, P, Q, stages, presence detectors, BUS;
then the others (log entry 156). -/
def arrivalRank (p : Packet) : Nat :=
  let src := hfld p.hdr 56 4
  if 3 ≤ src ∧ src ≤ 5 then resConv (p.payload.headD 0) else if src = 7 then 8 else 9

/-- R161, R171: a result of rank `r` that arrives in the cycle of `p`: packets that left their producers at one tick arrive
in one cycle. -/
def sameCycle (p : Packet) (r : Nat) (q : Packet) (s : State) : Bool :=
  decide (hfld q.hdr 60 4 = 3) && decide (hfld q.hdr 54 2 = 2) && decide (q.payload.length = 1) &&
  decide (q.sentAt = p.sentAt) && decide (arrivalRank q = r) &&
  !s.fab.flight.any (fun y => sameFlow y.hdr q.hdr && decide (y.sentAt < q.sentAt))

/-- R161: the queue takes the results of rank `r` of the cycle of `p`; at most `fuel` of them. -/
def takeRank (p : Packet) (r : Nat) : Nat → State → State
  | 0, s => s
  | fuel + 1, s =>
    match takeFirst (fun q => sameCycle p r q s) s.fab.flight with
    | some (q, rest) => takeRank p r fuel (queueArrival q (sinkTag q.hdr { s with fab := { s.fab with flight := rest } }))
    | none => s

/-- RESULT_ARRIVAL (R161): the oldest result of the producer that is under way reaches the queue, after those of the same
cycle that rank before it. -/
def execResultArrival (src : Producer) (s : State) : Host.Outcome State Fault Refusal :=
  match takePacket (fromProducer src) s with
  | some (p, t) => .next (if domOn .rta s then queueArrival p (forRange (arrivalRank p) (fun r u => takeRank p r t.fab.flight.length u) t) else t)
  | none => .next s

/-- R174: one entry: AGED sets when its time is at least 2^23 ms old. -/
def ageEntry (n : Nat) (s : State) : State :=
  let hi := s.reg (aRqLvthi n)
  let age := (timeBaseMs s % 2 ^ 24 + 2 ^ 24 - fld hi 8 24) % 2 ^ 24
  if 2 ^ 23 ≤ age then s.setReg (aRqLvthi n) (setBit hi 0 true) else s

/-- AGED_SWEEP (R174). -/
def execAgedSweep (s : State) : Host.Outcome State Fault Refusal :=
  .next (if domOn .rta s then forRange 256 ageEntry s else s)

/-- The number of a reader. -/
def readerNo : Reader → Nat
  | .core0 => 0 | .core1 => 1 | .host => 2

/-- R173: a read of a low word copies the high word into the reader's shadow. -/
def lvtLowRead (r : Reader) (n : Nat) (s : State) : State :=
  { s with rq := { s.rq with shadow := tblSet 0 s.rq.shadow (readerNo r) (s.reg (aRqLvthi n)) } }

/-- LVT_LOW_READ (R173). -/
def execLvtLowRead (reader : Reader) (p : Fin 256) (s : State) : Host.Outcome State Fault Refusal :=
  .next (if domOn .rta s then lvtLowRead reader p s else s)

/-! ### Writes with a rule of their own -/

/-- R608: the table range of point n is acceptable. -/
def tabRangeOk (n : Nat) (s : State) : Bool :=
  f32Fin (s.reg (aRqXmin n)) && f32Fin (s.reg (aRqXmax n)) &&
  (!s.b (aRqPcfg n) 28 || f32Lt (s.reg (aRqXmin n)) (s.reg (aRqXmax n)))

/-- R608: of a write request that led from `s` to `t`: keep it when point n is acceptable, else change nothing and set
CFGERR. -/
def settlePoint (n : Nat) (s t : State) : State :=
  if tabRangeOk n t || (decide (s.reg (aRqXmin n) = t.reg (aRqXmin n)) && decide (s.reg (aRqXmax n) = t.reg (aRqXmax n))
      && decide (s.b (aRqPcfg n) 28 = t.b (aRqPcfg n) 28)) then t
  else s.setB (aRqPtstat n) 3 true

/-- R223: a latest value is valid: none of OPEN, OVR, RANGE and AGED. -/
def flagsValid (hi : Word) : Bool := decide (hi &&& 0xC5#32 = 0)
/-- The latest value of a point, when valid (R162, R223). -/
def lvtValid (n : Nat) (s : State) : Option F32 :=
  if domOn .rta s && flagsValid (s.reg (aRqLvthi n)) then some (s.reg (aRqLvtlo n)) else none

end Sys2Proof.Machine
end

