-- ==== Sys2Proof/Machine/Inputs.lean ====
section
/-! DEFINITION. Sys2Proof/Machine/Inputs.lean: the analogue input stages (04): window comparators, contact and pulse
inputs, presence detectors, stage reports and mode changes. -/

namespace Sys2Proof.Machine

open Sys2Proof

/-- The domain of input n (R139). -/
def ainDom (n : Nat) : Dom := if n < 48 then .rta else .rtb
/-- The island that sends for input n. -/
def ainIsland (n : Nat) : Nat := if n < 48 then 3 else 4
/-- The mode of input n (R116). -/
def ainMode (n : Nat) (s : State) : Nat := s.f (aRootAincfg n) 4 4
/-- Hidden state of input n. -/
def inputSt (n : Nat) (s : State) : InputSt := tblGet inputSt0 s.inp.st n
/-- Set the hidden state of input n. -/
def setInput (n : Nat) (v : InputSt) (s : State) : State := { s with inp := { s.inp with st := tblSet inputSt0 s.inp.st n v } }
/-- Hidden state of detector k. -/
def pirSt (k : Nat) (s : State) : PirSt := tblGet pirSt0 s.inp.pir k
/-- Set the hidden state of detector k. -/
def setPir (k : Nat) (v : PirSt) (s : State) : State := { s with inp := { s.inp with pir := tblSet pirSt0 s.inp.pir k v } }

/-- R130: the mode of input n at time `at_`: a mode change leaves the old one until a running conversion completes. -/
def modeWhen (n at_ : Nat) (s : State) : Nat :=
  match (inputSt n s).oldMode with
  | some (m, e) => if at_ < e then m else ainMode n s
  | none => ainMode n s
/-- R130: the mode that stage n works in now. -/
def stageMode (n : Nat) (s : State) : Nat := modeWhen n s.now s

/-! ### Mode changes (R130, R132, R134, R142) -/

/-- R134, R135: the detector of an input that leaves PYRO shows neither presence nor an error. -/
def leavePyro (k : Nat) (s : State) : State :=
  let a := aRootPirstat k
  let s := { s with inp := { s.inp with pir := tblSet pirSt0 s.inp.pir k { pirSt k s with exc := [], holdEnd := none, satEnd := none } } }
  ((s.setB a 0 false).setB a 2 false).setB a 3 false

/-- R130, R132: the stage starts afresh at `at_` in the mode of its register. One that leaves OFF closes its switch after a
check; CURR has no comparator and needs none. -/
def enterMode (n old at_ : Nat) (s : State) : State :=
  let m := ainMode n s
  let i := inputSt n s
  let join := (i.joining || decide (old = 0)) && decide (m ≠ 0 ∧ m ≠ 8)
  let i := { i with state := none, last := none, equal := 0, changed := false, good := 0 }
  let s := setInput n { i with modeAt := some at_, joining := join, oldMode := none } s
  let s := if old = 11 ∧ m ≠ 11 then leavePyro (n - 84) s else s
  if m = 0 ∧ s.b (aRootAinstat n) 3 then
    ((((s.setB (aRootAinstat n) 2 false).setB (aRootAinstat n) 3 false).setB (aRootAinstat n) 4 false).setB
      (aRootAinstat n) 0 false).setB (aRootAinstat n) 1 false
  else s

/-- R130: a mode change whose running conversion has completed has taken effect. -/
def settleMode (n : Nat) (s : State) : State :=
  match (inputSt n s).oldMode with
  | some (m, e) => if e ≤ s.now then enterMode n m e s else s
  | none => s

/-- R130, R132: a mode change of input n: it takes effect at the end of a running conversion of the input. -/
def freshMode (n m : Nat) (ends : Option Nat) (s : State) : State :=
  let old := stageMode n s
  let s := s.setF (aRootAincfg n) 4 4 m
  match ends with
  | some e => if s.now < e then setInput n { inputSt n s with oldMode := some (old, e) } s else enterMode n old s.now s
  | none => enterMode n old s.now s

/-! ### Trips (R121 to R123) -/

/-- R116: the OVR ceiling of a mode in mV. -/
def ovrCeiling (mode : Nat) : Int := if mode = 6 then 13000 else if mode = 9 ∨ mode = 10 then 14000 else 5500
/-- R121: a pin voltage lies within the window of a mode. -/
def inWindow (mode : Nat) (mv : Int) : Bool := decide (-500 ≤ mv ∧ mv ≤ ovrCeiling mode)
/-- The stage's switch is closed: its domain on, not in OFF, not isolated and not waiting for its first check. -/
def stageJoined (n : Nat) (s : State) : Bool :=
  domOn (ainDom n) s && decide (stageMode n s ≠ 0) && !s.b (aRootAinstat n) 3 && !(inputSt n s).joining

/-- R121: OVR, ISOL and OVRSEEN set, OVRCNT counts once. -/
def tripInput (n : Nat) (ilim : Bool) (s : State) : State :=
  let a := aRootAinstat n
  let s := (((s.setB a 2 true).setB a 3 true).setB a 7 true).bump a 24 8
  let s := if ilim then s.setB a 4 true else s
  setInput n { inputSt n s with good := 0, closedAt := none, retestAt := s.now, joining := false } s

/-- INPUT_TRIP (R121): the window comparator of a connected stage sees `mv` at the pin and trips outside its window; it is
not used in CURR. -/
def execInputTrip (r : PinVoltage) (s : State) : Host.Outcome State Fault Refusal :=
  let s := settleMode r.n s
  .next (if stageJoined r.n s && decide (stageMode r.n s ≠ 8) && !inWindow (stageMode r.n s) r.mv then tripInput r.n false s else s)

/-- CURR_LIMIT_TRIP (R121): the limiter of a CURR input has held 30 mA for `heldUs` without a break. -/
def execCurrLimitTrip (r : PinLimit) (s : State) : Host.Outcome State Fault Refusal :=
  let s := settleMode r.n s
  .next (if stageJoined r.n s && decide (stageMode r.n s = 8) && decide (5000 ≤ r.heldUs) then tripInput r.n true s else s)

/-- R122: the switch closes: ISOL and ILIM clear, OVR clears 1 ms later. -/
def closeSwitch (n : Nat) (s : State) : State :=
  let s := (s.setB (aRootAinstat n) 3 false).setB (aRootAinstat n) 4 false
  setInput n { inputSt n s with good := 0, closedAt := some s.now, joinedAt := s.now } s

/-- R122: the re-test of a CURR input, 1 s after the trip or the last one: the shunt stays connected when at most 25 mA
(`reading` in µA) have flown for the 2 ms. -/
def retestCurrent (n : Nat) (reading : Int) (s : State) : State :=
  let t := (inputSt n s).retestAt + secT 1
  let s := (setInput n { inputSt n s with retestAt := t } s).advTo (t + msT 2)
  if decide (reading ≤ 25000) then closeSwitch n s else s

/-- R122: a check of the pin (`reading` in mV), 100 ms after the trip or the last one: the switch closes after two good
ones in a row. -/
def retestPin (n : Nat) (reading : Int) (s : State) : State :=
  let t := (inputSt n s).retestAt + msT 100
  let s := (setInput n { inputSt n s with retestAt := t } s).advTo t
  if inWindow (stageMode n s) reading then
    (if 1 ≤ (inputSt n s).good then closeSwitch n s else setInput n { inputSt n s with good := (inputSt n s).good + 1 } s)
  else setInput n { inputSt n s with good := 0 } s

/-- R130: the check of a stage that has left OFF: within the window of its mode the switch closes, else the stage trips. -/
def firstCheck (n : Nat) (reading : Int) (s : State) : State :=
  if inWindow (stageMode n s) reading then setInput n { inputSt n s with joining := false, joinedAt := s.now } s
  else tripInput n false s

/-- ISOL_RETEST (R122, R130): one check of an open stage; `reading` is the pin in mV, in CURR the current in µA. -/
def execIsolRetest (n : Fin 96) (reading : Int) (s : State) : Host.Outcome State Fault Refusal :=
  let s := settleMode n s
  .next (if !domOn (ainDom n) s then s
    else if s.b (aRootAinstat n) 3 then (if stageMode n s = 8 then retestCurrent n reading s else retestPin n reading s)
    else if (inputSt n s).joining then firstCheck n reading s
    else s)

/-- OVR_CLEAR (R122): 1 ms after the switch closed. -/
def execOvrClear (n : Fin 96) (s : State) : Host.Outcome State Fault Refusal :=
  match (inputSt n s).closedAt with
  | some t =>
    if s.b (aRootAinstat n) 3 then .next s
    else .next (setInput n { inputSt n s with closedAt := none, ovrEnd := t + msT 1 } ((s.advTo (t + msT 1)).setB (aRootAinstat n) 2 false))
  | none => .next s

/-- R140: EXCOFF of input n: it is in RTD2 or RTD3 and RTP is off. -/
def excOff (n : Nat) (s : State) : Bool := decide (stageMode n s = 3 ∨ stageMode n s = 4) && !domOn .rtp s

/-! ### Entries that an input's mode admits (R117, R118, R138) -/

/-- R118: an enabled entry with these EXC and DIAG is permitted on an input in `mode`. -/
def entryFits (mode exc diag : Nat) : Bool :=
  !decide (mode = 0 ∨ mode = 9 ∨ mode = 10 ∨ mode = 5 ∨ 11 < mode) &&
  decide ((exc ≠ 0) ↔ (mode = 3 ∨ mode = 4)) &&
  decide (diag = 0 ∨ (mode = 6 ∧ diag = 2) ∨ (mode = 7 ∧ (diag = 1 ∨ diag = 2)))

/-- EXC and DIAG of an entry's low word. -/
def entExc (lo : Word) : Nat := fld lo 7 2
def entDiag (lo : Word) : Nat := fld lo 5 2
/-- INPUT of an entry's low word. -/
def entInput (lo : Word) : Nat := fld lo 15 7

/-- Every enabled entry on input n fits the mode. -/
def entriesFit (n mode : Nat) (s : State) : Bool :=
  (List.range 192).all (fun k =>
    let lo := s.reg (aRootSeqlo k)
    !(bit lo 31 && decide (entInput lo = n)) || entryFits mode (entExc lo) (entDiag lo))

/-! ### Contact and pulse inputs (R131, R132) -/

/-- R131: the contact comparator: closed below 3.0 V, open above 6.0 V, else as before (open at first). -/
def contactClosed (prev : Option Bool) (mv : Int) : Bool :=
  if mv < 3000 then true else if 6000 < mv then false else prev.getD false

/-- The first time of the grid off, off + per, off + 2·per, … at or after `lo`. -/
def gridFrom (off per lo : Nat) : Nat := if lo ≤ off then off else off + (lo - off + (per - 1)) / per * per
/-- The earliest moment of the next event of a grid: now, or later when its last event was now. -/
def afterLast (last : Option Nat) (s : State) : Nat := match last with | some t => max s.now (t + 1) | none => s.now
/-- R132: the next end of a wetting pulse of input n: 50·n µs into the 5 ms grid, plus 250 µs. -/
def dryGrid (n : Nat) (s : State) : Nat :=
  gridFrom (s.rq.origin + usT (50 * n + 250)) (msT 5) (afterLast (inputSt n s).readAt s)
/-- R137: a change of input n is to be reported: only while PEN is 1. -/
def noteChange (n : Nat) (c : Bool) (s : State) : Bool := (inputSt n s).changed || (c && s.b (aRootAincfg n) 30)

/-- R132: one reading of a DRY input: a new state is accepted after DEB equal readings. -/
def dryReading (n : Nat) (mv : Int) (s : State) : State :=
  let i := inputSt n s
  let c := contactClosed i.last mv
  let k := if i.last = some c then i.equal + 1 else 1
  let acc := decide (s.f (aRootAincfg n) 16 6 ≤ k) && decide (i.state ≠ some c)
  let ch := noteChange n acc s
  setInput n { i with last := some c, equal := k, state := if acc then some c else i.state, changed := ch, readAt := some s.now } s

/-- DRY_READ (R132): the wetting pulse of a connected DRY input ends. -/
def execDryRead (n : Fin 96) (mv : Int) (s : State) : Host.Outcome State Fault Refusal :=
  let s := settleMode n s
  .next (if stageJoined n s && decide (stageMode n s = 9) then
    dryReading n mv (s.advTo (dryGrid n s)) else s)

/-- R132: an edge is of the kind that PEDGE counts: 0 falling (contact closing), 1 rising, 2 both. -/
def edgeCounts (pedge : Nat) (closing : Bool) : Bool := decide (pedge = 2) || (decide (pedge = 0) && closing) || (decide (pedge = 1) && !closing)

/-- R123: the level held for 1 ms is that which the switch found when it closed: no edge counts for it. -/
def levelFromClose (n : Nat) (s : State) : Bool :=
  decide ((inputSt n s).joinedAt ≠ 0) && decide (s.now ≤ (inputSt n s).joinedAt + msT 1)

/-- R132: a level held for 1 ms: the first is the initial level; a new one is an edge, counted by PEDGE. -/
def pulseLevel (n : Nat) (mv : Int) (s : State) : State :=
  let i := inputSt n s
  let c := contactClosed i.last mv
  match i.state with
  | none => setInput n { i with last := some c, state := some c } s
  | some old =>
    if old = c then setInput n { i with last := some c } s
    else if edgeCounts (s.f (aRootAincfg n) 2 2) c && !levelFromClose n s then
      let s := setInput n { i with last := some c, state := some c, edges := (i.edges + 1) % 2 ^ 24 } s
      let u := s.f (aRootAincfg n) 8 5
      { s with inp := { s.inp with cap := tblSet 0 s.inp.cap u (tblGet 0 s.inp.cap u + 1) } }
    else setInput n { i with last := some c, state := some c } s

/-- PULSE_EDGE (R132): the level of a connected PULSE input has held for 1 ms. -/
def execPulseEdge (n : Fin 96) (mv : Int) (s : State) : Host.Outcome State Fault Refusal :=
  let s := settleMode n s
  .next (if stageJoined n s && decide (stageMode n s = 10) then pulseLevel n mv s else s)

/-! ### Stage reports (R137) -/

/-- R123, R134, R137: the flags of a report. -/
def reportFlags (n : Nat) (s : State) : Nat :=
  (if s.b (aRootAinstat n) 2 then 64 else 0) +
  (if stageMode n s = 11 ∧ s.b (aRootPirstat (n - 84)) 2 then 128 else 0)

/-- R137: the data of a report. -/
def reportData (n : Nat) (s : State) : Nat :=
  let i := inputSt n s
  if stageMode n s = 9 then (i.state.getD false).toNat
  else if stageMode n s = 10 then i.edges
  else (s.b (aRootPirstat (n - 84)) 0).toNat

/-- R137, R157: send a report. -/
def sendReport (n : Nat) (s : State) : State :=
  let i := inputSt n s
  let m := stageMode n s
  let f := mkResult (if m = 11 then 7 else 6) n (if m = 10 then 1 else 0) i.reports (reportData n s) (reportFlags n s) (timeBaseUs s)
  let s := setInput n { i with reports := (i.reports + 1) % 256, changed := false, reportAt := some s.now } s
  sendStream (ainIsland n) 3 (s.f (aRootAincfg n) 22 8) 0 [f] s

/-- R137, R159: the next whole second of the time base at which input n has not yet reported. -/
def nextSecond (n : Nat) (s : State) : Nat :=
  gridFrom s.rq.origin (secT 1) (afterLast (inputSt n s).reportAt s)

/-- STAGE_REPORT (R137): the report of a change that is due at once, else the report of the next whole second. -/
def execStageReport (n : Fin 96) (s : State) : Host.Outcome State Fault Refusal :=
  let s := settleMode n s
  let m := stageMode n s
  .next (if domOn (ainDom n) s && s.b (aRootAincfg n) 30 && decide (m = 9 ∨ m = 10 ∨ m = 11) &&
      !(decide (m = 9) && (inputSt n s).state.isNone) then
    (if (inputSt n s).changed && decide (m ≠ 10) then sendReport n s else sendReport n (s.advTo (nextSecond n s)))
    else s)

/-! ### Presence detectors (R134 to R136) -/

/-- R135: the window in ticks. -/
def pirWindow (k : Nat) (s : State) : Nat := secT (2 * 2 ^ s.f (aRootPircfg k) 8 2)

/-- R135: an excursion counts; COUNT of them within WINDOW declare presence; each extends a presence in force. -/
def countExcursion (k : Nat) (s : State) : State :=
  let p := pirSt k s
  let exc := s.now :: p.exc.filter (fun t => decide (s.now - t ≤ pirWindow k s))
  let pres := s.b (aRootPirstat k) 0
  let declare := decide (max 1 (s.f (aRootPircfg k) 10 3) ≤ exc.length)
  let hold := some (s.now + secT (max 1 (s.f (aRootPircfg k) 16 12)))
  let s := setPir k { p with exc := exc, holdEnd := if pres || declare then hold else p.holdEnd } s
  if declare && !pres then
    let s := (s.setB (aRootPirstat k) 0 true).bump (aRootPirstat k) 16 16
    setInput (84 + k) { inputSt (84 + k) s with changed := noteChange (84 + k) true s } s
  else s

/-- R134: BIASERR follows the source node. -/
def biasSeen (k srcMv : Nat) (s : State) : State := s.setB (aRootPirstat k) 2 (decide (srcMv < 200 ∨ 2500 < srcMv))

/-- R135: the detector sees the preamplifier output. -/
def pirObserve (k outMv : Nat) (s : State) : State :=
  let a := aRootPirstat k
  let sat := decide (outMv < 50 ∨ 2450 < outMv)
  let was := s.b a 3
  let s := s.setB a 3 sat
  let s := if was && !sat then setPir k { pirSt k s with satEnd := some (s.now + secT 2) } s else s
  let th := 10 * max 1 (s.f (aRootPircfg k) 0 8)
  let out := decide (outMv + th < 1250 ∨ 1250 + th < outMv)
  if out && !sat && (pirSt k s).satEnd.isNone && !s.b a 1 then countExcursion k s else s

/-- R134: the stage of AIN84+k is in PYRO. -/
def pyro (k : Nat) (s : State) : Bool := domOn .rtb s && decide (stageMode (84 + k) s = 11)

/-- PIR_EXCURSION (R134, R135): the stage in PYRO sees the source node; with EN set the detector sees the output. -/
def execPirExcursion (k : Fin 12) (outMv srcMv : Nat) (s : State) : Host.Outcome State Fault Refusal :=
  let s := settleMode (84 + k) s
  .next (if pyro k s then
      (let s := biasSeen k srcMv s
       if s.b (aRootPircfg k) 31 then pirObserve k outMv s else s)
    else s)

/-- PIR_HOLD_EXPIRY (R135): HOLD seconds after the last excursion PRES falls. -/
def execPirHoldExpiry (k : Fin 12) (s : State) : Host.Outcome State Fault Refusal :=
  match (pirSt k s).holdEnd with
  | some t =>
    let s := (setPir k { pirSt k s with holdEnd := none } (s.advTo t)).setB (aRootPirstat k) 0 false
    .next (setInput (84 + k) { inputSt (84 + k) s with changed := noteChange (84 + k) true s } s)
  | none => .next s

/-- PIR_WARMUP_END (R136). -/
def execPirWarmupEnd (k : Fin 12) (s : State) : Host.Outcome State Fault Refusal :=
  match (pirSt k s).warmEnd with
  | some t => .next ((setPir k { pirSt k s with warmEnd := none } (s.advTo t)).setB (aRootPirstat k) 1 false)
  | none => .next s

/-- PIR_SAT_RESUME (R135): counting resumes 2 s after SAT cleared. -/
def execPirSatResume (k : Fin 12) (s : State) : Host.Outcome State Fault Refusal :=
  match (pirSt k s).satEnd with
  | some t => .next (setPir k { pirSt k s with satEnd := none } (s.advTo t))
  | none => .next s

/-- R136: the warm-up of a detector starts: WARM is 1 and PRES 0 for 30 s. -/
def pirWarm (k : Nat) (s : State) : State :=
  let s := setInput (84 + k) { inputSt (84 + k) s with changed := noteChange (84 + k) (s.b (aRootPirstat k) 0) s } s
  let s := setPir k { pirSt k s with exc := [], holdEnd := none, warmEnd := some (s.now + secT 30) } s
  (s.setB (aRootPirstat k) 1 true).setB (aRootPirstat k) 0 false

/-- R136: a write to ROOT_PIRCFGk; setting EN starts the warm-up. -/
def pircfgWrite (k : Nat) (v : Word) (s : State) : State :=
  let was := s.b (aRootPircfg k) 31
  let s := plainWrite (aRootPircfg k) v s
  if s.b (aRootPircfg k) 31 && !was then pirWarm k s else s

end Sys2Proof.Machine
end

