-- ==== Sys2Proof/Machine/Converters.lean ====
section
/-! DEFINITION. Sys2Proof/Machine/Converters.lean: the converters and their sequencers (05): passes, entries, codes,
open-wire judgement, urgent requests and the checks of entry writes. -/

namespace Sys2Proof.Machine

open Sys2Proof

/-- Hidden state of converter c. -/
def cnvSt (c : Nat) (s : State) : CnvSt := tblGet cnvSt0 s.cnv c
/-- Set the hidden state of converter c. -/
def setCnv (c : Nat) (v : CnvSt) (s : State) : State := { s with cnv := tblSet cnvSt0 s.cnv c v }
/-- A, B, C and D are SAR converters (R144). -/
def isSar (c : Nat) : Bool := decide (c < 4)
/-- The island of converter c (R35). -/
def cnvIsland (c : Nat) : Nat := if c < 2 then 3 else if c < 4 then 4 else 5
/-- EN of converter c. -/
def cnvEn (c : Nat) (s : State) : Bool := s.b (aRootCnvctl c) 31
/-- The low and high word of entry k of converter c. -/
def seqLo (c k : Nat) (s : State) : Word := s.reg (aRootSeqlo (32 * c + k))
def seqHi (c k : Nat) (s : State) : Word := s.reg (aRootSeqhi (32 * c + k))

/-! ### Codes (R119, R127, R138, R144) -/

/-- The voltage at the converter in nV: after the divider in VOLT10, the DAC on channel 102. -/
def atConverter (input mode : Nat) (pin : Int) (s : State) : Rat :=
  if input = 102 then mkRat ((s.f aRootStdac 0 12 : Nat) * 2500000000) 4096
  else if input < 96 ∧ mode = 6 then mkRat pin 5 else mkRat pin 1

/-- R144: the code of a voltage, limited to the converter's range. -/
def codeOf (c gain : Nat) (v : Rat) : Int :=
  if isSar c then
    let k := roundRat (v * mkRat (gain * 65536 : Nat) 2500000000)
    max 0 (min 65535 k)
  else
    let k := roundRat (v * mkRat (gain * 2 ^ 23 : Nat) 2500000000)
    max (-(2 ^ 23)) (min (2 ^ 23 - 1) k)

/-- R144, R150: the code is a limit of the range. -/
def codeSat (c : Nat) (k : Int) : Bool :=
  if isSar c then decide (k = 0 ∨ k = 65535) else decide (k = -(2 ^ 23) ∨ k = 2 ^ 23 - 1)

/-- R127: the code of a VOLT2V5 input with nothing connected and no diagnostic current is a free value from 0 to full
scale. -/
def openCode (c : Nat) (w : Word) : Int := if isSar c then (w.toNat % 65536 : Nat) else (w.toNat % 2 ^ 23 : Nat)

/-- R124, R125, R128, R129: OPEN as one conversion judges it. -/
def judgeOpen (mode diag : Nat) (pin : Int) : Bool :=
  if diag = 1 then decide (2450000000 < pin)
  else if diag = 2 then decide (pin < 50000000)
  else if mode = 1 ∨ mode = 2 then decide (2450000000 < pin)
  else if mode = 3 ∨ mode = 4 then decide (2600000000 < pin)
  else if mode = 8 then decide (pin < 50000000)
  else false

/-- R126: the sense-lead tests of an RTD3 pair on the codes of AINn and AINn+1. -/
def pairOpen (d d1 : Int) : Bool := decide (2 * d1 - d < 0) || decide (d < 10 * (d - d1))

/-- The mode by which a conversion of an entry that falls at `at_` is judged; 0 for an internal channel. -/
def convMode (lo : Word) (at_ : Nat) (s : State) : Nat := if entInput lo < 96 then modeWhen (entInput lo) at_ s else 0

/-- R126, R129: OPEN as one conversion, or the pair of an RTD3 input, judges it. -/
def openOf (c : Nat) (e : EntryRun) (p : Sample × Nat) (s : State) : Bool :=
  let mode := convMode e.lo p.2 s
  let gain := 2 ^ fld e.lo 12 3
  (e.pair && pairOpen (codeOf c gain (atConverter (entInput e.lo) mode p.1.pin s))
    (codeOf c gain (atConverter (entInput e.lo) mode p.1.pin2 s))) || judgeOpen mode (entDiag e.lo) p.1.pin

/-- One conversion: its code and whether a limit was reached (R126, R149); the state carries the free values drawn. -/
def convert (c : Nat) (e : EntryRun) (p : Sample × Nat) (s : State) : (Int × Bool) × State :=
  let input := entInput e.lo
  let mode := convMode e.lo p.2 s
  let gain := 2 ^ fld e.lo 12 3
  if mode = 7 ∧ entDiag e.lo = 0 ∧ p.1.floating then
    let r := s.draw
    let k := openCode c r.1
    ((k, codeSat c k), r.2)
  else if e.pair then
    let d := codeOf c gain (atConverter input mode p.1.pin s)
    let d1 := codeOf c gain (atConverter input mode p.1.pin2 s)
    ((max 0 (2 * d1 - d), codeSat c d || codeSat c d1), s)
  else
    let k := codeOf c gain (atConverter input mode p.1.pin s)
    ((k, codeSat c k), s)

/-- The conversions of an entry in order: the sum of the codes, and whether any reached a limit. -/
def convertAll (c : Nat) (e : EntryRun) : List (Sample × Nat) → State → (Int × Bool) × State
  | [], s => ((0, false), s)
  | p :: t, s =>
    let a := convert c e p s
    let b := convertAll c e t a.2
    ((a.1.1 + b.1.1, a.1.2 || b.1.2), b.2)

/-- R149: an integer mean rounded half away from zero. -/
def meanAway (sum : Int) (n : Nat) : Int :=
  if 0 ≤ sum then ((2 * sum.natAbs + n) / (2 * n) : Nat) else -(((2 * sum.natAbs + n) / (2 * n) : Nat) : Int)

/-- R149: the data of a result. -/
def resultData (c avg : Nat) (sum : Int) : Nat :=
  if isSar c then lowBits 24 (sum * (2 ^ (8 - avg) : Nat)) else lowBits 24 (meanAway sum (2 ^ avg))

/-! ### Timing (R145, R146, R153, R154) -/

/-- R145: the sampling time of a SAR entry in ticks. -/
def sampleTicks (hi : Word) : Nat := 5 * (fld hi 0 8 + 1)
/-- R145: from one bit conversion of a SAR entry to the next. -/
def bitSpace (hi : Word) : Nat := max 20 (sampleTicks hi)
/-- R146: a conversion of a P or Q entry without settling, and with it. -/
def osrTicks (hi : Word) : Nat := usT (fld hi 0 17)
def fullTicks (hi : Word) : Nat := usT 10 + (if fld hi 17 2 = 0 then 3 else 4) * osrTicks hi
/-- R126: conversions per sample: two for a pair. -/
def perSample (e : EntryRun) : Nat := if e.pair then 2 else 1
/-- R149, R153: the samples that a run still has to make. -/
def samplesLeft (e : EntryRun) : Nat := 2 ^ fld e.lo 9 3 - e.made.length

/-- R145, R146: when sample i of those left falls: the end of its sampling phase (SAR) or the start of its conversion
(P, Q). -/
def fallAt (c : Nat) (st : CnvSt) (e : EntryRun) (i : Nat) : Nat :=
  if isSar c then e.start + sampleTicks e.hi + i * perSample e * bitSpace e.hi
  else if e.pair then e.start + 2 * i * fullTicks e.hi
  else if i = 0 then e.start
  else e.start + (if st.lastEntry = some (e.k, e.lo, e.hi) then osrTicks e.hi else fullTicks e.hi) + (i - 1) * osrTicks e.hi
/-- When the sampling of sample i starts. -/
def beginAt (c : Nat) (st : CnvSt) (e : EntryRun) (i : Nat) : Nat :=
  if isSar c then fallAt c st e i - sampleTicks e.hi else fallAt c st e i
/-- R150: when the last sampling phase (SAR) or conversion (P, Q) of sample i ends. -/
def stampAt (c : Nat) (st : CnvSt) (e : EntryRun) (i : Nat) : Nat :=
  if isSar c then fallAt c st e i + (perSample e - 1) * bitSpace e.hi else fallAt c st e (i + 1)
/-- When sample i is done: 1 µs later for a SAR converter. -/
def doneAt (c : Nat) (st : CnvSt) (e : EntryRun) (i : Nat) : Nat := stampAt c st e i + (if isSar c then 20 else 0)

/-- R145: when the sampling of a run starts that follows what the converter has just done. -/
def nextBegin (c : Nat) (st : CnvSt) (hi : Word) (s : State) : Nat :=
  match st.bitAt with
  | some b => if isSar c && decide (s.now ≤ b + 20) then b + bitSpace hi - sampleTicks hi else s.now
  | none => s.now

/-- R153, R154: where an urgent request that waits since `w` interrupts the run in hand: the samples made by then and the
moment; none when the run ends first. A running bit conversion, delta-sigma conversion or pair completes. -/
def breakAt (c : Nat) (st : CnvSt) (e : EntryRun) (w : Nat) : Option (Nat × Nat) :=
  let n := ((List.range (samplesLeft e)).filter (fun i => decide (fallAt c st e i ≤ w))).length
  if samplesLeft e ≤ n then none
  else
    let free := if n = 0 then (if isSar c then (match st.bitAt with | some b => b + 20 | none => 0) else e.start)
      else doneAt c st e (n - 1)
    some (n, max w free)

/-- R126: an entry on an input in RTD3 makes pairs. -/
def makesPairs (lo : Word) (s : State) : Bool := decide (entInput lo < 96) && decide (stageMode (entInput lo) s = 4)

/-- R130: when a conversion of input n that runs now ends, of the converter's run in hand. -/
def runningEnd (n c : Nat) (s : State) : Option Nat :=
  let st := cnvSt c s
  match st.urg.or st.cur with
  | some e =>
    if entInput e.lo = n ∨ (e.pair ∧ entInput e.lo + 1 = n) then
      let k := ((List.range (samplesLeft e)).filter (fun i => decide (beginAt c st e i ≤ s.now))).length
      if k = 0 then none else some (doneAt c st e (k - 1))
    else none
  | none => none

/-- R130: when the last running conversion of input n ends. -/
def conversionEnd (n : Nat) (s : State) : Option Nat :=
  (List.range 6).foldl (fun m c => match m, runningEnd n c s with
    | some a, some b => some (max a b) | some a, none => some a | none, r => r) none

/-! ### Results (R123, R129, R149, R150, R157) -/

/-- R124, R129: the stage takes the judgement of the conversions `l` of an entry on input n. -/
def stageJudge (c n : Nat) (e : EntryRun) (l : List (Sample × Nat)) (s : State) : State :=
  match l.getLast? with
  | none => s
  | some p =>
    let a := aRootAinstat n
    let mode := convMode e.lo p.2 s
    let any := l.any (fun p => openOf c e p s)
    let op := if e.pair then any else openOf c e p s
    let s := s.setB a 0 op
    let s := if any then s.setB a 6 true else s
    s.setB a 1 (decide ((mode = 1 ∨ mode = 2) ∧ p.1.pin < 25000000))

/-- R123, R126: the inputs that an entry samples. -/
def entryInputs (e : EntryRun) : List Nat := if e.pair then [entInput e.lo, entInput e.lo + 1] else [entInput e.lo]

/-- R123: the conversions that are judged: none while a switch is open, else those that fell since it closed. -/
def judged (e : EntryRun) (l : List (Sample × Nat)) (s : State) : List (Sample × Nat) :=
  if entInput e.lo < 96 && (entryInputs e).all (fun n => !s.b (aRootAinstat n) 3 && !(inputSt n s).joining) then
    l.filter (fun p => (entryInputs e).all (fun n => decide ((inputSt n s).joinedAt ≤ p.2)))
  else []

/-- R130: the result of an input carries open-wire within 1 ms of a mode change, and until its switch has closed. -/
def modeRecent (n : Nat) (s : State) : Bool :=
  (match (inputSt n s).modeAt with | some t => decide (s.now < t + msT 1) | none => false) ||
  (match (inputSt n s).oldMode with | some (_, e) => decide (e < s.now ∧ s.now < e + msT 1) | none => false) ||
  (inputSt n s).joining

/-- The flags that the converter sets (R123, R129, R130, R134, R150, R156); `first` is when the entry's first sample
fell. -/
def resultFlags (e : EntryRun) (first : Nat) (urg sat : Bool) (s : State) : Nat :=
  let n := entInput e.lo
  let inp := decide (n < 96)
  let bias := decide (stageMode n s = 11) && s.b (aRootPirstat (n - 84)) 2
  let ovr := (entryInputs e).any (fun i => s.b (aRootAinstat i) 2 || decide (first < (inputSt i s).ovrEnd))
  (if inp && (s.b (aRootAinstat n) 0 || modeRecent n s || bias) then 128 else 0) + (if inp && ovr then 64 else 0) +
  (if urg then 16 else 0) + (if sat then 8 else 0)

/-- R140: the entry needs an excitation source and RTP is off. -/
def excitationOff (lo : Word) (s : State) : Bool := decide (entInput lo < 96) && excOff (entInput lo) s

/-- R130: mode changes of the inputs of an entry that waited for its conversions take effect. -/
def settleInputs (e : EntryRun) (s : State) : State :=
  if entInput e.lo < 96 then forEach (entryInputs e) settleMode s else s

/-- The rest of a run of an entry runs and its result is sent to the result queue; `samples` are all its conversions. -/
def runEntry (c : Nat) (e : EntryRun) (urg : Bool) (samples : List Sample) (s : State) : State :=
  let avg := fld e.lo 9 3
  let st := cnvSt c s
  let k := samplesLeft e
  let falls := e.made ++ (List.range k).map (fallAt c st e)
  let stamp := stampAt c st e (k - 1)
  let s := setCnv c { st with bitAt := some stamp, lastEntry := some (e.k, e.lo, e.hi) } s
  let s := s.advTo (doneAt c st e (k - 1))
  if excitationOff e.lo s then settleInputs e s else
  let l := ((samples ++ List.replicate (2 ^ avg) (Sample.mk 0 0 false)).take (2 ^ avg)).zip falls
  let r := convertAll c e l s
  let s := stageJudge c (entInput e.lo) e (judged e l r.2) r.2
  let f := mkResult c (entInput e.lo) e.k (s.f (aRootCnvstat c) 16 8) (resultData c avg r.1.1)
    (resultFlags e (falls.headD 0) urg r.1.2 s) ((stamp - s.rq.origin) / 20)
  settleInputs e (sendResult e.lo (cnvIsland c) 3 (fld e.lo 22 8) 0 [f] s)

/-! ### Passes (R148, R151, R155) -/

/-- The first enabled entry from k up to NENT. -/
def nextEntry (c k nent : Nat) (s : State) : Option Nat :=
  (List.range (nent + 1)).find? (fun i => decide (k ≤ i) && bit (seqLo c i s) 31)

/-- Show the pending urgent requests (URGPEND). -/
def setUrgent (c : Nat) (l : List Nat) (s : State) : State :=
  (setCnv c { cnvSt c s with urgent := l } s).setF (aRootCnvstat c) 0 3 l.length

/-- R155: an urgent request is dropped: URGLOST sets. -/
def urgLost (c : Nat) (s : State) : State := s.setB (aRootCnvstat c) 29 true

/-- R151: a run of entry k with the fields of the words `lo` and `hi`. -/
def newRun (k : Nat) (lo hi : Word) (start : Nat) (s : State) : EntryRun := ⟨k, lo, hi, makesPairs lo s, start, []⟩

/-- R151: the run of entry k with these words is in hand from now on. -/
def takeRun (c k : Nat) (lo hi : Word) (s : State) : State :=
  let st := cnvSt c s
  (setCnv c { st with cur := some ⟨k, lo, hi, makesPairs lo s, nextBegin c st hi s, []⟩, next := none } s).setF (aRootCnvstat c) 8 5 k

/-- R148: the pass ends. -/
def closePass (c : Nat) (s : State) : State := setCnv c { cnvSt c s with cur := none, finished := s.now } s

/-- R148, R151: the entry after entry k, by the fields it had when its sampling began, or the end of the pass. -/
def passOn (c k : Nat) (s : State) : State :=
  match (cnvSt c s).next with
  | some (false, j, lo, hi) => takeRun c j lo hi s
  | some (true, _) => closePass c s
  | none =>
    match nextEntry c (k + 1) (cnvSt c s).nent s with
    | some j => takeRun c j (seqLo c j s) (seqHi c j s) s
    | none => closePass c s

/-- R145, R151: the entry that a SAR converter samples after entry k of this pass: of this pass, or the first of the next
when passes follow one another without a gap. -/
def afterEntry (c k : Nat) (s : State) : Option (Bool × Nat) :=
  let st := cnvSt c s
  match nextEntry c (k + 1) st.nent s with
  | some j => some (false, j)
  | none => if st.period = 0 then (nextEntry c 0 (s.f (aRootCnvctl c) 20 5) s).map (fun j => (true, j)) else none

/-- R145, R151: the fields of the entry that is being sampled while the last bit conversion of the entry in hand runs are
copied. -/
def lookAhead (c : Nat) (s : State) : State :=
  let st := cnvSt c s
  match st.cur, st.next with
  | some e, none =>
    if !isSar c || st.urg.isSome || st.stopping then s
    else
      match afterEntry c e.k s with
      | some (later, j) =>
        let hi := seqHi c j s
        if stampAt c st e (samplesLeft e - 1) + bitSpace hi - sampleTicks hi ≤ s.now then
          setCnv c { st with next := some (later, j, seqLo c j s, hi) } s
        else s
      | none => s
  | _, _ => s

/-- R153, R154: the oldest pending urgent request begins at `t`, after n more samples of the entry in hand. -/
def startUrgent (c n t : Nat) (s : State) : State :=
  let st := cnvSt c s
  match st.urgent with
  | [] => s
  | k :: rest =>
    let lo := seqLo c k s
    let st := match st.cur with
      | some e => { st with
          cur := some { e with made := e.made ++ (List.range n).map (fallAt c st e) }
          bitAt := if n = 0 then st.bitAt else some (stampAt c st e (n - 1))
          lastEntry := if n = 0 then st.lastEntry else some (e.k, e.lo, e.hi) }
      | none => st
    (setUrgent c rest (setCnv c { st with urg := some ⟨k, lo, seqHi c k s, makesPairs lo s, t, []⟩ } s)).setF (aRootCnvstat c) 8 5 k

/-- R153, R154: when the oldest pending urgent request begins, and the samples of the entry in hand made by then; none when
there is none or the entry in hand ends first. -/
def urgentTurn (c : Nat) (s : State) : Option (Nat × Nat) :=
  let st := cnvSt c s
  if st.urgent.isEmpty || st.urg.isSome then none
  else
    match st.cur with
    | some e => breakAt c st e st.urgAt
    | none => some (0, max st.urgAt (if isSar c then (match st.bitAt with | some b => b + 20 | none => 0) else 0))

/-- The sequencer stands where it is at this time: an urgent run that was due has begun, and the next entry's fields are
copied when its sampling has begun. -/
def catchUp (c : Nat) (s : State) : State :=
  match urgentTurn c s with
  | some (n, t) => if t ≤ s.now then startUrgent c n t s else lookAhead c s
  | none => lookAhead c s

/-- R155: at a pass start the pending requests above NENT or not enabled are dropped. -/
def dropUrgent (c nent : Nat) (s : State) : State :=
  let keep := (cnvSt c s).urgent.filter (fun k => decide (k ≤ nent) && bit (seqLo c k s) 31)
  let s := if keep.length = (cnvSt c s).urgent.length then s else urgLost c s
  setUrgent c keep s

/-- R148, R151: a pass starts: NENT and PERIOD as they now stand, the pass count moves on. -/
def startPass (c : Nat) (due : Nat) (s : State) : State :=
  let st := cnvSt c s
  let nent := s.f (aRootCnvctl c) 20 5
  let s := s.setF (aRootCnvstat c) 16 8 (if st.fresh then 0 else s.f (aRootCnvstat c) 16 8 + 1)
  let chained := decide (s.now ≤ st.finished)
  let s := setCnv c { st with next := none, fresh := false, nent := nent, period := s.f (aRootCnvctl c) 0 20, nominal := due, bitAt := if chained then st.bitAt else none } s
  let s := dropUrgent c nent s
  match chained, st.next with
  | true, some (_, k, lo, hi) => takeRun c k lo hi s
  | _, _ =>
    match nextEntry c 0 nent s with
    | some k => takeRun c k (seqLo c k s) (seqHi c k s) s
    | none => closePass c s

/-- PASS_START (R148, R151, R155): no pass and no urgent run is under way; with PERIOD = 0 at once, when an entry is
enabled, else at the period in force since the last pass start. -/
def execPassStart (c : Fin 6) (s : State) : Host.Outcome State Fault Refusal :=
  let s := catchUp c s
  let st := cnvSt c s
  let per := if st.fresh then s.f (aRootCnvctl c) 0 20 else st.period
  .next (if domOn (cnvDom c) s && cnvEn c s && st.cur.isNone && st.urg.isNone && !st.stopping then
    (if per = 0 then
      (if (nextEntry c 0 (s.f (aRootCnvctl c) 20 5) s).isSome then startPass c s.now s else s)
     else if st.fresh then startPass c s.now s
     else
      let due := st.nominal + usT (100 * per)
      let s := if due < st.finished then (s.setB (aRootCnvstat c) 30 true).bump (aRootCnvcnt c) 0 16 else s
      startPass c due (s.advTo due))
    else s)

/-- R151: the converter stops: pending urgent requests are discarded, which sets URGLOST. -/
def stopConverter (c : Nat) (s : State) : State :=
  let st := cnvSt c s
  let s := if st.urgent = [] then s else urgLost c s
  let s := setUrgent c [] s
  setCnv c { cnvSt c s with cur := none, fresh := true, stopping := false, bitAt := none, lastEntry := none, next := none, urg := none } s

/-- The entry in hand runs to its end; the next one is copied, the pass ends or the converter stops. -/
def endEntry (c : Nat) (e : EntryRun) (samples : List Sample) (s : State) : State :=
  let s := runEntry c e false samples (lookAhead c s)
  if (cnvSt c s).stopping then stopConverter c s else catchUp c (passOn c e.k s)

/-- ENTRY_RESULT (R149, R150, R153): the entry in hand ends with these conversions, those made before an interruption
included. An urgent request whose turn comes first begins instead. -/
def execEntryResult (c : Fin 6) (samples : List Sample) (s : State) : Host.Outcome State Fault Refusal :=
  let st := cnvSt c s
  match st.cur, st.urg with
  | some e, none =>
    .next (if domOn (cnvDom c) s then
      (match urgentTurn c s with
       | some (n, t) => startUrgent c n t (s.advTo t)
       | none => endEntry c e samples s)
      else s)
  | _, _ => .next s

/-- R151, R153: an urgent run ends: the sequence resumes where it stopped, or the converter stops. -/
def endUrgent (c : Nat) (u : EntryRun) (samples : List Sample) (s : State) : State :=
  let s := runEntry c u true samples s
  let st := { cnvSt c s with urg := none, urgAt := s.now }
  let s := setCnv c st s
  if st.stopping then stopConverter c s
  else
    match st.cur with
    | some e => catchUp c ((setCnv c { st with cur := some { e with start := nextBegin c st e.hi s } } s).setF (aRootCnvstat c) 8 5 e.k)
    | none => catchUp c s

/-- URGENT_RUN (R153): the oldest pending request runs once in full, after the conversion that runs when its turn comes. An
entry in hand that ends before then goes first. -/
def execUrgentRun (c : Fin 6) (samples : List Sample) (s : State) : Host.Outcome State Fault Refusal :=
  .next (if domOn (cnvDom c) s && (cnvEn c s || (cnvSt c s).stopping) then
    (let s := match urgentTurn c s with
       | some (n, t) => startUrgent c n t (s.advTo t)
       | none => s
     match (cnvSt c s).urg with
     | some u => endUrgent c u samples s
     | none => s)
    else s)

/-- R155: a write to ROOT_URGc. -/
def urgentRequest (c k : Nat) (s : State) : State :=
  let s := catchUp c s
  let st := cnvSt c s
  if !cnvEn c s || !bit (seqLo c k s) 31 || decide (st.nent < k) then urgLost c s
  else if k ∈ st.urgent then s.bump (aRootCnvcnt c) 16 16
  else if 4 ≤ st.urgent.length then urgLost c s
  else
    let s := if st.urgent.isEmpty && st.urg.isNone then setCnv c { st with urgAt := s.now } s else s
    catchUp c (setUrgent c (st.urgent ++ [k]) (s.bump (aRootCnvcnt c) 16 16))

/-- URGENT_REQUEST (R155). -/
def execUrgentRequest (c : Fin 6) (v : Word) (s : State) : Host.Outcome State Fault Refusal :=
  .next (if domOn (cnvDom c) s then urgentRequest c (fld v 0 5) s else s)

/-! ### Writes (R151, R152) -/

/-- R144, R152: the converter reaches the input. -/
def reaches (c input : Nat) : Bool :=
  decide (96 ≤ input ∧ input ≤ 103) || decide (4 ≤ c ∧ input < 96) || decide (c < 4 ∧ 24 * c ≤ input ∧ input < 24 * c + 24)

/-- R118: another enabled entry on the same input, on a different converter, whose EXC or DIAG differ. -/
def clashes (n : Nat) (lo : Word) (s : State) : Bool :=
  decide (entInput lo < 96) && (List.range 192).any (fun k =>
    let o := s.reg (aRootSeqlo k)
    bit o 31 && decide (k / 32 ≠ n / 32) && decide (entInput o = entInput lo) &&
    (decide (entExc o ≠ entExc lo) || decide (entDiag o ≠ entDiag lo)))

/-- R152: the pair of words is one that entry n may not take. -/
def entryBad (n : Nat) (lo hi : Word) (s : State) : Bool :=
  let c := n / 32
  let inp := entInput lo
  !reaches c inp || (isSar c && decide (4 < fld lo 12 3)) ||
  (if isSar c then decide (255 < fld hi 0 17) || decide (fld hi 17 2 ≠ 0)
   else decide (fld hi 0 17 < 250) || decide (100000 < fld hi 0 17) || decide (1 < fld hi 17 2)) ||
  (bit lo 31 && (if inp < 96 then !entryFits (ainMode inp s) (entExc lo) (entDiag lo) || clashes n lo s
    else decide (entExc lo ≠ 0 ∨ entDiag lo ≠ 0)))

/-- R152: a write to a word of entry n, refused with CFGERR of its converter. -/
def seqWrite (n : Nat) (hi : Bool) (v : Word) (s : State) : State :=
  let s := catchUp (n / 32) s
  let a := if hi then aRootSeqhi n else aRootSeqlo n
  let t := plainWrite a v s
  if entryBad n (t.reg (aRootSeqlo n)) (t.reg (aRootSeqhi n)) s then s.setB (aRootCnvstat (n / 32)) 31 true else t

/-- SEQ_ENTRY_WRITE (R152). -/
def execSeqEntryWrite (n : Fin 192) (hi : Bool) (v : Word) (s : State) : Host.Outcome State Fault Refusal :=
  .next (if domOn (cnvDom (n / 32)) s then seqWrite n hi v s else s)

/-- R151: a write to ROOT_CNVCTLc; clearing EN lets the entry in hand complete, then stops the converter (it starts
afresh when EN has been set again by then). An urgent run under way completes, and the entry it interrupted is abandoned. -/
def cnvctlWrite (c : Nat) (v : Word) (s : State) : State :=
  let s := catchUp c s
  let was := cnvEn c s
  let s := plainWrite (aRootCnvctl c) v s
  if was && !cnvEn c s then
    (if (cnvSt c s).cur.isSome || (cnvSt c s).urg.isSome then
      (let s := if (cnvSt c s).urgent = [] then s else urgLost c s
       let s := setUrgent c [] s
       let st := cnvSt c s
       setCnv c { st with stopping := true, cur := if st.urg.isSome then none else st.cur, next := none } s)
     else stopConverter c s)
  else if !was && cnvEn c s then
    (if (cnvSt c s).stopping then s else setCnv c { cnvSt c s with nent := s.f (aRootCnvctl c) 20 5, fresh := true } s)
  else s

/-- CNVCTL_WRITE (R151). -/
def execCnvctlWrite (c : Fin 6) (v : Word) (s : State) : Host.Outcome State Fault Refusal :=
  .next (if domOn (cnvDom c) s then cnvctlWrite c v s else s)

/-! ### Mode changes (R130, R142) -/

/-- R142: the write would set something that the register refuses. -/
def aincfgBad (n : Nat) (v : Word) (s : State) : Bool :=
  let m := fld v 4 4
  let old := ainMode n s
  decide (11 < m) || decide (fld v 2 2 = 3) || decide (fld v 16 6 = 0) || (decide (m = 11) && decide (n < 84)) ||
  (decide (m = 4) && decide (n % 2 = 1)) || (decide (m = 5) && decide (old ≠ 5)) ||
  (decide (m ≠ old) && (
    (decide (n % 2 = 1) && decide (ainMode (n - 1) s = 4)) ||
    !entriesFit n m s || (decide (m = 4) && !entriesFit (n + 1) 5 s)))

/-- R142: a write to ROOT_AINCFGn that passes: RTD3 takes AINn+1 into RTD_SENSE, leaving RTD3 sets it to OFF. -/
def aincfgApply (n : Nat) (v : Word) (s : State) : State :=
  let old := ainMode n s
  let m := fld v 4 4
  let s := (plainWrite (aRootAincfg n) v s).setF (aRootAincfg n) 4 4 old
  if m = old then s else
  let s := freshMode n m (conversionEnd n s) s
  if m = 4 then freshMode (n + 1) 5 (conversionEnd (n + 1) s) s
  else if old = 4 then freshMode (n + 1) 0 (conversionEnd (n + 1) s) s else s

/-- R142: a write to ROOT_AINCFGn, refused whole with CFGERR. -/
def aincfgWrite (n : Nat) (v : Word) (s : State) : State :=
  let s := settleMode n (settleMode (n + 1) s)
  if aincfgBad n v s then s.setB (aRootAincfg n) 31 true else aincfgApply n v s

/-- AINCFG_WRITE (R142). -/
def execAincfgWrite (n : Fin 96) (v : Word) (s : State) : Host.Outcome State Fault Refusal :=
  .next (if domOn (ainDom n) s then aincfgWrite n v s else s)

end Sys2Proof.Machine
end

