-- ==== Sys2Proof/Machine/Operands.lean ====
section
/-! DEFINITION. Sys2Proof/Machine/Operands.lean: the operand forms of messages: header fields (R80), the command table
(R94), status codes (R90), object references and time words in payloads, replies (R83). -/

namespace Sys2Proof.Machine

open Sys2Proof

/-! ### Status codes (R90) -/

/-- OK. -/
def stOk : Nat := 0x00
/-- ACCEPTED, interim only. -/
def stAccepted : Nat := 0x01
/-- BAD_ARG. -/
def stBadArg : Nat := 0x10
/-- NO_RESOURCE. -/
def stNoResource : Nat := 0x11
/-- CONFLICT. -/
def stConflict : Nat := 0x12
/-- DENIED. -/
def stDenied : Nat := 0x13
/-- BUSY_TAG. -/
def stBusyTag : Nat := 0x14
/-- NOT_FOUND. -/
def stNotFound : Nat := 0x15
/-- RANGE. -/
def stRange : Nat := 0x16
/-- STALE. -/
def stStale : Nat := 0x17
/-- STORE_FAIL. -/
def stStoreFail : Nat := 0x20
/-- AUTH_FAIL. -/
def stAuthFail : Nat := 0x21
/-- LOCKED_OUT. -/
def stLockedOut : Nat := 0x22
/-- GROVE_UNREACHABLE. -/
def stUnreachable : Nat := 0x30
/-- ABORTED. -/
def stAborted : Nat := 0x31
/-- INTERNAL. -/
def stInternal : Nat := 0x3F

/-! ### Message words (R80) -/

/-- Word k of a message, M0 to M15. -/
def mw (ws : List Word) (k : Nat) : Word := ws.getD k 0
/-- CLASS and CODE. -/
def msgCode (ws : List Word) : Nat := fld (mw ws 0) 16 16
/-- TAG. -/
def msgTag (ws : List Word) : Nat := fld (mw ws 0) 10 6
/-- LEN. -/
def msgLen (ws : List Word) : Nat := fld (mw ws 0) 6 4
/-- FWD. -/
def msgFwd (ws : List Word) : Bool := bit (mw ws 0) 5
/-- NODE. -/
def msgNode (ws : List Word) : Nat := fld (mw ws 0) 1 4

/-- R94: kinds of commands. -/
inductive CmdKind where
  | short | longAbortable | longNotAbortable
deriving DecidableEq, Repr

/-- R94: the command table: code, kind, secure-only. -/
def cmdTable : List (Nat × CmdKind × Bool) := [
  (0x0101, .short, false), (0x0102, .short, false), (0x0103, .short, false), (0x0104, .short, false),
  (0x0105, .short, true), (0x0106, .longAbortable, false), (0x0107, .longNotAbortable, true),
  (0x0201, .short, true), (0x0202, .short, true), (0x0203, .longNotAbortable, true), (0x0204, .short, false),
  (0x0205, .short, true), (0x0206, .short, false), (0x0301, .short, false), (0x0302, .short, false),
  (0x0303, .short, false), (0x0304, .short, false), (0x0401, .short, false), (0x0402, .short, false),
  (0x0403, .short, false), (0x0404, .longAbortable, false), (0x0501, .short, false), (0x0502, .short, false),
  (0x0503, .short, false), (0x0504, .short, false), (0x0601, .short, false), (0x0602, .short, false),
  (0x0603, .short, false), (0x0604, .short, false), (0x0701, .short, false), (0x0702, .short, false),
  (0x0703, .short, false), (0x0704, .short, true), (0x0705, .longAbortable, false), (0x0706, .short, false),
  (0x0801, .short, false), (0x0802, .short, false), (0x0803, .short, true), (0x0804, .short, false),
  (0x0901, .short, false), (0x0902, .short, false), (0x0903, .short, false), (0x0904, .longAbortable, false),
  (0x0905, .short, false), (0x0A01, .short, false), (0x0A02, .short, true), (0x0A03, .short, false),
  (0x0A04, .longAbortable, false), (0x0B01, .short, false), (0x0B02, .short, false),
  (0x0B03, .longNotAbortable, false), (0x0B04, .short, true), (0x0B05, .short, false), (0x0C01, .short, false),
  (0x0C02, .short, false), (0x0C03, .short, true), (0x0C04, .short, false), (0x0D01, .short, false),
  (0x0D02, .short, false), (0x0D03, .short, false), (0x0D04, .short, false), (0x0E01, .short, false),
  (0x0E02, .short, false), (0x0E03, .short, false), (0x0E04, .short, false), (0x0E05, .short, false),
  (0x0F01, .short, false), (0x0F02, .short, true), (0x0F03, .short, true), (0x1001, .short, false),
  (0x1002, .short, false), (0x1003, .longAbortable, false), (0x1004, .short, false)]

/-- R94: kind and secure-only mark of a command; none for any other CLASS or CODE. -/
def cmdInfo (code : Nat) : Option (CmdKind × Bool) := (cmdTable.find? (fun r => r.1 = code)).map (·.2)

/-! ### Results of a command -/

/-- What running a command answers: a final status with payload words M2 up; of a long command that has passed its checks
and done its work, the status and payload with which it will end; or a long command that goes on. -/
inductive Reply where
  | done (status : Nat) (payload : List Word)
  | ends (status : Nat) (payload : List Word)
  | running
deriving DecidableEq, Repr

/-- A final reply without payload. -/
def Reply.st (status : Nat) : Reply := .done status []

/-- R92: a CONFLICT over a resource: its reference and its owner. -/
def conflictOn (r : Word) (s : State) : Reply := .done stConflict [r, ownerOf r s]

/-- R97: an object reference of type t in a payload: the instance, or the status that refuses it. -/
def needRef (t : Nat) (r : Word) : Except Nat Nat :=
  match refCheck r with
  | 0 => if refType r = t then .ok (refInst r) else .error stBadArg
  | e => .error e

/-- R83: the words of a reply. -/
def replyWords (c : Cmd) (status : Nat) (payload : List Word) (interim dup : Bool) (node : Nat) : List Word :=
  let m0 := (mw c.words 0 &&& 0xFFFFFC00) ||| BitVec.ofNat 32 ((payload.length % 16) * 64 + interim.toNat * 4 + dup.toNat * 2
    + c.restarted.toNat)
  let m1 := BitVec.ofNat 32 (((status % 256 * 16 + node % 16) * 16 + c.chan % 16) * 65536 + c.seq % 65536)
  m0 :: m1 :: payload

/-- R407: the node identifier: GRAFT_CTL's while in a grove, 0 on a standalone device. -/
def nodeId (s : State) : Nat := if s.f aSysStrap 4 2 = 0 then 0 else s.f aGraftCtl 16 4

/-! ### Commands in the reply store (R65, R85, R87) -/

/-- A command taken, by its number. -/
def cmdById (id : Nat) (s : State) : Option Cmd := s.fw.cmds.find? (fun c => c.id = id)
/-- Change a command. -/
def updCmd (id : Nat) (f : Cmd → Cmd) (s : State) : State :=
  { s with fw := { s.fw with cmds := s.fw.cmds.map (fun c => if c.id = id then f c else c) } }
/-- The command leaves: its entry and its tag are free. -/
def dropCmd (id : Nat) (s : State) : State := { s with fw := { s.fw with cmds := s.fw.cmds.filter (fun c => c.id ≠ id) } }

/-- R85: the final reply enters the reply store: in the place of an interim reply not yet posted, else at the end.
The reply of a command of a former epoch is discarded and the tag freed (R72, R74). -/
def finishCmd (id status : Nat) (payload : List Word) (s : State) : State :=
  match cmdById id s with
  | none => s
  | some c =>
    if c.reply.isSome then s
    else if c.discard then dropCmd id s
    else
      let s := { s with fw := { s.fw with orderCtr := s.fw.orderCtr + 1 } }
      updCmd id (fun c => { c with
        reply := some (replyWords c status payload false c.ghost (nodeId s)),
        order := if c.interim = .queued then c.order else s.fw.orderCtr }) s

/-- R84: the interim reply of a long command is queued. -/
def queueInterim (id : Nat) (s : State) : State :=
  let s := { s with fw := { s.fw with orderCtr := s.fw.orderCtr + 1 } }
  updCmd id (fun c => { c with interim := .queued, order := s.fw.orderCtr }) s

/-- Finish a command with the reply that running it gave; R84: a long command that has passed its checks has its interim
reply first. -/
def settle (id : Nat) (r : Reply) (s : State) : State :=
  let long := match cmdById id s with
    | some c => (match cmdInfo (msgCode c.words) with | some (.short, _) => false | _ => true)
    | none => false
  match r with
  | .done st p => finishCmd id st p s
  | .ends st p => queueInterim id (updCmd id (fun c => { c with started := true, ending := some (st, p) }) s)
  | .running =>
    let s := updCmd id (fun c => { c with started := true }) s
    if long then queueInterim id s else s

/-- R86: commands start in the order in which they are taken: none taken before `id` still waits to start. -/
def cmdTurn (id : Nat) (s : State) : Bool :=
  s.fw.cmds.all (fun c => decide (id ≤ c.id) || c.started || c.reply.isSome || c.ghost || c.fwdTo.isSome)

/-- R86: a command's row runs it: the command `id` with this code, taken, in turn, not started, not answered. R84: the row of
a long command whose work is done ends it. -/
def runCmd (id code : Nat) (body : Cmd → State → Reply × State) (s : State) : State :=
  match cmdById id s with
  | none => s
  | some c =>
    if ready s && decide (msgCode c.words = code) && c.reply.isNone && !c.ghost && !c.started && c.fwdTo.isNone && cmdTurn id s then
      let r := body c s
      settle id r.1 r.2
    else
      match c.ending with
      | some e => if ready s && decide (msgCode c.words = code) then finishCmd id e.1 e.2 s else s
      | none => s

/-- R84: the work of the command is done and its end is still to come. -/
def endingOf (id : Nat) (s : State) : Bool := match cmdById id s with | some c => c.ending.isSome | none => false

/-- R91: the status of the first check that fails. -/
def firstFail : List (Bool × Nat) → Option Nat
  | [] => none
  | (b, e) :: t => if b then some e else firstFail t

/-- R91: a command whose checks are listed in order, each with whether it fails; `run` when none fails. -/
def checked (l : List (Bool × Nat)) (s : State) (run : Reply × State) : Reply × State :=
  match firstFail l with
  | some e => (.st e, s)
  | none => run

/-- A word has no bit outside a mask set. -/
def onlyBits (w mask : Word) : Bool := decide (w &&& ~~~ mask = 0)

/-- R97: a reference that must be of type t: the checks of R91 rows 7 and 8. -/
def refFails (t : Nat) (r : Word) : List (Bool × Nat) :=
  match needRef t r with
  | .ok _ => []
  | .error e => [(true, e)]

/-- R606: an expiry in a payload is acceptable: 0, or later than a valid present time. -/
def expiryOk (e : Nat) (now : Option Nat) : Bool :=
  decide (e = 0) || (match now with | some t => decide (t < e) | none => false)

end Sys2Proof.Machine
end

