-- ==== Sys2Proof/Machine/Cambium.lean ====
section
/-! DEFINITION. Sys2Proof/Machine/Cambium.lean: the loop engine (07): the tick, staged writes, sources and staleness,
the control law, modes, destinations, and the relay tuners' part of an evaluation (08, R250 to R254). -/

namespace Sys2Proof.Machine

open Sys2Proof

/-- Hidden state of slot n. -/
def slotSt (n : Nat) (s : State) : SlotSt := tblGet slotSt0 s.camb.slot n
/-- Set the hidden state of slot n. -/
def setSlot (n : Nat) (v : SlotSt) (s : State) : State := { s with camb := { s.camb with slot := tblSet slotSt0 s.camb.slot n v } }
/-- Hidden state of tuner k. -/
def tunSt (k : Nat) (s : State) : TunSt := tblGet tunSt0 s.camb.tun k
/-- Set the hidden state of tuner k. -/
def setTun (k : Nat) (v : TunSt) (s : State) : State := { s with camb := { s.camb with tun := tblSet tunSt0 s.camb.tun k v } }
/-- Hidden state of zone model z. -/
def modSt (z : Nat) (s : State) : ModSt := tblGet modSt0 s.camb.model z
/-- R218: the value of a slot register in force. -/
def inF (a : Nat) (s : State) : Word := (tblFind s.camb.held a).getD (s.reg a)
/-- EMODE of slot n (R237). -/
def emode (n : Nat) (s : State) : Nat := s.f (aCambStat n) 25 3
/-- MODE of slot n in force. -/
def slotMode (n : Nat) (s : State) : Nat := fld (inF (aCambCtl n) s) 27 3
/-- PERIOD in force in ticks of 250 µs (R216). -/
def slotPeriod (n : Nat) (s : State) : Nat := fld (inF (aCambPeriod n) s) 0 24
/-- R216: the sample interval in s. -/
def slotH (n : Nat) (s : State) : F32 := f32OfRat (mkRat (slotPeriod n s) 4000)
/-- Set the hidden state of zone model z. -/
def setMod (z : Nat) (v : ModSt) (s : State) : State := { s with camb := { s.camb with model := tblSet modSt0 s.camb.model z v } }
/-- R263: the model of zone z is valid. -/
def modelValid (z : Nat) (s : State) : Bool := s.b (aModelCtl z) 31 && s.b (aModelStat z) 0

/-! ### Staged writes (R218, R240, R247) -/

/-- R218: the registers of slot n that a boundary takes over. -/
def slotAddr (n a : Nat) : Bool := decide (aCambCtl n ≤ a ∧ a < aCambCtl n + 0x100)

/-- R218: a write is staged: the register shows it at once, the value in force stays until the boundary. -/
def stage (n a : Nat) (v : Word) (s : State) : State :=
  let s := match tblFind s.camb.held a with
    | some _ => s
    | none => { s with camb := { s.camb with held := tblPut s.camb.held a (s.reg a) } }
  ((plainWrite a v s).setB (aCambStat n) 28 true)

/-- R240: I' moves by the change of KP times the last error. -/
def kpCorrect (n : Nat) (s : State) : State :=
  let old := inF (aCambKp n) s
  let new := s.reg (aCambKp n)
  if old = new then s
  else s.setReg (aCambInt n) (f32Fma (f32Sub old new) (slotSt n s).err (s.reg (aCambInt n)))

/-- R234: a destination whose word has a staged change sends at the next evaluation. -/
def dstChanged (n : Nat) (s : State) : State :=
  forRange 4 (fun k s =>
    if inF (aCambDst n k) s ≠ s.reg (aCambDst n k) then { s with camb := { s.camb with sent := tblSet none s.camb.sent (4 * n + k) none } }
    else s) s

/-- R218: the boundary of slot n takes over its staged writes, unless LOCK is 1. -/
def applyStaged (n : Nat) (s : State) : State :=
  if s.b (aCambCtl n) 31 then s else
  let s := dstChanged n (kpCorrect n s)
  ({ s with camb := { s.camb with held := tblDrop (slotAddr n) s.camb.held } }).setB (aCambStat n) 28 false

/-- R222: the kind is permitted for the input: 0 PV, 1 SP, 2 FF. -/
def srcKindOk (input kind : Nat) : Bool :=
  match kind with
  | 0 => decide (input ≠ 1)
  | 1 => true
  | 2 => true
  | 3 => decide (input ≠ 0)
  | 4 => decide (input ≠ 1)
  | 5 => decide (input ≠ 0)
  | 6 => decide (input = 1)
  | _ => false

/-- R247: a source word for input 0 PV, 1 SP, 2 FF. -/
def srcOk (input : Nat) (w : Word) : Bool :=
  let kind := fld w 29 3
  srcKindOk input kind && (decide (input = 0) || !bit w 28) &&
  (match kind with
   | 2 => decide (fld w 0 8 < 96)
   | 3 => decide (fld w 0 8 < 48)
   | 4 => decide (fld w 0 8 < 48)
   | _ => true)

/-- R247: a write to the slot register at offset `off` is refused; judged against the staged values. -/
def slotWriteBad (n off : Nat) (v : Word) (s : State) : Bool :=
  if off = 0x00 then decide (3 < fld v 27 3) || decide (4 < fld v 15 3) || decide (48 ≤ fld v 18 6 ∧ fld v 18 6 ≤ 62)
  else if off = 0x04 then decide (fld v 0 24 = 0) || decide (14400000 < fld v 0 24) || decide (fld v 0 24 ≤ s.f (aCambPhase n) 0 24)
  else if off = 0x08 then decide (s.f (aCambPeriod n) 0 24 ≤ fld v 0 24)
  else if off = 0x10 then !srcOk 0 v
  else if off = 0x14 then !srcOk 1 v
  else if off = 0x18 then !srcOk 2 v
  else if off = 0x1C then decide (5 < fld v 8 3)
  else if 0x20 ≤ off ∧ off ≤ 0x50 then !f32Fin v
  else if 0x70 ≤ off ∧ off < 0x80 then
    decide ((fld v 8 2 = 1 ∧ 96 ≤ fld v 0 8) ∨ (fld v 8 2 = 2 ∧ 48 ≤ fld v 0 8) ∨ (fld v 8 2 = 3 ∧ 16 ≤ fld v 0 8))
  else if 0x80 ≤ off ∧ off < 0xC0 then
    !f32Fin v || (
      let k := (off - 0x80) / 0x10
      let xlo := if off % 0x10 = 0 then v else s.reg (aCambXlo n k)
      let xhi := if off % 0x10 = 4 then v else s.reg (aCambXhi n k)
      decide (off % 0x10 ≤ 4) && !f32Lt xlo xhi)
  else false

/-- R239: CAMB_OUTn and CAMB_INTn take a finite write while EMODE is OFF, else CFGERR sets. -/
def stateWrite (n : Nat) (out : Bool) (v : Word) (s : State) : State :=
  if emode n s = 0 ∧ f32Fin v then s.setReg (if out then aCambOut n else aCambInt n) v else s.setB (aCambStat n) 31 true

/-- R218, R239, R247: a write to a register of slot n. -/
def slotWrite (n off : Nat) (v : Word) (s : State) : State :=
  let a := aCambCtl n + off
  if off = 0x60 then stateWrite n true v s
  else if off = 0x64 then stateWrite n false v s
  else if off = 0x0C then plainWrite a v s
  else
    match regFind a with
    | none => s
    | some (d, _) =>
      if d.rw = 0 then s
      else if slotWriteBad n off v s then s.setB (aCambStat n) 31 true
      else if off = 0 ∧ setBit v 31 false = setBit (s.reg a) 31 false &&& d.rw then s.setB a 31 (bit v 31)
      else stage n a v s

/-- CAMB_SLOT_WRITE (R218, R247). -/
def execCambSlotWrite (n : Fin 96) (off : Byte) (v : Word) (s : State) : Host.Outcome State Fault Refusal :=
  .next (if domOn .cmb s && decide (off.toNat % 4 = 0) then slotWrite n off.toNat v s else s)

/-- CAMB_LOCK (R218): LOCK applies at once. -/
def execCambLock (n : Fin 96) (lock : Bool) (s : State) : Host.Outcome State Fault Refusal :=
  .next (if domOn .cmb s then s.setB (aCambCtl n) 31 lock else s)

/-- CAMB_STATE_WRITE (R239). -/
def execCambStateWrite (n : Fin 96) (out : Bool) (v : Word) (s : State) : Host.Outcome State Fault Refusal :=
  .next (if domOn .cmb s then stateWrite n out v s else s)

/-! ### The point store (R223) -/

/-- R259: a source word of the estimator: its latest valid value, and whether the source is valid now. -/
def modelSource (w : Word) (s : State) : F32 × Bool :=
  let i := fld w 0 8
  match fld w 29 3 with
  | 1 => let p := tblGet ⟨0, 0, false⟩ s.camb.points i; (p.val, p.ok)
  | 2 => (s.reg (aCambOut i), decide (emode i s ≠ 0))
  | _ => (0, true)

/-- R258, R259: zone z has read u1 at every second of its period that has passed; the value has been the same since the
last event (log entry 62). -/
def sampleU1 (z : Nat) (s : State) : State :=
  let m := modSt z s
  let n := (min s.now (m.last + secT m.tm) - m.uAt) / secT 1
  if s.b (aModelCtl z) 31 ∧ 0 < n then
    let v := modelSource m.uSrc s
    let m := { m with uAt := m.uAt + secT n }
    setMod z (if v.2 then { m with uSum := forRange n (fun _ x => f64Add x (f64OfF32 v.1)) m.uSum, uCnt := m.uCnt + n } else m) s
  else s

/-- R259: before a source changes, every model reads what it had. -/
def catchU1 (s : State) : State := forRange 48 sampleU1 s

/-- A point value arrives in Cambium. -/
def storePoint (e : PartEntry) (s : State) : State :=
  let p := tblGet ⟨0, 0, false⟩ s.camb.points e.point
  let k := s.camb.arrived + 1
  let q : PointIn := if flagsValid e.hi then ⟨e.val, k, true⟩ else { p with ok := false }
  { s with camb := { s.camb with points := tblSet ⟨0, 0, false⟩ s.camb.points e.point q, arrived := k } }

/-- R23: a packet on its way to Cambium carries a point value. -/
def pointPacket (p : Packet) : Bool :=
  decide (hfld p.hdr 60 4 = 2) && decide (hfld p.hdr 54 2 = 2) && decide (hfld p.hdr 40 2 = 0) && decide (p.payload.length = 1)

/-- R162, R23, R20: the oldest entry of the Cambium partition leaves RTA as a stream packet; it is lost when CMB is off
(R31). -/
def sendPoint (s : State) : State :=
  if domOn .rta s then
    (match popPart 0 s with
     | some (e, s) => sendStream 3 2 e.point 0 [valueFlit e.val e.hi] s
     | none => s)
  else s

/-- CAMB_POINT_ARRIVAL (R162, R223): the next point value reaches CMB: one that is under way, else the oldest entry of the
Cambium partition. -/
def execCambPointArrival (s : State) : Host.Outcome State Fault Refusal :=
  .next (
    let s := if s.fab.flight.any pointPacket then s else sendPoint s
    match takePacket pointPacket s with
    | some (p, s) =>
      let f := p.payload.headD 0
      storePoint ⟨hfld p.hdr 32 8, flitVal f, flitLow f⟩ (catchU1 s)
    | none => s)

/-! ### Sources (R222 to R227) -/

/-- What a slot reads from a source at the start of an evaluation: the value, if a valid one has arrived since its
last evaluation; a source that is always present has one. -/
def readSource (n input : Nat) (w : Word) (seen : Nat) (s : State) : Option F32 :=
  let i := fld w 0 8
  match fld w 29 3 with
  | 1 =>
    let p := tblGet ⟨0, 0, false⟩ s.camb.points i
    if seen < p.arrival then some p.val else none
  | 2 => if emode i s ≠ 0 then some (s.reg (aCambOut i)) else none
  | 3 => some (zoneSt i s).sp
  | 4 =>
    if modelValid i s && decide (seen < (modSt i s).arrival) then
      some (if input = 0 then s.reg (aModelPred i) else s.reg (aModelUss i))
    else none
  | 5 => some (if input = 2 then f32One else inF (aCambSpk n) s)
  | 6 => some (if (slotSt n s).rspSet then s.reg (aCambRsp n) else inF (aCambSpk n) s)
  | _ => if input = 2 then some 0 else none

/-- R224: the kinds of source that are counted. -/
def counted (w : Word) : Bool := decide (fld w 29 3 = 1 ∨ fld w 29 3 = 2 ∨ fld w 29 3 = 4)

/-- The last valid value of a source; before the first, and for a source of kind 0, a free value that is finite
(log entry 5). -/
def lastOr (v : Option F32) (s : State) : F32 × State :=
  match v with
  | some x => (x, s)
  | none => let d := s.draw; (if f32Fin d.1 then d.1 else 0, d.2)

/-- R224: a stale count after an evaluation. -/
def countStale (c : Nat) (w : Word) (arrived : Bool) : Nat := if arrived || !counted w then 0 else min 255 (c + 1)

/-- R224, R226: the STALE value of a source word; 0 acts as 1. -/
def staleOf (w : Word) : Nat := max 1 (fld w 16 8)

/-- The readings of one evaluation. -/
structure Reads where
  pv : F32
  sp : F32
  ff : F32
deriving DecidableEq, Repr

/-- The readings that a slot last used (R227, R238). -/
def lastReads (n : Nat) (s : State) : Reads × State :=
  let st := slotSt n s
  let p := lastOr st.pvLast s
  let q := lastOr st.spLast p.2
  let f := lastOr st.ffLast q.2
  (⟨p.1, q.1, f.1⟩, f.2)

/-- R271: 10 min in ticks. -/
def goodTime : Nat := 2400000

/-- R224, R271: the counts of slot n after it has read its sources. The 10 min of good readings start at the first valid
arrival. -/
def countReads (n : Nat) (pv sp ff : Option F32) (s : State) : SlotSt :=
  let st := slotSt n s
  let per := slotPeriod n s
  let st := { st with pvCnt := countStale st.pvCnt (inF (aCambSrcpv n) s) pv.isSome,
                      spCnt := countStale st.spCnt (inF (aCambSrcsp n) s) sp.isSome,
                      ffCnt := countStale st.ffCnt (inF (aCambSrcff n) s) ff.isSome, seen := s.camb.arrived,
                      pvLast := pv <|> st.pvLast, spLast := sp <|> st.spLast, ffLast := ff <|> st.ffLast,
                      substTicks := if s.b (aCambStat n) 24 then st.substTicks + per else st.substTicks,
                      goodTicks := if pv.isSome && decide (st.pvCnt = 0) then st.goodTicks + per else 0 }
  if goodTime ≤ st.goodTicks then { st with substTicks := 0 } else st

/-- R226: one of the counts has reached its STALE value. -/
def staleReached (n : Nat) (s : State) : Bool :=
  let st := slotSt n s
  [(aCambSrcpv n, st.pvCnt), (aCambSrcsp n, st.spCnt), (aCambSrcff n, st.ffCnt)].any (fun p => decide (staleOf (inF p.1 s) ≤ p.2))

/-- R225: the urgent request of slot n, while its PV count is at least 1 and below STALE. -/
def slotUrgent (n : Nat) (s : State) : State :=
  let urg := inF (aCambUrg n) s
  let pc := (slotSt n s).pvCnt
  if 1 ≤ pc ∧ pc < staleOf (inF (aCambSrcpv n) s) ∧ bit urg 31 then
    let c := fld urg 8 3
    let s := s.bump (aCambCnt n) 0 16
    if domOn (cnvDom c) s then urgentRequest c (fld urg 0 5) s else s
  else s

/-- R223 to R225, R227: step 2 of an evaluation: read the sources, count, issue the urgent request. -/
def readStep (n : Nat) (s : State) : Reads × State :=
  let wf := inF (aCambSrcff n) s
  let seen := (slotSt n s).seen
  let st := countReads n (readSource n 0 (inF (aCambSrcpv n) s) seen s) (readSource n 1 (inF (aCambSrcsp n) s) seen s)
    (readSource n 2 wf seen s) s
  let s := setSlot n st s
  let s := (s.setB (aCambStat n) 21 (decide (staleOf wf ≤ st.ffCnt))).setF (aCambStat n) 0 8 (max st.pvCnt st.spCnt)
  let s := if staleReached n s then s.setB (aCambStat n) 29 true else s
  let s := s.setReg (aCambSubt n) (BitVec.ofNat 32 (min (2 ^ 24 - 1) (st.substTicks / 4000)))
  lastReads n (slotUrgent n s)

/-! ### Coupling (R230, R232) -/

/-- R230: slot b consumes slot a: a source of b is a's output, or a destination of a names b. -/
def consumes (a b : Nat) (s : State) : Bool :=
  [aCambSrcpv b, aCambSrcsp b, aCambSrcff b].any (fun r => decide (fld (inF r s) 29 3 = 2) && decide (fld (inF r s) 0 8 = a)) ||
  (List.range 4).any (fun k =>
    let d := inF (aCambDst a k) s
    let nseg := fld (inF (aCambCtl a) s) 15 3
    bit d 31 && decide (k < max 1 nseg) && decide (fld d 0 10 = 256 + b))

/-- R232: slot a feeds a slot through a split-range segment. -/
def feedsBySegment (a : Nat) (s : State) : Bool :=
  (List.range (min 4 (fld (inF (aCambCtl a) s) 15 3))).any (fun k =>
    bit (inF (aCambDst a k) s) 31 && decide (fld (inF (aCambDst a k) s) 8 2 = 1))

/-- R232: the slot that a is coupled to: its one consumer, whose SP source is a's output, directly. -/
def coupledTo (a : Nat) (s : State) : Option Nat :=
  match (List.range 96).filter (fun b => consumes a b s) with
  | [b] =>
    let w := inF (aCambSrcsp b) s
    let direct := decide (fld (inF (aCambCtl a) s) 15 3 = 0) && bit (inF (aCambDst a 0) s) 31 && decide (fld (inF (aCambDst a 0) s) 0 10 = 256 + b)
    if !feedsBySegment a s ∧ ((fld w 29 3 = 2 ∧ fld w 0 8 = a) ∨ (fld w 29 3 = 6 ∧ direct)) then some b else none
  | _ => none

/-- R236: u rising (or falling) moves the mapped value of segment k further: u lies where the segment follows it, and the
value rises with it (log entry 162). -/
def segFurther (n k : Nat) (rising : Bool) (u : F32) (s : State) : Bool :=
  let xlo := inF (aCambXlo n k) s
  let xhi := inF (aCambXhi n k) s
  let ylo := inF (aCambYlo n k) s
  let yhi := inF (aCambYhi n k) s
  if rising then f32Le xlo u && f32Lt u xhi && f32Lt ylo yhi else f32Lt xlo u && f32Le u xhi && f32Lt yhi ylo

/-- R232, R236: saturation of slot n that comes from outside its own limits: (upwards, downwards). -/
def outerSat (n : Nat) (u : F32) (s : State) : Bool × Bool :=
  let nseg := fld (inF (aCambCtl n) s) 15 3
  let blk := fun k => s.b (aCambStat n) (14 + k)
  let seg : Bool × Bool :=
    if nseg ≤ 1 then (blk 0, blk 0)
    else ((List.range (min 4 nseg)).any (fun k => blk k && segFurther n k true u s),
          (List.range (min 4 nseg)).any (fun k => blk k && segFurther n k false u s))
  match coupledTo n s with
  | some b =>
    let hi := s.b (aCambStat b) 23
    let lo := s.b (aCambStat b) 22
    let dir := bit (inF (aCambCtl b) s) 26
    (seg.1 || (if dir then lo else hi), seg.2 || (if dir then hi else lo))
  | none => seg

/-! ### The control law (R219 to R221, R238) -/

/-- The terms of the law at one evaluation: h, error, filtered measurement, D, Ic, ff. -/
structure LawTerms where
  h : F32
  e : F32
  pvf : F32
  d : F32
  ic : F32
  ff : F32
deriving DecidableEq, Repr

/-- R219 steps 1 to 6. -/
def lawTerms (n : Nat) (pvf' : F32) (r : Reads) (s : State) : LawTerms :=
  let h := slotH n s
  let kp := inF (aCambKp n) s
  let ti := inF (aCambTi n) s
  let td := inF (aCambTd n) s
  let tf := inF (aCambTf n) s
  let neg := bit (inF (aCambCtl n) s) 26
  let x := f32Sub r.sp r.pv
  let m := f32Max (f32Sub (f32Abs x) (inF (aCambDb n) s)) 0
  let e := if f32Abs m = 0 || f32Abs x = 0 then 0 else if f32Neg? x ^^ neg then f32Neg m else m
  let al := if f32Abs tf = 0 then f32One else f32Div h (f32Add tf h)
  let pvf := f32Fma al (f32Sub r.pv pvf') pvf'
  let d0 := f32Div (f32Mul (f32Mul kp td) (f32Sub pvf pvf')) h
  let d := if neg then d0 else f32Neg d0
  let i' := s.reg (aCambInt n)
  let ic := if f32Abs ti = 0 then i' else f32Fma (f32Mul kp (f32Div h ti)) e i'
  let ff := if fld (inF (aCambSrcff n) s) 29 3 = 0 then 0 else f32Mul (inF (aCambKff n) s) r.ff
  ⟨h, e, pvf, d, ic, ff⟩

/-- KP · e + i + D + ff (R219 steps 7 and 9). -/
def lawSum (kp : F32) (t : LawTerms) (i : F32) : F32 := f32Add (f32Add (f32Fma kp t.e i) t.d) t.ff

/-- R219 steps 10 and 11: limits, then rate. -/
def limitOut (n : Nat) (h u' v : F32) (s : State) : F32 :=
  let w := f32Min (f32Max v (inF (aCambOutmin n) s)) (inF (aCambOutmax n) s)
  let rate := inF (aCambRate n) s
  if f32Abs rate = 0 then w
  else
    f32Min (f32Max w (f32Fma (f32Neg rate) h u')) (f32Fma rate h u')

/-- R238: the integrator that reproduces u. -/
def integratorFor (kp u : F32) (t : LawTerms) : F32 := f32Sub (f32Sub (f32Fma (f32Neg kp) t.e u) t.d) t.ff

/-- R238, R221: the integrator that reproduces u; the old one when that is not finite. -/
def integratorKept (n : Nat) (u : F32) (t : LawTerms) (s : State) : F32 :=
  let i := integratorFor (inF (aCambKp n) s) u t
  if f32Fin i then i else s.reg (aCambInt n)

/-- The result of an evaluation's step 4: output, integrator, saturation. -/
structure LawOut where
  u : F32
  i : F32
  hi : Bool
  lo : Bool
deriving DecidableEq, Repr

/-- R219 to R221: the law in AUTO; none when an input, vc or v is not finite. -/
def lawAuto (n : Nat) (r : Reads) (t : LawTerms) (s : State) : Option LawOut :=
  let kp := inF (aCambKp n) s
  let u' := s.reg (aCambOut n)
  let i' := s.reg (aCambInt n)
  let vc := lawSum kp t t.ic
  let uc := limitOut n t.h u' vc s
  let outer := outerSat n u' s
  let hi := f32Lt uc vc || outer.1
  let lo := f32Lt vc uc || outer.2
  let i := if bit (inF (aCambCtl n) s) 25 then
      (if (hi && f32Lt i' t.ic) || (lo && f32Lt t.ic i') then i' else t.ic)
    else (if hi || lo then i' else t.ic)
  let v := lawSum kp t i
  let u := limitOut n t.h u' v s
  if [r.pv, r.sp, r.ff, vc, v, t.e, t.pvf, t.d, t.ff].all f32Fin then some ⟨u, i, f32Lt u v, f32Lt v u⟩ else none

/-! ### Destinations (R233 to R235) -/

/-- R235: the value of segment k. -/
def segValue (n k : Nat) (u : F32) (s : State) : F32 :=
  let xlo := inF (aCambXlo n k) s
  let xhi := inF (aCambXhi n k) s
  let ylo := inF (aCambYlo n k) s
  let yhi := inF (aCambYhi n k) s
  f32Fma (f32Div (f32Sub (f32Min (f32Max u xlo) xhi) xlo) (f32Sub xhi xlo)) (f32Sub yhi ylo) ylo

/-- R233, R234: destination k of slot n gets value y; `entered`: the slot has just entered its mode. -/
def sendDst (n k : Nat) (y : F32) (entered : Bool) (s : State) : State :=
  let d := inF (aCambDst n k) s
  let sid := fld d 0 10
  let obj := sid / 256
  let key := 4 * n + k
  if !bit d 31 then s
  else if s.b (aCambStat n) (14 + k) then { s with camb := { s.camb with sent := tblSet none s.camb.sent key none } }
  else
    let step := inF (aCambDstep n) s
    let due := match tblGet none s.camb.sent key with
      | none => true
      | some old => f32Le step (f32Abs (f32Sub y old))
    let stamp : Word := BitVec.ofNat 32 (timeBaseMs s % 2 ^ 24 * 256)
    if obj = 0 then sendStream 2 3 sid 0 [valueFlit y stamp] s
    else if obj = 1 then
      let b := sid % 256
      setSlot b { slotSt b s with rspSet := true } (s.setReg (aCambRsp b) y)
    else if f32Abs step = 0 || entered || due then
      let s := { s with camb := { s.camb with sent := tblSet none s.camb.sent key (some y) } }
      sendStream 2 (if obj = 2 then 9 else 10) sid 0 [valueFlit y stamp] s
    else s

/-- Step 5 of an evaluation. -/
def sendStep (n : Nat) (u : F32) (entered : Bool) (s : State) : State :=
  let nseg := fld (inF (aCambCtl n) s) 15 3
  if nseg = 0 then sendDst n 0 u entered s
  else forRange (min 4 nseg) (fun k s => sendDst n k (segValue n k u s) entered s) s

/-! ### Relay tuners within an evaluation (R250 to R254) -/

/-- Tuner k is armed or runs (R274); it does so until its slot's evaluation has ended the run. -/
def tunerBusy (k : Nat) (s : State) : Bool := decide (s.f (aCambTstat k) 29 3 = 1 ∨ s.f (aCambTstat k) 29 3 = 2)

/-- The tuner that holds slot n, armed or running. -/
def tunerOf (n : Nat) (s : State) : Option Nat :=
  (List.range 8).find? (fun k => tunerBusy k s && decide ((tunSt k s).slot = n))

/-- R253, R254: a run ends with a reason; STATE 3 with a result, 4 without; the tuner becomes idle. -/
def endTune (k reason : Nat) (s : State) : State :=
  let s := (s.setF (aCambTstat k) 29 3 (if reason = 0 then 3 else 4)).setF (aCambTstat k) 25 4 reason
  setTun k tunSt0 (s.setB (aCambTctl k) 31 false)

/-- π to 40 places. -/
def ratPi : Rat := mkRat 31415926535897932384626433832795028841971 10000000000000000000000000000000000000000

/-- R252: a result from the last three cycles: Tu in ticks as a sum of three, mean amplitude; none while they differ
by 5 % or more. -/
def tuneResult (t : TunSt) : Option (Nat × Rat) :=
  match t.periods, t.amps with
  | [a, b, c], [x, y, z] =>
    let mx := max a (max b c)
    let mn := min a (min b c)
    if 60 * (mx - mn) < a + b + c then some (a + b + c, (f32Rat x + f32Rat y + f32Rat z) / 3) else none
  | _, _ => none

/-- R222, R226: the PV count has reached STALE, or the slot has no PV source. -/
def pvStale (n : Nat) (s : State) : Bool :=
  let w := inF (aCambSrcpv n) s
  decide (fld w 29 3 = 0) || decide (staleOf w ≤ (slotSt n s).pvCnt)

/-- R250 to R254: one evaluation of slot n under tuner k with the terms `law` of the control law; answers the output. The
PV read at a switch belongs to the cycle that ends there and to the one that begins (log entry 163). -/
def tuneStep (k n : Nat) (r : Reads) (law : LawTerms) (s : State) : F32 × State :=
  let d := s.reg (aCambTud k)
  let eps := s.reg (aCambTeps k)
  let band := s.reg (aCambTband k)
  let neg := bit (inF (aCambCtl n) s) 26
  let first := decide (s.f (aCambTstat k) 29 3 = 1)
  let s := if first then
      let s := ((s.setReg (aCambTbias k) (s.reg (aCambOut n))).setReg (aCambTsp k) r.sp).setF (aCambTstat k) 29 3 2
      let s := (s.setF (aCambTstat k) 20 5 0).setF (aCambTstat k) 0 17 0
      setTun k { tunSt0 with startTick := s.camb.tick, pvMax := r.pv, pvMin := r.pv, stop := (tunSt k s).stop, slot := n } s
    else s
  let u0 := s.reg (aCambTbias k)
  let spt := s.reg (aCambTsp k)
  let x := f32Sub spt r.pv
  let sx := if neg then f32Neg x else x
  let t := tunSt k s
  let up := if first then f32Le 0 sx else if f32Lt eps sx then true else if f32Lt sx (f32Neg eps) then false else t.up
  let pvMax := f32Max t.pvMax r.pv
  let pvMin := f32Min t.pvMin r.pv
  let begins := !first && up && !t.up && t.downSeen
  let tick := s.camb.tick
  let done := begins && t.cycStart.isSome
  let amp := f32Mul (f32Sub pvMax pvMin) f32Half
  let cyc := s.f (aCambTstat k) 20 5 + done.toNat
  let t := { t with up := up, downSeen := t.downSeen || (!first && !up && t.up),
                    pvMax := if begins then r.pv else pvMax, pvMin := if begins then r.pv else pvMin,
                    cycStart := if begins then some tick else t.cycStart,
                    periods := if done then ((tick - t.cycStart.getD 0) :: t.periods).take 3 else t.periods,
                    amps := if done then (amp :: t.amps).take 3 else t.amps }
  let s := setTun k t s
  let el := (tick - t.startTick) / 4000
  let s := (s.setF (aCambTstat k) 20 5 (min 31 cyc)).setF (aCambTstat k) 0 17 (min (2 ^ 17 - 1) el)
  let u := if up then f32Add u0 d else f32Sub u0 d
  let blocked := (List.range (max 1 (fld (inF (aCambCtl n) s) 15 3))).any (fun j => s.b (aCambStat n) (14 + j))
  let res := if done && decide (3 ≤ cyc) then tuneResult t else none
  let ku := fun (a : Rat) => f32OfRat (4 * f32Rat d / (ratPi * a))
  let numeric := !([r.pv, x, law.e, law.pvf, law.d, law.ff, u, integratorFor (inF (aCambKp n) s) u law].all f32Fin) ||
    (match res with | some (_, a) => decide (a = 0) || !f32Fin (ku a) | none => false)
  if t.stop then (u0, endTune k 1 s)
  else if numeric then (u0, endTune k 10 s)
  else if pvStale n s then (u0, endTune k 8 s)
  else if blocked then (u0, endTune k 9 s)
  else if f32Lt (f32Abs band) (f32Abs x) then (u0, endTune k 5 s)
  else
    match res with
    | some (sum, a) =>
      let tu := mkRat sum 12000
      if tu < mkRat (20 * slotPeriod n s) 4000 then (u0, endTune k 12 s)
      else
        let s := ((s.setReg (aCambTku k) (ku a)).setReg (aCambTtu k) (f32OfRat tu)).setReg (aCambTa k) (f32OfRat a)
        (u0, endTune k 0 s)
    | none =>
      if max 60 (s.f (aCambTmax k) 0 17) ≤ el then (u0, endTune k 7 s)
      else if 20 ≤ cyc then (u0, endTune k 6 s)
      else (u, s)

/-! ### One evaluation (R226 to R228, R237 to R241) -/

/-- R271: the substitution time limit of slot n is reached. -/
def substLimit (n : Nat) (s : State) : Bool :=
  let z := fld (inF (aCambCtl n) s) 18 6
  decide (s.f (aModelSubmax z) 0 11 * 60 ≤ (slotSt n s).substTicks / 4000)

/-- What step 3 decides: effective mode, HOLD cause, substitution. -/
structure ModeChoice where
  mode : Nat
  cause : Nat
  subst : Bool
deriving DecidableEq, Repr

/-- R226, R228, R237: the effective mode of a slot that is not OFF and not tuned; a HOLD by staleness lasts until a
valid value has arrived. -/
def chooseMode (n : Nat) (s : State) : ModeChoice :=
  let st := slotSt n s
  let m := slotMode n s
  let z := fld (inF (aCambCtl n) s) 18 6
  let wp := inF (aCambSrcpv n) s
  let spStale := decide (staleOf (inF (aCambSrcsp n) s) ≤ st.spCnt)
  let can := bit wp 28 && decide (fld wp 29 3 ≠ 0) && decide (z < 48) && modelValid z s && !substLimit n s
  let wasSubst := s.b (aCambStat n) 24
  let was := fun (cause : Nat) => decide (emode n s = 3 ∧ s.f (aCambStat n) 18 3 = cause)
  let stale := pvStale n s || (wasSubst && decide (st.pvCnt ≠ 0))
  if m = 2 then ⟨2, 0, false⟩
  else if m = 3 then ⟨3, 1, false⟩
  else if (was 4 && decide (st.pvCnt ≠ 0)) || (stale && wasSubst && bit wp 28 && substLimit n s) then ⟨3, 4, false⟩
  else if (stale && !can) || (was 2 && (decide (st.pvCnt ≠ 0) || decide (fld wp 29 3 = 0))) then ⟨3, 2, false⟩
  else if spStale || (was 3 && decide (st.spCnt ≠ 0)) then ⟨3, 3, false⟩
  else if (match coupledTo n s with | some b => decide (emode b s ≠ 1) | none => false) then ⟨4, 0, stale⟩
  else ⟨1, 0, stale⟩

/-- Step 6 of an evaluation: the status, counters and read-only registers (R237, R241); a value that is not finite is
not kept for the next evaluation (R221). -/
def finishEval (n : Nat) (c : ModeChoice) (r : Reads) (t : LawTerms) (o : LawOut) (s : State) : State :=
  let old := emode n s
  let st := slotSt n s
  let s := setSlot n { st with pvf := if f32Fin t.pvf then t.pvf else st.pvf, err := if f32Fin t.e then t.e else st.err } s
  let s := (((s.setReg (aCambPv n) r.pv).setReg (aCambSp n) r.sp).setReg (aCambErr n) t.e)
  let s := (s.setReg (aCambOut n) o.u).setReg (aCambInt n) o.i
  let s := if c.mode = 3 ∧ old ≠ 3 then (s.bump (aCambCnt n) 16 16).setB (aCambStat n) 30 true else s
  let s := (s.setF (aCambStat n) 25 3 c.mode).setB (aCambStat n) 24 c.subst
  ((s.setB (aCambStat n) 23 o.hi).setB (aCambStat n) 22 o.lo).setF (aCambStat n) 18 3 c.cause

/-- Steps 3 to 6 of an evaluation of a slot that is not OFF, from what step 2 read. -/
def evalFrom (n : Nat) (r : Reads) (s : State) : State :=
  let st := slotSt n s
  let old := emode n s
  match tunerOf n s with
  | some k =>
    let pvf' := if old = 0 || s.b (aCambStat n) 24 then r.pv else st.pvf
    let t := lawTerms n pvf' r s
    let q := tuneStep k n r t s
    let o : LawOut := ⟨q.1, integratorKept n q.1 t s, false, false⟩
    finishEval n ⟨5, 0, false⟩ r t o (sendStep n q.1 false q.2)
  | none =>
    let c := chooseMode n s
    let z := fld (inF (aCambCtl n) s) 18 6
    let r := if c.subst then { r with pv := s.reg (aModelPred z) } else r
    let swap := decide (old = 0) || (c.subst ^^ s.b (aCambStat n) 24)
    let t := lawTerms n (if swap then r.pv else st.pvf) r s
    let omin := inF (aCambOutmin n) s
    let omax := inF (aCambOutmax n) s
    let held := fun (cause : Nat) => if cause = 4 ∨ bit (inF (aCambCtl n) s) 24 then f32Clamp omin omax (inF (aCambSafeout n) s) else s.reg (aCambOut n)
    let fixed := fun (u : F32) => (⟨u, integratorKept n u t s, false, false⟩ : LawOut)
    let track := match coupledTo n s with | some b => s.reg (aCambPv b) | none => s.reg (aCambOut n)
    let res : ModeChoice × LawOut × Bool :=
      if c.mode = 1 ∨ c.mode = 4 then
        (match (if c.mode = 4 && !f32Fin track then none else lawAuto n r t s) with
         | some o => (c, if c.mode = 4 then fixed track else o, false)
         | none => (⟨3, 5, false⟩, ⟨held 5, s.reg (aCambInt n), false, false⟩, true))
      else if c.mode = 2 then (c, fixed (f32Clamp omin omax (inF (aCambManval n) s)), false)
      else (c, fixed (held c.cause), false)
    let s := if res.2.2 then s.setB (aCambStat n) 31 true else s
    finishEval n res.1 r t res.2.1 (sendStep n res.2.1.u (decide (res.1.mode ≠ old)) s)

/-- R253, R254: MODE of slot n is OFF: its run ends with u = U0 and I by R238, and nothing is sent. -/
def tuneOff (k n : Nat) (s : State) : State :=
  let s := if s.f (aCambTstat k) 29 3 = 1 then s.setReg (aCambTbias k) (s.reg (aCambOut n)) else s
  let u0 := s.reg (aCambTbias k)
  let q := lastReads n s
  let s := endTune k 11 q.2
  (s.setReg (aCambInt n) (integratorKept n u0 (lawTerms n (slotSt n s).pvf q.1 s) s)).setReg (aCambOut n) u0

/-- R218, R237, R241: the boundary of slot n: staged writes, then the evaluation unless MODE is OFF. -/
def evalSlot (n : Nat) (s : State) : State :=
  let s := applyStaged n s
  if slotMode n s = 0 then
    let s := match tunerOf n s with | some k => tuneOff k n s | none => s
    ((s.setF (aCambStat n) 25 3 0).setB (aCambStat n) 24 false).setF (aCambStat n) 18 3 0
  else
    let q := readStep n s
    evalFrom n q.1 q.2

/-! ### The engine tick (R215 to R217) -/

/-- R216: slot n is due at tick T. -/
def slotDue (n t : Nat) (s : State) : Bool :=
  let p := slotPeriod n s
  decide (0 < p) && decide ((t + p - fld (inF (aCambPhase n) s) 0 24 % p) % p = 0)

/-- The first appearances of a list. -/
def firstPlaces : List Nat → List Nat → List Nat
  | _, [] => []
  | seen, x :: t => if x ∈ seen then firstPlaces seen t else x :: firstPlaces (x :: seen) t

/-- R217: the order of evaluation: the listed slots at their first places, then the others in ascending number. -/
def evalOrder (s : State) : List Nat :=
  let listed := firstPlaces [] (((List.range 96).map (fun i => s.f (aCambOrder i) 0 7)).filter (fun x => decide (x < 96)))
  listed ++ (List.range 96).filter (fun n => !decide (n ∈ listed))

/-- One engine tick: the due slots in order; the load registers; the tick count. -/
def tickStep (s : State) : State :=
  let t := s.camb.tick
  let due := (evalOrder s).filter (fun n => slotDue n t s)
  let s := forEach due evalSlot s
  let k := due.length
  let s := (s.setF aCambGstat 0 7 k).setF aCambGstat 8 7 (max k (s.f aCambGstat 8 7))
  { s with camb := { s.camb with tick := t + 1 } }

/-- CAMB_TICK (R215, R217): tick T lies T × 250 µs after tick 0. -/
def execCambTick (s : State) : Host.Outcome State Fault Refusal :=
  .next (if domOn .cmb s && s.b aCambGctl 31 then tickStep (catchU1 (s.advTo (s.camb.t0 + 5000 * s.camb.tick))) else s)

/-- R215: setting EN starts T at 0, at the next 250 µs of the time base. -/
def gctlWrite (v : Word) (s : State) : State :=
  let was := s.b aCambGctl 31
  let s := plainWrite aCambGctl v s
  if s.b aCambGctl 31 && !was then
    { s with camb := { s.camb with tick := 0, t0 := s.rq.origin + (s.now - s.rq.origin + 4999) / 5000 * 5000 } }
  else s

/-- CAMB_ENABLE (R215). -/
def execCambEnable (s : State) : Host.Outcome State Fault Refusal :=
  .next (if domOn .cmb s then gctlWrite 0x80000000 s else s)

/-! ### Limits reached (R226, R227, R271) -/

/-- An evaluation from step 3 on, with the readings that slot n last used. -/
def evalLast (n : Nat) (s : State) : State :=
  let q := lastReads n (catchU1 s)
  evalFrom n q.1 q.2

/-- STALE_LIMIT (R226): the evaluations without a valid arrival have reached STALE for the PV source, or for the SP
source when PV is not counted; the slot substitutes or enters HOLD. -/
def execStaleLimit (n : Fin 96) (s : State) : Host.Outcome State Fault Refusal :=
  let st := slotSt n s
  let kp := fld (inF (aCambSrcpv n) s) 29 3
  let ks := fld (inF (aCambSrcsp n) s) 29 3
  .next (if domOn .cmb s && decide (emode n s = 1 ∨ emode n s = 4) && !s.b (aCambStat n) 24 then
    (if kp = 1 ∨ kp = 2 ∨ kp = 4 then
      (let s := setSlot n { st with pvCnt := max st.pvCnt (staleOf (inF (aCambSrcpv n) s)), goodTicks := 0 } s
       evalLast n ((s.setF (aCambStat n) 0 8 (max (slotSt n s).pvCnt (slotSt n s).spCnt)).setB (aCambStat n) 29 true))
     else if ks = 1 ∨ ks = 2 then
      (let s := setSlot n { st with spCnt := max st.spCnt (staleOf (inF (aCambSrcsp n) s)) } s
       evalLast n ((s.setF (aCambStat n) 0 8 (max (slotSt n s).pvCnt (slotSt n s).spCnt)).setB (aCambStat n) 29 true))
     else s)
    else s)

/-- FF_STALE (R227): the FF count reaches STALE: FF stays at its last valid value, FFSTALE sets. -/
def execFfStale (n : Fin 96) (s : State) : Host.Outcome State Fault Refusal :=
  let st := slotSt n s
  let w := inF (aCambSrcff n) s
  let k := fld w 29 3
  .next (if domOn .cmb s && decide (emode n s ≠ 0) && decide (k = 1 ∨ k = 2 ∨ k = 4) then
    setSlot n { st with ffCnt := max st.ffCnt (staleOf w) } (s.setB (aCambStat n) 21 true) else s)

/-- SUBST_EXPIRY (R226, R271): the count reaches SUBMAX: HOLD with SUBST_EXP, driving SAFEOUT. -/
def execSubstExpiry (n : Fin 96) (s : State) : Host.Outcome State Fault Refusal :=
  let z := fld (inF (aCambCtl n) s) 18 6
  .next (if domOn .cmb s && s.b (aCambStat n) 24 then
    (let st := slotSt n s
     let lim := s.f (aModelSubmax z) 0 11 * 60
     let s := setSlot n { st with substTicks := max st.substTicks (lim * 4000) } s
     let s := s.setReg (aCambSubt n) (BitVec.ofNat 32 (min (2 ^ 24 - 1) ((slotSt n s).substTicks / 4000)))
     evalLast n s)
    else s)

/-- SUBST_COUNT_RESET (R271): 10 min of valid measured PV return the count to 0. -/
def execSubstCountReset (n : Fin 96) (s : State) : Host.Outcome State Fault Refusal :=
  .next (if domOn .cmb s && !s.b (aCambStat n) 24 && decide (goodTime ≤ (slotSt n s).goodTicks) then
    (setSlot n { slotSt n s with substTicks := 0 } s).setReg (aCambSubt n) 0 else s)

end Sys2Proof.Machine
end

