-- ==== Sys2Proof/Machine/SensorPorts.lean ====
section
/-! DEFINITION. Sys2Proof/Machine/SensorPorts.lean: the I2C sensor ports (06, R179 to R189): passes, transactions,
extractions, bus recovery and overvoltage. -/

namespace Sys2Proof.Machine

open Sys2Proof

/-- Hidden state of port p. -/
def i2cSt (p : Nat) (s : State) : I2cSt := tblGet i2cSt0 s.field.i2c p
/-- Set the hidden state of port p. -/
def setI2c (p : Nat) (v : I2cSt) (s : State) : State := { s with field := { s.field with i2c := tblSet i2cSt0 s.field.i2c p v } }

/-- R160: a raw value sent to the result queue. -/
def sendRaw (point : Nat) (raw : Int) (flags : Nat) (s : State) : State :=
  sendStream 7 3 point 0 [BitVec.ofNat 64 (lowBits 32 raw * 2 ^ 32 + flags % 256)] s

/-! ### Descriptors (R182, R187) -/

def trKind (d : Word) : Nat := fld d 30 2
def trAddr (d : Word) : Nat := fld d 23 7
def trCrc (d : Word) : Bool := bit d 22
def trWlen (d : Word) : Nat := fld d 16 6
def trRlen (d : Word) : Nat := fld d 10 6
def trDelay (d : Word) : Nat := fld d 0 10
/-- R183: bytes stored by a transaction; none for a write or a delay. -/
def trStored (d : Word) : Nat :=
  if trKind d = 1 ∨ trKind d = 2 then (if trCrc d then trRlen d / 3 * 2 else trRlen d) else 0

/-- R187: a descriptor that is refused. -/
def descBad (d : Word) : Bool :=
  decide ((trKind d = 1 ∨ trKind d = 2) ∧ trRlen d = 0) || decide (32 < trWlen d) || decide (32 < trRlen d) ||
  (trCrc d && decide (trRlen d % 3 ≠ 0)) || decide (1000 < trDelay d) ||
  decide (trAddr d < 8 ∨ 0x78 ≤ trAddr d)

def xPort (x : Word) : Nat := fld x 28 3
def xTrans (x : Word) : Nat := fld x 24 4
def xOffset (x : Word) : Nat := fld x 19 5
def xSize (x : Word) : Nat := fld x 17 2 + 1
def xShift (x : Word) : Nat := fld x 10 5

/-- R187: an extraction reaches beyond the stored data of its transaction. -/
def xBeyond (x d : Word) : Bool := decide (trStored d < xOffset x + xSize x)

/-- R187: the descriptor `d` in place of the present one of transaction t would be refused: by itself, or since an extraction
would come to reach beyond the stored data (log entry 158). -/
def scriptBad (p t : Nat) (d : Word) (s : State) : Bool :=
  descBad d || (List.range 64).any (fun k =>
    let x := s.reg (aBusI2cx k)
    decide (xPort x = p) && decide (xTrans x = t) && xBeyond x d && (bit x 31 || !xBeyond x (s.reg (aBusI2ctr p t))))

/-- R187: a write to a descriptor is refused with CFGERR of the port. -/
def trWrite (p t : Nat) (v : Word) (s : State) : State :=
  let w := plainWrite (aBusI2ctr p t) v s
  if scriptBad p t (w.reg (aBusI2ctr p t)) s then s.setB (aBusI2cstat p) 4 true else w

/-- R187: a write to BUS_I2CXk. -/
def xWrite (k : Nat) (v : Word) (s : State) : State :=
  let w := plainWrite (aBusI2cx k) v s
  let x := w.reg (aBusI2cx k)
  if xBeyond x (s.reg (aBusI2ctr (xPort x) (xTrans x))) || decide (8 * xSize x ≤ xShift x) then s.setB (aBusI2cstat (xPort x)) 4 true
  else w

/-! ### Passes (R181, R182, R188) -/

/-- R188: the registers of a port's script. -/
def scriptAddr (p a : Nat) : Bool :=
  decide (0x0A2000 + 0x800 * p ≤ a ∧ a < 0x0A2000 + 0x800 * (p + 1)) || decide (0x0A1100 ≤ a ∧ a < 0x0A1200)

/-- A word of the script as copied at the pass start. -/
def scriptWord (p a : Nat) (s : State) : Word := tblGetD regReset (i2cSt p s).script a

/-- The descriptor of transaction t in force. -/
def descOf (p t : Nat) (s : State) : Word := scriptWord p (aBusI2ctr p t) s

/-- The pass ends. -/
def closeScript (p : Nat) (s : State) : State :=
  let st := i2cSt p s
  setI2c p { st with cur := none, delayEnd := none, finished := s.now, retry := false, line := s.f (aBusI2cctl p) 28 3 } s

/-- The next transaction from t on: delays of 0 ms take no time; a delay transaction waits; after the last the pass
ends. -/
def takeTrans (p t : Nat) (s : State) : State :=
  let st := i2cSt p s
  match (List.range (st.ntr + 1)).find? (fun i => decide (t ≤ i) && !(decide (trKind (descOf p i s) = 3) && decide (trDelay (descOf p i s) = 0))) with
  | some i =>
    let d := descOf p i s
    setI2c p { st with cur := some i, retry := false, delayEnd := if trKind d = 3 then some (s.now + msT (trDelay d)) else none } s
  | none => closeScript p s

/-- Raw value 0 with OPEN to the enabled extractions that satisfy `q` (R185, R186). -/
def sendOpens (p : Nat) (q : Word → Bool) (s : State) : State :=
  forRange 64 (fun k s =>
    let x := scriptWord p (aBusI2cx k) s
    if bit x 31 && decide (xPort x = p) && q x then sendRaw (fld x 0 8) 0 128 s else s) s

/-- I2C_PASS_START (R181, R188): at the period; a late predecessor sets OVRUN. While STUCK the extractions report
open instead. -/
def execI2cPassStart (p : Fin 8) (s : State) : Host.Outcome State Fault Refusal :=
  let st := i2cSt p s
  .next (if domOn .bus s && s.b (aBusI2cctl p) 31 && !s.b (aBusI2cstat p) 0 && st.cur.isNone && !st.stuckDue then
    (let due := if st.fresh then s.now else st.nominal + msT (10 * max 1 (s.f (aBusI2cctl p) 0 16))
     let s := if !st.fresh && decide (due < st.finished) then s.setB (aBusI2cstat p) 3 true else s
     let s := s.advTo due
     let st := { st with fresh := false, nominal := due, script := s.regs.filter (fun e => scriptAddr p e.1),
                         ntr := s.f (aBusI2cctl p) 24 4, line := s.f (aBusI2cctl p) 28 3 }
     let s := setI2c p st s
     if s.b (aBusI2cstat p) 1 then sendOpens p (fun _ => true) (setI2c p { st with finished := s.now } s) else takeTrans p 0 s)
    else s)

/-! ### Transactions (R182 to R185) -/

/-- R183: the groups of two bytes and their CRC: stored bytes, or none when a group fails. -/
def crcGroups : List Byte → Option (List Byte)
  | [] => some []
  | a :: b :: c :: t => if crc8Sensor [a, b] = c then (crcGroups t).map (fun r => a :: b :: r) else none
  | _ => none

/-- Time of the bus activity of a transaction in ticks: bits of 2.5 or 10 µs, 9 bits a byte. -/
def busTime (fast : Bool) (d : Word) : Nat :=
  let bits := match trKind d with
    | 0 => 2 + 9 * (1 + trWlen d)
    | 1 => 2 + 9 * (1 + trRlen d)
    | 2 => 3 + 9 * (2 + trWlen d + trRlen d)
    | _ => 0
  if fast then 50 * bits else 200 * bits

/-- R184: the raw value of an extraction from stored bytes. -/
def extractRaw (x : Word) (stored : List Byte) : Int :=
  let bs := (stored.drop (xOffset x)).take (xSize x)
  let v := if bit x 15 then leNat bs else beNat bs
  let w := 8 * xSize x - xShift x
  let k := v / 2 ^ xShift x % 2 ^ w
  if bit x 16 then signed w k else (k : Int)

/-- R182: what the port writes: the address with W and the write data, the address with R, or both in this order. -/
def writtenBytes (p t : Nat) (d : Word) (s : State) : List Byte :=
  let data := ((List.range 8).flatMap (fun k => wordToBytes (scriptWord p (aBusI2cwd p t k) s))).take (trWlen d)
  let toWrite := BitVec.ofNat 8 (2 * trAddr d) :: data
  let toRead : List Byte := [BitVec.ofNat 8 (2 * trAddr d + 1)]
  match trKind d with | 0 => toWrite | 1 => toRead | 2 => toWrite ++ toRead | _ => []

/-- Store the read data (BUS_I2CRD) and send the extractions (R184). -/
def transGood (p t : Nat) (stored : List Byte) (s : State) : State :=
  let pad := stored ++ List.replicate (32 - stored.length) 0
  let s := forRange ((stored.length + 3) / 4) (fun k s => s.setReg (aBusI2crd p t k) ((wordsOfBytes pad).getD k 0)) s
  forRange 64 (fun k s =>
    let x := scriptWord p (aBusI2cx k) s
    if bit x 31 && decide (xPort x = p) && decide (xTrans x = t) then sendRaw (fld x 0 8) (extractRaw x stored) 0 s else s) s

/-- After the bus activity: the wait of DELAY ms, then the next transaction (R182). -/
def transNext (p t : Nat) (d : Word) (s : State) : State :=
  if trDelay d = 0 then takeTrans p (t + 1) s
  else setI2c p { i2cSt p s with delayEnd := some (s.now + msT (trDelay d)), retry := false } s

/-- R185: a failure: counted, ERRSEEN set; repeated once, then the extractions report open and the pass goes on. -/
def transFail (p t : Nat) (d : Word) (lo n : Nat) (s : State) : State :=
  let s := (s.bump (aBusI2cstat p) lo n).setB (aBusI2cstat p) 2 true
  if (i2cSt p s).retry then transNext p t d (sendOpens p (fun x => decide (xTrans x = t)) s)
  else setI2c p { i2cSt p s with retry := true } s

/-- I2C_TRANSACTION_END (R182 to R186). -/
def execI2cTransactionEnd (p : Fin 8) (out : I2cOutcome) (s : State) : Host.Outcome State Fault Refusal :=
  let st := i2cSt p s
  match st.cur with
  | some t =>
    let d := descOf p t s
    .next (if domOn .bus s && !s.b (aBusI2cstat p) 0 && st.delayEnd.isNone && !st.stuckDue then
      (let s := setI2c p { st with out := writtenBytes p t d s } s
       let s := { s with now := s.now + busTime (decide (4 ≤ st.line)) d }
       match out with
       | .done read =>
         let bs := read.take (if trKind d = 1 ∨ trKind d = 2 then trRlen d else 0)
         (match (if trCrc d then crcGroups bs else some bs) with
          | some stored => transNext p t d (transGood p t stored s)
          | none => transFail p t d 16 8 s)
       | .nack => transFail p t d 24 8 s
       | .timeout => let s := transFail p t d 12 4 s; setI2c p { i2cSt p s with stuckDue := true } s)
      else s)
  | none => .next s

/-- I2C_DELAY_END (R182): the wait ends and the next transaction starts. -/
def execI2cDelayEnd (p : Fin 8) (s : State) : Host.Outcome State Fault Refusal :=
  let st := i2cSt p s
  match st.cur, st.delayEnd with
  | some t, some e => .next (takeTrans p (t + 1) (s.advTo e))
  | _, _ => .next s

/-! ### Recovery and overvoltage (R180, R186) -/

/-- R186: the bus of port p is judged stuck, or may be: a stretch above 25 ms, STUCK, or a transaction about to send START,
where the port reads SDA. -/
def stuckCause (p : Nat) (s : State) : Bool :=
  let st := i2cSt p s
  s.b (aBusI2cstat p) 1 || st.stuckDue ||
  (match st.cur with | some t => st.delayEnd.isNone && decide (trKind (descOf p t s) ≠ 3) | none => false)

/-- I2C_BUS_RECOVERY (R186): SDA is low; it reads high after `pulses` pulses of SCL. Up to 9 of them are sent; still low sets
STUCK and ends the pass; success clears STUCK and the next pass starts from transaction 0. While STUCK it repeats every
1 s. -/
def execI2cBusRecovery (p : Fin 8) (pulses : Nat) (s : State) : Host.Outcome State Fault Refusal :=
  let st := i2cSt p s
  let bitT := if 4 ≤ st.line then 50 else 200
  .next (if domOn .bus s && s.b (aBusI2cctl p) 31 && !s.b (aBusI2cstat p) 0 && stuckCause p s then
    (let s := if s.b (aBusI2cstat p) 1 then s.advTo (st.recAt + secT 1) else s
     let s := setI2c p { st with recAt := s.now, stuckDue := false } (s.bump (aBusI2cstat p) 8 4)
     if pulses ≤ 9 then { s with now := s.now + (pulses + 1) * bitT }.setB (aBusI2cstat p) 1 false
     else closeScript p ({ s with now := s.now + 9 * bitT }.setB (aBusI2cstat p) 1 true))
    else s)

/-- R180: a line voltage in mV lies above the limit of 6.0 V. -/
def lineHigh (scl sda : Int) : Bool := decide (6000 < scl ∨ 6000 < sda)

/-- I2C_OVERVOLTAGE (R180): a line above 6.0 V: the lines are released, OVV sets, no transaction runs. -/
def execI2cOvervoltage (r : PortVolts) (s : State) : Host.Outcome State Fault Refusal :=
  .next (if domOn .bus s && !s.b (aBusI2cstat r.port) 0 && lineHigh r.mv.scl r.mv.sda then
    closeScript r.port (setI2c r.port { i2cSt r.port s with good := 0, ovvAt := s.now, stuckDue := false } (s.setB (aBusI2cstat r.port) 0 true)) else s)

/-- R181: the latest moment on the grid of passes of port p. -/
def lastDue (p : Nat) (s : State) : Nat :=
  let per := msT (10 * max 1 (s.f (aBusI2cctl p) 0 16))
  (i2cSt p s).nominal + (s.now - (i2cSt p s).nominal) / per * per

/-- I2C_OVV_RETEST (R180): a test of the lines 100 ms after the overvoltage or the last test; two below 6.0 V in a row restore
the port. -/
def execI2cOvvRetest (p : Fin 8) (v : LineVolts) (s : State) : Host.Outcome State Fault Refusal :=
  .next (if domOn .bus s && s.b (aBusI2cstat p) 0 then
    (let due := (i2cSt p s).ovvAt + msT 100
     let s := setI2c p { i2cSt p s with ovvAt := due } (s.advTo due)
     let st := i2cSt p s
     if v.scl < 6000 ∧ v.sda < 6000 then
      (if 1 ≤ st.good then setI2c p { st with good := 0, nominal := lastDue p s } (s.setB (aBusI2cstat p) 0 false)
       else setI2c p { st with good := st.good + 1 } s)
     else setI2c p { st with good := 0 } s)
    else s)

/-- R181, R188: a write to BUS_I2CCTLp: starting the port starts its passes afresh; stopping it ends the pass in
hand; SPEED and PULL wait for the end of a pass. -/
def i2cctlWrite (p : Nat) (v : Word) (s : State) : State :=
  let was := s.b (aBusI2cctl p) 31
  let s := plainWrite (aBusI2cctl p) v s
  let s := if (i2cSt p s).cur.isNone then setI2c p { i2cSt p s with line := s.f (aBusI2cctl p) 28 3 } s else s
  if was && !s.b (aBusI2cctl p) 31 then closeScript p s
  else if !was && s.b (aBusI2cctl p) 31 then setI2c p { i2cSt p s with fresh := true } s else s

end Sys2Proof.Machine
end

