-- ==== Sys2Proof/Machine/Twig.lean ====
section
/-! DEFINITION. Sys2Proof/Machine/Twig.lean: the Twig room-unit bus (06, R190 to R214): segment power, rounds, frames,
discovery, displays. -/

namespace Sys2Proof.Machine

open Sys2Proof

/-- Hidden state of segment g. -/
def twSt (g : Nat) (s : State) : TwSt := tblGet twSt0 s.field.seg g
/-- Set the hidden state of segment g. -/
def setTw (g : Nat) (v : TwSt) (s : State) : State := { s with field := { s.field with seg := tblSet twSt0 s.field.seg g v } }
/-- PWR of segment g. -/
def twPwr (g : Nat) (s : State) : Nat := s.f (aTwigSegstat g) 24 3
/-- ASSIGNED of segment g. -/
def twAssigned (g : Nat) (s : State) : Nat := s.f (aTwigSegstat g) 0 16
/-- Bit a − 1 of a bitmap. -/
def hasAddr (m a : Nat) : Bool := Nat.testBit m (a - 1)
/-- The unit of an address (R97). -/
def unitNo (g a : Nat) : Nat := 16 * g + a - 1
/-- R205: the unit has missed too many polls. -/
def unitAbsent (g u : Nat) (s : State) : Bool := decide (max 1 (s.f (aTwigSegctl g) 8 4) ≤ s.f (aTwigUstat u) 16 8)

/-! ### Frames (R196 to R198) -/

/-- A frame with its CRC. -/
def twFrame (addr : Nat) (fromUnit tgl : Bool) (cmd : Nat) (payload : List Byte) : List Byte :=
  let b := BitVec.ofNat 8 (addr * 8 + fromUnit.toNat * 4 + tgl.toNat * 2) :: BitVec.ofNat 8 cmd :: BitVec.ofNat 8 payload.length :: payload
  let c := crc16Ccitt b
  b ++ [BitVec.ofNat 8 (c / 256), BitVec.ofNat 8 c]

/-- R197: what a frame holds when its CRC, length and reserved bit are right: address, from a unit, TGL, CMD, payload. -/
def twParse (f : List Byte) : Option (Nat × Bool × Bool × Nat × List Byte) :=
  match f with
  | b0 :: cmd :: len :: t =>
    if len.toNat ≤ 32 ∧ t.length = len.toNat + 2 ∧ b0.getLsbD 0 = false ∧
        crc16Ccitt (b0 :: cmd :: len :: t.take len.toNat) = beNat (t.drop len.toNat) then
      some (b0.toNat / 8, b0.getLsbD 2, b0.getLsbD 1, cmd.toNat, t.take len.toNat)
    else none
  | _ => none

/-- R197: a frame whose CRC fails, as against one otherwise malformed. -/
def twCrcBad (f : List Byte) : Bool := decide (crc16Ccitt (f.take (f.length - 2)) ≠ beNat (f.drop (f.length - 2)))

/-! ### Points of a unit (R202, R205) -/

/-- Bytes of object k (R202). -/
def objSize (k : Nat) : Nat := if k < 3 then 2 else 1
/-- R205: raw value of object k from its bytes; none for the not-available value. -/
def objRaw (k : Nat) (bs : List Byte) : Option Int :=
  let v := beNat bs
  match k with
  | 0 => if v = 0x8000 then none else some (signed 16 v)
  | 1 => if v = 0xFFFF then none else some v
  | 2 => if v = 0xFFFF then none else some v
  | 3 => if v = 0xFF then none else some v
  | 4 => if v = 0x80 then none else some (signed 8 v)
  | _ => if v = 0xFF then none else some v
/-- The point of object k of unit u. -/
def objPoint (u k : Nat) (s : State) : Nat :=
  if k < 4 then s.f (aTwigUmap0 u) (24 - 8 * k) 8 else if k = 4 then s.f (aTwigUmap1 u) 24 8 else s.f (aTwigUmap1 u) 16 8

/-- R205: every enabled object of a unit sends raw 0 with OPEN. -/
def sendUnitOpen (u : Nat) (s : State) : State :=
  forRange 6 (fun k s => if s.b (aTwigUmap1 u) k then sendRaw (objPoint u k s) 0 128 s else s) s

/-- R205: the objects of a POLL reply in bit order; absent ones are skipped. -/
def sendObjects (u : Nat) : List Nat → List Byte → State → State
  | [], _, s => s
  | k :: t, bs, s =>
    if Nat.testBit (s.f (aTwigUstat u) 0 16) k then
      let mine := bs.take (objSize k)
      let s := if s.b (aTwigUmap1 u) k then
          (match objRaw k mine with
           | some v => sendRaw (objPoint u k s) v 0 s
           | none => sendRaw (objPoint u k s) 0 128 s)
        else s
      sendObjects u t (bs.drop (objSize k)) s
    else sendObjects u t bs s

/-- R205: a poll without a valid reply. -/
def pollMiss (g u : Nat) (s : State) : State :=
  let s := s.bump (aTwigUstat u) 16 8
  if unitAbsent g u s then sendUnitOpen u (s.setB (aTwigUstat u) 31 false) else s

/-! ### Requests (R199 to R201) -/

/-- R193: n bits of the part in ticks, at 9,600 bit/s. -/
def downTicks (n : Nat) : Nat := n * 6250 / 3
/-- R194: n bits of a unit in ticks, at 19,200 bit/s. -/
def upTicks (n : Nat) : Nat := n * 3125 / 3
/-- R195, R196: bits of a frame of n bytes. -/
def frameBits (n : Nat) : Nat := 3 + 8 * n

/-- R196, R199: a frame leaves as soon as it may; without a reply the next one waits until 1,500 µs after its end. -/
def frameOut (g : Nat) (f : List Byte) (s : State) : State :=
  let st := twSt g s
  let e := max s.now st.gap + downTicks (frameBits f.length)
  setTw g { st with out := f, frameEnd := e, gap := e + usT 1500 } s

/-- R199: a reply of n bytes has ended; it began at least 300 µs after the request. The next frame waits 500 µs. -/
def replyCame (g n : Nat) (s : State) : State :=
  let s := s.advTo ((twSt g s).frameEnd + usT 300 + upTicks (frameBits n))
  setTw g { twSt g s with gap := s.now + usT 500 } s

/-- R199, R200: the longest time from the start of a request to the next frame. -/
def worstTime (r : TwReq) : Nat :=
  let n := if r.cmd = 0x02 ∨ r.cmd = 0x11 then 12 else 1
  downTicks (frameBits (5 + r.payload.length)) +
    (if r.cmd = 0x12 then usT 1500 else max (usT 1500) (usT 1200 + upTicks (frameBits (5 + n))))

/-- R204: `d` ticks of bus time are left before the next round starts. -/
def twFits (g d : Nat) (s : State) : Bool :=
  let st := twSt g s
  !st.fresh && decide (max s.now st.gap + d ≤ st.nominal + msT (10 * max 10 (s.f (aTwigSegctl g) 0 8)))

/-- Send the request in hand: the frame as it leaves, TGL inverted for a new request and kept for a repeat. -/
def twSend (g : Nat) (r : TwReq) (s : State) : State :=
  let u := if r.addr = 0 then 80 + g else unitNo g r.addr
  let t := tblGet false s.field.tgl u
  let t := if r.sent = 0 then !t else t
  let s := { s with field := { s.field with tgl := tblSet false s.field.tgl u t } }
  let noReply := decide (r.cmd = 0x12)
  let s := frameOut g (twFrame r.addr false t r.cmd r.payload) s
  setTw g { twSt g s with await := if noReply then none else some { r with sent := r.sent + 1 } } s

/-- The round is over. -/
def twRoundEnd (g : Nat) (s : State) : State := setTw g { twSt g s with toPoll := [], await := none, finished := s.now } s

/-- R204: the queue in the time that is left in the round; RELEASE brings no reply, so the one after it follows. -/
def twServe (g : Nat) : List TwReq → State → State
  | [], s => twRoundEnd g (setTw g { twSt g s with queue := [] } s)
  | r :: t, s =>
    if twFits g (worstTime r) s then
      let s := twSend g r (setTw g { twSt g s with queue := t } s)
      if r.cmd = 0x12 then twServe g t s else s
    else twRoundEnd g (setTw g { twSt g s with queue := r :: t } s)

/-- R209, R210: while FULL discovery runs, the RELEASEs of the queue go out at once; the rest waits for the rounds. -/
def twReleases (g : Nat) (s : State) : State :=
  let st := twSt g s
  let s := setTw g { st with queue := st.queue.filter (fun r => decide (r.cmd ≠ 0x12)) } s
  forEach (st.queue.filter (fun r => decide (r.cmd = 0x12))) (twSend g) s

/-- FULL discovery runs on the segment (R210). -/
def fullRun (g : Nat) (s : State) : Bool := match (twSt g s).run with | some r => r.full | none => false

/-- The next request: the polls of the round, then the queue in the time left; the round is over when nothing more goes out.
While PWR is not on, no frame goes out: the polls left each count a miss and the queue waits (R191). -/
def twNext (g : Nat) (s : State) : State :=
  let st := twSt g s
  if twPwr g s ≠ 1 then twRoundEnd g (forEach st.toPoll (fun a s => pollMiss g (unitNo g a) s) s) else
  match st.toPoll with
  | a :: t => twSend g ⟨a, 1, [], 0⟩ (setTw g { st with toPoll := t } s)
  | [] => if fullRun g s then twReleases g s else twServe g st.queue s

/-- Queue a request of firmware. -/
def twQueue (g : Nat) (r : TwReq) (s : State) : State := setTw g { twSt g s with queue := (twSt g s).queue ++ [r] } s

/-- Frames may go out: segment on, wait over (R191, R192). -/
def twReady (g : Nat) (s : State) : Bool :=
  domOn .bus s && s.b (aTwigSegctl g) 31 && decide (twPwr g s = 1) && (twSt g s).waitEnd.isNone

/-! ### Discovery (R108, R207 to R211) -/

/-- The owner reference of a segment (R97). -/
def segRef (g : Nat) : Word := mkRef 0x0A g

/-- R210: the units present of a segment, bit a − 1 for address a. -/
def twPresent (g : Nat) (s : State) : Nat :=
  ((List.range 16).map (fun k => if s.b (aTwigUstat (16 * g + k)) 31 then 2 ^ k else 0)).sum

/-- A run ends: polling starts afresh after FULL; the service is released; a command gets its final reply (R210, R212). -/
def endRun (g status : Nat) (s : State) : State :=
  match (twSt g s).run with
  | none => s
  | some r =>
    let st := twSt g s
    let own := match st.await with | some q => decide (q.cmd = 0x11) | none => false
    let s := setTw g { st with run := none, await := if own then none else st.await, fresh := st.fresh || r.full } s
    let mine := fun (v : Service) => decide (v.svc = 3) && decide (v.ref = segRef g ∨ (refType v.ref = 0x0B ∧ refInst v.ref / 16 = g))
    let s := { s with fw := { s.fw with services := s.fw.services.filter (fun v => !mine v),
                                        handBack := s.fw.handBack ++ (s.fw.services.filter mine).map (·.ref) } }
    match r.cmd with
    | some id => finishCmd id status (if status = 0 then [halves (twPresent g s) r.assigned, BitVec.ofNat 32 r.refused] else []) s
    | none => s

/-- A run starts: it takes the segment and its units (R108). FULL stops polling and releases every unit, as soon as a
frame may go out (R191, R192). -/
def startRun (g : Nat) (full : Bool) (cmd : Option Nat) (tag : Nat) (s : State) : State :=
  let refs := segRef g :: (List.range 16).map (fun k => mkRef 0x0B (16 * g + k))
  let s := { s with fw := { s.fw with services := s.fw.services ++ refs.map (fun r => ⟨r, 3, tag, cmd⟩) } }
  let s := setTw g { twSt g s with run := some ⟨full, cmd, 0, 0, 0, 0⟩ } s
  if full then
    let s := setTw g { twSt g s with toPoll := [], queue := [⟨0, 0x12, [], 0⟩], await := none } s
    let s := forRange 16 (fun k s => s.setB (aTwigUstat (16 * g + k)) 31 false) (s.setF (aTwigSegstat g) 0 16 0)
    if twReady g s then twReleases g s else s
  else s

/-- R108: what a discovery run takes: the segment and its units. -/
def runRefs (g : Nat) : List Word := segRef g :: (List.range 16).map (fun k => mkRef 0x0B (16 * g + k))

/-- A run that the part starts itself (R108, R110, R210, R211), unless the segment or a unit is held already. -/
def startAdd (g : Nat) (s : State) : State :=
  if (twSt g s).run.isNone && (runRefs g).all (fun r => ownerFree r s) then startRun g false none 63 s else s

/-- R280: the base configuration's value of a register, if it names it. -/
def baseVal (a : Nat) (s : State) : Option Word :=
  s.fw.image.bind (fun im => ((im.base.filter (fun i => i.addr = a)).getLast?).map (·.val))

/-- The serial recorded for a unit, as a number (R8). -/
def unitSerial (u : Nat) (s : State) : Nat := (s.reg (aTwigUserhi u)).toNat * 2 ^ 32 + (s.reg (aTwigUserlo u)).toNat

/-- R208: the address that the configuration records for a serial, else the lowest free one. -/
def assignAddr (g serial : Nat) (s : State) : Option Nat :=
  let rec1 := (List.range 16).find? (fun k =>
    decide (baseVal (aTwigUserlo (16 * g + k)) s = some (BitVec.ofNat 32 serial)) &&
    decide (baseVal (aTwigUserhi (16 * g + k)) s = some (BitVec.ofNat 32 (serial / 2 ^ 32))))
  match rec1 with
  | some k => some (k + 1)
  | none => ((List.range 16).find? (fun k => !hasAddr (twAssigned g s) (k + 1))).map (· + 1)

/-- R208: the prefix so far as the payload of SEARCH: L and 8 bytes, most significant bit first. -/
def searchPayload (len pre : Nat) : List Byte := BitVec.ofNat 8 len :: beBytes 8 (pre * 2 ^ (64 - len))

/-- R208: the outcome of one step: SEARCH with the next bit 0 was answered or not. At L = 0 silence ends the run; at
64 bits ASSIGN goes out. -/
def searchStep (g : Nat) (seen : Bool) (s : State) : State :=
  match (twSt g s).run with
  | none => s
  | some r =>
    if r.len = 0 ∧ r.pre = 0 ∧ !seen then endRun g 0 s
    else
      let sent := twFrame 0 false false 0x10 (searchPayload r.len (if r.len = 0 then 0 else r.pre * 2))
      let pre := if r.len = 0 then 0 else r.pre * 2 + (if seen then 0 else 1)
      let first := decide (r.len = 0)
      let r := if first then { r with len := 1, pre := 0 } else { r with pre := pre, len := r.len + 1 }
      let s := frameOut g sent s
      let s := (setTw g { twSt g s with run := some r } s).advTo ((twSt g s).frameEnd + usT 1000)
      if r.len = 65 then
        match assignAddr g r.pre s with
        | some a => twSend g ⟨0, 0x11, beBytes 8 r.pre ++ [BitVec.ofNat 8 a], 0⟩ (setTw g { twSt g s with run := some { r with len := 0, pre := 0 } } s)
        | none => endRun g 0 s
      else s

/-- R208: the longest time of a step: SEARCH and 1.5 ms. -/
def searchTime : Nat := downTicks 115 + usT 1500

/-- TWIG_SEARCH_STEP (R208, R210): SEARCH goes out with the prefix so far and brings presence or none; in an ADD run in the
time that polls and queued requests leave in the round. -/
def execTwigSearchStep (g : Fin 5) (seen : Bool) (s : State) : Host.Outcome State Fault Refusal :=
  .next (if twReady g s && (twSt g s).await.isNone && (twSt g s).toPoll = [] then
    (if fullRun g s then searchStep g seen (twReleases g s)
     else if (twSt g s).queue ≠ [] then twNext g s
     else if twFits g searchTime s then searchStep g seen s
     else s)
    else s)

/-- TWIG_AUTO_SEARCH (R210): with AUTOADD a SEARCH with L = 0; presence sets NEWUNIT, rings TWIG_NEW and starts an
ADD run. -/
def execTwigAutoSearch (g : Fin 5) (seen : Bool) (s : State) : Host.Outcome State Fault Refusal :=
  let st := twSt g s
  .next (if twReady g s && s.b (aTwigSegctl g) 30 && st.run.isNone && st.await.isNone && st.toPoll = [] && st.queue = [] &&
      twFits g searchTime s then
    (let s := frameOut g (twFrame 0 false false 0x10 (searchPayload 0 0)) s
     let s := (setTw g { twSt g s with autoAt := s.now } s).advTo ((twSt g s).frameEnd + usT 1000)
     if seen then startAdd g (ringEvent 3 (s.setB (aTwigSegstat g) 30 true)) else s)
    else s)

/-! ### Rounds (R204, R205) -/

/-- TWIG_ROUND (R204): polls each assigned unit in ascending order; while PWR is not on every one counts a miss
(R191). FULL discovery runs no round. -/
def execTwigRound (g : Fin 5) (s : State) : Host.Outcome State Fault Refusal :=
  let st := twSt g s
  .next (if domOn .bus s && s.b (aTwigSegctl g) 31 && !fullRun g s && st.toPoll = [] && st.await.isNone then
    (let due := if st.fresh then s.now else st.nominal + msT (10 * max 10 (s.f (aTwigSegctl g) 0 8))
     let s := if !st.fresh && decide (due < st.finished) then s.setB (aTwigSegstat g) 29 true else s
     let s := s.advTo due
     let addrs := ((List.range 16).map (· + 1)).filter (hasAddr (twAssigned g s))
     let s := setTw g { st with fresh := false, nominal := due } s
     if twReady g s then twNext g (setTw g { twSt g s with toPoll := addrs } s)
     else if twPwr g s ≠ 1 then forEach addrs (fun a s => pollMiss g (unitNo g a) s) s else s)
    else s)

/-- R202: the bytes of a POLL reply: status and the objects of the profile. -/
def pollSize (u : Nat) (s : State) : Nat :=
  1 + ((List.range 6).map (fun k => if s.b (aTwigUstat u) k then objSize k else 0)).sum

/-- R211: polls in a row of unit u that brought a CRC failure. -/
def setCrcRun (u k : Nat) (s : State) : State := { s with field := { s.field with crcRun := tblSet 0 s.field.crcRun u k } }

/-- A valid POLL reply of unit u. -/
def pollGood (g u : Nat) (payload : List Byte) (s : State) : State :=
  let status := payload.headD 0
  let back := unitAbsent g u s
  let s := ((s.setF (aTwigUstat u) 16 8 0).setB (aTwigUstat u) 31 true).setB (aTwigUstat u) 30 (status.getLsbD 7)
  let s := if status.getLsbD 6 then s.setB (aTwigUstat u) 29 true else s
  let s := setCrcRun u 0 s
  let s := sendObjects u [0, 1, 2, 3, 4, 5] (payload.drop 1) s
  if status.getLsbD 6 || back then twQueue g ⟨u % 16 + 1, 0x02, [], 0⟩ s else s

/-- The unit leaves its address: RELEASE goes out and the address is free. -/
def releaseUnit (g a : Nat) (s : State) : State :=
  let s := twQueue g ⟨a, 0x12, [], 0⟩ s
  let u := unitNo g a
  ((s.setF (aTwigSegstat g) (a - 1) 1 0).setB (aTwigUstat u) 31 false)

/-- TWIG_POLL_REPLY (R205, R211): a reply to the POLL in hand; three CRC failures in a row with a reply current mean
two units on one address. -/
def execTwigPollReply (g : Fin 5) (frame : List Byte) (s : State) : Host.Outcome State Fault Refusal :=
  match (twSt g s).await with
  | some r =>
    if r.cmd = 1 then
      let u := unitNo g r.addr
      let s := replyCame g frame.length s
      match twParse frame with
      | some (a, dir, tgl, cmd, payload) =>
        if a = r.addr ∧ dir = true ∧ tgl = tblGet false s.field.tgl u ∧ cmd = 1 ∧ payload.length = pollSize u s then
          .next (twNext g (pollGood g u payload (setTw g { twSt g s with await := none } s)))
        else .next (twNext g (pollMiss g u (setCrcRun u 0 (setTw g { twSt g s with await := none } s))))
      | none =>
        let s := if twCrcBad frame then s.bump (aTwigSegcnt g) 16 16 else s
        let k := if twCrcBad frame then tblGet 0 s.field.crcRun u + 1 else 0
        let s := setCrcRun u (if k = 3 then 0 else k) s
        let s := pollMiss g u (setTw g { twSt g s with await := none } s)
        .next (if k = 3 then startAdd g (twNext g (releaseUnit g r.addr s)) else twNext g s)
    else .next s
  | none => .next s

/-- Requests that are repeated up to 2 times (R201). -/
def repeats (cmd : Nat) : Bool := decide (cmd = 0x03 ∨ cmd = 0x04 ∨ cmd = 0x13)

/-- R199, R201, R208: no valid reply to the request in hand. -/
def replyMissing (g : Nat) (s : State) : State :=
  match (twSt g s).await with
  | none => s
  | some r =>
    let s := setTw g { twSt g s with await := none } s
    if r.cmd = 1 then twNext g (pollMiss g (unitNo g r.addr) (setCrcRun (unitNo g r.addr) 0 s))
    else if repeats r.cmd && decide (r.sent < 3) then twSend g r s
    else twNext g s

/-- TWIG_REPLY_TIMEOUT (R199): a reply that has not begun by 1,000 µs is missing. -/
def execTwigReplyTimeout (g : Fin 5) (s : State) : Host.Outcome State Fault Refusal :=
  .next (if (twSt g s).await.isSome then replyMissing g ((s.advTo ((twSt g s).frameEnd + usT 1000)).bump (aTwigSegcnt g) 0 16) else s)

/-- R203: rewrite every display field last written to a unit. -/
def rewriteDisplay (g u : Nat) (s : State) : State :=
  forRange 8 (fun f s =>
    match tblFind s.field.disp (8 * u + f) with
    | some d => twQueue g ⟨u % 16 + 1, 0x03, BitVec.ofNat 8 f :: d, 0⟩ s
    | none => s) s

/-- R200: the payload of SETCFG, span in 0.1 K, fan-key steps, units: free values in their ranges (log entry 14). -/
def setcfgPayload (s : State) : List Byte × State :=
  let a := s.draw
  let b := a.2.draw
  let c := b.2.draw
  ([BitVec.ofNat 8 (1 + a.1.toNat % 50), BitVec.ofNat 8 (b.1.toNat % 4), BitVec.ofNat 8 (c.1.toNat % 2)], c.2)

/-- The sum of the declared maximum currents of the assigned units, in 0.1 mA. -/
def twCurrent (g : Nat) (s : State) : Nat :=
  ((List.range 16).map (fun k => if hasAddr (twAssigned g s) (k + 1) then s.f (aTwigUcur (16 * g + k)) 0 8 else 0)).sum

/-- R209: an IDENT payload after ASSIGN: the unit is recorded, and released again when the current does not fit. -/
def assignDone (g a : Nat) (p : List Byte) (s : State) : State :=
  let u := unitNo g a
  let serial := beNat (p.take 8)
  let s := (s.setReg (aTwigUserlo u) (BitVec.ofNat 32 serial)).setReg (aTwigUserhi u) (BitVec.ofNat 32 (serial / 2 ^ 32))
  let s := s.setF (aTwigUstat u) 0 16 (beNat ((p.drop 8).take 2))
  let s := s.setReg (aTwigUcur u) (BitVec.ofNat 32 ((p.getD 10 0).toNat))
  let s := ((s.setF (aTwigSegstat g) (a - 1) 1 1).setF (aTwigUstat u) 16 8 0).setB (aTwigUstat u) 31 true
  if 10 * s.f (aTwigSegctl g) 16 8 < twCurrent g s + 120 then
    let s := releaseUnit g a (s.setB (aTwigSegstat g) 28 true)
    match (twSt g s).run with
    | some r => setTw g { twSt g s with run := some { r with refused := r.refused ||| 2 ^ (a - 1) } } s
    | none => s
  else
    match (twSt g s).run with
    | some r => setTw g { twSt g s with run := some { r with assigned := r.assigned ||| 2 ^ (a - 1) } } s
    | none => s

/-- R206: IDENT of a returning unit: the recorded serial gets SETCFG and its display back; another is released. -/
def identDone (g a : Nat) (p : List Byte) (s : State) : State :=
  let u := unitNo g a
  if beNat (p.take 8) = unitSerial u s then
    let s := s.setF (aTwigUstat u) 0 16 (beNat ((p.drop 8).take 2))
    let c := setcfgPayload s
    rewriteDisplay g u (twQueue g ⟨a, 0x04, c.1, 0⟩ c.2)
  else startAdd g (releaseUnit g a s)

/-- A reply that is none of the request in hand: ASSIGN counts it in NORESP (R208); repeats go out (R201). -/
def replyInvalid (g : Nat) (r : TwReq) (s : State) : State :=
  replyMissing g (if r.cmd = 0x11 then s.bump (aTwigSegcnt g) 0 16 else s)

/-- TWIG_REPLY (R198, R200): a reply to a request other than POLL; CMD = 0xFF says that the unit cannot carry it
out. -/
def execTwigReply (g : Fin 5) (frame : List Byte) (s : State) : Host.Outcome State Fault Refusal :=
  match (twSt g s).await with
  | some r =>
    if r.cmd = 1 then .next s else
    let s := replyCame g frame.length s
    match twParse frame with
    | some (a, dir, tgl, cmd, payload) =>
      let u := if r.addr = 0 then 80 + g.val else unitNo g r.addr
      let fits := dir && decide (tgl = tblGet false s.field.tgl u)
      let done := setTw g { twSt g s with await := none } s
      if fits ∧ r.cmd = 0x11 ∧ (cmd = 0x11 ∨ cmd = 0x02) ∧ a = (r.payload.getLastD 0).toNat ∧ payload.length = 12 then
        .next (twNext g (assignDone g a payload done))
      else if fits ∧ r.cmd = 0x02 ∧ cmd = 0x02 ∧ a = r.addr ∧ payload.length = 12 then .next (twNext g (identDone g a payload done))
      else if fits ∧ r.addr ≠ 0 ∧ a = r.addr ∧ (cmd = 0xFF ∨ (cmd = r.cmd ∧ cmd ≠ 0x02)) then .next (twNext g done)
      else .next (replyInvalid g r s)
    | none => .next (replyInvalid g r (if twCrcBad frame then s.bump (aTwigSegcnt g) 16 16 else s))
  | none => .next s

/-! ### Segment power (R190 to R192, R212) -/

/-- The segment goes off or to fault-off: no frame is under way. -/
def twIdle (g : Nat) (s : State) : State :=
  setTw g { twSt g s with toPoll := [], await := none, queue := [], waitEnd := none, retryAt := none, retrying := false, limitAt := none } s

/-- The segment is switched on: PWR on, no frame for 500 ms (R192). -/
def twOn (g : Nat) (s : State) : State :=
  setTw g { twSt g s with waitEnd := some (s.now + msT 500), retryAt := none, fresh := true } (s.setF (aTwigSegstat g) 24 3 1)

/-- TWIG_SHORT (R191, R212): the limiter has held the current for 20 ms without a break. A return to fault-off after a retry
counts no further. A discovery run ends ABORTED. -/
def execTwigShort (g : Fin 5) (s : State) : Host.Outcome State Fault Refusal :=
  match (twSt g s).limitAt with
  | some t =>
    .next (if domOn .bus s && s.b (aTwigSegctl g) 31 && decide (twPwr g s = 2) then
      (let s := ((s.advTo (t + msT 20)).setF (aTwigSegstat g) 24 3 3).setB (aTwigSegstat g) 27 true
       let s := if (twSt g s).retrying then s else s.bump (aTwigSegstat g) 16 8
       let s := endRun g stAborted (twIdle g s)
       setTw g { twSt g s with retryAt := some (s.now + secT 5) } s)
      else s)
  | none => .next s

/-- TWIG_POWER_RETRY (R191): 5 s after fault-off the segment is switched on again. -/
def execTwigPowerRetry (g : Fin 5) (s : State) : Host.Outcome State Fault Refusal :=
  match (twSt g s).retryAt with
  | some t =>
    let s := s.advTo t
    .next (twOn g (setTw g { twSt g s with retrying := true } s))
  | none => .next s

/-- TWIG_POWER_UP_WAIT (R192): the 500 ms are over. -/
def execTwigPowerUpWait (g : Fin 5) (s : State) : Host.Outcome State Fault Refusal :=
  match (twSt g s).waitEnd with
  | some t =>
    let s := setTw g { twSt g s with waitEnd := none, retrying := false } (s.advTo t)
    .next (if (twSt g s).await.isNone && fullRun g s && twReady g s then twReleases g s else s)
  | none => .next s

/-- TWIG_LIMITING (R191): the limiter starts or stops holding the current; line voltage and current are shown. -/
def execTwigLimiting (g : Fin 5) (limiting : Bool) (deciV ma : Nat) (s : State) : Host.Outcome State Fault Refusal :=
  .next (if domOn .bus s && decide (twPwr g s = 1 ∨ twPwr g s = 2) then
    (let st := twSt g s
     let s := setTw g { st with limitAt := if limiting then some (st.limitAt.getD s.now) else none } s
     (s.setF (aTwigSegstat g) 24 3 (if limiting then 2 else 1)).setReg (aTwigSegmon g) (halves deciV ma)) else s)

/-- R190, R214: a write to TWIG_SEGCTLs: ILIM outside 60 to 150 changes no field and sets CFGERR; EN switches the
segment, which VFLOW holds off (R510). -/
def segctlWrite (g : Nat) (v : Word) (s : State) : State :=
  if fld v 16 8 < 60 ∨ 150 < fld v 16 8 then s.setB (aTwigSegstat g) 31 true else
  let was := s.b (aTwigSegctl g) 31
  let s := plainWrite (aTwigSegctl g) v s
  let en := s.b (aTwigSegctl g) 31
  if en && !was then (if s.b aSysPfstat 27 then s else twOn g s)
  else if was && !en then endRun g stAborted (twIdle g (s.setF (aTwigSegstat g) 24 3 0)) else s

/-! ### Displays (R203) -/

/-- R203: the data are what the field takes. -/
def displayOk (f : Nat) (d : List Byte) : Bool :=
  match f with
  | 0 => decide (d.length = 2)
  | 1 => decide (d.length = 2)
  | 2 => decide (d.length = 1 ∧ beNat d ≤ 6)
  | 3 => decide (d.length = 1 ∧ beNat d ≤ 3)
  | 4 => decide (1 ≤ d.length ∧ d.length ≤ 16) && d.all (fun b => decide (0x20 ≤ b.toNat ∧ b.toNat ≤ 0x7E))
  | 5 => decide (d.length = 1)
  | 6 => decide (d.length = 1 ∧ beNat d ≤ 2)
  | _ => decide (d.length = 1 ∧ beNat d ≤ 100)

/-- R291: the mode that a display of zone z (48 the device level) shows; none while the zone has no mode. Overlays come
before the slots (DEDUCED, log entry 72). -/
def shownMode (z : Nat) (s : State) : Option Nat :=
  let kinds := s.fw.active.filterMap (fun k => (overlayOf k s).map (·.kind))
  if .safety ∈ kinds ∨ .cond 2 ∈ kinds then some 6
  else if .cond 1 ∈ kinds then some 5
  else if (List.range 96).all (fun n => decide (resZone (mkRef 0x02 n) s ≠ z) || decide (s.f (aCambCtl n) 27 3 = 0)) then some 0
  else (zoneSt z s).mode.map (fun m => if m = 0 then 1 else if m = 1 then 2 else if m = 4 then 4 else 3)

/-- R203: the data of a display field: setpoint and mode are those of the unit's zone; the others are values that no register
holds. -/
def displayData (u f : Nat) (data : List Byte) (s : State) : List Byte :=
  let z := resZone (mkRef 0x0B u) s
  match f with
  | 1 => if z < 48 then beBytes 2 ((roundRat (100 * f32Rat (zoneSt z s).sp) % 65536).toNat) else data
  | 2 => (match shownMode z s with | some m => [BitVec.ofNat 8 m] | none => data)
  | _ => data

/-- DISPLAY (R203, R291): firmware writes a field of a unit that has a display, at most once a second and field. -/
def execDisplay (u : Fin 80) (field : Fin 8) (data : List Byte) (s : State) : Host.Outcome State Fault Refusal :=
  let g := u.val / 16
  let k := 8 * u.val + field.val
  let data := displayData u field data s
  .next (if domOn .bus s && s.b (aTwigUstat u) 6 && hasAddr (twAssigned g s) (u % 16 + 1) && displayOk field data &&
      decide (tblFind s.field.disp k ≠ some data) then
    (let s := match tblGet none s.field.dispAt k with | some t => s.advTo (t + secT 1) | none => s
     let s := { s with field := { s.field with disp := tblSet [] s.field.disp k data, dispAt := tblSet none s.field.dispAt k (some s.now) } }
     twQueue g ⟨u % 16 + 1, 0x03, BitVec.ofNat 8 field.val :: data, 0⟩ s)
    else s)

end Sys2Proof.Machine
end

