-- ==== Sys2Proof/Machine/Drives.lean ====
section
/-! DEFINITION. Sys2Proof/Machine/Drives.lean: drive channels (10): demands and requests, the Bark stages, diagnosis,
safe values. -/

namespace Sys2Proof.Machine

open Sys2Proof

/-- Hidden state of channel n. -/
def chanSt (n : Nat) (s : State) : ChanSt := tblGet chanSt0 s.drv.chan n
/-- Set the hidden state of channel n. -/
def setChan (n : Nat) (v : ChanSt) (s : State) : State := { s with drv := { s.drv with chan := tblSet chanSt0 s.drv.chan n v } }
/-- The drive channel object n. -/
def drvRef (n : Nat) : Word := mkRef 0x06 n
/-- R311, R313: the mode in force. -/
def drvMode (n : Nat) (s : State) : Nat := if (chanSt n s).modeDue.isSome then 0 else s.f (aDrvCtl n) 0 4
/-- LSUB. -/
def drvLsub (n : Nat) (s : State) : Nat := s.f (aDrvCtl n) 12 2
/-- The output is energised. -/
def stageOn (n : Nat) (s : State) : Bool := (chanSt n s).startAt.isSome
/-- R311: the channel whose stage drives channel n: of the second half of an H-bridge pair, the first. -/
def pairOf (n : Nat) (s : State) : Nat := if drvMode n s = 3 then n - 1 else n
/-- R330: a safe value is in force. -/
def isSafe (n : Nat) (s : State) : Bool := s.b (aDrvDiag n) 10
/-- R328: VFIELD is reversed. -/
def vfrev (s : State) : Bool := s.b aDrvGstat 31
/-- R317: the position estimate of a pair, what DRV_POS shows. -/
def posOf (n : Nat) (s : State) : F32 := s.reg (aDrvPos n)
/-- R317: stroke time in ms of an opening or a closing run. -/
def strokeMs (n : Nat) (opening : Bool) (s : State) : Nat := 10 * (if opening then s.f (aDrvStroke n) 16 16 else s.f (aDrvStroke n) 0 16)
/-- R317: DIR opens. -/
def opens (n : Nat) (dir : Bool) (s : State) : Bool := decide (dir = s.b (aDrvCtl n) 15)

/-! ### Demands (R314) -/

/-- The address under which an item names the DEMAND field of a drive channel or fan object (log entry 12). -/
def demandAddr (r : Word) : Nat := (if refType r = 0x06 then 0x1003000 else 0x1003100) + 4 * refInst r

/-- R280: the items of the highest active layer that names the resource. -/
def ownerItems (r : Word) (s : State) : List Item :=
  match (layersFor r s).find? (fun k => match overlayOf k s with | some o => layerNames o.items r | none => false) with
  | some k => (match overlayOf k s with | some o => o.items.filter (fun i => i.ref = r) | none => [])
  | none => (match s.fw.image with | some im => im.base.filter (fun i => i.ref = r) | none => [])

/-- R314 row 1: the DEMAND that the owning layer names; a claim or a service is no layer. -/
def namedDemand (r : Word) (s : State) : Option F32 :=
  if 5 ≤ ownerKind (ownerOf r s) then none
  else ((ownerItems r s).find? (fun i => i.addr = demandAddr r)).map (·.val)

/-- R314: the demand of a channel and whether row 1 or row 2 gives it. -/
def drvDemand (n : Nat) (s : State) : F32 × Bool :=
  match namedDemand (drvRef n) s with
  | some v => (v, true)
  | none =>
    match tblGet none s.fw.driveOvr n with
    | some o => (o.1, true)
    | none => (f32Clamp 0 0x42C80000 ((chanSt n s).slotDem.getD 0), false)

/-- The slot destinations that name an object: SID object code and instance. -/
def destsOf (obj inst : Nat) (s : State) : List (Nat × Nat) :=
  (List.range 96).flatMap (fun n => ((List.range 4).filter (fun k =>
    bit (inF (aCambDst n k) s) 31 && decide (fld (inF (aCambDst n k) s) 0 10 = 256 * obj + inst))).map (fun k => (n, k)))

/-- R236: the owner of the destination differs from the slot's. Two layers differ when their kind or number differ;
two resources at base or mode level agree. -/
def ownersDiffer (a b : Word) : Bool :=
  if ownerKind a ≤ 2 ∧ ownerKind b ≤ 2 then false else decide (a &&& 0xFFFF0000 ≠ b &&& 0xFFFF0000)

/-- R236, R314: firmware sets or clears DBLK of the slot destinations that name an object. -/
def setDblk (obj inst : Nat) (r : Word) (row : Bool) (s : State) : State :=
  forEach (destsOf obj inst s) (fun (nk : Nat × Nat) s =>
    s.setB (aCambStat nk.1) (14 + nk.2) (row || ownersDiffer (ownerOf r s) (ownerOf (mkRef 0x02 nk.1) s))) s

/-- R316: the class of a request formed for a resource; of the services only DRIVE.CALIBRATE is maintenance. -/
def reqClass (r : Word) (s : State) : Nat :=
  let w := ownerOf r s
  if ownerKind w = 4 then 0
  else if ownerKind w = 3 then
    (match overlayOf (fld w 24 4) s with
     | some o => (match o.kind with
       | .cond 1 => 0 | .cond 2 => 0 | .cond 4 => 2 | .cond 5 => 2 | _ => 1)
     | none => 1)
  else if ownerKind w = 5 ∧ fld w 16 8 = 2 then 2 else 1

/-! ### The current model (R351, R352) -/

/-- Round up to a multiple of 2 mA, at least 10 mA, at most the 2,046 mA that ICUR holds (R22). -/
def roundIcur (q : Rat) : Nat := min 2046 (max 10 ((q / 2).ceil.toNat * 2))

/-- R352: the predicted current of a request of channel n for demand d. -/
def predict (n : Nat) (d : F32) (s : State) : Nat :=
  let irun := mkRat (115 * s.f (aEschMod n) 0 12) 100
  let icfg := s.f (aEschMod n) 16 12
  let cfg : Rat := if icfg = 0 then (if drvMode n s = 2 then 400 else 600) else mkRat icfg 1
  let base := if s.f (aEschMod n) 28 3 = 4 then irun else max irun cfg
  roundIcur (if drvMode n s = 1 ∧ drvLsub n s = 1 then base * f32Rat d / 100 else base)

/-- R351: IM of the run now ending, in mA: the mean of the reported magnitudes, a free value where none was reported. -/
def meanMa (n : Nat) (s : State) : Nat × State :=
  let c := chanSt n s
  if c.imCnt = 0 then (let d := s.draw; (fld d.1 0 12, d.2)) else ((roundRat (mkRat c.imSum c.imCnt)).toNat, s)

/-- R351: a run has ended without a fault: the learned running current. -/
def learn (n : Nat) (s : State) : State :=
  let c := chanSt n s
  let ran := match c.startAt with | some t => decide (secT 1 ≤ s.now - t) | none => false
  let fault := s.f (aDrvDiag n) 0 4 ≠ 0 ∨ (drvMode n s = 2 ∧ s.b (aDrvDiag (n + 1)) 3)
  if ran && !decide fault then
    let m := meanMa n s
    let im := m.1
    let s := m.2
    let old := s.f (aEschMod n) 0 12
    let l := s.f (aEschMod n) 28 3
    let v := if l = 0 then im else (roundRat (mkRat (8 * old + (im - old : Int)) 8)).toNat
    (s.setF (aEschMod n) 0 12 (min 4095 v)).setF (aEschMod n) 28 3 (min 4 (l + 1))
  else s

/-! ### The stages -/

/-- R317: p after a run of `ms` from p0. -/
def movedPos (n ms : Nat) (s : State) : F32 :=
  let c := chanSt n s
  let up := opens n c.dir s
  let ts := strokeMs n up s
  let q := f32Rat c.p0
  let dq := mkRat (100 * ms) ts
  f32OfRat (max 0 (min 100 (if up then q + dq else q - dq)))

/-- The actuator packets for channel n that have not reached the stage. -/
def dropActuator (n : Nat) (s : State) : State :=
  { s with fab := { s.fab with flight := s.fab.flight.filter (fun p =>
      !(decide (hfld p.hdr 60 4 = 10) && decide (hfld p.hdr 54 2 = 2) && decide (hfld p.hdr 32 10 = 512 + n))) } }

/-- What DRV_POS shows of an LSW channel: the applied duty. -/
def showDuty (n : Nat) (s : State) : State :=
  if drvMode n s = 1 then
    s.setReg (aDrvPos n) (if stageOn n s then (if drvLsub n s = 1 then (match (chanSt n s).run with | some r => r.target | none => 0x42C80000) else 0x42C80000) else 0)
  else s

/-- R315: the duty of the channel's generator for demand d. -/
def setDuty (n : Nat) (d : F32) (s : State) : State :=
  let g := s.f (aDrvCtl n) 16 6
  if domOn .brk s then s.setReg (aDrvPwmdut g) (BitVec.ofNat 32 (roundRat (f32Rat d * s.f (aDrvPwmper g) 0 25 / 100)).toNat) else s

/-- R336: the supply through channel n has switched on: the stall window of its fan restarts. -/
def supplyStarted (n : Nat) (s : State) : State :=
  forRange 16 (fun f s =>
    if s.b (aFanCfg f) 14 ∧ s.f (aFanCfg f) 8 6 = n then
      { s with fan := tblSet fanSt0 s.fan f { tblGet fanSt0 s.fan f with winAt := s.now } }
    else s) s

/-- The stage of channel n switches on. -/
def stageStart (n : Nat) (dir : Bool) (s : State) : State :=
  let s := if drvMode n s = 1 then supplyStarted n s else s
  let c := chanSt n s
  let s := setChan n { c with startAt := some s.now, dir := dir, p0 := posOf n s, imSum := 0, imCnt := 0, stageDur := 0,
                              doneAt := none } s
  let s := if domOn .brk s then s.setB (aDrvMeas n) 2 true else s
  showDuty n (s.setB (aDrvDiag n) 8 false)

/-- The stage of channel n switches off after a run of `ms`; `trip`: the current limit ended it (R325). -/
def stageStop (n ms : Nat) (trip : Bool) (s : State) : State :=
  let s := dropActuator n s
  let c := chanSt n s
  match c.startAt with
  | none => s
  | some t =>
    let s := if trip then s else learn n s
    let s := if drvMode n s = 2 then s.setReg (aDrvPos n) (movedPos n ms s) else s
    let long := decide (secT 1 ≤ s.now - t)
    let s := setChan n { chanSt n s with startAt := none, shorts := if long then 0 else c.shorts } s
    let s := if trip then s else (if drvMode n s = 2 then s.setB (aDrvDiag n) 1 false else s).setB (aDrvDiag n) 2 false
    showDuty n (if domOn .brk s then s.setB (aDrvMeas n) 2 false else s)

/-- Time in ms that the stage of channel n has been on. -/
def ranMs (n : Nat) (s : State) : Nat := match (chanSt n s).startAt with | some t => (s.now - t) / 20000 | none => 0

/-- R353, R349: the running request of channel n is removed and its stage stops. -/
def endRunning (n : Nat) (s : State) : State :=
  let s := stageStop n (ranMs n s) false s
  setChan n { chanSt n s with run := none } s

/-- R349: every request of channel n goes. -/
def dropRequests (n : Nat) (s : State) : State :=
  let s := endRunning n s
  setChan n { chanSt n s with fresh := none, cancelPend := false, cancelRun := false, pend := none, aged := none, rejected := false,
                              suspended := false, deadEnd := none, keepJoin := none, homing := false } s

/-! ### Forming requests (R315 to R320) -/

/-- The request that a channel forms: kind, direction, duration in ms, demand served, end of stroke. -/
def mkReq (n kind : Nat) (dir : Bool) (ms : Nat) (target : F32) (toEnd : Bool) (s : State) : Req :=
  let d := min ms 131071
  ⟨kind, reqClass (drvRef n) s, dir, predict n target s, d, ms - d, target, toEnd⟩

/-- R349: a request reaches the scheduler. -/
def issue (n : Nat) (r : Req) (s : State) : State := setChan n { chanSt n s with fresh := some r } s

/-- R349: the pending request is cancelled, and the running one too when `run`; a closing move of R320 is cancelled with
them. -/
def cancel (n : Nat) (run : Bool) (s : State) : State :=
  let c := chanSt n s
  setChan n { c with fresh := none, cancelPend := true, cancelRun := c.cancelRun || (run && c.run.isSome), homing := false } s

/-- R349: the running request of channel n, unless its cancellation is under way. -/
def liveRun (n : Nat) (s : State) : Option Req := if (chanSt n s).cancelRun then none else (chanSt n s).run
/-- R349: a request of channel n runs, is pending or has been formed, and is not being cancelled. -/
def liveRequest (n : Nat) (s : State) : Bool :=
  let c := chanSt n s
  (liveRun n s).isSome || (c.pend.isSome && !c.cancelPend) || c.fresh.isSome

/-- MINRUN in ms (R317). -/
def minRun (n : Nat) (s : State) : Nat := 50 * max 1 (s.f (aDrvLim n) 16 6)

/-- R317: the MOVE of pair n from p to d; none where none is formed. -/
def moveFor (n : Nat) (p d : F32) (s : State) : Option Req :=
  let up := f32Lt p d
  let atEnd := decide (f32Rat d = 0 ∨ f32Rat d = 100)
  let goUp := if atEnd then decide (f32Rat d = 100) else up
  let ts := strokeMs n goUp s
  let dist := f32Rat d - f32Rat p
  let base := (if dist < 0 then -dist else dist) * ts / 100
  let ms := (roundRat (if atEnd then base + mkRat ts 5 else base)).toNat
  let dir := decide (goUp = s.b (aDrvCtl n) 15)
  if atEnd then
    if f32Rat p = f32Rat d ∧ s.b (aDrvDiag n) 8 then none else some (mkReq n 0 dir ms d true s)
  else if ms < minRun n s then none
  else some (mkReq n 0 dir ms d false s)

/-- R319, R234: DSTEP of the slot whose destination names the channel. -/
def dstepFor (n : Nat) (s : State) : F32 :=
  match destsOf 2 n s with
  | (k, _) :: _ => inF (aCambDstep k) s
  | [] => 0

/-- R315: TPM: the pulse of a period that starts now. -/
def tpmPulse (n : Nat) (d : F32) (s : State) : State :=
  let tpp := s.f (aDrvTpp n) 0 12
  let ms := (roundRat (f32Rat d * (1000 * tpp : Nat) / 100)).toNat
  let s := setChan n { chanSt n s with tpmAt := some (s.now + secT tpp) } s
  if ms < minRun n s then s else issue n (mkReq n 2 false ms d false s) s

/-- R321, R327, R328: the output of an AO channel; off while the stage may not be on. -/
def setAo (n code : Nat) (s : State) : State :=
  let ok := domOn .brk s && !s.b (aDrvDiag n) 3 && !vfrev s
  let s := setChan n { chanSt n s with ao := code, aoOff := !ok } s
  if domOn .brk s then s.setB (aDrvMeas n) 2 ok else s

/-- R327, R328: the output of an AO channel switches off; its code is kept. -/
def aoStop (n : Nat) (s : State) : State :=
  if drvMode n s = 4 then
    (let s := setChan n { chanSt n s with aoOff := true } s
     if domOn .brk s then s.setB (aDrvMeas n) 2 false else s)
  else s

/-- R315: the requests of an LSW channel. -/
def formLsw (n : Nat) (d : F32) (s : State) : State :=
  if drvLsub n s = 0 then
    if f32Le 0x42480000 d then (if liveRequest n s then s else issue n (mkReq n 1 false 0 d false s) s) else cancel n true s
  else if drvLsub n s = 1 then
    if f32Abs d = 0 then cancel n true s
    else
      match liveRun n s with
      | none => issue n (mkReq n 1 false 0 d false s) s
      | some r =>
        if f32Lt r.target d then issue n (mkReq n 1 false 0 d false s) s
        else if f32Lt d r.target then
          showDuty n (setDuty n d (setChan n { chanSt n (cancel n false s) with run := some { r with target := d } } s))
        else cancel n false s
  else (match (chanSt n s).tpmAt with | none => tpmPulse n d s | some _ => s)

/-- R317, R319, R320: the requests of an H-bridge pair. -/
def formMove (n : Nat) (d : F32) (s : State) : State :=
  let c := chanSt n s
  if s.b (aDrvDiag n) 9 then
    if c.homing then s
    else
      let ts := strokeMs n false s
      let r := mkReq n 0 (!s.b (aDrvCtl n) 15) (ts + ts / 5) 0 true s
      let s := if c.run.isSome then cancel n true s else s
      issue n r (setChan n { chanSt n s with homing := true } s)
  else if c.deadEnd.isSome || c.homing then s
  else
    match c.run with
    | some r =>
      let diff := f32Abs (f32Sub d r.target)
      if f32Rat diff ≠ 0 ∧ f32Le (dstepFor n s) diff then cancel n true s else s
    | none => (match moveFor n (posOf n s) d s with | some r => issue n r s | none => cancel n false s)

/-- R315 to R321: the scheduler forms or cancels requests of channel n for demand d; an AO channel takes its output. -/
def formRequests (n : Nat) (d : F32) (s : State) : State :=
  match drvMode n s with
  | 1 => formLsw n d s
  | 2 => formMove n d s
  | 4 => setAo n (roundRat (f32Rat d * 65535 / 105)).toNat s
  | _ => s

/-- R314, R316, R330: the demand of channel n is chosen anew; requests follow unless the channel is claimed or SAFE. DRV_POS
shows d outside LSW and HB. -/
def applyDemand (n : Nat) (s : State) : State :=
  let d := drvDemand n s
  let s := (s.setReg (aDrvDem n) d.1).setB (aDrvDiag n) 4 d.2
  let s := if drvMode n s = 0 ∨ 4 ≤ drvMode n s then s.setReg (aDrvPos n) d.1 else s
  let s := setDblk 2 n (drvRef n) d.2 s
  if isSafe n s || claimed (drvRef n) s || s.drv.cal.any (fun r => r.chan = n) then s else formRequests n d.1 s

/-- DEMAND_ARRIVAL (R233, R314): the oldest demand packet for a drive channel reaches AON. -/
def execDemandArrival (s : State) : Host.Outcome State Fault Refusal :=
  .next (match takePacket (fun p => decide (hfld p.hdr 60 4 = 9) && decide (hfld p.hdr 54 2 = 2) && decide (hfld p.hdr 40 2 = 2)) s with
    | some (p, s) =>
      let n := pairOf (hfld p.hdr 32 8) s
      if n < 48 then applyDemand n (setChan n { chanSt n s with slotDem := some (flitVal (p.payload.headD 0)) } s) else s
    | none => s)

/-! ### The Bark stage takes a request (R22) -/

/-- R325, R327, R328: the stage takes requests. -/
def stageReady (n : Nat) (s : State) : Bool :=
  domOn .brk s && !s.b (aDrvDiag n) 31 && !s.b (aDrvDiag n) 3 && !(decide (drvMode n s = 2) && s.b (aDrvDiag (n + 1)) 3) && !vfrev s && !isSafe n s && decide ((chanSt n s).retryAt ≤ s.now)

/-- ACTUATOR_REQUEST (R22, R24): the oldest actuator request reaches the Bark stage, which acts on it alone. -/
def execActuatorRequest (s : State) : Host.Outcome State Fault Refusal :=
  .next (match takePacket (fun p => decide (hfld p.hdr 60 4 = 10) && decide (hfld p.hdr 54 2 = 2) && decide (hfld p.hdr 40 2 = 2)) s with
    | some (p, s) =>
      let n := hfld p.hdr 32 8
      let kind := hfld p.hdr 30 2
      let dir := p.hdr.getLsbD 27
      let dur := hfld p.hdr 0 17
      if n < 48 ∧ stageReady n s then
        (if (drvMode n s = 1 ∧ (kind = 1 ∨ kind = 2)) ∨ (drvMode n s = 2 ∧ kind = 0) then
          let s := s.bump (aDrvCnt n) 16 16
          let s := if stageOn n s then s else stageStart n dir s
          let s := setChan n { chanSt n s with stageDur := dur } s
          (match (chanSt n s).run with
           | some r => if drvMode n s = 1 ∧ drvLsub n s = 1 then showDuty n (setDuty n r.target s) else s
           | none => s)
        else s)
      else if n < 48 then setChan n { chanSt n s with run := none } s
      else s
    | none => s)

/-! ### DRIVE.CALIBRATE runs (R345) -/

/-- The calibration run of a channel. -/
def calOf (n : Nat) (s : State) : Option CalRun := s.drv.cal.find? (fun r => r.chan = n)
/-- The channels that the service holds. -/
def releaseCal (n : Nat) (s : State) : State :=
  let mine := fun (v : Service) => decide (v.svc = 2) && (decide (v.ref = drvRef n) || decide (v.ref = drvRef (n + 1) ∧ drvMode n s = 2))
  { s with drv := { s.drv with cal := s.drv.cal.filter (fun r => r.chan ≠ n) },
           fw := { s.fw with services := s.fw.services.filter (fun v => !mine v),
                             handBack := s.fw.handBack ++ (s.fw.services.filter mine).map (·.ref) } }
/-- A calibration run goes on in another phase. -/
def setCal (r : CalRun) (s : State) : State := { s with drv := { s.drv with cal := s.drv.cal.map (fun x => if x.chan = r.chan then r else x) } }

/-- The request of a calibration phase: up to 600 s towards an end, or an LSW channel on for 2 s. -/
def calRequest (r : CalRun) (s : State) : State :=
  if r.phase = 3 then issue r.chan { mkReq r.chan 2 false (2000 - r.ran) 0x42C80000 false s with cls := 2 } s
  else
    let up := decide (r.phase = 1)
    issue r.chan { mkReq r.chan 0 (decide (up = s.b (aDrvCtl r.chan) 15)) (600000 - r.ran) (if up then 0x42C80000 else 0) true s with cls := 2 } s

/-- R345, R366: the request of a calibration phase has been taken off before its end: what has run counts. -/
def calPaused (n : Nat) (s : State) : State :=
  match calOf n s with
  | some r => setCal { r with ran := r.ran + ranMs n s } s
  | none => s

/-- R345: a calibration run ends without success. -/
def calFail (n status : Nat) (payload : List Word) (s : State) : State :=
  match calOf n s with
  | none => s
  | some r =>
    let s := releaseCal n (dropRequests n s)
    let s := if r.phase = 3 then s else if s.b (aDrvDiag n) 8 then s else s.setB (aDrvDiag n) 9 true
    applyDemand n (finishCmd r.cmd status payload s)

/-- R345: the end-stop current in mA: what DRV_MEASn shows when that is at least IEND, else a free value. -/
def endMa (n : Nat) (s : State) : Nat × State :=
  let ma := (signed 16 (s.f (aDrvMeas n) 16 16)).natAbs
  if s.f (aDrvLim n) 22 10 ≤ ma then (ma, s) else (let d := s.draw; (fld d.1 0 12, d.2))

/-- R345: the calibration of channel n ends with its results. -/
def calDone (n : Nat) (r : CalRun) (endMa : Nat) (s : State) : State :=
  let s := (s.setF (aEschMod n) 0 12 (min 4095 r.runMa)).setF (aEschMod n) 28 3 4
  let s := if r.phase = 3 then s else (s.setF (aDrvStroke n) 16 16 r.tOpen).setF (aDrvStroke n) 0 16 r.tClose
  let p : List Word := [BitVec.ofNat 32 r.tOpen, BitVec.ofNat 32 r.tClose, BitVec.ofNat 32 r.runMa, BitVec.ofNat 32 endMa]
  applyDemand n (finishCmd r.cmd stOk p (releaseCal n s))

/-- R345: the end stop of a calibration phase after `ms` of running. -/
def calStop (n : Nat) (r : CalRun) (ms ma mean : Nat) (s : State) : State :=
  let ms := r.ran + ms
  if r.phase = 0 then (let r := { r with phase := 1, ran := 0 }; calRequest r (setCal r s))
  else if r.phase = 1 then (let r := { r with phase := 2, ran := 0, tOpen := min 65535 (ms / 10), runMa := mean }; calRequest r (setCal r s))
  else calDone n { r with tClose := min 65535 (ms / 10) } ma s

/-! ### Ends of runs (R318, R320, R353) -/

/-- R320: the closing run that looked for the end is over; the move to d is formed. -/
def homeEnd (n : Nat) (s : State) : State :=
  let c := chanSt n s
  if c.homing then
    let s := setChan n { c with homing := false } s
    if claimed (drvRef n) s then s
    else match moveFor n (posOf n s) (s.reg (aDrvDem n)) s with
    | some r => issue n r s
    | none => s
  else s

/-- R318: a run of pair n ends at an end stop. -/
def endStop (n : Nat) (s : State) : State :=
  let c := chanSt n s
  let up := opens n c.dir s
  let ms := ranMs n s
  let ma := endMa n s
  let mean := meanMa n ma.2
  let s := if (calOf n s).isSome then mean.2 else s
  let short := match c.run with | some r => !r.toEnd | none => false
  let s := stageStop n ms false s
  let s := (s.setReg (aDrvPos n) (if up then 0x42C80000 else 0)).setB (aDrvDiag n) 8 true
  let s := if short then s.setB (aDrvDiag n) 26 true else s
  if isSafe n s then
    (setChan n { chanSt n s with safeOn := false } s).setB (aDrvDiag n) 11 true
  else
    let s := setChan n { chanSt n s with run := none } (s.setB (aDrvDiag n) 9 false)
    match calOf n s with
    | some r => if c.cancelRun then calRequest r s else calStop n r ms ma.1 mean.1 s
    | none => homeEnd n s

/-- R318: an end stop in the millisecond in which DUR ended counts as an end stop. -/
def lateEnd (n : Nat) (dir toEnd : Bool) (s : State) : State :=
  let s := s.setReg (aDrvPos n) (if opens n dir s then 0x42C80000 else 0)
  let s := (s.setB (aDrvDiag n) 8 true).setB (aDrvDiag n) 9 false
  let s := if toEnd then s else s.setB (aDrvDiag n) 26 true
  applyDemand n (cancel n false (setChan n { chanSt n s with doneAt := none } s))

/-- END_STOP (R318). -/
def execEndStop (ch : Fin 48) (s : State) : Host.Outcome State Fault Refusal :=
  let n := pairOf ch s
  .next (if drvMode n s ≠ 2 then s
    else match (chanSt n s).startAt, (chanSt n s).doneAt with
      | some t, _ => endStop n (s.advTo (t + msT 400))
      | none, some (t, dir, toEnd) => if s.now / msT 1 = t / msT 1 ∧ (calOf n s).isNone then lateEnd n dir toEnd s else s
      | none, none => s)

/-- R353 step 2, R350, R24: the DUR of the running request of channel n has run out; a stage that runs a packet without a
record of the scheduler stops. -/
def durationEnd (n : Nat) (s : State) : State :=
  let c := chanSt n s
  match c.run with
  | none => stageStop n c.stageDur false s
  | some r =>
    if 0 < r.rest ∧ !c.cancelRun then
      let s := if drvMode n s = 2 then s.setReg (aDrvPos n) (movedPos n r.dur s) else s
      let d := min r.rest 131071
      let r' := { r with dur := d, rest := r.rest - d }
      let s := setChan n { c with run := some r', startAt := c.startAt.map (fun _ => s.now), p0 := posOf n s, stageDur := d } s
      sendStream 9 10 (512 + n) (BitVec.ofNat 32 (((r'.kind * 4 + r'.cls) * 2 + r'.dir.toNat) * 2 ^ 27 + r'.icur / 2 * 2 ^ 17 + d)) [] s
    else
      let mean := meanMa n s
      let s := if (calOf n s).isSome then mean.2 else s
      let s := stageStop n r.dur false s
      let s := if r.kind = 0 ∧ r.toEnd then s.setReg (aDrvPos n) r.target else s
      let s := setChan n { chanSt n s with run := none, doneAt := if r.kind = 0 then some (s.now, c.dir, r.toEnd) else none } s
      match calOf n s with
      | some q =>
        if c.cancelRun then calRequest q s
        else if q.phase = 3 then calDone n { q with runMa := mean.1 } 0 s else calFail n stRange [0, 0, 0, 0] s
      | none => homeEnd n s

/-- When the DUR of the request that channel n runs ends: that of the packet once the stage has it (R24). -/
def durationDue (n : Nat) (s : State) : Option Nat :=
  let c := chanSt n s
  match c.startAt, c.run with
  | some t, some r => if r.dur = 0 then none else some (t + msT (if c.stageDur = 0 then r.dur else c.stageDur))
  | some t, none => if c.stageDur = 0 then none else some (t + msT c.stageDur)
  | none, some r => if r.dur = 0 then none else some (c.admAt + msT r.dur)
  | none, none => none

/-! ### Diagnosis and protection (R325 to R328) -/

/-- The stage of channel n ends its request: a short, overtemperature, reversed supply. -/
def stageFault (n : Nat) (trip : Bool) (s : State) : State :=
  let s := stageStop n (ranMs n s) trip s
  let s := setChan n { chanSt n s with run := none, homing := false, safeOn := false } s
  if (calOf n s).isSome then calFail n stRange [0, 0, 0, 0] s else s

/-- CURRENT_LIMIT_TRIP (R325): the limit has been held for 100 µs (10 ms for AO); `high`: an output driven high, or
AO sourcing. -/
def execCurrentLimitTrip (ch : Fin 48) (high : Bool) (s : State) : Host.Outcome State Fault Refusal :=
  let n := pairOf ch s
  let m := drvMode n s
  let flagUp := fun (hi : Bool) (s : State) => if hi then (s.setB (aDrvDiag n) 1 true).setB (aDrvDiag n) 29 true else (s.setB (aDrvDiag n) 2 true).setB (aDrvDiag n) 28 true
  .next (if m = 4 ∧ domOn .brk s then (flagUp high s).bump (aDrvCnt n) 8 8
    else if (m = 1 ∨ m = 2) ∧ stageOn n s then
      (let long := decide (1000 ≤ ranMs n s)
       let s := stageFault n true (flagUp (high && decide (m = 2)) s)
       let s := s.bump (aDrvCnt n) 8 8
       let k := (if long then 0 else (chanSt n s).shorts) + 1
       let s := setChan n { chanSt n s with shorts := k, retryAt := s.now + secT 1 } s
       let s := if 8 ≤ k then s.setB (aDrvDiag n) 31 true else s
       applyDemand n s)
    else s)

/-- R326: OPEN of channel n sets. -/
def setOpen (n : Nat) (s : State) : State := (s.setB (aDrvDiag n) 0 true).setB (aDrvDiag n) 30 true

/-- OPEN_LOAD (R326, R510): the on-state current has stayed below IOPEN for 200 ms, of a pair after the first 300 ms. -/
def execOpenLoad (ch : Fin 48) (s : State) : Host.Outcome State Fault Refusal :=
  let n := pairOf ch s
  .next (match (chanSt n s).startAt with
    | some t => if decide (drvMode n s = 1 ∨ drvMode n s = 2) && !s.b aSysPfstat 27 then
        setOpen n (s.advTo (t + msT (if drvMode n s = 2 then 500 else 200))) else s
    | none => s)

/-- OFF_STATE_TEST (R326): an LSW pin in the off-state has stayed at `mv`. -/
def execOffStateTest (n : Fin 48) (mv : Int) (s : State) : Host.Outcome State Fault Refusal :=
  .next (if domOn .brk s && decide (drvMode n s = 1) && !stageOn n s then
    (let s := s.setF (aDrvMeas n) 8 6 (min 63 (mv.toNat / 500))
     if 3000 ≤ mv ∧ mv ≤ 7000 then (if s.b aSysPfstat 27 then s else setOpen n s)
     else if mv < 1000 then (if s.b aSysPfstat 27 then s else (s.setB (aDrvDiag n) 1 true).setB (aDrvDiag n) 29 true)
     else if 12000 < mv then (s.setB (aDrvDiag n) 0 false).setB (aDrvDiag n) 1 false
     else s)
    else s)

/-- STAGE_OVERTEMP (R327). -/
def execStageOvertemp (n : Fin 48) (s : State) : Host.Outcome State Fault Refusal :=
  .next (if domOn .brk s then
    (let k := pairOf n s
     let s := ((s.setB (aDrvDiag n) 3 true).setB (aDrvDiag n) 27 true).bump (aDrvCnt n) 0 8
     aoStop k (if stageOn k s then stageFault k false s else s))
    else s)

/-- R328, R510: every stage and every Twig segment switches off. -/
def fieldOff (s : State) : State :=
  let s := forRange 48 (fun n s => aoStop n (if stageOn n s then stageFault n false s else s)) s
  forRange 5 (fun g s => if s.b (aTwigSegctl g) 31 then endRun g stAborted (twIdle g (s.setF (aTwigSegstat g) 24 3 0)) else s) s

/-- VFIELD_REVERSE (R328, R510): VFIELD has fallen below −1.0 V. -/
def execVfieldReverse (s : State) : Host.Outcome State Fault Refusal :=
  .next (if vfrev s then s else
    (let s := fieldOff s
     let s := ((s.setB aDrvGstat 31 true).setB aDrvGstat 30 true).bump aDrvGstat 0 8
     s.setB aSysPfstat 27 true))

/-! ### Configuration (R311, R313, R347) -/

/-- R347: a write of `v` at offset `off` of channel n is refused. -/
def drvBad (n off : Nat) (v : Word) (s : State) : Bool :=
  let m := fld v 0 4
  if off = 0 then
    decide (5 < m) || decide (fld v 12 2 = 3) || decide (fld v 8 4 = 0) || (decide (m = 2) && decide (n % 2 = 1)) ||
    (decide (m = 3) && decide (s.f (aDrvCtl n) 0 4 ≠ 3)) ||
    (decide (n % 2 = 1) && decide (s.f (aDrvCtl (n - 1)) 0 4 = 2) && decide (m ≠ s.f (aDrvCtl n) 0 4))
  else if off = 4 then decide (5 < fld v 29 3)
  else if off = 0x0C then decide (fld v 22 10 < 20) || decide (790 < fld v 22 10)
  else if off = 0x10 then decide (fld v 0 12 < 10) || decide (3600 < fld v 0 12)
  else false

/-- R313: when a mode written to channel n now may apply: 10 ms after the output is switched off; none: at once. -/
def modeWait (n : Nat) (s : State) : Option Nat :=
  if stageOn n s || decide (s.f (aDrvCtl n) 0 4 = 4 ∧ (chanSt n s).modeDue.isNone) then some (s.now + msT 10) else (chanSt n s).modeDue

/-- R313: the mode of channel n changes to m, to apply at `due`: requests end, the output switches off first. -/
def changeMode (n m : Nat) (due : Option Nat) (s : State) : State :=
  let s := dropRequests n s
  let s := (s.setF (aDrvCtl n) 0 4 m).setReg (aDrvPos n) 0
  let s := if domOn .brk s then s.setB (aDrvMeas n) 2 false else s
  setChan n { chanSt n s with modeDue := due, tpmAt := none, ao := 0, aoOff := false, din := none, dinEqual := 0, doneAt := none } s

/-- R325 to R330: hardware limits allow the stage of channel n to be on under its safe value. -/
def safeReady (n : Nat) (s : State) : Bool :=
  domOn .brk s && !s.b (aDrvDiag n) 31 && !s.b (aDrvDiag n) 3 && !(decide (drvMode n s = 2) && s.b (aDrvDiag (n + 1)) 3) && !vfrev s
    && decide ((chanSt n s).retryAt ≤ s.now)

/-- R329, R325: an LSW channel whose safe value is ON is on as soon as hardware limits allow (DEDUCED, log entry 149). -/
def safeLswStart (n : Nat) (s : State) : State :=
  if isSafe n s && (chanSt n s).safeLsw && decide (drvMode n s = 1) && !stageOn n s && safeReady n s then stageStart n false s else s

/-- R329: the safe value of channel n is taken. -/
def takeSafe (n : Nat) (s : State) : State :=
  let m := s.f (aDrvCtl n) 0 4
  let act := s.f (aDrvSafe n) 29 3
  if m = 1 ∨ m = 2 ∨ m = 4 then
    let wasOn := stageOn n s
    let keep := decide (m = 1) && decide (act = 2) && wasOn
    let s := if keep then (let s := dropActuator n s
                           setChan n { chanSt n s with fresh := none, cancelPend := false, cancelRun := false, pend := none, run := none,
                                                       aged := none, rejected := false, suspended := false, stageDur := 0 } s)
             else dropRequests n s
    let s := if (calOf n s).isSome then calFail n stAborted [0, 0, 0, 0] s else s
    let s := (s.setB (aDrvDiag n) 10 true).setB (aDrvDiag n) 11 false
    let s := setChan n { chanSt n s with safeRun := none, safeOn := false, safeLsw := decide (m = 1) && decide (act = 1), tpmAt := none } s
    if (chanSt n s).modeDue.isSome then s
    else if m = 1 then safeLswStart n s
    else if m = 2 then
      (if act = 3 ∨ act = 4 then
        { s with drv := { s.drv with safeQ := s.drv.safeQ ++ [(n, decide (act = 3))] } }
       else s)
    else setAo n (if act = 5 then s.f (aDrvSafe n) 0 16 else if act = 2 then (chanSt n s).ao else 0) s
  else s

/-- R313, R330, R314: the new mode of channel n applies: its safe value while SAFE, else its demand. -/
def newMode (n : Nat) (s : State) : State :=
  if (chanSt n s).modeDue.isSome then s else applyDemand n (if isSafe n s then takeSafe n s else s)

/-- R311, R313, R347: a write to DRV_CTLn. The two halves of a pair change together; a pair that is new has no known
position (R320; DEDUCED, log entry 150). -/
def drvCtlWrite (n : Nat) (v : Word) (s : State) : State :=
  if drvBad n 0 v s then s.setB (aDrvCtl n) 31 true
  else
    let old := s.f (aDrvCtl n) 0 4
    let m := fld v 0 4
    let s' := plainWrite (aDrvCtl n) (setFld v 0 4 old) s
    if m = old then
      let s' := if m = 1 ∧ fld v 12 2 ≠ drvLsub n s then (let t := dropRequests n s'; setChan n { chanSt n t with tpmAt := none } t) else s'
      applyDemand n s'
    else
      let one := modeWait n s
      let both := match one, modeWait (n + 1) s with | some a, some b => some (max a b) | some a, none => some a | none, b => b
      let s := if m = 2 then ((changeMode (n + 1) 3 both (changeMode n m both s')).setB (aDrvDiag n) 9 true)
        else if old = 2 then changeMode (n + 1) 0 both (changeMode n m both s')
        else changeMode n m one s'
      newMode n s

/-- DRV_CTL_WRITE (R311, R313, R347). -/
def execDrvCtlWrite (n : Fin 48) (v : Word) (s : State) : Host.Outcome State Fault Refusal := .next (drvCtlWrite n v s)

/-- MODE_CHANGE_DELAY_END (R313): 10 ms after the switch-off the new mode applies, of a pair on both halves. -/
def execModeChangeDelayEnd (n : Fin 48) (s : State) : Host.Outcome State Fault Refusal :=
  match (chanSt n s).modeDue with
  | some t =>
    let s := s.advTo t
    let m := s.f (aDrvCtl n) 0 4
    let k := if m = 3 then n.val - 1 else n.val
    let clear := fun (n : Nat) (s : State) => setChan n { chanSt n s with modeDue := none } s
    .next (newMode k (clear k (if m = 2 ∨ m = 3 then clear (k + 1) s else s)))
  | none => .next s

/-- R347: a write to another register of channel n, or of a PWM generator. -/
def drvWrite (n off : Nat) (v : Word) (s : State) : State :=
  if drvBad n off v s then s.setB (aDrvCtl n) 31 true else plainWrite (aDrvCtl n + off) v s

/-- R347: a write to a PWM generator: period outside 800 to 24,000,000, or a duty above the period, is refused, with
CFGERR in the channels that use the generator. -/
def pwmWrite (g : Nat) (duty : Bool) (v : Word) (s : State) : State :=
  let x := fld v 0 25
  let bad := if duty then decide (s.f (aDrvPwmper g) 0 25 < x)
    else decide (x < 800) || decide (24000000 < x) || decide (x < s.f (aDrvPwmdut g) 0 25)
  if bad then forRange 48 (fun n s => if s.f (aDrvCtl n) 16 6 = g ∧ s.f (aDrvCtl n) 0 4 = 1 ∧ drvLsub n s = 1 then s.setB (aDrvCtl n) 31 true else s) s
  else plainWrite (if duty then aDrvPwmdut g else aDrvPwmper g) v s

/-! ### Contact inputs and reports (R322, R323) -/

/-- R323: the flag byte of a report: OPEN, OVR. -/
def drvFlags (n : Nat) (s : State) : Nat :=
  (if s.b (aDrvDiag n) 0 then 128 else 0) + (if s.b (aDrvDiag n) 1 || s.b (aDrvDiag n) 2 then 64 else 0)

/-- R323: a report of channel n to its point. -/
def drvReport (n : Nat) (raw : Int) (s : State) : State :=
  if s.b (aDrvCtl n) 30 then
    sendStream 10 3 (s.f (aDrvCtl n) 22 8) 0 [BitVec.ofNat 64 (lowBits 32 raw * 2 ^ 32 + drvFlags n s)] s
  else s

/-- DIN_READ (R322): the reading at the end of a wetting pulse, every 10 ms. -/
def execDinRead (n : Fin 48) (mv : Int) (s : State) : Host.Outcome State Fault Refusal :=
  .next (if domOn .brk s && decide (drvMode n s = 5) then
    (let s := s.advTo (gridFrom 0 (msT 10) (afterLast (chanSt n s).readAt s))
     let s := s.setF (aDrvMeas n) 8 6 (min 63 (mv.toNat / 500))
     let c : ChanSt := { chanSt n s with readAt := some s.now }
     let r := if mv < 3000 then true else if 6000 < mv then false else c.dinLast
     let k := if r = c.dinLast then c.dinEqual + 1 else 1
     let s := setChan n { c with dinLast := r, dinEqual := k } s
     if s.f (aDrvCtl n) 8 4 ≤ k ∧ c.din ≠ some r then
       (let s := (setChan n { chanSt n s with din := some r } s).setB (aDrvMeas n) 3 r
        drvReport n r.toNat s)
     else s)
    else s)

/-- R324, R326, R351: the current reading of a millisecond of channel n, in mA: DRV_MEASn.IMA is the mean of the readings
of the last 10 ms; on LSW and HB only the on-state is read. A reading that shows the load present clears OPEN and the
off-state SHORT_GND; one below every AO limit clears the AO flags (R325). -/
def stageReading (n : Nat) (ma : Int) (s : State) : State :=
  let k := pairOf n s
  let m := drvMode k s
  let read := !(decide (m = 1 ∨ m = 2)) || stageOn k s
  let l := if read then (ma :: (chanSt n s).meas).take 10 else (chanSt n s).meas.take ((chanSt n s).meas.length - 1)
  let s := setChan n { chanSt n s with meas := l } s
  let ima := if l = [] then 0 else roundRat (mkRat (l.foldl (· + ·) 0) l.length)
  let s := s.setF (aDrvMeas n) 16 16 (lowBits 16 ima)
  if !read || decide (n ≠ k) then s
  else
    let c := chanSt n s
    let s := if stageOn n s ∧ 300 ≤ ranMs n s then setChan n { c with imSum := c.imSum + ima.natAbs, imCnt := c.imCnt + 1 } s else s
    let s := if stageOn n s ∧ max 1 (s.f (aDrvLim n) 8 8) ≤ ma.natAbs then
        (if m = 1 then s.setB (aDrvDiag n) 1 false else s).setB (aDrvDiag n) 0 false
      else s
    if m = 4 ∧ ma.natAbs < 12 then (s.setB (aDrvDiag n) 1 false).setB (aDrvDiag n) 2 false else s

/-- R324: every stage reads its current; a channel that the list does not name reads 0 mA. -/
def readStages (ma : List (Nat × Int)) (s : State) : State :=
  if domOn .brk s then forRange 48 (fun n s => stageReading n (((ma.find? (fun p => p.1 = n)).map (·.2)).getD 0) s) s else s

/-- R324: readings of one stage that no scheduler cycle has brought, oldest first. -/
def lateReadings (n : Nat) (ma : List Int) (s : State) : State := forEach ma (fun x s => stageReading n x s) s

/-- DRIVE_REPORT (R323): the report of the second: the contact's state or the measured current. -/
def execDriveReport (n : Fin 48) (ma : List Int) (s : State) : Host.Outcome State Fault Refusal :=
  .next (if domOn .brk s then
    (let s := s.advTo (gridFrom s.rq.origin (secT 1) (afterLast (chanSt n s).reportAt s))
     let s := lateReadings n ma s
     let c : ChanSt := { chanSt n s with reportAt := some s.now }
     let s := setChan n c s
     drvReport n (if drvMode n s = 5 then ((c.din.getD false).toNat : Int) else signed 16 (s.f (aDrvMeas n) 16 16)) s)
    else s)

/-! ### Safe values (R329 to R331) -/

/-- R330: the Bark die applies the safe values of every channel, for a cause (SAFECAUSE). -/
def applySafe (cause : Nat) (s : State) : State :=
  let s := s.setF aDrvGstat 27 3 cause
  let s := { s with drv := { s.drv with safeQ := [], safeAt := s.now } }
  forRange 48 takeSafe s

/-- SAFE_RUN (R330): the Bark die starts the next H-bridge safe run, 20 ms after the previous one. -/
def execSafeRun (s : State) : Host.Outcome State Fault Refusal :=
  match s.drv.safeQ with
  | [] => .next s
  | (n, up) :: rest =>
    let s := s.advTo (max s.drv.safeAt (chanSt n s).retryAt)
    let s := { s with drv := { s.drv with safeQ := rest, safeAt := s.now + msT 20 } }
    .next (if isSafe n s && safeReady n s then
      (let s := setChan n { chanSt n s with safeRun := some up, safeOn := true } s
       stageStart n (decide (up = s.b (aDrvCtl n) 15)) s)
      else s)

/-- R329: the length of a safe run in ms. -/
def safeMs (n : Nat) (s : State) : Nat :=
  let d := s.f (aDrvSafe n) 16 8
  if d = 0 then (let ts := strokeMs n ((chanSt n s).safeRun.getD true) s; ts + ts / 5) else 1000 * d

/-- SAFEDUR_END (R329): a safe run ends at SAFEDUR without an end stop. -/
def execSafedurEnd (n : Fin 48) (s : State) : Host.Outcome State Fault Refusal :=
  match (chanSt n s).startAt with
  | some t =>
    .next (if (chanSt n s).safeOn then
      (let ms := safeMs n s
       let s := stageStop n ms false (s.advTo (t + msT ms))
       setChan n { chanSt n s with safeOn := false } s)
      else s)
  | none => .next s

/-! ### Manual drive (R365) -/

/-- A claimed channel with EN and ON of DRV_MANn. -/
def manOn (n : Nat) (s : State) : Bool := claimed (drvRef n) s && s.b (aDrvMan n) 31 && s.b (aDrvMan n) 30

/-- R365: DRV_MANn drives a claimed channel directly, unless it is SAFE. -/
def manDrive (n : Nat) (s : State) : State :=
  if claimed (drvRef n) s && !isSafe n s then
    let m := drvMode n s
    if m = 4 ∧ s.b (aDrvMan n) 31 then setAo n (s.f (aDrvMan n) 0 16) s
    else if manOn n s && decide (m = 1 ∨ m = 2) then
      let d := s.b (aDrvMan n) 29
      if stageOn n s then
        (if m = 2 ∧ (chanSt n s).dir ≠ d then stageStart n d (stageStop n (ranMs n s) false s) else s)
      else if stageReady n s then stageStart n d s else s
    else if stageOn n s then stageStop n (ranMs n s) false s else s
  else s

/-- R365, R347: a write to DRV_MANn. -/
def manWrite (n : Nat) (v : Word) (s : State) : State := manDrive n (plainWrite (aDrvMan n) v s)

/-! ### Stages that may be on again (R327, R328) -/

/-- R327, R328: channel n may be on again: its output, its safe value, its demand or its manual drive. -/
def stageBack (n : Nat) (s : State) : State :=
  let s := if drvMode n s = 4 then setAo n (chanSt n s).ao s else s
  manDrive n (applyDemand n (safeLswStart n s))

/-- STAGE_COOLED (R327): the stage accepts requests again; the demand in force forms them. -/
def execStageCooled (n : Fin 48) (s : State) : Host.Outcome State Fault Refusal :=
  .next (if s.b (aDrvDiag n) 3 then stageBack (pairOf n s) (s.setB (aDrvDiag n) 3 false) else s)

/-- VFIELD_RESTORE (R328): VFIELD has stayed above +16.0 V for 1 s; VFLOW clears on its own condition (R510). -/
def execVfieldRestore (s : State) : Host.Outcome State Fault Refusal :=
  .next (if vfrev s then forRange 48 stageBack (s.setB aDrvGstat 31 false) else s)

/-! ### Release from SAFE (R331) -/

/-- R331: channel n is released from SAFE, not before the link to the Bark die carries valid words again (R11). -/
def releaseSafe (n : Nat) (s : State) : State :=
  if isSafe n s && !s.fab.barkSafe then
    let c := chanSt n s
    let s := if stageOn n s then stageStop n (ranMs n s) false s else s
    let s := { s with drv := { s.drv with safeQ := s.drv.safeQ.filter (fun q => q.1 ≠ n) } }
    let s := match c.safeRun with
      | some up => if s.b (aDrvDiag n) 11 then s.setReg (aDrvPos n) (if up then 0x42C80000 else 0) else s.setB (aDrvDiag n) 9 true
      | none => s
    let s := setChan n { chanSt n s with safeRun := none, safeOn := false, safeLsw := false } (s.setB (aDrvDiag n) 10 false)
    manDrive n (applyDemand n s)
  else s

/-- DRV_SAFECLR_WRITE (R331, R11). -/
def execDrvSafeclrWrite (hi : Bool) (v : Word) (s : State) : Host.Outcome State Fault Refusal :=
  .next (forRange 32 (fun i s => if bit v i ∧ 32 * hi.toNat + i < 48 then releaseSafe (32 * hi.toNat + i) s else s) s)

/-- R365, R331: firmware releases every unclaimed channel. -/
def releaseAllSafe (s : State) : State := forRange 48 (fun n s => if claimed (drvRef n) s then s else releaseSafe n s) s

/-! ### The rows of manual drive -/

/-- DRV_MAN_WRITE (R347, R365). -/
def execDrvManWrite (n : Fin 48) (v : Word) (s : State) : Host.Outcome State Fault Refusal :=
  .next (if domOn .brk s then manWrite n v s else s)

end Sys2Proof.Machine
end

