-- ==== Sys2Proof/Machine/Clock.lean ====
section
/-! DEFINITION. Sys2Proof/Machine/Clock.lean: the real-time clock and the backup domain (R487 to R508) and the CLOCK
commands. -/

namespace Sys2Proof.Machine

open Sys2Proof

/-! ### Calendar -/

/-- The number a BCD byte spells. -/
def bcdVal (v : Nat) : Nat := v / 16 * 10 + v % 16
/-- A number below 100 in BCD. -/
def bcdOf (n : Nat) : Nat := n / 10 % 10 * 16 + n % 10
/-- A BCD byte whose digits are decimal and whose value lies in lo to hi. -/
def bcdIn (lo hi v : Nat) : Bool := decide (v / 16 < 10) && decide (v % 16 < 10) && decide (lo ≤ bcdVal v) && decide (bcdVal v ≤ hi)

/-- R487: a leap year, counted from 2000. -/
def leapYear (y : Nat) : Bool := decide (y % 4 = 0) && decide (y ≠ 100)
/-- Days of a month. -/
def monthDays (y m : Nat) : Nat := if m = 2 then (if leapYear y then 29 else 28) else if m ∈ [4, 6, 9, 11] then 30 else 31
/-- Days from 2000-01-01 to the first day of year y. -/
def yearStart (y : Nat) : Nat := 365 * y + (y + 3) / 4 - (if 100 < y then 1 else 0)
/-- Days from the first day of the year to the first day of month m. -/
def monthStart (y m : Nat) : Nat := ((List.range (m - 1)).map (fun k => monthDays y (k + 1))).foldl (· + ·) 0
/-- Days from 2000-01-01 to a date. -/
def dayNumber (y m d : Nat) : Nat := yearStart y + monthStart y m + (d - 1)
/-- R487: the weekday of a day, Monday 1; 2000-01-01 was a Saturday. -/
def weekday (n : Nat) : Nat := (n + 5) % 7 + 1
/-- The date of a day: year from 2000, month, day. -/
def dateOf (n : Nat) : Nat × Nat × Nat :=
  let y := (List.range 200).foldl (fun a k => if yearStart k ≤ n then k else a) 0
  let r := n - yearStart y
  let m := (List.range 12).foldl (fun a k => if monthStart y (k + 1) ≤ r then k + 1 else a) 1
  (y, m, r - monthStart y m + 1)

/-! ### The time -/

/-- Year of the clock, counted from 2000. -/
def clockYear (s : State) : Nat := (bcdVal (s.f aRtcCent 0 8) - 20) * 100 + bcdVal (s.f aRtcYear 0 8)
/-- The day of the clock. -/
def clockDay (s : State) : Nat := dayNumber (clockYear s) (bcdVal (s.f aRtcMon 0 5)) (bcdVal (s.f aRtcDate 0 6))
/-- Seconds since 2000-01-01 00:00:00. -/
def clockSecs (s : State) : Nat :=
  86400 * clockDay s + 3600 * bcdVal (s.f aRtcHour 0 6) + 60 * bcdVal (s.f aRtcMin 0 7) + bcdVal (s.f aRtcSec 0 7)
/-- R98, R489, R490: the time word; none while the time is invalid. -/
def timeNow (s : State) : Option Nat := if clockValid s && decide (clockSecs s < 2 ^ 32) then some (clockSecs s) else none
/-- The time word for a record: 0 while the time is invalid. -/
def timeWord0 (s : State) : Word := BitVec.ofNat 32 ((timeNow s).getD 0)

/-- Set the fields of the clock to a number of seconds. -/
def setClockSecs (n : Nat) (s : State) : State :=
  let d := dateOf (n / 86400)
  let r := n % 86400
  let s := s.setF aRtcSec 0 7 (bcdOf (r % 60))
  let s := s.setF aRtcMin 0 7 (bcdOf (r / 60 % 60))
  let s := s.setF aRtcHour 0 6 (bcdOf (r / 3600))
  let s := s.setF aRtcDate 0 6 (bcdOf d.2.2)
  let s := s.setF aRtcMon 0 5 (bcdOf d.2.1)
  let s := s.setF aRtcYear 0 8 (bcdOf (d.1 % 100))
  let s := s.setF aRtcCent 0 8 (bcdOf (20 + d.1 / 100))
  s.setF aRtcWday 0 3 (weekday (n / 86400))

/-- R490, R6: TLOST sets with a cause; R286: TIME_INVALID rings when the time becomes invalid. -/
def loseTime (cause : Nat) (s : State) : State :=
  let t := (s.setB aRtcStat 31 true).setF aRtcStat 28 3 cause
  if s.b aRtcStat 31 then t else ringEvent 7 t

/-- HALT. -/
def halted (s : State) : Bool := s.b aRtcCtl 31
/-- The clock counts. -/
def clockRuns (s : State) : Bool := !halted s && !s.rtc.oscStop && !s.rtc.held
/-- R496: ticks of a second with the calibration in force. -/
def secLen (s : State) : Nat := roundDiv (secT 1 * 2 ^ 20) ((2 ^ 20 + signed 9 s.rtc.cal).toNat)
/-- R487: RTC_SUBSEC now. -/
def subsecNow (s : State) : Nat := if clockRuns s then min 32767 ((s.now - s.rtc.phase) * 32768 / secLen s) else s.rtc.sub
/-- The clock stands still from now on. -/
def freeze (s : State) : State := { s with rtc := { s.rtc with sub := subsecNow s } }
/-- R494: the clock counts on from the frozen sub-second. -/
def thaw (s : State) : State := { s with rtc := { s.rtc with phase := s.now - s.rtc.sub * secLen s / 32768 } }

/-- R491: the registers that a capture takes, in order of address. -/
def captureRegs : List Nat := [aRtcSec, aRtcMin, aRtcHour, aRtcWday, aRtcDate, aRtcMon, aRtcYear, aRtcCent, aRtcSubsec]

/-- R491: word k of the shadow of a reader; unlisted: the reset value. -/
def rtcShadow (r k : Nat) (s : State) : Word := tblGetD (fun x => regReset (aRtcSec + 4 * (x % 16))) s.rtc.shadow (16 * r + k)

/-! ### Alarms and seconds -/

/-- R497: alarm a matches the time. -/
def alarmMatches (a : Nat) (s : State) : Bool :=
  let t := s.reg (aRtcAlmt a)
  let d := s.reg (aRtcAlmd a)
  bit t 31 && (bit t 24 || decide (fld t 0 7 = s.f aRtcSec 0 7)) && (bit t 25 || decide (fld t 8 7 = s.f aRtcMin 0 7))
    && (bit t 26 || decide (fld t 16 6 = s.f aRtcHour 0 6)) && (bit d 24 || decide (fld d 0 6 = s.f aRtcDate 0 6))
    && (bit d 25 || decide (fld d 8 5 = s.f aRtcMon 0 5)) && (bit d 26 || decide (fld d 16 3 = s.f aRtcWday 0 3))

/-- R498: RTC_ALM_N is driven low. -/
def rtcAlmLow (s : State) : Bool :=
  (s.b aRtcStat 23 && s.b (aRtcAlmt 0) 30) || (s.b aRtcStat 24 && s.b (aRtcAlmt 1) 30)

/-- R487, R489, R497, R413: the step of a second; beyond the reach of the time word R286 starts to apply; at a whole hour the
acting master owes the grove a TIME. -/
def secondStep (s : State) : State :=
  let n := clockSecs s + 1
  let s := if n = 86400 * yearStart 200 then loseTime 3 (setClockSecs 0 s) else setClockSecs n s
  let s := if n = 2 ^ 32 ∧ clockValid s = true then ringEvent 7 s else s
  let s := if alarmMatches 0 s then s.setB aRtcStat 23 true else s
  let s := if alarmMatches 1 s then s.setB aRtcStat 24 true else s
  let s := if s.b aGraftStat 17 ∧ n % 3600 = 0 then { s with gft := { s.gft with timeAt := s.now + 1 } } else s
  { s with rtc := { s.rtc with secs := s.rtc.secs + 1, phase := s.rtc.phase + secLen s } }

/-- R463, R23: at a second boundary firmware sends the latest value of each point channel to the GRR island. -/
def sendPointSamples (s : State) : State :=
  if ready s && domOn .grr s && s.b aGrrCtl 31 then
    forRange 256 (fun c s =>
      if s.b (aGrrChcfg c) 31 && decide (s.f (aGrrChcfg c) 29 2 = 0) then
        match tblGet none s.fw.crownPts (s.f (aGrrChcfg c) 0 8) with
        | some (v, hi) => sendStream 1 6 (s.f (aGrrChcfg c) 0 8) 0 [valueFlit v hi] s
        | none => s
      else s) (crownDrain s)
  else s

/-- R463: each second the thermal monitor sends the temperature of the die of each die channel to the recorder. -/
def sendDieSamples (s : State) : State :=
  if domOn .grr s && s.b aGrrCtl 31 then
    forRange 256 (fun c s =>
      let d := s.f (aGrrChcfg c) 0 8
      if !s.b (aGrrChcfg c) 31 || decide (s.f (aGrrChcfg c) 29 2 ≠ 1) || decide (s.f (aThermDie d) 16 4 = 0) then s
      else sendStream 9 6 d 0 [valueFlit (f32OfRat (mkRat (signed 16 (s.f (aThermDie d) 0 16)) 8)) 0] s) s
  else s

/-- R487, R463: a second boundary. -/
def secondBoundary (s : State) : State := sendDieSamples (sendPointSamples (secondStep s))

/-- R492, R494: a second boundary that falls in this cycle of the 32.768 kHz clock comes first. -/
def boundaryNow (s : State) : State :=
  if clockRuns s ∧ s.rtc.phase + secLen s ≤ s.now ∧ s.now < s.rtc.phase + secLen s + 610 then secondBoundary s else s

/-- RTC_SECOND (R487). -/
def execRtcSecond (s : State) : Host.Outcome State Fault Refusal :=
  .next (if clockRuns s then secondBoundary (s.advTo (s.rtc.phase + secLen s)) else s)

/-- R491, R492: a capture. -/
def rtcCapture (r : Nat) (s : State) : State :=
  let s := boundaryNow s
  forRange 9 (fun k s =>
    let v := if k = 8 then BitVec.ofNat 32 (subsecNow s) else s.reg (aRtcSec + 4 * k)
    { s with rtc := { s.rtc with shadow := tblSetD (fun x => regReset (aRtcSec + 4 * (x % 16))) s.rtc.shadow (16 * r + k) v } }) s

/-- RTC_CAPTURE (R491). -/
def execRtcCapture (reader : Reader) (s : State) : Host.Outcome State Fault Refusal :=
  .next (if s.rtc.held then s else
    rtcCapture (match reader with | .core0 => 0 | .core1 => 1 | .host => 2) s)

/-! ### Setting the time -/

/-- R495: BCD range of time register k, by its index from RTC_SEC. -/
def timeFieldOk (k v : Nat) : Bool :=
  match k with
  | 0 => bcdIn 0 59 v | 1 => bcdIn 0 59 v | 2 => bcdIn 0 23 v | 4 => bcdIn 1 31 v | 5 => bcdIn 1 12 v
  | 6 => bcdIn 0 99 v | 7 => decide (v = 0x20 ∨ v = 0x21) | _ => false

/-- The bits a time register holds. -/
def timeFieldBits (k : Nat) : Nat := match k with | 0 => 7 | 1 => 7 | 2 => 6 | 4 => 6 | 5 => 5 | _ => 8

/-- R493 to R495: a write to time register k. -/
def rtcTimeWrite (k : Nat) (v : Word) (s : State) : State :=
  if s.rtc.held then s
  else if k = 3 ∨ k = 8 then s
  else if !halted s then s.setB aRtcStat 27 true
  else
    let x := fld v 0 (timeFieldBits k)
    if !timeFieldOk k x then s.setB aRtcStat 26 true
    else
      let s := s.setReg (aRtcSec + 4 * k) (BitVec.ofNat 32 x)
      if k = 0 then { s with rtc := { s.rtc with sub := 0, secWritten := true } } else s

/-- RTC_TIME_WRITE (R493, R495). -/
def execRtcTimeWrite (i : Fin 9) (v : Word) (s : State) : Host.Outcome State Fault Refusal := .next (rtcTimeWrite i v s)

/-- R493, R494: HALT is set. -/
def rtcHalt (s : State) : State :=
  if s.rtc.held || halted s then s
  else (fun s => { s with rtc := { s.rtc with secWritten := false } }) ((freeze (boundaryNow s)).setB aRtcCtl 31 true)

/-- RTC_HALT (R493, R494). -/
def execRtcHalt (s : State) : Host.Outcome State Fault Refusal := .next (rtcHalt s)

/-- R495: the date exists. -/
def dateOk (s : State) : Bool := decide (bcdVal (s.f aRtcDate 0 6) ≤ monthDays (clockYear s) (bcdVal (s.f aRtcMon 0 5)))

/-- R495, R607: HALT is cleared: the date is judged. -/
def rtcRun (s : State) : State :=
  if s.rtc.held || !halted s then s
  else if !dateOk s then s.setB aRtcStat 25 true
  else
    let s := s.setF aRtcWday 0 3 (weekday (clockDay s))
    let s := if s.rtc.secWritten then s.setB aRtcStat 31 false else s
    let s := thaw (s.setB aRtcCtl 31 false)
    { s with rtc := { s.rtc with change := true }, grr := { s.grr with changed := true } }

/-- RTC_RUN (R495). -/
def execRtcRun (s : State) : Host.Outcome State Fault Refusal := .next (rtcRun s)

/-- R507: the clock set to a time word by the procedure of "Setting the time". -/
def setClock (t : Nat) (s : State) : State :=
  let d := dateOf (t / 86400)
  let r := t % 86400
  let vs := [bcdOf (r % 60), bcdOf (r / 60 % 60), bcdOf (r / 3600), 0, bcdOf d.2.2, bcdOf d.2.1, bcdOf (d.1 % 100),
    bcdOf (20 + d.1 / 100)]
  rtcRun (forRange 8 (fun k s => rtcTimeWrite k (BitVec.ofNat 32 (nth vs k 0)) s) (rtcHalt s))

/-- A write to RTC_CTL. -/
def rtcCtlWrite (v : Word) (s : State) : State := if bit v 31 then rtcHalt s else rtcRun s

/-! ### Calibration -/

/-- R496: a write to RTC_CAL. -/
def rtcCalWrite (v : Word) (s : State) : State :=
  if s.rtc.held then s
  else if fld v 0 9 = 0x100 then s.setB aRtcStat 26 true
  else s.setReg aRtcCal (BitVec.ofNat 32 (fld v 0 9))

/-- RTC_CAL_WRITE (R496). -/
def execRtcCalWrite (v : Word) (s : State) : Host.Outcome State Fault Refusal := .next (rtcCalWrite v s)

/-- CAL_WINDOW (R496): the 2^20th oscillator cycle since the last window; a change of CAL takes effect. -/
def execCalWindow (s : State) : Host.Outcome State Fault Refusal :=
  .next (if s.rtc.held || s.rtc.oscStop then s else
    let s := s.advTo (s.rtc.winAt + secT 32)
    let x := subsecNow s
    let s := { s with rtc := { s.rtc with cal := s.f aRtcCal 0 9, winAt := s.now - (s.now - s.rtc.winAt) % secT 32 } }
    if clockRuns s then { s with rtc := { s.rtc with phase := s.now - x * secLen s / 32768 } } else s)

/-! ### Power path, oscillator, battery -/

/-- R504: the trickle charger conducts. -/
def judgeCharge (s : State) : State :=
  let w := s.reg aRtcTrkl
  s.setB aRtcStat 20 (bit w 31 && !s.b aRtcStat 22 && decide (s.rtc.vbat < (if bit w 29 then 3300 else 3000)))

/-- R503: a move to VBAT latches the time when the capture is armed. -/
def firstSwitchOver (s : State) : State :=
  if s.b aRtcFsoarm 31 then
    let s := s.setReg aRtcFsot (BitVec.ofNat 32 ((s.f aRtcHour 0 6 * 256 + s.f aRtcMin 0 7) * 256 + s.f aRtcSec 0 7))
    let s := s.setReg aRtcFsod (BitVec.ofNat 32 (((s.f aRtcCent 0 8 * 256 + s.f aRtcYear 0 8) * 256 + s.f aRtcMon 0 5) * 256
      + s.f aRtcDate 0 6))
    ((s.setB aRtcFsoarm 30 true).setB aRtcFsoarm 29 (s.b aRtcStat 31)).setB aRtcFsoarm 31 false
  else s

/-- POWER_PATH_SWITCH (R499): VIN is measured. -/
def execPowerPathSwitch (vinMv : Nat) (s : State) : Host.Outcome State Fault Refusal :=
  .next (
    if s.rtc.held then s
    else if !s.b aRtcStat 22 && decide (vinMv < 2300) then
      judgeCharge (firstSwitchOver ((s.setB aRtcStat 22 true).bump aRtcSwcnt 0 16))
    else if s.b aRtcStat 22 && decide (2450 < vinMv) then judgeCharge (s.setB aRtcStat 22 false)
    else s)

/-- R503: a write to RTC_FSOARM. -/
def fsoarmWrite (v : Word) (s : State) : State := if s.rtc.held then s else plainWrite aRtcFsoarm v s

/-- FSOARM_WRITE (R503). -/
def execFsoarmWrite (v : Word) (s : State) : Host.Outcome State Fault Refusal := .next (fsoarmWrite v s)

/-- BROWNOUT (R500): VBKC falls below 1.60 V. -/
def execBrownout (s : State) : Host.Outcome State Fault Refusal := .next (if s.rtc.held then s else loseTime 1 s)

/-- BKPRESET (R500, R5): VBKC falls below 1.50 V: the domain resets and stays in reset. -/
def execBkpreset (s : State) : Host.Outcome State Fault Refusal :=
  .next (if s.rtc.held then s else
    let s := resetDomRegs .bkp s
    let r := { s.rtc with held := true, sub := 0, secWritten := false, cal := 0, oscStop := false, vbat := 0 }
    { s with rtc := r, heart := { s.heart with bramLost := true, fails := [], lockEnd := [] } })

/-- BKP_RESET_RELEASE (R496, R500): BKP leaves reset and the clock starts to count. -/
def execBkpResetRelease (s : State) : Host.Outcome State Fault Refusal :=
  .next (if s.rtc.held then { s with rtc := { s.rtc with held := false, winAt := s.now, phase := s.now } } else s)

/-- OSCSTOP (R501): no edge for 1 ms. -/
def execOscstop (s : State) : Host.Outcome State Fault Refusal :=
  .next (if s.rtc.held || s.rtc.oscStop then s else
    let s := loseTime 2 (freeze s)
    { s with rtc := { s.rtc with oscStop := true, winCnt := (s.now - s.rtc.winAt) % secT 32 } })

/-- OSCILLATOR_RESTART (R501): the oscillator runs again. -/
def execOscillatorRestart (s : State) : Host.Outcome State Fault Refusal :=
  .next (if s.rtc.held || !s.rtc.oscStop then s else
    let s := { s with rtc := { s.rtc with oscStop := false, winAt := s.now - s.rtc.winCnt } }
    if halted s then s else thaw s)

/-- VBLOW_SAMPLE (R502): VBAT sampled once a second. -/
def execVblowSample (vbatMv : Nat) (s : State) : Host.Outcome State Fault Refusal :=
  .next (if s.rtc.held then s else
    judgeCharge (({ s with rtc := { s.rtc with vbat := vbatMv } }).setB aRtcStat 21 (decide (vbatMv < 2000))))

/-- R504: a write to RTC_TRKL. -/
def trickleWrite (sec : Bool) (v : Word) (s : State) : State :=
  if s.rtc.held || !sec then s
  else if bit v 31 && !s.b aRtcTrkl 31 && decide (fld v 8 8 ≠ 0x5A) then s.setB aRtcStat 26 true
  else judgeCharge (plainWrite aRtcTrkl v s)

/-- TRICKLE_WRITE (R504). -/
def execTrickleWrite (sec : Bool) (v : Word) (s : State) : Host.Outcome State Fault Refusal := .next (trickleWrite sec v s)

/-! ### Commands (R507) -/

/-- The RTC block object. -/
def rtcRef : Word := mkRef 0x1F 0x0E0

/-- R413, R506: firmware writes a grove TIME to the clock: at once, or when the RTC block is released and firmware
serves again. -/
def applyTime (w : Word) (s : State) : State :=
  if claimed rtcRef s || !ready s then { s with rtc := { s.rtc with waitTime := some w } }
  else setClock w.toNat { s with rtc := { s.rtc with waitTime := none } }
/-- R506: a grove TIME that waits is applied. -/
def applyWaitingTime (s : State) : State := match s.rtc.waitTime with | some w => applyTime w s | none => s


/-- R92: the CONFLICT answer where the RTC block is not owned by the base configuration or the mode overlay. -/
def rtcOwned (s : State) (run : Reply × State) : Reply × State := if ownerBase rtcRef s then run else (conflictOn rtcRef s, s)

/-- CLOCK_GET (R507). -/
def execClockGet (id : Nat) (s : State) : Host.Outcome State Fault Refusal :=
  .next (runCmd id 0x0D01 (fun _ s =>
    let s := rtcCapture 0 s
    (.done stOk [match timeNow s with | some t => BitVec.ofNat 32 t | none => 0xFFFFFFFF, s.reg aRtcStat, rtcShadow 0 8 s,
      s.reg aRtcSwcnt], s)) s)

/-- CLOCK_SET (R507, R506): CONFLICT while the RTC block is claimed. -/
def execClockSet (id : Nat) (s : State) : Host.Outcome State Fault Refusal :=
  .next (runCmd id 0x0D02 (fun c s => rtcOwned s (.st stOk, setClock (mw c.words 1).toNat s)) s)

/-- R507: the words of an alarm hold BCD fields in range. -/
def alarmOk (t d : Word) : Bool :=
  bcdIn 0 23 (fld t 16 6) && bcdIn 0 59 (fld t 8 7) && bcdIn 0 59 (fld t 0 7) && decide (1 ≤ fld d 16 3) && bcdIn 1 12 (fld d 8 5)
    && bcdIn 1 31 (fld d 0 6)

/-- CLOCK_ALARM (R507). -/
def execClockAlarm (id : Nat) (s : State) : Host.Outcome State Fault Refusal :=
  .next (runCmd id 0x0D03 (fun c s =>
    let a := fld (mw c.words 1) 0 1
    checked [(!onlyBits (mw c.words 1) 0x101, stBadArg)] s (rtcOwned s (
      checked [(!alarmOk (mw c.words 2) (mw c.words 3), stRange)] s (
        let s := plainWrite (aRtcAlmd a) (mw c.words 3) (plainWrite (aRtcAlmt a) (mw c.words 2) s)
        (.st stOk, if bit (mw c.words 1) 8 then s.setB aRtcStat (23 + a) false else s))))) s)

/-- CLOCK_CALIBRATE (R507). -/
def execClockCalibrate (id : Nat) (s : State) : Host.Outcome State Fault Refusal :=
  .next (runCmd id 0x0D04 (fun c s =>
    let v := (mw c.words 1).toInt
    rtcOwned s (checked [(decide (v < -255 ∨ 255 < v), stRange)] s
      (.done stOk [BitVec.ofInt 32 (signed 9 (s.f aRtcCal 0 9))], rtcCalWrite (BitVec.ofInt 32 v) s))) s)

end Sys2Proof.Machine
end

