-- ==== Sys2Proof/Machine/Recorder.lean ====
section
/-! DEFINITION. Sys2Proof/Machine/Recorder.lean: the growth-ring recorder (R463 to R486), its rows and the REC
commands. -/

namespace Sys2Proof.Machine

open Sys2Proof

/-! ### Memory (R468 to R471) -/

/-- The GRR block object. -/
def grrRef : Word := mkRef 0x1F 0x0D0
/-- R468: word address of the block of channel c. -/
def chanBase (c : Nat) : Nat := c / 64 * 12288 + c % 64 * 144
/-- R468: word address of the presence block of zone z. -/
def presBase (z : Nat) : Nat := z / 12 * 12288 + 9216 + z % 12 * 170
/-- R468: the health record. -/
def healthBase : Nat := 11256
/-- R468: the clear history. -/
def histBase : Nat := 11288

/-- R467, R469, R470: what a formatted block holds at a word not written since: the extremes at infinity, else 0. -/
def recDflt (a : Nat) : Word :=
  if a % 12288 < 9216 then
    let o := a % 12288 % 144
    if o < 8 then 0
    else if o < 128 then (if (o - 8) % 40 = 32 then 0x7F800000 else if (o - 8) % 40 = 34 then 0xFF800000 else 0)
    else (if o % 8 = 0 then 0x7F800000 else if o % 8 = 2 then 0xFF800000 else 0)
  else 0

/-- R479: group g is stopped. -/
def groupStopped (g : Nat) (s : State) : Bool := s.b aGrrStat (24 + g)
/-- A word of the recorder memory; a stopped group and words beyond the memory read 0. -/
def recWord (a : Nat) (s : State) : Word :=
  if 49152 ≤ a then 0 else if groupStopped (a / 12288) s then 0 else tblGetD recDflt s.grr.mem a
/-- Set a word of a recording group. -/
def setRec (a : Nat) (v : Word) (s : State) : State :=
  if groupStopped (a / 12288) s then s else { s with grr := { s.grr with mem := tblSetD recDflt s.grr.mem a v } }
/-- Drop the words of a range, so that they read as formatted. -/
def clearRec (a n : Nat) (s : State) : State :=
  { s with grr := { s.grr with mem := tblDrop (fun k => decide (a ≤ k ∧ k < a + n)) s.grr.mem } }
/-- R471: an update of the block at `base`: its SEQ becomes G + 2, and G moves on by 2. -/
def recUpdate (base : Nat) (f : State → State) (s : State) : State :=
  if groupStopped (base / 12288) s then s
  else
    let g := s.reg aGrrGseq + 2
    setRec base g (f (s.setReg aGrrGseq g))

/-- R476: health word k counts up by n; word 14 takes the time. -/
def healthCount (k n : Nat) (s : State) : State :=
  if n = 0 || !domOn .grr s then s
  else recUpdate healthBase (fun s =>
    let s := setRec (healthBase + 1) (setFld (recWord (healthBase + 1) s) 0 8 0xA5) s
    let s := setRec (healthBase + k) (BitVec.ofNat 32 (satAdd 32 (recWord (healthBase + k) s).toNat n)) s
    setRec (healthBase + 14) (timeWord0 s) s) s

/-! ### Formatting and closing (R466, R467) -/

/-- SRC, EDGESET and INDEX of a GRR_CHCFG word. -/
def cfgPart (w : Word) : Word := w &&& 0x7F0000FF
/-- R467: CRC-32C of an edge set, E1 to E31 in order, most significant byte first. -/
def edgeCrc (e : Nat) (s : State) : Word := crc32c (bytesOfWords ((List.range 31).map (fun k => s.reg (aGrrEdge e k))))

/-- R467: format the block of channel c. -/
def formatChan (c : Nat) (lost : Bool) (s : State) : State :=
  let b := chanBase c
  recUpdate b (fun s =>
    let s := clearRec b 144 s
    let t := timeWord0 s
    let s := setRec (b + 4) t (setRec (b + 3) t (setRec (b + 2) t s))
    let s := setRec (b + 5) (cfgPart (s.reg (aGrrChcfg c))) s
    let s := setRec (b + 6) (edgeCrc (s.f (aGrrChcfg c) 24 5) s) s
    setRec (b + 1) (BitVec.ofNat 32 (lost.toNat * 2 ^ 31 + 0xA5)) s) s

/-- Format the presence block of zone z: its bins 0. -/
def formatPres (z : Nat) (lost : Bool) (s : State) : State :=
  recUpdate (presBase z) (fun s =>
    setRec (presBase z + 1) (BitVec.ofNat 32 (lost.toNat * 2 ^ 31 + 0xA5)) (clearRec (presBase z) 170 s)) s

/-- Format the health record. -/
def formatHealth (lost : Bool) (s : State) : State :=
  recUpdate healthBase (fun s =>
    setRec (healthBase + 1) (BitVec.ofNat 32 (lost.toNat * 2 ^ 31 + 0xA5)) (clearRec healthBase 32 s)) s

/-- A block whose MARK is 0xA5. -/
def marked (base : Nat) (s : State) : Bool := decide (fld (recWord (base + 1) s) 0 8 = 0xA5)

/-- R467: what a second boundary formats. -/
def formatDue (s : State) : State :=
  let s := forRange 256 (fun c s =>
    let b := chanBase c
    if groupStopped (c / 64) s then s
    else if !marked b s then formatChan c false s
    else if recWord (b + 5) s ≠ cfgPart (s.reg (aGrrChcfg c)) || recWord (b + 6) s ≠ edgeCrc (s.f (aGrrChcfg c) 24 5) s then
      healthCount 8 1 (formatChan c false s)
    else s) s
  let s := forRange 48 (fun z s => if groupStopped (z / 12) s || marked (presBase z) s then s else formatPres z false s) s
  if groupStopped 0 s || marked healthBase s then s else formatHealth false s

/-- R466: layer `l` (0 hour, 1 day) of the block at `b` closes and starts again at word `t`. -/
def closeLayer (b l : Nat) (t : Word) (s : State) : State :=
  let src := b + 8 + 40 * l + 32
  let vals := (List.range 8).map (fun k => recWord (src + k) s)
  let s := forRange 8 (fun k s => setRec (b + 128 + 8 * l + k) (nth vals k 0) s) s
  setRec (b + 2 + l) t (clearRec (b + 8 + 40 * l) 40 s)

/-- R466: close every hour and day layer whose period does not contain the time `t`. -/
def closeLayers (t : Nat) (s : State) : State :=
  forRange 256 (fun c s =>
    let b := chanBase c
    if groupStopped (c / 64) s || !marked b s then s
    else
      let hr := decide ((recWord (b + 2) s).toNat / 3600 ≠ t / 3600)
      let dy := decide ((recWord (b + 3) s).toNat / 86400 ≠ t / 86400)
      let s := if hr then recUpdate b (closeLayer b 0 (BitVec.ofNat 32 (t / 3600 * 3600))) s else s
      if dy then recUpdate b (closeLayer b 1 (BitVec.ofNat 32 (t / 86400 * 86400))) s else s) s

/-- R466: the layers follow the time of a boundary or of a change; none while the time is invalid. -/
def closeTo (t : Option Word) (s : State) : State :=
  match t with
  | some t => if s.grr.lastWord = some t then s else
      (fun s => { s with grr := { s.grr with lastWord := some t } }) (closeLayers t.toNat s)
  | none => s

/-! ### Presence (R475) -/

/-- R475: bin b of zone z. -/
def presBin (z b : Nat) (s : State) : Nat := fld (recWord (presBase z + 2 + b / 4) s) (8 * (3 - b % 4)) 8

/-- R475: the effect of a write to GRR_PRESWR. -/
def preswrWrite (v : Word) (s : State) : State :=
  let z := fld v 16 6
  let b := fld v 0 10
  if 48 ≤ z ∨ 672 ≤ b then s
  else recUpdate (presBase z) (fun s =>
    let a := presBase z + 2 + b / 4
    setRec a (setFld (recWord a s) (8 * (3 - b % 4)) 8 (fld v 24 8)) (setRec (presBase z + 1) (setFld (recWord (presBase z + 1) s) 0 8 0xA5) s)) s

/-- R475, R473: a write to GRR_PRESWR, deferred while a save reads the section. -/
def preswr (v : Word) (s : State) : State :=
  if s.grr.defer.isSome then { s with grr := { s.grr with presWait := s.grr.presWait ++ [v] } } else preswrWrite v s

/-- GRR_PRESWR_WRITE (R475). -/
def execGrrPreswrWrite (v : Word) (s : State) : Host.Outcome State Fault Refusal :=
  .next (if domOn .grr s then preswr v s else s)

/-! ### Samples (R463 to R465) -/

/-- R464: the bin of a value: how many edges it reaches. -/
def binOf (e : Nat) (v : F32) (s : State) : Nat :=
  ((List.range 31).filter (fun k => f32Le (s.reg (aGrrEdge e k)) v)).length

/-- R7: a word of a layer counts up by one. -/
def incRec (a : Nat) (s : State) : State := setRec a (BitVec.ofNat 32 (satAdd 32 (recWord a s).toNat 1)) s

/-- R465: a sample goes into a layer whose words start at `a`. -/
def sampleLayer (a bin : Nat) (valid : Bool) (v : F32) (t : Word) (s : State) : State :=
  if !valid then incRec (a + 37) s
  else
    let s := incRec (a + 36) (incRec (a + bin) s)
    let sum : F64 := (recWord (a + 39) s) ++ (recWord (a + 38) s)
    let sum := f64Add sum (f64OfF32 v)
    let s := setRec (a + 39) (sum.extractLsb' 32 32) (setRec (a + 38) (sum.extractLsb' 0 32) s)
    let s := if f32Lt v (recWord (a + 32) s) then setRec (a + 33) t (setRec (a + 32) v s) else s
    if f32Lt (recWord (a + 34) s) v then setRec (a + 35) t (setRec (a + 34) v s) else s

/-- R465, R466: a sample goes into every layer of its channel in use. -/
def applySample (x : RecSample) (s : State) : State :=
  let b := chanBase x.chan
  let valid := f32Fin x.val && decide (BitVec.ofNat 32 x.flags &&& 0xC5#32 = 0)
  let bin := binOf (s.f (aGrrChcfg x.chan) 24 5) x.val s
  recUpdate b (fun s =>
    match x.time with
    | some t => sampleLayer (b + 88) bin valid x.val t (sampleLayer (b + 48) bin valid x.val t (sampleLayer (b + 8) bin valid x.val t s))
    | none => sampleLayer (b + 88) bin valid x.val 0 s) s

/-- The recorder works: domain on, banks mapped, EN. -/
def recOn (s : State) : Bool := domOn .grr s && s.grr.up && s.b aGrrCtl 31

/-- R466, R473: the waiting samples of boundaries before `n`, in order. -/
def applyWaiting (n : Nat) (s : State) : State :=
  let l := s.grr.samples
  let s := { s with grr := { s.grr with samples := l.filter (fun x => decide (n ≤ x.sec)) } }
  forEach (l.filter (fun x => decide (x.sec < n))) (fun x s => applySample x (closeTo x.time s)) s

/-- The present time word, none while the time is invalid. -/
def recTime (s : State) : Option Word := (timeNow s).map (BitVec.ofNat 32)

/-- R466, R467: the recorder's work at the present second boundary. -/
def recorderSecond (s : State) : State :=
  let n := s.rtc.secs
  let s := applyWaiting n s
  let s := closeTo (recTime s) { s with grr := { s.grr with changed := false } }
  let s := applyWaiting (n + 1) (formatDue s)
  { s with grr := { s.grr with doneSec := n } }

/-- RECORDER_SECOND (R466): once at each boundary; deferred while a save reads the section (R473). -/
def execRecorderSecond (s : State) : Host.Outcome State Fault Refusal :=
  .next (if recOn s && s.grr.defer.isNone && decide (s.grr.doneSec < s.rtc.secs) then recorderSecond s else s)

/-- R466, R607: a change of the clock closes the layers whose period does not contain the new time. -/
def recorderChange (s : State) : State :=
  if recOn s && s.grr.defer.isNone && s.grr.changed then closeTo (recTime s) { s with grr := { s.grr with changed := false } } else s

/-- R463: the packet is a sample of channel c. -/
def sampleFor (c : Nat) (s : State) (p : Packet) : Bool :=
  decide (hfld p.hdr 60 4 = 6) && decide (hfld p.hdr 32 10 = s.f (aGrrChcfg c) 0 8)
    && decide (hfld p.hdr 56 4 = if s.f (aGrrChcfg c) 29 2 = 0 then 1 else 9)

/-- R27: samples for which no channel stands any more are accepted and dropped. -/
def dropStray (s : State) : State :=
  let stray := fun (p : Packet) => decide (hfld p.hdr 60 4 = 6) && !(List.range 256).any (fun c => sampleFor c s p)
  forEach (s.fab.flight.filter stray) (fun p s => sinkTag p.hdr s) { s with fab := { s.fab with flight := s.fab.flight.filter (fun p => !stray p) } }

/-- RECORDER_SAMPLE (R463, R473): a sample that comes within 500 ms of its boundary waits for it, or goes into the
layers at once when the boundary has been dealt with; one a boundary; at most two a channel while updates are
deferred. -/
def execRecorderSample (c : Fin 256) (s : State) : Host.Outcome State Fault Refusal :=
  .next (match takePacket (sampleFor c s) (dropStray s) with
    | none => s
    | some (p, s) =>
      if !recOn s || !s.b (aGrrChcfg c) 31 || groupStopped (c / 64) s || decide (s.rtc.phase + msT 500 < s.now) || decide (p.sentAt < s.rtc.phase)
          || decide (tblGet 0 s.grr.took c = s.rtc.secs + 1) then s
      else
        let s := { s with grr := { s.grr with took := tblSet 0 s.grr.took c (s.rtc.secs + 1) } }
        let low := flitLow (p.payload.headD 0)
        let x : RecSample := ⟨c, s.rtc.secs, recTime s, flitVal (p.payload.headD 0), fld low 0 8⟩
        let mine := (s.grr.samples.filter (fun y => y.chan = x.chan)).length
        if s.grr.defer.isNone && decide (s.grr.doneSec = s.rtc.secs) then applySample x s
        else if s.grr.defer.isSome && decide (2 ≤ mine) then s
        else { s with grr := { s.grr with samples := s.grr.samples ++ [x] } })

/-- R473: the deferral ends: what was deferred is applied in order. -/
def endDeferral (s : State) : State :=
  let l := s.grr.presWait
  let s := forEach l preswrWrite { s with grr := { s.grr with defer := none, presWait := [] } }
  if recOn s then applyWaiting (s.rtc.secs + 1) s else s

/-- SAVE_DEFERRAL_TIMEOUT (R473). -/
def execSaveDeferralTimeout (s : State) : Host.Outcome State Fault Refusal :=
  .next (match s.grr.defer with
    | none => s
    | some t => healthCount 11 1 (endDeferral (s.advTo (t + secT 2))))

/-! ### Readers (R472) -/

/-- R472: a write to a reader's GRR_CURSOR loads its window. -/
def cursorWrite (r : Nat) (v : Word) (s : State) : State :=
  let a := fld v 0 16
  let ws := (List.range 16).map (fun k => recWord (a + k) s)
  let win := (List.range 16).foldl (fun t k => tblSet 0 t (16 * r + k) (nth ws k 0)) s.grr.win
  { s with grr := { s.grr with cursor := tblSet 0 s.grr.cursor r (BitVec.ofNat 32 a), win := win } }

/-- GRR_CURSOR_WRITE (R472). -/
def execGrrCursorWrite (reader : Reader) (v : Word) (s : State) : Host.Outcome State Fault Refusal :=
  .next (if domOn .grr s then cursorWrite (readerNo reader) v s else s)

/-! ### Configuration writes (R485) -/

/-- R485: an edge set is finite and strictly ascending. -/
def edgesOk (e : Nat) (s : State) : Bool :=
  (List.range 31).all (fun k => f32Fin (s.reg (aGrrEdge e k)) && (decide (k = 30) || f32Lt (s.reg (aGrrEdge e k)) (s.reg (aGrrEdge e (k + 1)))))

/-- R485: a channel word that may not be set. -/
def chcfgBad (v : Word) (s : State) : Bool :=
  decide (2 ≤ fld v 29 2) || (decide (fld v 29 2 = 1) && decide (2 < fld v 0 8)) || (bit v 31 && !edgesOk (fld v 24 5) s)

/-- R485: a write to GRR_CHCFGc. -/
def chcfgWrite (c : Nat) (v : Word) (s : State) : State :=
  if chcfgBad v s then s.setB aGrrStat 30 true else plainWrite (aGrrChcfg c) v s

/-- R485: an enabled channel names the edge set. -/
def edgeNamed (e : Nat) (s : State) : Bool := (List.range 256).any (fun c => s.b (aGrrChcfg c) 31 && decide (s.f (aGrrChcfg c) 24 5 = e))

/-- R485: a write to an edge. -/
def edgeWrite (a e : Nat) (v : Word) (s : State) : State :=
  if edgeNamed e s then s.setB aGrrStat 30 true else s.setReg a v

/-! ### Bank failure (R477 to R480) -/

/-- R480: HOURS of a scar entry. -/
def scarHours (s : State) : Nat := if clockValid s then clockSecs s / 3600 % 2 ^ 23 else 0x7FFFFF

/-- R480: a scar entry is written in the first unused place. -/
def addScar (kind pbank grp : Nat) (s : State) : State :=
  match (List.range 16).find? (fun k => s.f (aRtcScar k) 28 4 = 0) with
  | some k => s.setReg (aRtcScar k) (BitVec.ofNat 32 (((kind * 8 + pbank) * 4 + grp) * 2 ^ 23 + scarHours s))
  | none => s

/-- R481: the scar register names the bank. -/
def scarBank (b : Nat) (s : State) : Bool := (List.range 16).any (fun k => decide (s.f (aRtcScar k) 28 4 ≠ 0) && decide (s.f (aRtcScar k) 25 3 = b))
/-- R481: the scar register names the group as stopped. -/
def scarGroup (g : Nat) (s : State) : Bool := (List.range 16).any (fun k => decide (s.f (aRtcScar k) 28 4 = 2) && decide (s.f (aRtcScar k) 23 2 = g))

/-- The physical bank of group g, 7 when stopped. -/
def bankOf (g : Nat) (s : State) : Nat := s.f aGrrBanks (3 * g) 3

/-- R478 step 4: format with LOST the blocks of group g that the words hit; the number of blocks. -/
def loseWords (g : Nat) (words : List Nat) (s : State) : State :=
  let ws := words.map (· % 12288)
  let chans := (List.range 64).filter (fun c => ws.any (fun w => decide (w < 9216) && decide (w / 144 = c)))
  let zs := (List.range 12).filter (fun z => ws.any (fun w => decide (9216 ≤ w ∧ w < 11256) && decide ((w - 9216) / 170 = z)))
  let s := forEach chans (fun c s => formatChan (64 * g + c) true s) s
  let s := forEach zs (fun z s => formatPres (12 * g + z) true s) s
  let hl := decide (g = 0) && ws.any (fun w => decide (healthBase ≤ w ∧ w < histBase))
  let hs := decide (g = 0) && ws.any (fun w => decide (histBase ≤ w ∧ w < 11352))
  let s := if hl then formatHealth true s else s
  let s := if hs then clearRec histBase 64 s else s
  healthCount 7 (chans.length + zs.length + hl.toNat + hs.toNat) s

/-- R479: group g stops. -/
def stopGroup (g : Nat) (s : State) : State :=
  let s := clearRec (12288 * g) 12288 s
  let s := (s.setB aGrrStat (24 + g) true).setF aGrrBanks (3 * g) 3 7
  if scarGroup g s then s else addScar 2 7 g s

/-- R478, R479: uncorrectable words in the bank of group g. -/
def bankFails (g bank : Nat) (words : List Nat) (s : State) : State :=
  let s := s.setB aGrrStat 31 true
  if s.b aGrrBanks 31 then
    let s := addScar 1 bank g s
    let s := loseWords g words s
    let s := ((s.setF aGrrBanks (3 * g) 3 (s.f aGrrBanks 28 3)).setB aGrrBanks 31 false).setB aGrrStat 29 true
    healthCount 6 words.length (healthCount 2 1 s)
  else
    let h := (List.range 4).foldl (fun a k => if groupStopped k s then a else k) g
    if h = g then healthCount 6 words.length (healthCount 3 1 (stopGroup g s))
    else
      let hb := bankOf h s
      let s := stopGroup h s
      let s := (loseWords g words s).setF aGrrBanks (3 * g) 3 hb
      healthCount 6 words.length (healthCount 3 1 s)

/-- BANK_FAILURE (R478, R479): a read finds uncorrectable words, at these offsets, in a physical bank. -/
def execBankFailure (bank : Fin 5) (words : List Nat) (s : State) : Host.Outcome State Fault Refusal :=
  .next (if !domOn .grr s || !s.grr.up || words.isEmpty then s
    else
      let s := s.setReg aGrrEcc (setFld (s.reg aGrrEcc) 0 16 (satAdd 16 (s.f aGrrEcc 0 16) words.length))
      match (List.range 4).find? (fun g => bankOf g s = bank) with
      | some g => bankFails g bank words s
      | none =>
        if s.b aGrrBanks 31 && decide (s.f aGrrBanks 28 3 = bank) then
          let s := addScar 3 bank 0 (s.setB aGrrStat 31 true)
          let s := (s.setB aGrrBanks 31 false).setB aGrrStat 28 true
          healthCount 6 words.length (healthCount 4 1 s)
        else s)

/-- RECORDER_SCRUB (R477): every 60 s; `corrected` words are rewritten. -/
def execRecorderScrub (corrected : Nat) (s : State) : Host.Outcome State Fault Refusal :=
  .next (if !domOn .grr s || !s.grr.up then s
    else
      let s := s.advTo (s.grr.scrubAt + secT 60)
      let s := { s with grr := { s.grr with scrubAt := s.now } }
      let s := s.setF aGrrEcc 16 16 (satAdd 16 (s.f aGrrEcc 16 16) corrected)
      healthCount 5 corrected s)

/-- R481: the banks that remain after the test, and the groups that take them. -/
def mapBanks (failed : BitVec 5) (s : State) : State :=
  let s := forRange 5 (fun b s => if failed.getLsbD b && !scarBank b s then addScar 4 b 0 s else s) s
  let good := (List.range 5).filter (fun b => !failed.getLsbD b && !scarBank b s)
  let s := forRange 4 (fun g s =>
    match good[g]? with
    | some b => s.setF aGrrBanks (3 * g) 3 b
    | none => s.setF aGrrBanks (3 * g) 3 7) s
  let s := forEach [3, 2, 1, 0] (fun g s => if good.length ≤ g then stopGroup g s else s) s
  match good[4]? with
  | some b => (s.setF aGrrBanks 28 3 b).setB aGrrBanks 31 true
  | none => s.setB aGrrBanks 31 false

/-! ### Clearing (R482, R483) -/

/-- R483: the effect of a scope. -/
def clearScope (scope inst : Nat) (s : State) : State :=
  let b := chanBase inst
  let t := timeWord0 s
  match scope with
  | 0 => recUpdate b (fun s => setRec (b + 2) t (clearRec (b + 8) 40 s)) s
  | 1 => recUpdate b (fun s => setRec (b + 3) t (clearRec (b + 48) 40 s)) s
  | 2 => recUpdate b (fun s => setRec (b + 4) t (clearRec (b + 88) 40 s)) s
  | 3 => formatChan inst false s
  | 4 => forRange 256 (fun c s => formatChan c false s) s
  | 5 => recUpdate (presBase inst) (fun s => clearRec (presBase inst + 2) 168 s) s
  | 6 => forRange 48 (fun z s => recUpdate (presBase z) (fun s => clearRec (presBase z + 2) 168 s) s) s
  | _ => recUpdate healthBase (fun s => clearRec (healthBase + 2) 13 s) s

/-- R483: the entry of the clear history. -/
def clearEntry (scope : Nat) (obj : Word) (seq : Nat) (s : State) : State :=
  let a := histBase + 4 * (s.grr.clears % 16)
  let inst := if scope < 4 ∨ scope = 5 then refInst obj else 0xFFFF
  let s := setRec a (timeWord0 s) s
  let s := setRec (a + 1) (BitVec.ofNat 32 (scope * 2 ^ 24 + inst)) s
  let s := setRec (a + 2) (halves (s.f aHpEpoch 16 16) seq) s
  let s := setRec (a + 3) 0xA5 s
  { s with grr := { s.grr with clears := s.grr.clears + 1 } }

/-- R482, R483: the checks of REC.CLEAR on scope and object. -/
def clearChecks (scope : Nat) (obj : Word) (s : State) : List (Bool × Nat) :=
  (if scope < 4 then refFails 0x0D obj else if scope = 5 then refFails 0x03 obj else [(decide (obj ≠ 0), stBadArg)])
    ++ [(!domOn .grr s || !s.grr.up || groupStopped 0 s, stNoResource),
        (decide (scope < 4) && groupStopped (refInst obj / 64) s, stNoResource),
        (decide (scope = 5) && groupStopped (refInst obj / 12) s, stNoResource)]

/-- REC_CLEAR_TOKEN (R482): OP 0. -/
def execRecClearToken (id : Nat) (s : State) : Host.Outcome State Fault Refusal :=
  .next (match cmdById id s with
    | some c => if fld (mw c.words 1) 24 8 = 0 then
        runCmd id 0x0C03 (fun c s =>
          let scope := fld (mw c.words 1) 16 8
          checked ([(!onlyBits (mw c.words 1) 0xFFFF0000, stBadArg), (decide (7 < scope), stBadArg), (decide (mw c.words 3 ≠ 0), stBadArg)]
              ++ clearChecks scope (mw c.words 2) s) s (
            let d := s.draw
            let tok : ClearTok := ⟨d.1, s.now + secT 60, scope, mw c.words 2, d.2.reg aHpEpoch >>> 16⟩
            let s := d.2
            (.done stOk [tok.value], { s with fw := { s.fw with clearToken := some tok } }))) s
      else s
    | none => s)

/-- R482: the token named is valid now, for this scope and object. -/
def tokenOk (scope : Nat) (obj tok : Word) (s : State) : Bool :=
  match s.fw.clearToken with
  | some t => decide (t.value = tok) && decide (t.scope = scope) && decide (t.obj = obj) && decide (s.now < t.until_)
      && decide (t.epoch = s.reg aHpEpoch >>> 16)
  | none => false

/-- REC_CLEAR (R482, R483): OP 1; any other OP is BAD_ARG. -/
def execRecClear (id : Nat) (s : State) : Host.Outcome State Fault Refusal :=
  .next (match cmdById id s with
    | some c => if fld (mw c.words 1) 24 8 ≠ 0 then
        runCmd id 0x0C03 (fun c s =>
          let scope := fld (mw c.words 1) 16 8
          let obj := mw c.words 2
          checked ([(!onlyBits (mw c.words 1) 0xFFFF0000, stBadArg), (decide (fld (mw c.words 1) 24 8 ≠ 1), stBadArg),
              (decide (7 < scope), stBadArg)] ++ clearChecks scope obj s) s (
            let ok := tokenOk scope obj (mw c.words 3) s
            let s := { s with fw := { s.fw with clearToken := none } }
            if ok then (.st stOk, healthCount 13 1 (clearEntry scope obj c.seq (clearScope scope (refInst obj) s)))
            else (.st stAuthFail, s))) s
      else s
    | none => s)

/-- CLEAR_TOKEN_EXPIRY (R482). -/
def execClearTokenExpiry (s : State) : Host.Outcome State Fault Refusal :=
  .next (match s.fw.clearToken with
    | some t => (fun s => { s with fw := { s.fw with clearToken := none } }) (s.advTo t.until_)
    | none => s)

/-! ### REC commands (R484) -/

/-- R484: word i of a part of the block of channel c. -/
def recPartWord (c part i : Nat) (s : State) : Word :=
  let b := chanBase c
  if part < 3 then recWord (b + 8 + 40 * part + i) s
  else if i < 16 then recWord (b + 128 + i) s else recWord (b + i - 16) s

/-- REC_READ (R484). -/
def execRecRead (id : Nat) (s : State) : Host.Outcome State Fault Refusal :=
  .next (runCmd id 0x0C01 (fun c s =>
    let m := mw c.words 2
    let n := refInst (mw c.words 1)
    let k := fld m 8 4 + 1
    let first := fld m 0 6
    let part := fld m 16 2
    checked ([(!onlyBits m 0x30F3F, stBadArg), (decide (12 < k), stBadArg)] ++ refFails 0x0D (mw c.words 1)
        ++ [(!domOn .grr s || !s.grr.up || groupStopped (n / 64) s, stNoResource),
            (decide ((if part = 3 then 24 else 40) < first + k), stRange)]) s
      (.done stOk (recWord (chanBase n) s :: (List.range k).map (fun i => recPartWord n part (first + i) s)), s)) s)

/-- REC_CONFIG (R484, R485, R472): CONFLICT while the GRR block is claimed, for firmware then writes no GRR register. -/
def execRecConfig (id : Nat) (s : State) : Host.Outcome State Fault Refusal :=
  .next (runCmd id 0x0C02 (fun c s =>
    let r := mw c.words 1
    let v := mw c.words 2
    checked (refFails 0x0D r ++ [(!domOn .grr s, stNoResource)]) s (
      if !ownerBase r s then (conflictOn r s, s)
      else if claimed grrRef s then (conflictOn grrRef s, s)
      else checked [(chcfgBad v s, stRange)] s (.st stOk, chcfgWrite (refInst r) v s))) s)

/-- REC_HEALTH (R484). -/
def execRecHealth (id : Nat) (s : State) : Host.Outcome State Fault Refusal :=
  .next (runCmd id 0x0C04 (fun c s =>
    let p := fld (mw c.words 1) 0 3
    checked [(!onlyBits (mw c.words 1) 7, stBadArg), (decide (p = 7), stBadArg),
        (!domOn .grr s && decide (p ≠ 1) && decide (p ≠ 2), stNoResource)] s
      (.done stOk (
        if p = 0 then [s.reg aGrrStat, s.reg aGrrBanks] ++ (List.range 12).map (fun k => recWord (healthBase + 2 + k) s)
        else if p < 3 then (List.range 8).map (fun k => s.reg (aRtcScar (8 * (p - 1) + k)))
        else (List.range 4).flatMap (fun e => (List.range 3).map (fun w => recWord (histBase + 4 * (4 * (p - 3) + e) + w) s))), s)) s)

end Sys2Proof.Machine
end

