-- ==== Sys2Proof/Machine/Tuning.lean ====
section
/-! DEFINITION. Sys2Proof/Machine/Tuning.lean: the relay tuners' registers and ends (R248 to R254, R274) and the zone
models' lanes (R258 to R265, R275). -/

namespace Sys2Proof.Machine

open Sys2Proof

/-! ### Relay tuners -/

/-- R249 step 11 for slot n with amplitude d, hysteresis ε and band: every condition holds. -/
def tuneOk (n : Nat) (d eps band : F32) (s : State) : Bool :=
  let u0 := s.reg (aCambOut n)
  let kind := fld (inF (aCambSrcpv n) s) 29 3
  decide (emode n s = 1 ∨ emode n s = 2) && decide (kind = 1 ∨ kind = 2) && f32Lt 0 d && f32Le 0 eps && f32Lt eps band &&
  f32Le (inF (aCambOutmin n) s) (f32Sub u0 d) && f32Le (f32Add u0 d) (inF (aCambOutmax n) s)

/-- R274: setting EN of tuner k on slot n is permitted; not before a run that was stopped has ended (R254, log entry 163). -/
def armOk (k n : Nat) (s : State) : Bool :=
  decide (n < 96) && !tunerBusy k s && (tunerOf n s).isNone && tuneOk n (s.reg (aCambTud k)) (s.reg (aCambTeps k)) (s.reg (aCambTband k)) s

/-- R274: a refused write to tuner k. -/
def tunerRefuse (k : Nat) (s : State) : State := s.setB (aCambTstat k) 19 true

/-- R250: tuner k is armed on slot n. -/
def armTuner (k n : Nat) (s : State) : State :=
  let s := setTun k { tunSt0 with slot := n } ((s.setB (aCambTctl k) 31 true).setF (aCambTctl k) 0 7 n)
  (((s.setF (aCambTstat k) 29 3 1).setF (aCambTstat k) 25 4 0).setF (aCambTstat k) 20 5 0).setF (aCambTstat k) 0 17 0

/-- R253: EN cleared: the run ends with STOPPED at the slot's next evaluation. -/
def stopTuner (k : Nat) (s : State) : State :=
  let s := s.setB (aCambTctl k) 31 false
  if tunerBusy k s then setTun k { tunSt k s with stop := true } s else s

/-- R274: a write to CAMB_TCTLk. -/
def tctlWrite (k : Nat) (v : Word) (s : State) : State :=
  if s.b (aCambTctl k) 31 then
    if fld v 0 7 ≠ s.f (aCambTctl k) 0 7 then tunerRefuse k s
    else if bit v 31 then s else stopTuner k s
  else if bit v 31 then
    if armOk k (fld v 0 7) s then armTuner k (fld v 0 7) s else tunerRefuse k s
  else s.setF (aCambTctl k) 0 7 (fld v 0 7)

/-- R274: a write of another register of tuner k. -/
def tunerWrite (a k : Nat) (v : Word) (s : State) : State :=
  if a = aCambTctl k then tctlWrite k v s
  else if a = aCambTstat k then plainWrite a v s
  else if s.b (aCambTctl k) 31 ∧ (plainWrite a v s).reg a ≠ s.reg a then tunerRefuse k s
  else plainWrite a v s

/-- R254: the evaluation at which a run ends for a reason found outside the law: u = U0, I by R238. -/
def forceTuneEnd (k reason : Nat) (s : State) : State :=
  let n := (tunSt k s).slot
  let s := if s.f (aCambTstat k) 29 3 = 1 then s.setReg (aCambTbias k) (s.reg (aCambOut n)) else s
  let u0 := s.reg (aCambTbias k)
  let q := lastReads n (catchU1 s)
  let r := q.1
  let s := q.2
  let t := lawTerms n (slotSt n s).pvf r s
  let o : LawOut := ⟨u0, integratorKept n u0 t s, false, false⟩
  finishEval n ⟨5, 0, false⟩ r t o (sendStep n u0 false (endTune k reason s))

/-- TUNER_ARM (R249, R273, R274). -/
def execTunerArm (k : Fin 8) (v : Word) (s : State) : Host.Outcome State Fault Refusal :=
  .next (if domOn .cmb s then tctlWrite k v s else s)

/-- TUNER_STOP (R253). -/
def execTunerStop (k : Fin 8) (s : State) : Host.Outcome State Fault Refusal :=
  .next (if domOn .cmb s && s.b (aCambTctl k) 31 then stopTuner k s else s)

/-- R253: a running tuner. -/
def tunerRuns (k : Nat) (s : State) : Bool := decide (s.f (aCambTstat k) 29 3 = 2)

/-- TUNE_TIME_LIMIT (R253): TMAX seconds since the first evaluation of the run. -/
def execTuneTimeLimit (k : Fin 8) (s : State) : Host.Outcome State Fault Refusal :=
  let tmax := max 60 (s.f (aCambTmax k) 0 17)
  .next (if domOn .cmb s && tunerRuns k s then
    forceTuneEnd k 7 ((s.setF (aCambTstat k) 0 17 tmax).advTo (s.camb.t0 + 5000 * (tunSt k s).startTick + secT tmax))
    else s)

/-- TUNE_CYCLE_LIMIT (R253): 20 complete cycles without a result. -/
def execTuneCycleLimit (k : Fin 8) (s : State) : Host.Outcome State Fault Refusal :=
  .next (if domOn .cmb s && tunerRuns k s && decide (20 ≤ s.f (aCambTstat k) 20 5) then forceTuneEnd k 6 s else s)

/-! ### Zone models -/

/-- R265: the model of zone z is reset. -/
def resetModel (z : Nat) (s : State) : State :=
  let m := modSt z s
  let cref := s.reg (aModelCref z)
  let c64 := f64OfF32 cref
  let s := setMod z { m with theta := modSt0.theta, p := modSt0.p, rho2 := f64Mul c64 c64, fresh := false } s
  let s := forRange 7 (fun k s => s.setReg (aModelTh z k) 0) s
  let s := forRange 28 (fun k s => s.setReg (aModelP z k) (f32OfF64 (nth modSt0.p k 0))) s
  ((s.setReg (aModelRms z) cref).setF (aModelCnt z) 16 16 0).setB (aModelStat z) 0 false

/-- 0.995 and 0.99995 to the nearest binary32 (R260). -/
def lambdaMin : F32 := f32OfRat (mkRat 995 1000)
/-- The upper limit of λ. -/
def lambdaMax : F32 := f32OfRat (mkRat 99995 100000)

/-- R265, R275: a write of `v` at offset `off` of zone model z is refused. -/
def modelWriteBad (z off : Nat) (v : Word) (s : State) : Bool :=
  let src := fun (kinds : List Nat) => !decide (fld v 29 3 ∈ kinds) || (decide (fld v 29 3 = 2) && decide (96 ≤ fld v 0 8))
  if off = 0x00 then decide (fld v 16 10 < 10) || decide (600 < fld v 16 10)
  else if off = 0x08 then src [1]
  else if off = 0x0C then src [1, 2]
  else if 0x10 ≤ off ∧ off ≤ 0x18 then src [0, 1]
  else if off = 0x1C then !f32Fin v || f32Lt v lambdaMin || f32Lt lambdaMax v
  else if off = 0x20 then !f32Fin v || f32Le v 0
  else if off = 0x24 then !f32Fin v || f32Lt v 0 || f32Lt f32One v
  else if off = 0x28 then decide (fld v 0 11 = 0) || decide (1440 < fld v 0 11)
  else if off = 0x2C then decide (720 < fld v 16 16) || decide (240 < fld v 0 16)
  else if off = 0x30 then !f32Fin v
  else if 0x34 ≤ off ∧ off ≤ 0x4C then !f32Fin v || s.b (aModelCtl z) 31
  else false

/-- R260: a model with no update yet starts with ρ = CREF. -/
def startRho (z : Nat) (s : State) : State :=
  let m := modSt z s
  let cref := s.reg (aModelCref z)
  if m.fresh then (setMod z { m with rho2 := f64Mul (f64OfF32 cref) (f64OfF32 cref) } s).setReg (aModelRms z) cref else s

/-- R258: EN of zone model z was set: its periods count from this second of the µs time base. -/
def startModel (z : Nat) (s : State) : State :=
  let s := startRho z s
  let m := modSt z s
  let sec := s.rq.origin + timeBaseUs s / 1000000 * secT 1
  setMod z { m with tm := s.f (aModelCtl z) 16 10, last := sec, uAt := sec, uSrc := s.reg (aModelSrc z 1), uSum := 0, uCnt := 0,
                    y1 := (m.y1.1, false), y2 := (m.y2.1, false) } s

/-- R263, R265, R270, R275: a write to zone model z at offset `off`; with EN = 0 there is no valid model, and both leads
read 0. -/
def modelWrite (z off : Nat) (v : Word) (s : State) : State :=
  let a := aModelCtl z + off
  if modelWriteBad z off v s then s.setB (aModelStat z) 31 true
  else
    let was := s.b (aModelCtl z) 31
    let s := plainWrite a v s
    if off = 0 then
      if s.b a 31 && !was then startModel z s
      else if !s.b a 31 then (setMod z { modSt z s with leads := (0, 0) } (s.setB (aModelStat z) 0 false)).setReg (aModelOpt z) 0
      else s
    else if 0x34 ≤ off ∧ off ≤ 0x4C then
      let m := modSt z s
      setMod z { m with theta := m.theta.set ((off - 0x34) / 4) (f64OfF32 v) } s
    else s

/-- MODEL_CTL_WRITE (R265, R275). -/
def execModelCtlWrite (z : Fin 48) (off : Byte) (v : Word) (s : State) : Host.Outcome State Fault Refusal :=
  .next (if domOn .cmb s && decide (off.toNat % 4 = 0) then modelWrite z off.toNat v s else s)

/-- Index of P(i, j) in the upper triangle held row by row (R260). -/
def triIx (i j : Nat) : Nat :=
  let a := min i j
  let b := max i j
  a * (13 - a) / 2 + b

/-- The sum of products of two vectors, from the left. -/
def dot64 (x y : List F64) : F64 := (List.zipWith f64Mul x y).foldl f64Add 0

/-- Row i of P. -/
def pRow (p : List F64) (i : Nat) : List F64 := (List.range 7).map (fun j => nth p (triIx i j) 0)

/-- R260: one step of recursive least squares; `used i` says whether parameter i may move. -/
def rlsStep (lam : F64) (phi : List F64) (y : F64) (used : Nat → Bool) (m : ModSt) : ModSt :=
  let pphi := (List.range 7).map (fun i => dot64 (pRow m.p i) phi)
  let den := f64Add lam (dot64 phi pphi)
  let g := (List.range 7).map (fun i => if used i then f64Div (nth pphi i 0) den else 0)
  let eps := f64Sub y (dot64 phi m.theta)
  let theta := List.zipWith (fun t gi => f64Add t (f64Mul gi eps)) m.theta g
  let p := (List.range 7).flatMap (fun i => ((List.range 7).filter (fun j => decide (i ≤ j))).map (fun j =>
    f64Sub (nth m.p (triIx i j) 0) (f64Mul (nth g i 0) (nth pphi j 0))))
  let trace := ((List.range 7).map (fun i => nth p (triIx i i) 0)).foldl f64Add 0
  let p := if f64Lt trace (f64OfInt 7000) then p.map (fun x => f64Div x lam) else p
  let rho2 := f64Add (f64Mul lam m.rho2) (f64Mul (f64Sub (f64OfInt 1) lam) (f64Mul eps eps))
  { m with theta := theta, p := p, rho2 := rho2, fresh := false }

/-- R261: the prediction of the model from regressors: y(k−1), y(k−2) and the inputs. -/
def regressors (y1 y2 : F64) (u : List F64) : List F64 := [f64Neg y1, f64Neg y2] ++ u ++ [f64OfInt 1]

/-- A binary64 value as the register shows it. -/
def shown (x : F64) : F32 := f32OfF64 x

/-- −100 and +100. -/
def limitPct (x : F32) : F32 := f32Clamp 0xC2C80000 0x42C80000 x

/-- R262, R263: the outputs after a boundary, by binary64 (R258): ln 0 is minus infinity, so τ is 0, and a quotient by zero
is infinite. The limits of a steady-state demand of 0/0 leave its value open (log entry 6). -/
def modelOutputs (z : Nat) (s : State) : State :=
  let m := modSt z s
  let th := fun i => nth m.theta i 0
  let one := f64OfInt 1
  let disc := f64Sub (f64Mul (th 0) (th 0)) (f64Mul (f64OfInt 4) (th 1))
  let cplx := f64Lt disc 0
  let p1 := if cplx then f64Sqrt (th 1) else f64Div (f64Add (f64Abs (th 0)) (f64Sqrt disc)) (f64OfInt 2)
  let stable := f64Lt p1 one
  let den := f64Add (f64Add one (th 0)) (th 1)
  let tau := if stable then shown (f64Div (f64Neg (f64OfInt m.tm)) (f64Ln p1)) else 0
  let k1 := f64Div (th 2) den
  let kpos := f64Lt 0 k1
  let sp := f64OfF32 (zoneSt z s).sp
  let num := f64Sub (f64Sub (f64Sub (f64Sub (f64Mul den sp) (f64Mul (th 3) (nth m.u 1 0))) (f64Mul (th 4) (nth m.u 2 0)))
    (f64Mul (th 5) (nth m.u 3 0))) (th 6)
  let q := f64Div num (th 2)
  let w := s.draw
  let uss := limitPct (if f64IsNan q then w.1 else shown q)
  let s := if f64IsNan q then w.2 else s
  let rho := f64Sqrt m.rho2
  let conf := f64Sub one (f64Div rho (f64OfF32 (s.reg (aModelCref z))))
  let conf := if f64Lt conf 0 then 0 else conf
  let pred := dot64 (regressors m.y1.1 m.y2.1 m.u) m.theta
  let valid := decide (60 ≤ s.f (aModelCnt z) 16 16) && stable && kpos && f64Le (f64OfF32 (s.reg (aModelCmin z))) conf
  let s := forRange 7 (fun k s => s.setReg (aModelTh z k) (shown (nth m.theta k 0))) s
  let s := forRange 28 (fun k s => s.setReg (aModelP z k) (shown (nth m.p k 0))) s
  let s := ((s.setReg (aModelTau z) tau).setReg (aModelGain z) (shown k1)).setReg (aModelUss z) uss
  let s := ((s.setReg (aModelConf z) (shown conf)).setReg (aModelRms z) (shown rho)).setReg (aModelPred z) (shown pred)
  let s := (((s.setB (aModelStat z) 4 kpos).setB (aModelStat z) 3 cplx).setB (aModelStat z) 2 stable).setB (aModelStat z) 0 valid
  if valid then setMod z { m with arrival := s.camb.arrived + 1 } { s with camb := { s.camb with arrived := s.camb.arrived + 1 } } else s

/-- R260, R261: an update was skipped. -/
def skipUpdate (z : Nat) (s : State) : State := (s.bump (aModelCnt z) 0 16).setB (aModelStat z) 30 true

/-- R258 to R265: the lane's work at a boundary of zone z. A new TM takes effect here: the next boundary lies that long after
this one. -/
def modelBoundary (z : Nat) (s : State) : State :=
  let s := sampleU1 z s
  let at_ := (modSt z s).last + secT (modSt z s).tm
  let newTm := s.f (aModelCtl z) 16 10
  let s := if newTm = (modSt z s).tm then s
    else
      let s := resetModel z s
      let m := modSt z s
      setMod z { m with tm := newTm, y1 := (m.y1.1, false), y2 := (m.y2.1, false) } s
  let m := modSt z s
  let y := modelSource (s.reg (aModelSrc z 0)) s
  let yok := y.2 && decide (fld (s.reg (aModelSrc z 0)) 29 3 = 1)
  let uIn := fun k => modelSource (s.reg (aModelSrc z k)) s
  let u1ok := decide (0 < m.uCnt)
  let u1 := if u1ok then f64Div m.uSum (f64OfInt m.uCnt) else nth m.u 0 0
  let uk := fun k => if (uIn k).2 then f64OfF32 (uIn k).1 else nth m.u (k - 1) 0
  let uNow := [u1, uk 2, uk 3, uk 4]
  let inputsOk := u1ok && (uIn 2).2 && (uIn 3).2 && (uIn 4).2
  let phi := regressors m.y1.1 m.y2.1 m.u
  let none' := fun k => decide (fld (s.reg (aModelSrc z k)) 29 3 = 0)
  let used := fun i => if 2 ≤ i ∧ i ≤ 5 then !none' (i - 1) else true
  let lam := f64OfF32 (s.reg (aModelLambda z))
  let y64 := f64OfF32 y.1
  let doUpdate := yok && inputsOk && m.y1.2 && m.y2.2
  let yk := if yok then y64 else dot64 phi m.theta
  let m' := if doUpdate then rlsStep lam phi y64 used m else m
  let m' := { m' with y1 := (yk, yok), y2 := m.y1, u := uNow, uSum := 0, uCnt := 0, uSrc := s.reg (aModelSrc z 1),
                      last := at_, uAt := at_, yNow := if yok then y64 else m.yNow }
  let s := setMod z m' s
  let s := if doUpdate then s.bump (aModelCnt z) 16 16 else if yok && inputsOk then s else skipUpdate z s
  modelOutputs z (s.setB (aModelStat z) 1 (!yok))

end Sys2Proof.Machine
end

