-- ==== Sys2Proof/Machine/Heartwood.lean ====
section
/-! DEFINITION. Sys2Proof/Machine/Heartwood.lean: the Heartwood die: records and the journal (R432 to R442), counter
rings (R443 to R445), the saved state (R446 to R448), parameters (R449), user areas and passwords (R450 to R452), and
the STORE commands (R460). -/

namespace Sys2Proof.Machine

open Sys2Proof

/-! ### Records and the journal -/

/-- The records in the order of HWD_SEL: 0 configuration, 1 parameters, 2 CONTROL, 3 MODELS, 4 RECORDER, 5 to 8 user
areas, 9 keys. The frame of a record's copy (R436). -/
def frameOf (rec : Nat) (b : Bool) : Nat :=
  if rec < 2 then 2 * rec + b.toNat else if rec < 5 then 2 + rec + 3 * b.toNat else if rec < 9 then 2 * rec + b.toNat else 18 + b.toNat

/-- The record and copy of a frame. -/
def recOfFrame (f : Nat) : Nat × Bool :=
  if f < 4 then (f / 2, decide (f % 2 = 1)) else if f < 10 then (if f < 7 then (f - 2, false) else (f - 5, true))
  else (f / 2, decide (f % 2 = 1))

/-- R436: PART and SECT of a frame. -/
def framePart (f : Nat) : Nat × Nat :=
  if f < 4 then (f + 1, 0) else if f < 7 then (5, f - 4) else if f < 10 then (6, f - 7) else if f < 18 then (8, (f - 10) / 2) else (9, 0)

/-- R436: the largest payload of a frame, in bytes. -/
def frameMax (f : Nat) : Nat :=
  match framePart f with
  | (1, _) => 131072 | (2, _) => 131072 | (3, _) => 32768 | (4, _) => 32768 | (8, _) => 8192 | (9, _) => 4096
  | (_, 0) => 4096 | (_, 1) => 12288 | _ => 245760

/-- A record frame. -/
def frameAt (f : Nat) (s : State) : RecFrame := tblGet recFrame0 s.heart.frames f
/-- Set a record frame. -/
def setFrame (f : Nat) (v : RecFrame) (s : State) : State := { s with heart := { s.heart with frames := tblSet recFrame0 s.heart.frames f v } }

/-- R437: a copy is valid. -/
def copyValid (r : RecFrame) : Bool := r.mark && decide (r.payload ≠ .torn)

/-- R439: the journal entries, newest first. -/
def journalNewest (s : State) : List JEntry := sortBy (fun a b => decide (b.jseq ≤ a.jseq)) (s.heart.journal.filterMap (·.2))

/-- R439: JSEQ of the journal head, 0 for an empty journal. -/
def journalHead (s : State) : Nat := ((journalNewest s).head?.map (·.jseq)).getD 0

/-- R439: an entry is added at the head. -/
def journalAdd (kind frame seq len : Nat) (crc : Word) (s : State) : State :=
  let j := journalHead s + 1
  let s := { s with heart := { s.heart with journal := tblSet none s.heart.journal (j % 256) (some ⟨j, kind, frame, seq, len, crc⟩) } }
  s.setReg aHwdJseq (BitVec.ofNat 32 j)

/-- R437: the copy in use of a record: none, A or B, and whether the last row chose it without the journal. -/
def chooseCopy (rec : Nat) (s : State) : Option Bool × Bool :=
  let fa := frameAt (frameOf rec false) s
  let fb := frameAt (frameOf rec true) s
  match copyValid fa, copyValid fb with
  | false, false => (none, false)
  | true, false => (some false, false)
  | false, true => (some true, false)
  | true, true =>
    if fb.seq < fa.seq then (some false, false)
    else if fa.seq < fb.seq then (some true, false)
    else if fa.payload = fb.payload then (some false, false)
    else match (journalNewest s).find? (fun e => decide (e.kind = 2) && decide ((recOfFrame e.frame).1 = rec)) with
      | some e => (some (recOfFrame e.frame).2, false)
      | none => (some false, true)

/-- The frame of the record in use; R533: none while the die has not answered. -/
def recordInUse (rec : Nat) (s : State) : Option RecFrame :=
  if s.pwr.heartOk then (chooseCopy rec s).1.map (fun b => frameAt (frameOf rec b) s) else none

/-- R437: the copy that the next write goes to, and its SEQ. -/
def nextCopy (rec : Nat) (s : State) : Bool × Nat :=
  match (chooseCopy rec s).1 with
  | none => (false, 1)
  | some b => (!b, (frameAt (frameOf rec b) s).seq + 1)

/-- HWD_SEL follows the choice of a record. -/
def showSel (rec : Nat) (s : State) : State :=
  match (chooseCopy rec s).1 with
  | none => (s.setB aHwdSel (16 + rec) true).setB aHwdSel rec false
  | some b => (s.setB aHwdSel (16 + rec) false).setB aHwdSel rec b

/-- R437: SUSPECT while a record in use is one that the last row chose without the journal. -/
def showSuspect (s : State) : State := s.setB aHwdStat 28 ((List.range 10).any (fun rec => (chooseCopy rec s).2))

/-- R436: frame bytes 0 to 15 as words. -/
def frameWords (f seq len : Nat) : List Word :=
  [BitVec.ofNat 32 (0x48570000 + (framePart f).1 * 256), BitVec.ofNat 32 seq, BitVec.ofNat 32 len, BitVec.ofNat 32 ((framePart f).2 * 2 ^ 24)]

/-- The bytes of a table of bytes. -/
def bytesOfTbl (t : Tbl Byte) (n : Nat) : List Byte := (List.range n).map (fun k => tblGet 0 t k)
/-- R468, R473: the bytes of the RECORDER section. -/
def recorderBytes (m : Tbl Word) : List Byte := bytesOfWords ((List.range 49152).map (fun a => tblGetD recDflt m a))
/-- The bytes of a user area. -/
def userBytes (w : Tbl Word) : List Byte := bytesOfWords ((List.range 2048).map (fun a => tblGet 0 w a))
/-- The bytes of MODELS: P of each zone in order. -/
def modelsBytes (m : Tbl (List F64)) : List Byte :=
  (List.range 48).flatMap (fun z => (tblGet modSt0.p m z).flatMap (fun x => wordToBytes (x.extractLsb' 32 32) ++ wordToBytes (x.extractLsb' 0 32)))

/-- LEN and CRC of a record. Where the spec gives no byte layout the CRC, and the length of parameters and keys, are
free values. -/
def recordCrc (f seq : Nat) (p : Payload) (s : State) : (Nat × Word) × State :=
  let crc := fun (bs : List Byte) => crc32c (bytesOfWords (frameWords f seq bs.length) ++ bs)
  match p with
  | .image n t => ((n, crc (bytesOfTbl t n)), s)
  | .user w => ((8192, crc (userBytes w)), s)
  | .models m => ((10752, crc (modelsBytes m)), s)
  | .recorder m => ((196608, crc (recorderBytes m)), s)
  | .control _ => let d := s.draw; ((1920, d.1), d.2)
  | _ => let d := s.draw; let e := d.2.draw; ((e.1.toNat % (frameMax f + 1), d.1), e.2)

/-- R512, R533: Heartwood answers. -/
def heartOn (s : State) : Bool := domOn .hwd s && s.pwr.heartOk

/-- How a record write ended. -/
inductive WriteEnd where
  | done | failed | stopped
deriving DecidableEq, Repr

/-- R438, R434, R442: a record write; `cmd` is the command that caused it, `save` the number of a save. -/
def writeRecord (rec : Nat) (p : Payload) (save : Nat) (cmd : Option Nat) (m : Medium) (s : State) : WriteEnd × State :=
  let t := nextCopy rec s
  let f := frameOf rec t.1
  let c := recordCrc f t.2 p s
  let s := c.2
  let len := c.1.1
  let crc := c.1.2
  if !heartOn s || m = .silent then (.failed, if domOn .hwd s then s.setB aHwdStat 30 true else s)
  else
    let s := journalAdd 1 f t.2 len crc s
    let s := setFrame f { frameAt f s with mark := false, payload := .torn } s
    match m with
    | .cut => (.stopped, { s with heart := { s.heart with stopped := some (f, cmd) } })
    | .cutMarked => (.stopped, showSel rec (setFrame f ⟨true, t.2, len, crc, false, p, save⟩
        { s with heart := { s.heart with stopped := some (f, cmd) } }))
    | .ok => (.done, showSuspect (showSel rec (journalAdd 2 f t.2 len crc (setFrame f ⟨true, t.2, len, crc, false, p, save⟩ s))))
    | _ => (.failed, showSel rec (journalAdd 3 f t.2 len crc (s.setB aHwdStat 30 true)))

/-- R440: an intent entry that no later entry of its frame ends. -/
def openIntents (s : State) : List JEntry :=
  s.heart.journal.filterMap (fun e => match e.2 with
    | some x => if x.kind = 1 ∧ !(s.heart.journal.any (fun y => match y.2 with
        | some y => decide (y.frame = x.frame) && decide (x.jseq < y.jseq) && decide (y.kind ≠ 1)
        | none => false)) then some x else none
    | none => none)

/-- R440: recover the journal: complete or roll back; COMPCNT and ROLLCNT show the last recovery, which one that is not
`count` leaves as it was (R442). -/
def recoverJournal (count : Bool) (s : State) : State :=
  let s := if count then s.setF aHwdStat 0 16 0 else s
  forEach (sortBy (fun a b => decide (a.jseq ≤ b.jseq)) (openIntents s)) (fun e s =>
    let fr := frameAt e.frame s
    if copyValid fr && decide (fr.seq = e.seq) && decide (fr.len = e.len) && decide (fr.crc = e.crc) then
      let s := journalAdd 2 e.frame e.seq e.len e.crc s
      if count then s.bump aHwdStat 0 8 else s
    else
      let s := setFrame e.frame { fr with mark := false } s
      let s := journalAdd 3 e.frame e.seq e.len e.crc s
      if count then s.bump aHwdStat 8 8 else s) { s with heart := { s.heart with stopped := none } }

/-- R437: every record chosen; a choice of the last row marks copy A SUSPECT. -/
def chooseRecords (s : State) : State :=
  forRange 10 (fun rec s =>
    let s := showSel rec s
    if (chooseCopy rec s).2 then
      let f := frameOf rec false
      healthCount 9 1 ((setFrame f { frameAt f s with susp := true } s).setB aHwdStat 28 true)
    else s) s

/-- R442: the stopped write is rolled back; the command that caused it ends with ABORTED. -/
def rollBackStopped (s : State) : State :=
  match s.heart.stopped with
  | none => s
  | some (f, cmd) =>
    let s := recoverJournal false s
    let s := showSel (recOfFrame f).1 s
    match cmd with
    | some id => finishCmd id stAborted [] s
    | none => s

/-- HEARTWOOD_SCRUB (R433, R435): a day after the last scrub; what it corrected. -/
def execHeartwoodScrub (corr1 corr2 unver uncorr : Nat) (s : State) : Host.Outcome State Fault Refusal :=
  .next (if !heartOn s then s
    else
      let s := s.advTo (s.heart.scrubAt + secT 86400)
      let s := { s with heart := { s.heart with scrubAt := s.now } }
      let s := s.setF aHwdEcc 16 16 (satAdd 16 (s.f aHwdEcc 16 16) corr1)
      let s := s.setF aHwdEcc 8 8 (satAdd 8 (s.f aHwdEcc 8 8) corr2)
      let s := s.setF aHwdEcc 4 4 (satAdd 4 (s.f aHwdEcc 4 4) unver)
      let s := s.setF aHwdEcc 0 4 (satAdd 4 (s.f aHwdEcc 0 4) uncorr)
      if uncorr = 0 then s else s.setB aHwdStat 31 true)

/-! ### Counter rings -/

/-- R443: a slot: SEQ and value; SEQ 0: not valid. -/
def ringSlot (k j : Nat) (s : State) : Nat × Nat := tblGet (0, 0) s.heart.rings (32 * k + j)
/-- R443: SEQ and value of counter k. -/
def counterNow (k : Nat) (s : State) : Nat × Nat :=
  (List.range 32).foldl (fun a j => if a.1 < (ringSlot k j s).1 then ringSlot k j s else a) (0, 0)
/-- R444: a slot write sets the value of counter k. -/
def counterWrite (k v : Nat) (s : State) : State :=
  let q := (counterNow k s).1 + 1
  { s with heart := { s.heart with rings := tblSet (0, 0) s.heart.rings (32 * k + q % 32) (q, v % 2 ^ 64) } }

/-- R444: a slot write of counter k as the die takes it; an interrupted or failed one leaves that slot invalid, and the
previous slot in force. -/
def slotWriteBy (k v : Nat) (m : Medium) (s : State) : State :=
  match m with
  | .ok => counterWrite k v s
  | .silent => s.setB aHwdStat 30 true
  | _ =>
    let s := if m = .bad then s.setB aHwdStat 30 true else s
    { s with heart := { s.heart with rings := tblSet (0, 0) s.heart.rings (32 * k + ((counterNow k s).1 + 1) % 32) (0, 0) } }

/-- R444: the oldest queued change is written. -/
def flushOne (m : Medium) (s : State) : State :=
  match s.heart.cntQ with
  | [] => s
  | k :: t => slotWriteBy k ((counterNow k s).2 + 1) m { s with heart := { s.heart with cntQ := t } }

/-- R447: the queue is emptied. -/
def flushCounters (s : State) : State := forRange s.heart.cntQ.length (fun _ s => flushOne .ok s) s

/-- R434, R444: what happens to a slot write; the spec does not say which, and the row brings no outcome: it is that of a
free value (log entry 109). -/
def slotOutcome (w : Word) : Medium :=
  match w.toNat % 4 with
  | 0 => .ok
  | 1 => .bad
  | 2 => .silent
  | _ => .cut

/-- COUNTER_SLOT_WRITE (R444, R445). -/
def execCounterSlotWrite (s : State) : Host.Outcome State Fault Refusal :=
  .next (if heartOn s then flushOne (slotOutcome s.draw.1) s.draw.2 else s)

/-- R445: the source of counter k can give the event now. -/
def sourceLive (k : Nat) (s : State) : Bool :=
  let w := s.reg (aHwdCntcfg k)
  let i := fld w 16 6
  bit w 31 && (match fld w 28 3 with
    | 1 => decide (i < 32)
    | 2 => decide (i < 48)
    | 3 => decide (i < 48) && stageOn i s
    | 4 => decide (i < 16) && decide (s.f (aFanStat i) 13 3 ∈ [1, 3, 4])
    | _ => false)

/-- R445: what the source of counter k has counted: edges of the capture unit, started requests of the channel; else the
time. -/
def sourceTotal (k : Nat) (s : State) : Nat :=
  let i := s.f (aHwdCntcfg k) 16 6
  match s.f (aHwdCntcfg k) 28 3 with
  | 1 => tblGet 0 s.inp.cap i
  | 2 => s.f (aDrvCnt i) 16 16
  | _ => s.now

/-- The counter has taken its source up to `m`. -/
def setMark (k m : Nat) (s : State) : State := { s with heart := { s.heart with cntMark := tblSet 0 s.heart.cntMark k m } }

/-- R445: one event of counter k; every DIV events queue a slot write. -/
def countSource (k : Nat) (s : State) : State :=
  let n := tblGet 0 s.heart.cntAcc k + 1
  if max 1 (s.f (aHwdCntcfg k) 0 16) ≤ n then
    { s with heart := { s.heart with cntAcc := tblSet 0 s.heart.cntAcc k 0, cntQ := s.heart.cntQ ++ [k] } }
  else { s with heart := { s.heart with cntAcc := tblSet 0 s.heart.cntAcc k n } }

/-- COUNTER_EVENT (R445): the next event of the source of counter k: an edge or a started request that it has not taken yet
(STARTS at its limit does not tell), or a second in which the stage was energised or the fan ran. -/
def execCounterEvent (k : Fin 128) (s : State) : Host.Outcome State Fault Refusal :=
  .next (if !domOn .hwd s || !sourceLive k s then s
    else
      let mark := tblGet 0 s.heart.cntMark k
      let src := s.f (aHwdCntcfg k) 28 3
      if src ≤ 2 then
        let tot := sourceTotal k s
        if mark < tot then countSource k (setMark k (mark + 1) s)
        else if src = 2 ∧ tot = 65535 then countSource k s
        else setMark k tot s
      else
        let began := if src = 3 then ((chanSt (s.f (aHwdCntcfg k) 16 6) s).startAt).getD 0 else 0
        let t := max mark began + secT 1
        countSource k (setMark k t (s.advTo t)))

/-! ### Saved state (R446, R447) -/

/-- R446: the contents of CONTROL. -/
def controlNow (s : State) : ControlRec :=
  { imgCrc := s.fw.imgCrc
    slots := (List.range 96).map (fun n => (n, (s.reg (aCambInt n), s.reg (aCambOut n), (slotSt n s).pvf, emode n s)))
    chans := (List.range 48).map (fun n => (n, (posOf n s, s.b (aDrvDiag n) 9, s.f (aEschMod n) 0 12, s.f (aEschMod n) 28 3))) }

/-- R446: the contents of MODELS. -/
def modelsNow (s : State) : Tbl (List F64) := (List.range 48).map (fun z => (z, (modSt z s).p))

/-- R473: the contents of RECORDER; a stopped group is saved as zeros. -/
def recorderNow (s : State) : Tbl Word :=
  (s.grr.mem.filter (fun e => !groupStopped (e.1 / 12288) s))

/-- R447: the sections are saved in order; `none` when the save was stopped, else whether it is complete. PFLAST falls
when CONTROL is newer than the last power-fail save. -/
def saveSections (m : SaveMedium) (s : State) : Option Bool × State :=
  let n := s.heart.saveCtr + 1
  let s := { s with heart := { s.heart with saveCtr := n } }
  let a := writeRecord 2 (.control (controlNow s)) n none m.control s
  if a.1 = .stopped then (none, a.2)
  else
    let a := (a.1, if a.1 = .done then a.2.setB aHwdStat 25 false else a.2)
    let b := writeRecord 3 (.models (modelsNow a.2)) n none m.models a.2
    if b.1 = .stopped then (none, b.2)
    else
      let s := if heartOn b.2 && decide (m.models ≠ .silent) then flushCounters b.2 else b.2
      if !domOn .grr s then (some (decide (a.1 = .done) && decide (b.1 = .done)), s)
      else
        let c := writeRecord 4 (.recorder (recorderNow s)) n none m.recorder s
        if c.1 = .stopped then (none, c.2)
        else
          let s := if c.1 = .done ∨ m.recorder = .silent then c.2 else healthCount 11 1 c.2
          (some (decide (a.1 = .done) && decide (b.1 = .done) && decide (c.1 = .done)), s)

/-- Every record write of a save verifies. -/
def saveOk : SaveMedium := ⟨.ok, .ok, .ok⟩

/-- Firmware runs and writes records: not while the warning is in force (R447 step 2). -/
def mayWrite (s : State) : Bool := ready s && !s.b aSysPfstat 30

/-- R447: LASTDUR of a save: how long it took is not modelled; a free value. -/
def showDuration (s : State) : State :=
  let d := s.draw
  d.2.setF aHwdSave 0 16 (d.1.toNat % 65536)

/-- PERIODIC_SAVE (R447, R473): SAVEINT minutes after the last save. With a silent die the read of the RECORDER section
does not end, and updates are deferred. -/
def execPeriodicSave (medium : SaveMedium) (s : State) : Host.Outcome State Fault Refusal :=
  .next (if !mayWrite s || !s.pwr.inService || !domOn .hwd s then s
    else
      let s := s.advTo (s.heart.saveAt + secT (60 * s.f aHwdSave 26 6))
      let s := { s with heart := { s.heart with saveAt := s.now } }
      let r := saveSections medium s
      match r.1 with
      | none => r.2
      | some _ =>
        if medium.recorder = .silent ∧ domOn .grr r.2 then
          (if r.2.grr.defer.isSome then r.2 else { r.2 with grr := { r.2.grr with defer := some r.2.now } })
        else showDuration r.2)

/-! ### Parameters (R449) -/

/-- The words of a table that differ from those of the image. -/
def changedWords (base now : Tbl Word) : Tbl (Option Word) :=
  (base.map (·.1) ++ now.map (·.1)).foldl (fun t k =>
    if tblGet 0 base k = tblGet 0 now k then t else tblSet none t k (some (tblGet 0 now k))) []

/-- The words of the image with changed words put in. -/
def withChanges (base : Tbl Word) (ch : Tbl (Option Word)) : Tbl Word :=
  ch.foldl (fun t e => match e.2 with | some w => tblSet 0 t e.1 w | none => t) base

/-- R449: the contents of the parameters record now. -/
def paramsNow (s : State) : ParamRec :=
  let base := match s.fw.image with | some im => im.sched | none => []
  let cal := match s.fw.image with | some im => im.cal | none => []
  { models := (List.range 48).map (fun z => (z, ((modSt z s).theta, (modSt z s).rho2, BitVec.ofNat 32 (s.f (aModelCnt z) 16 16))))
    cmdTrig := s.fw.cmdTrig, modeOvr := s.fw.modeOvr, spOvr := s.fw.spOvr
    sched := changedWords base s.fw.sched
    cal := changedWords cal s.fw.cal
    cursor := s.trend.c, bad := s.trend.bad }

/-- The items of the parameters record, θ, ρ and NUPD apart, differ from the record in use, or a ZONE.MODEL_RESET has come
since (R266). -/
def paramsChanged (s : State) : Bool :=
  s.heart.modelDue ||
  match recordInUse 1 s with
  | some f => (match f.payload with
    | .params p => decide ({ paramsNow s with models := p.models } ≠ p)
    | _ => true)
  | none => true

/-- The parameters record written with the present contents. -/
def saveParams (m : Medium) (s : State) : State :=
  (writeRecord 1 (.params (paramsNow s)) 0 none m { s with heart := { s.heart with parAt := s.now, modelDue := false } }).2

/-- PARAMETERS_SAVE (R449): after a change, at most once a second; else 6 h after the last write. -/
def execParametersSave (medium : Medium) (s : State) : Host.Outcome State Fault Refusal :=
  .next (if !mayWrite s || !domOn .hwd s || s.fw.recovery then s
    else saveParams medium (s.advTo (s.heart.parAt + (if paramsChanged s then secT 1 else secT 21600))))

/-- MODEL_SAVE (R266): 6 h after the last write of the parameters record. -/
def execModelSave (medium : Medium) (s : State) : Host.Outcome State Fault Refusal :=
  .next (if !mayWrite s || !domOn .hwd s || s.fw.recovery then s else saveParams medium (s.advTo (s.heart.parAt + secT 21600)))

/-! ### Passwords (R451, R452) -/

/-- R451: the passwords in the keys record: key 2·area, plus 1 for the write password; none: the record is absent. -/
def keysNow (s : State) : Option (Tbl Nat) :=
  match recordInUse 9 s with
  | some f => (match f.payload with | .keys k => some k | _ => none)
  | none => none

/-- R441: the keys record is absent. -/
def keysMissing (s : State) : Bool := (keysNow s).isNone
/-- R451: a password; 0: none. -/
def password (a : Nat) (wr : Bool) (s : State) : Nat := match keysNow s with | some k => tblGet 0 k (2 * a + wr.toNat) | none => 0

/-- R452: area a is in lockout. -/
def lockedOut (a : Nat) (s : State) : Bool := match tblGet none s.heart.lockEnd a with | some t => decide (s.now < t) | none => false

/-- R506: firmware has written its words of the backup SRAM, whose layout the spec does not give. -/
def bramWritten (s : State) : State := forRange 32 (fun k s => let d := s.draw; d.2.setReg (aRtcBram k) d.1) s

/-- R452: set n and the lockout of an area. -/
def setFails (a n : Nat) (lock : Option Nat) (s : State) : State :=
  bramWritten { s with heart := { s.heart with fails := tblSet 0 s.heart.fails a n, lockEnd := tblSet none s.heart.lockEnd a lock } }

/-- R452: the lockout of the n-th failure in s; none below 3. -/
def lockSecs (n : Nat) : Option Nat := if n < 3 then none else some (min 86400 (60 * 2 ^ (min (n - 3) 11)))

/-- R451, R452: the password of an area checked: status 0, AUTH_FAIL or LOCKED_OUT. -/
def checkPassword (a : Nat) (wr : Bool) (supplied : Nat) (s : State) : Nat × State :=
  let pw := password a wr s
  if pw = 0 then (0, s)
  else if lockedOut a s then (stLockedOut, s)
  else if supplied = pw then (0, if tblGet 0 s.heart.fails a = 0 then s else setFails a 0 none s)
  else
    let n := tblGet 0 s.heart.fails a + 1
    (stAuthFail, setFails a n ((lockSecs n).map (fun x => s.now + secT x)) s)

/-- LOCKOUT_END (R452). -/
def execLockoutEnd (a : Fin 4) (s : State) : Host.Outcome State Fault Refusal :=
  .next (match tblGet none s.heart.lockEnd a with
    | some t => (fun s => { s with heart := { s.heart with lockEnd := tblSet none s.heart.lockEnd a none } }) (s.advTo t)
    | none => s)

/-- R452: at start-up with lost backup SRAM every area with a password starts with n = 3 and a lockout of 60 s. -/
def initPasswords (s : State) : State :=
  if s.heart.bramLost then
    let s := { s with heart := { s.heart with bramLost := false } }
    forRange 4 (fun a s => if password a false s = 0 ∧ password a true s = 0 then s else setFails a 3 (some (s.now + secT 60)) s) s
  else s

/-! ### HWD registers (R462) -/

/-- HWD_LOCKa. -/
def lockWord (a : Nat) (s : State) : Word :=
  let secs := match tblGet none s.heart.lockEnd a with | some t => (t - s.now + secT 1 - 1) / secT 1 | none => 0
  BitVec.ofNat 32 (min 255 (tblGet 0 s.heart.fails a) * 2 ^ 24 + min 86400 secs)

/-- Word k (k < 8) of a journal entry. -/
def journalWord (e : JEntry) (k : Nat) : Word :=
  let ws := [BitVec.ofNat 32 e.jseq, BitVec.ofNat 32 ((e.kind * 256 + e.frame) * 65536), BitVec.ofNat 32 e.seq, BitVec.ofNat 32 e.len,
    e.crc, 0]
  nth (ws ++ [crc32c (bytesOfWords ws), 0xA5]) k 0

/-- Word k (k < 8) of a record frame. -/
def frameWord (f k : Nat) (r : RecFrame) : Word :=
  if r = recFrame0 then 0
  else nth (frameWords f r.seq r.len ++ [r.crc, BitVec.ofNat 32 (r.susp.toNat * 2 ^ 24), 0, if r.mark then 0xA5 else 0]) k 0

/-- Word k (k < 4) of a counter slot. -/
def slotWord (q : Nat × Nat) (k : Nat) : Word :=
  if q.1 = 0 then 0
  else
    let ws := [BitVec.ofNat 32 q.1, BitVec.ofNat 32 (q.2 / 2 ^ 32), BitVec.ofNat 32 q.2]
    nth (ws ++ [halves (crc16Ccitt (bytesOfWords ws)) 0x00A5]) k 0

/-- Word k of a payload; free where the spec gives no layout. -/
def payloadWord (f k : Nat) (r : RecFrame) : Word :=
  match r.payload with
  | .image _ t => bytesToWord (tblGet 0 t (4 * k)) (tblGet 0 t (4 * k + 1)) (tblGet 0 t (4 * k + 2)) (tblGet 0 t (4 * k + 3))
  | .models m => let x := nth (tblGet modSt0.p m (k / 56)) (k / 2 % 28) 0; if k % 2 = 0 then x.extractLsb' 32 32 else x.extractLsb' 0 32
  | .recorder m => if k < 49152 then tblGetD recDflt m k else 0
  | _ => if r = recFrame0 then 0 else Config.heartWord f r.seq k

/-- R432, R462: the word at a byte address of the die as the window shows it: 0 in PT8 and PT9. -/
def heartWordAt (a : Nat) (s : State) : Word :=
  let pl := fun (f base : Nat) => payloadWord f ((a - base) / 4) (frameAt f s)
  if a < 0x2000 then (match tblGet none s.heart.journal (a / 32) with | some e => journalWord e (a / 4 % 8) | none => 0)
  else if a < 0x22000 then pl 0 0x2000 else if a < 0x42000 then pl 1 0x22000
  else if a < 0x4A000 then pl 2 0x42000 else if a < 0x52000 then pl 3 0x4A000
  else if a < 0x53000 then pl 4 0x52000 else if a < 0x56000 then pl 5 0x53000 else if a < 0x92000 then pl 6 0x56000
  else if a < 0x93000 then pl 7 0x92000 else if a < 0x96000 then pl 8 0x93000 else if a < 0xD2000 then pl 9 0x96000
  else if a < 0xE2000 then slotWord (ringSlot ((a - 0xD2000) / 512) ((a - 0xD2000) / 16 % 32) s) (a / 4 % 4)
  else if a < 0xF4000 then 0
  else if a < 0xF4280 then frameWord ((a - 0xF4000) / 32) (a / 4 % 8) (frameAt ((a - 0xF4000) / 32) s)
  else 0

/-- R462: HWD_WINk. -/
def heartWindow (k : Nat) (s : State) : Word := heartWordAt ((s.f aHwdWaddr 2 18 * 4 + 4 * k) % 0x100000) s

/-- R462: a write to HWD_SAVE. -/
def hwdSaveWrite (v : Word) (s : State) : State :=
  if 1 ≤ fld v 26 6 ∧ fld v 26 6 ≤ 60 then plainWrite aHwdSave v s else s.setB aHwdStat 29 true
/-- R462: a write to HWD_CNTCFGk; the counter takes its source from here on. -/
def cntcfgWrite (k : Nat) (v : Word) (s : State) : State :=
  if 5 ≤ fld v 28 3 then s.setB aHwdStat 29 true
  else
    let s := plainWrite (aHwdCntcfg k) v s
    setMark k (sourceTotal k s) s

/-! ### STORE commands (R460) -/

/-- R460: what a target word names: a counter, or a user area and word offset; or the status that refuses it. -/
inductive StoreTarget where
  | counter (k : Nat)
  | area (a off : Nat)
deriving DecidableEq, Repr

/-- R460: read a target word. -/
def storeTarget (w : Word) : Except Nat StoreTarget :=
  if fld w 24 8 = 0x80 then (if onlyBits w 0x800307FF then .ok (.area (fld w 16 2) (fld w 0 11)) else .error stBadArg)
  else match needRef 0x0F w with
    | .ok k => .ok (.counter k)
    | .error e => .error e

/-- A password in two words. -/
def pwOf (hi lo : Word) : Nat := hi.toNat * 2 ^ 32 + lo.toNat

/-- STORE_READ (R460, R450, R451, R434): `medium` tells whether the ring of a counter can be read. -/
def execStoreRead (id : Nat) (medium : Medium) (s : State) : Host.Outcome State Fault Refusal :=
  .next (runCmd id 0x0B01 (fun c s =>
    let m := mw c.words 2
    let k := fld m 0 4 + 1
    match storeTarget (mw c.words 1) with
    | .error e => (.st e, s)
    | .ok (.counter n) =>
      checked [(decide (m ≠ 0), stBadArg), (!domOn .hwd s, stNoResource)] s (
        if !s.pwr.heartOk || medium = .silent then (.st stStoreFail, s)
        else if medium = .bad then (.st stStoreFail, (s.setB aHwdStat 31 true).bump aHwdEcc 0 4)
        else
          let v := counterNow n s
          (.done stOk [BitVec.ofNat 32 (v.2 / 2 ^ 32), BitVec.ofNat 32 v.2, BitVec.ofNat 32 v.1], s))
    | .ok (.area a off) =>
      checked [(!onlyBits m 0xF, stBadArg), (decide (14 < k), stBadArg), (!domOn .hwd s, stNoResource), (decide (2048 < off + k), stRange)] s (
        if keysMissing s && !c.secure then (.st stDenied, s)
        else
          let r := checkPassword a false (pwOf (mw c.words 3) (mw c.words 4)) s
          if r.1 = 0 then (.done stOk ((List.range k).map (fun i => tblGet 0 r.2.heart.shadow (2048 * a + off + i))), r.2)
          else (.st r.1, r.2))) s)

/-- STORE_WRITE (R460, R450, R451, R445, R434): `medium` is what becomes of the slot write of a counter; one that is cut
leaves the command unfinished. -/
def execStoreWrite (job : StoreJob) (s : State) : Host.Outcome State Fault Refusal :=
  .next (runCmd job.id 0x0B02 (fun c s =>
    let m := mw c.words 2
    let k := fld m 0 4 + 1
    let form := [(!onlyBits m 0xF, stBadArg)]
    match storeTarget (mw c.words 1) with
    | .error e => (.st e, s)
    | .ok (.counter n) =>
      checked (form ++ [(decide (k ≠ 2), stBadArg), (!c.secure, stDenied), (!domOn .hwd s, stNoResource)]) s (
        if !s.pwr.heartOk then (.st stStoreFail, s)
        else
          let s := slotWriteBy n ((mw c.words 5).toNat * 2 ^ 32 + (mw c.words 6).toNat) job.medium s
          (match job.medium with
           | .ok => (.st stOk, s)
           | .bad => (.st stStoreFail, s)
           | .silent => (.st stStoreFail, s)
           | _ => (.running, s)))
    | .ok (.area a off) =>
      checked (form ++ [(decide (11 < k), stBadArg), (!domOn .hwd s, stNoResource), (decide (2048 < off + k), stRange)]) s (
        if keysMissing s && !c.secure then (.st stDenied, s)
        else
          let r := checkPassword a true (pwOf (mw c.words 3) (mw c.words 4)) s
          if r.1 = 0 then
            (.st stOk, forRange k (fun i s =>
              { s with heart := { s.heart with shadow := tblSet 0 s.heart.shadow (2048 * a + off + i) (mw c.words (5 + i)) } }) r.2)
          else (.st r.1, r.2))) s)

/-- The shadow of a user area as a record's payload. -/
def shadowOf (a : Nat) (s : State) : Tbl Word :=
  (s.heart.shadow.filter (fun e => decide (e.1 / 2048 = a))).map (fun e => (e.1 % 2048, e.2))

/-- STORE_COMMIT (R460, R450, R438): no record write begins while the power-fail warning is in force. -/
def execStoreCommit (id : Nat) (medium : Medium) (s : State) : Host.Outcome State Fault Refusal :=
  .next (if !mayWrite s && !endingOf id s then s else runCmd id 0x0B03 (fun c s =>
    match storeTarget (mw c.words 1) with
    | .error e => (.st e, s)
    | .ok (.counter _) => (.st stBadArg, s)
    | .ok (.area a off) =>
      checked [(decide (off ≠ 0), stBadArg), (!domOn .hwd s, stNoResource)] s (
        if keysMissing s && !c.secure then (.st stDenied, s)
        else
          let r := checkPassword a true (pwOf (mw c.words 2) (mw c.words 3)) s
          if r.1 ≠ 0 then (.st r.1, r.2)
          else
            let w := writeRecord (5 + a) (.user (shadowOf a r.2)) 0 (some c.id) medium r.2
            match w.1 with
            | .done => (.ends stOk [], w.2)
            | .failed => (.ends stStoreFail [], w.2)
            | .stopped => (.running, w.2))) s)

/-- STORE_PASSWORD (R460, R451, R452, R441). -/
def execStorePassword (id : Nat) (medium : Medium) (s : State) : Host.Outcome State Fault Refusal :=
  .next (if !mayWrite s then s else runCmd id 0x0B04 (fun c s =>
    let m := mw c.words 1
    let a := fld m 16 2
    checked [(!onlyBits m 0x30001, stBadArg), (!domOn .hwd s, stNoResource)] s (
      let k := tblSet 0 ((keysNow s).getD []) (2 * a + fld m 0 1) (pwOf (mw c.words 2) (mw c.words 3))
      let w := writeRecord 9 (.keys k) 0 (some c.id) medium s
      match w.1 with
      | .done => (.st stOk, setFails a 0 none (w.2.setB aHwdStat 26 false))
      | .failed => (.st stStoreFail, w.2)
      | .stopped => (.running, w.2))) s)

/-- STORE_STATUS (R460). -/
def execStoreStatus (id : Nat) (s : State) : Host.Outcome State Fault Refusal :=
  .next (runCmd id 0x0B05 (fun _ s =>
    let bitsOf := fun (p : Nat → Bool) => ((List.range 4).map (fun a => (p a).toNat * 2 ^ a)).foldl (· + ·) 0
    checked [(!domOn .hwd s, stNoResource)] s
      (.done stOk [s.reg aHwdStat, s.reg aHwdEcc, s.reg aHwdSel, s.reg aHwdSave,
        BitVec.ofNat 32 (bitsOf (fun a => decide (password a true s ≠ 0)) * 256 + bitsOf (fun a => decide (password a false s ≠ 0)) * 16
          + bitsOf (fun a => lockedOut a s))], s)) s)

end Sys2Proof.Machine
end

