-- ==== Sys2Proof/Machine/Fans.lean ====
section
/-! DEFINITION. Sys2Proof/Machine/Fans.lean: the fan ports (10): duty, speed loop, supply, stall, retry, tach loss, host
loss and the safe state. -/

namespace Sys2Proof.Machine

open Sys2Proof

/-- Hidden state of fan f. -/
def fanSt (f : Nat) (s : State) : FanSt := tblGet fanSt0 s.fan f
/-- Set the hidden state of fan f. -/
def setFan (f : Nat) (v : FanSt) (s : State) : State := { s with fan := tblSet fanSt0 s.fan f v }
/-- The fan object f. -/
def fanRef (f : Nat) : Word := mkRef 0x07 f
/-- STATE of fan f: 0 OFF, 1 RUN, 2 WAIT, 3 KICK, 4 TACH_LOST, 5 SAFE. -/
def fanState (f : Nat) (s : State) : Nat := s.f (aFanStat f) 13 3
/-- Pulses per revolution. -/
def fanPpr (f : Nat) (s : State) : Nat := s.f (aFanCfg f) 27 2 + 1
/-- MINDUTY. -/
def minDuty (f : Nat) (s : State) : Nat := s.f (aFanLim f) 16 8
/-- STALLWIN in ticks. -/
def stallWin (f : Nat) (s : State) : Nat := msT (100 * s.f (aFanLim f) 24 8)
/-- R333: the speed in rpm: 0 while no edge has been accepted for STALLWIN. -/
def fanSpeed (f : Nat) (s : State) : Nat :=
  match (fanSt f s).edges.head? with
  | some t => if s.now < t + stallWin f s then s.f (aFanSpd f) 16 16 else 0
  | none => 0
/-- R335: the drive channel of the supply, if any. -/
def fanChan (f : Nat) (s : State) : Option Nat :=
  let c := s.f (aFanCfg f) 8 6
  if s.b (aFanCfg f) 14 && decide (c < 48) then some c else none

/-- R335: the supply of fan f is on. -/
def supplyOn (f : Nat) (s : State) : Bool := match fanChan f s with | some c => stageOn c s | none => true

/-- R335: the fan controller is the demand source of its supply channel. -/
def wantSupply (f : Nat) (on : Bool) (s : State) : State :=
  match fanChan f s with
  | some c =>
    let d : F32 := if on then 0x42C80000 else 0
    if (chanSt c s).slotDem = some d ∧ ((chanSt c s).run.isSome ∨ (chanSt c s).pend.isSome ∨ (chanSt c s).fresh.isSome ∨ !on) then s
    else applyDemand c (setChan c { chanSt c s with slotDem := some d } s)
  | none => s

/-- R314, R334: the demand of fan f and whether row 1 or row 2 gives it. -/
def fanDemand (f : Nat) (s : State) : F32 × Bool :=
  match namedDemand (fanRef f) s with
  | some v => (v, true)
  | none =>
    match tblGet none s.fw.fanOvr f with
    | some o => (o.1, true)
    | none => (f32Clamp 0 0x42C80000 ((fanSt f s).slotDem.getD 0), false)

/-- R341: FAILDUTY is the applied duty: host loss, applied by firmware, and the owning layer names no DEMAND. -/
def fanHostLoss (f : Nat) (s : State) : Bool := s.b aHpStat 29 && !s.hp.lossDue && (namedDemand (fanRef f) s).isNone

/-- A duty limited to MINDUTY to 100 %. -/
def limitDuty (f : Nat) (x : F32) (s : State) : F32 := f32Clamp (f32OfNat (minDuty f s)) 0x42C80000 x

/-- R334: ff. -/
def dutyFf (f : Nat) (d : F32) (s : State) : F32 :=
  let m := f32OfNat (minDuty f s)
  f32Add m (f32Div (f32Mul d (f32Sub 0x42C80000 m)) 0x42C80000)

/-- The pin's duty: the register and the generator follow the applied duty (R332). -/
def putDuty (f : Nat) (x : F32) (s : State) : State :=
  let g := s.f (aFanCfg f) 21 6
  let s := setFan f { fanSt f s with duty := x } s
  let s := s.setF (aFanStat f) 0 7 (f32Round x).toNat
  s.setReg (aDrvPwmdut g) (BitVec.ofNat 32 (roundRat (f32Rat x * s.f (aDrvPwmper g) 0 25 / 100)).toNat)

/-- STATE of fan f. -/
def putFanState (f st : Nat) (s : State) : State := s.setF (aFanStat f) 13 3 st

/-- R334, R341: the duty that a running fan takes for its demand, outside the speed loop's own correction. -/
def demandDuty (f : Nat) (s : State) : F32 :=
  if s.b (aFanStat f) 11 then f32OfNat (s.f (aFanFail f) 0 7)
  else
    let d := s.reg (aFanDem f)
    if f32Abs d = 0 then 0
    else
      let ff := dutyFf f d s
      if s.b (aFanCfg f) 30 ∧ fanState f s = 1 then
        let speed := f32OfNat (fanSpeed f s)
        let e := f32Sub d (f32Div (f32Mul 0x42C80000 speed) (f32OfNat (s.f (aFanLim f) 0 16)))
        let kf := f32Div (f32OfNat (s.f (aFanLoop f) 24 8)) 0x42C80000
        limitDuty f (f32Add ff (f32Mul kf (f32Add e (fanSt f s).integ))) s
      else limitDuty f ff s

/-- R336: the stall window restarts. -/
def restartWin (f : Nat) (s : State) : State := setFan f { fanSt f s with winAt := s.now } s

/-- The fan runs at its demand: supply on, window restarted when the duty rises from below MINDUTY. In speed mode a
running fan takes its next duty at the next evaluation of the loop (R334). -/
def fanRun (f : Nat) (s : State) : State :=
  let held := decide (fanState f s = 1) && s.b (aFanCfg f) 30 && !s.b (aFanStat f) 11
  let s := if fanState f s = 1 ∨ fanState f s = 4 then s
    else setFan f { fanSt f s with waitEnd := none, kickAt := none, kickDue := false, kickEdges := [], runAt := s.now, winAt := s.now } (putFanState f 1 s)
  let was := (fanSt f s).duty
  let x := if held && f32Lt 0 was then was else demandDuty f s
  let s := putDuty f x s
  let s := if f32Lt was (f32OfNat (minDuty f s)) && f32Le (f32OfNat (minDuty f s)) x then restartWin f s else s
  let on := supplyOn f s
  let s := wantSupply f true s
  if !on && supplyOn f s then restartWin f s else s

/-- The fan is off: WAIT or KICK end, the count is kept (R338). -/
def fanOff (f : Nat) (s : State) : State :=
  let s := setFan f { fanSt f s with waitEnd := none, kickAt := none, kickDue := false, kickEdges := [] } (putFanState f 0 s)
  wantSupply f false (putDuty f 0 s)

/-- R314, R334, R341: the demand of fan f is chosen anew and applied. -/
def applyFan (f : Nat) (s : State) : State :=
  let d := fanDemand f s
  let s := setDblk 3 f (fanRef f) d.2 (s.setReg (aFanDem f) d.1)
  if !domOn .brk s then s else
  let loss := fanHostLoss f s
  let s := (s.setB (aFanStat f) 10 d.2).setB (aFanStat f) 11 loss
  if !s.b (aFanCfg f) 31 then s
  else if fanState f s = 5 then s
  else
    let zero := if loss then decide (s.f (aFanFail f) 0 7 = 0) else decide (f32Abs d.1 = 0)
    if zero then fanOff f s
    else if fanState f s = 2 ∨ fanState f s = 3 then s
    else fanRun f s

/-- FAN_DUTY_ARRIVAL (R233, R332, R334): the oldest demand packet for a fan reaches the Bark die. -/
def execFanDutyArrival (s : State) : Host.Outcome State Fault Refusal :=
  .next (match takePacket (fun p => decide (hfld p.hdr 60 4 = 10) && decide (hfld p.hdr 54 2 = 2) && decide (hfld p.hdr 40 2 = 3)) s with
    | some (p, s) =>
      let f := hfld p.hdr 32 8
      if f < 16 ∧ domOn .brk s then applyFan f (setFan f { fanSt f s with slotDem := some (flitVal (p.payload.headD 0)) } s) else s
    | none => s)

/-- R333: the speed in rpm from the last PPR intervals, in whole µs; 0 without that many. -/
def speedOf (f : Nat) (edges : List Nat) (s : State) : Nat :=
  let p := fanPpr f s
  match edges.head?, edges[p]? with
  | some a, some b => if b / 20 < a / 20 then min 65535 (roundRat (mkRat 60000000 (a / 20 - b / 20))).toNat else 0
  | _, _ => 0

/-- TACH_EDGE (R333, R336, R340): a falling edge has held for 20 µs and is accepted. -/
def execTachEdge (f : Fin 16) (s : State) : Host.Outcome State Fault Refusal :=
  .next (if domOn .brk s && s.b (aFanCfg f) 31 then
    (let u := s.f (aFanCfg f) 16 5
     let s := { s with inp := { s.inp with cap := tblSet 0 s.inp.cap u (tblGet 0 s.inp.cap u + 1) } }
     let st := fanSt f s
     let edges := (s.now :: st.edges).take 5
     let s := setFan f { st with edges := edges, winAt := s.now,
                                 kickEdges := if fanState f s = 3 then s.now :: st.kickEdges else st.kickEdges } s
     let s := s.setF (aFanSpd f) 16 16 (speedOf f edges s)
     if fanState f s = 4 then fanRun f (setFan f { fanSt f s with runAt := s.now } (putFanState f 1 s)) else s)
    else s)

/-- FAN_SPEED_LOOP (R334): every 100 ms a running fan in speed mode recomputes its duty; I is held while the duty is at
a limit and would pass it. -/
def execFanSpeedLoop (f : Fin 16) (s : State) : Host.Outcome State Fault Refusal :=
  .next (if domOn .brk s && s.b (aFanCfg f) 31 && s.b (aFanCfg f) 30 && decide (fanState f s = 1) && !s.b (aFanStat f) 11 then
    (let s := s.advTo ((fanSt f s).loopAt + msT 100)
     let st := fanSt f s
     let d := s.reg (aFanDem f)
     let ff := dutyFf f d s
     let speed := f32OfNat (fanSpeed f s)
     let e := f32Sub d (f32Div (f32Mul 0x42C80000 speed) (f32OfNat (s.f (aFanLim f) 0 16)))
     let kf := f32Div (f32OfNat (s.f (aFanLoop f) 24 8)) 0x42C80000
     let i := f32Add st.integ (f32Div (f32Mul e (f32OfRat (mkRat 1 10))) (f32OfNat (s.f (aFanLoop f) 16 8)))
     let raw := f32Add ff (f32Mul kf (f32Add e i))
     let hi := f32Lt 0x42C80000 raw && f32Lt st.integ i
     let lo := f32Lt raw (f32OfNat (minDuty f s)) && f32Lt i st.integ
     let i' := if hi || lo then st.integ else i
     let s := setFan f { st with integ := i', loopAt := s.now } s
     putDuty f (limitDuty f (f32Add ff (f32Mul kf (f32Add e i'))) s) s)
    else s)

/-- R337: the next wait begins: duty 0, supply off. -/
def nextWait (f : Nat) (s : State) : State :=
  let st := fanSt f s
  let k := st.waits + 1
  let wait := min (5 * 2 ^ min 10 (k - 1)) 300
  let s := setFan f { st with waits := k, waitEnd := some (s.now + secT wait), kickAt := none, kickDue := false, kickEdges := [] } (putFanState f 2 s)
  wantSupply f false (putDuty f 0 s)

/-- R337: the stall procedure starts. -/
def stallStart (f : Nat) (s : State) : State :=
  let s := ((s.bump (aFanCnt f) 16 16).setB (aFanStat f) 30 true).setF (aFanSpd f) 8 8 0
  nextWait f (s.setF (aFanSpd f) 16 16 0)

/-- R340: the mean current of the supply over the last 10 ms lies within the band. -/
def inBand (f : Nat) (s : State) : Bool :=
  let lo := s.f (aFanBand f) 0 16
  let hi := s.f (aFanBand f) 16 16
  match fanChan f s with
  | some c => (let ma := (signed 16 (s.f (aDrvMeas c) 16 16)).natAbs
               decide (lo < hi) && decide (lo ≤ ma ∧ ma ≤ hi))
  | none => false

/-- R340: a fan in TACH_LOST notes since when the current of its supply is outside the band. -/
def noteBand (f : Nat) (s : State) : State :=
  if fanState f s = 4 then
    setFan f { fanSt f s with outAt := if inBand f s then none else some ((fanSt f s).outAt.getD s.now) } s
  else s

/-- STALL (R336, R337, R340): no edge for STALLWIN. -/
def execStall (f : Fin 16) (ma : List Int) (s : State) : Host.Outcome State Fault Refusal :=
  .next (if domOn .brk s && s.b (aFanCfg f) 31 && decide (fanState f s = 1) && f32Le (f32OfNat (minDuty f s)) (fanSt f s).duty && supplyOn f s then
    (let s := s.advTo ((fanSt f s).winAt + stallWin f s)
     let s := match fanChan f s with | some c => lateReadings c ma s | none => s
     if inBand f s then
       (let s := ((putFanState f 4 s).setB (aFanStat f) 29 true).setF (aFanSpd f) 16 16 0
        putDuty f (demandDuty f s) (setFan f { fanSt f s with outAt := none } s))
     else stallStart f s)
    else s)

/-- TACH_LOST_TIMEOUT (R340): the current has left the band for 1 s during TACH_LOST. -/
def execTachLostTimeout (f : Fin 16) (s : State) : Host.Outcome State Fault Refusal :=
  .next (if domOn .brk s && decide (fanState f s = 4) && !inBand f s then
    stallStart f (s.advTo ((fanSt f s).outAt.getD s.now + secT 1)) else s)

/-- R337: the kick itself: 100 % duty, KICKS counts. -/
def startKick (f : Nat) (s : State) : State :=
  let s := setFan f { fanSt f s with waitEnd := none, kickDue := false, kickAt := some s.now, kickEdges := [] } (putFanState f 3 s)
  putDuty f 0x42C80000 (s.bump (aFanCnt f) 0 16)

/-- R339: a due kick starts when its supply is on or, for class safety or without PWREN, at once. -/
def kickIfReady (f : Nat) (s : State) : State :=
  let free : Bool := match fanChan f s with
    | none => true
    | some c => (chanSt c s).run.isSome || decide (reqClass (fanRef f) s = 0)
  if (fanSt f s).kickDue && free then startKick f s else s

/-- KICK (R337 to R339): the wait ends; the kick starts once its supply request is admitted. -/
def execKick (f : Fin 16) (s : State) : Host.Outcome State Fault Refusal :=
  match (fanSt f s).waitEnd with
  | some t =>
    .next (if domOn .brk s && decide (fanState f s = 2) then
      (let s := s.advTo t
       let s := setFan f { fanSt f s with kickDue := true } s
       kickIfReady f (wantSupply f true s))
      else s)
  | none => .next s

/-- KICK_END (R337, R338): 3 s after its start. -/
def execKickEnd (f : Fin 16) (s : State) : Host.Outcome State Fault Refusal :=
  match (fanSt f s).kickAt with
  | some t =>
    .next (if domOn .brk s && decide (fanState f s = 3) then
      (let s := s.advTo (t + secT 3)
       let n := ((fanSt f s).kickEdges.filter (fun x => decide (t + secT 2 < x ∧ x ≤ t + secT 3))).length
       if 2 * fanPpr f s ≤ n then fanRun f (s.setB (aFanStat f) 12 false)
       else
         (let s := s.bump (aFanSpd f) 8 8
          let s := if 5 ≤ s.f (aFanSpd f) 8 8 then (s.setB (aFanStat f) 12 true).setB (aFanStat f) 31 true else s
          nextWait f s))
      else s)
  | none => .next s

/-- RETRY_COUNT_RESET (R338): 60 s of running without a stall. -/
def execRetryCountReset (f : Fin 16) (s : State) : Host.Outcome State Fault Refusal :=
  .next (if domOn .brk s && decide (fanState f s = 1) then
    (let s := s.advTo ((fanSt f s).runAt + secT 60)
     setFan f { fanSt f s with waits := 0 } s)
    else s)

/-- R338: FAN.CLEAR_FAIL: the count is reset, FAN_FAILED clears, and a wait ends at once. -/
def clearFail (f : Nat) (s : State) : State :=
  if !domOn .brk s then s else
  let s := setFan f { fanSt f s with waits := 0 } (s.setB (aFanStat f) 12 false)
  let s := s.setF (aFanSpd f) 8 8 0
  if fanState f s = 2 then kickIfReady f (wantSupply f true (setFan f { fanSt f s with kickDue := true } s)) else s

/-- FAN_SPEED_REPORT (FAN_CFG.PEN): the speed, every 1 s, with OPEN in WAIT, KICK, TACH_LOST and while FAN_FAILED. -/
def execFanSpeedReport (f : Fin 16) (s : State) : Host.Outcome State Fault Refusal :=
  .next (if domOn .brk s && s.b (aFanCfg f) 31 && s.b (aFanCfg f) 15 then
    (let s := s.advTo (gridFrom s.rq.origin (secT 1) (afterLast (fanSt f s).reportAt s))
     let s := setFan f { fanSt f s with reportAt := some s.now } s
     let st := fanState f s
     let flags := if st = 2 ∨ st = 3 ∨ st = 4 ∨ s.b (aFanStat f) 12 then 128 else 0
     sendStream 10 3 (s.f (aFanCfg f) 0 8) 0 [BitVec.ofNat 64 (fanSpeed f s * 2 ^ 32 + flags)] s)
    else s)

/-! ### Safe state (R342) -/

/-- R342: the Bark die releases every FPWM pin: full duty, STATE SAFE, the stall procedure suspended. -/
def fansSafe (s : State) : State :=
  forRange 16 (fun f s =>
    if domOn .brk s && s.b (aFanCfg f) 31 then
      putDuty f 0x42C80000 (setFan f { fanSt f s with waitEnd := none, kickAt := none, kickDue := false } (putFanState f 5 s))
    else s) s

/-- R342: fan f leaves SAFE: the window restarts, the retry count is kept; not before the link to the Bark die carries valid
words again (R11). -/
def fanRelease (f : Nat) (s : State) : State :=
  if domOn .brk s && decide (fanState f s = 5) && !s.fab.barkSafe then applyFan f (restartWin f (putFanState f 0 s)) else s

/-- FAN_SAFECLR_WRITE (R342, R11). -/
def execFanSafeclrWrite (v : Word) (s : State) : Host.Outcome State Fault Refusal :=
  .next (forRange 16 (fun f s => if bit v f then fanRelease f s else s) s)

/-- R331, R342: firmware releases every unclaimed fan. -/
def releaseAllFans (s : State) : State := forRange 16 (fun f s => if claimed (fanRef f) s then s else fanRelease f s) s

/-! ### Register writes (R347) -/

/-- R347: a write of `v` at offset `off` of fan f is refused. FAN registers have no CFGERR bit. -/
def fanBad (off : Nat) (v : Word) : Bool :=
  if off = 0x04 then decide (fld v 24 8 < 5) || decide (100 < fld v 16 8) || decide (20000 < fld v 0 16)
  else if off = 0x10 then decide (100 < fld v 0 7)
  else false

/-- R347: a write to a register of fan f. -/
def fanWrite (f off : Nat) (v : Word) (s : State) : State :=
  if fanBad off v then s
  else
    let was := s.b (aFanCfg f) 31
    let s := plainWrite (aFanCfg f + off) v s
    if off = 0 then
      if s.b (aFanCfg f) 31 then applyFan f s
      else if was then fanOff f s else s
    else if off = 0x10 ∨ off = 0x04 then applyFan f s
    else s

end Sys2Proof.Machine
end

