-- ==== Sys2Proof/Machine/Energy.lean ====
section
/-! DEFINITION. Sys2Proof/Machine/Energy.lean: the energy scheduler (11): the budget, admission, leases, shedding. -/

namespace Sys2Proof.Machine

open Sys2Proof

/-! ### The budget (R355 to R358) -/

/-- R356: the power of a PDCLASS code in 10 mW. -/
def classPower (c : Nat) : Nat := [384, 649, 1300, 2550, 4000, 5100, 6200, 7130].getD c 0

/-- R355: VF in mV, the mean of the samples of the last 100 ms. -/
def vfMean (s : State) : Rat := if s.drv.vf = [] then 0 else mkRat (s.drv.vf.foldl (· + ·) 0) s.drv.vf.length

/-- Enabled Twig segments' ILIM in mA, summed (R357). -/
def twigLoad (s : State) : Nat :=
  ((List.range 5).filter (fun g => s.b (aTwigSegctl g) 31)).foldl (fun a g => a + s.f (aTwigSegctl g) 16 8) 0
/-- AO channels. -/
def aoCount (s : State) : Nat := ((List.range 48).filter (fun n => decide (drvMode n s = 4))).length
/-- Inputs in PULSE mode. -/
def pulseCount (s : State) : Nat := ((List.range 96).filter (fun n => decide (ainMode n s = 10))).length

/-- R357: I_FIX in mA. -/
def iFix (s : State) : Rat := 40 + mkRat (12 * pulseCount s) 10 + twigLoad s + (10 * aoCount s : Nat)

/-- R358: P_FIX in W. -/
def pFix (s : State) : Rat :=
  mkRat 40 1000 * (vfMean s / 1000) + mkRat (twigLoad s) 1000 + mkRat (15 * aoCount s) 100 + mkRat (24 * pulseCount s) 1000

/-- R365: the claim reserves in mA. -/
def reserves (s : State) : Nat :=
  (List.range 48).foldl (fun a n => if manOn n s then a + (if drvMode n s = 1 then 1200 else if drvMode n s = 2 then 800 else 0) else a) 0

/-- R358: ADMITTED in mA. -/
def admitted (s : State) : Nat :=
  (List.range 48).foldl (fun a n => match (chanSt n s).run with | some r => a + r.icur | none => a) (reserves s)

/-- VEQ in V (R358). -/
def veq (s : State) : Rat := mkRat (s.f aEschThcfg 24 8) 100

/-- R358: the ambient temperature: the named point when it is valid, else from the Bark die's mean less its rise. -/
def ambientNow (s : State) : Option F32 :=
  match (if s.b aEschCtl 30 then lvtValid (s.f aEschCtl 22 8) s else none) with
  | some v => some v
  | none =>
    if s.f (aThermDie 1) 16 4 = 0 then none
    else
      let tb := mkRat (signed 16 (s.f (aThermDie 1) 0 16)) 8
      let rise := mkRat (s.f aEschThcfg 16 8) 10 * (mkRat 45 100 + pFix s + veq s * mkRat (admitted s) 1000)
      some (f32OfRat (tb - rise))

/-- R358: Ta before the first estimate: taken at once; with no good Bark sensor it is a free value. -/
def settleTa (s : State) : State :=
  match s.drv.ta with
  | some _ => s
  | none =>
    match ambientNow s with
    | some v => { s with drv := { s.drv with ta := some v } }
    | none => let d := s.draw; { d.2 with drv := { d.2.drv with ta := some d.1 } }

/-- R358: P_TH in W, for the Ta that settleTa has left. -/
def pTh (s : State) : Rat :=
  let ta : Rat := match s.drv.ta with | some t => f32Rat t | none => 0
  let p := if ta ≤ 55 then mkRat 25 10 else if ta ≤ 70 then mkRat 25 10 - mkRat 8 100 * (ta - 55) else mkRat 13 10
  if s.f (aThermDie 1) 29 3 = 2 ∨ s.b (aThermDie 1) 28 then p / 2 else p

/-- R368: an allotment is in force: its value in mA. -/
def allotment (s : State) : Option Nat :=
  let last := s.f aEschAllot 16 16
  if last = 0xFFFF then none else some (if s.b aEschStat 26 then min last (s.f aEschAllot 0 16) else last)

/-- A term in whole mA, not below 0. -/
def termMa (q : Rat) : Nat := q.floor.toNat

/-- The terms of the budget: B_POE, B_VF, B_GROVE, B_TH (R355). -/
structure Budget where
  poe : Option Nat
  vfl : Nat
  grove : Option Nat
  th : Nat
deriving DecidableEq, Repr

/-- R355: the terms. -/
def budgetTerms (s : State) : Budget :=
  let fix := iFix s
  let p := mkRat (classPower (s.f aEschStat 17 3) - (s.f aEschPoecfg 22 10 + s.f aEschPoecfg 12 10) : Int) 100
  let poe := p * mkRat (s.f aEschPoecfg 0 7) 100 / (max (vfMean s) 18000 / 1000) * 1000 - fix
  ⟨if s.b aEschCtl 31 then some (termMa poe) else none, termMa (s.f aEschVflim 0 16 - fix),
   (allotment s).map (fun a => termMa (a - fix)), termMa ((pTh s - pFix s) / veq s * 1000)⟩

/-- R355: B and the term that sets it (LIMIT). -/
def budgetOf (b : Budget) (s : State) : Nat × Nat :=
  if vfrev s then (0, 5)
  else
    let terms : List (Nat × Nat) := (match b.poe with | some x => [(x, 1)] | none => []) ++ [(b.vfl, 2)] ++
      (match b.grove with | some x => [(x, 3)] | none => []) ++ [(b.th, 4)]
    terms.foldl (fun m t => if t.1 < m.1 then t else m) (terms.headD (0, 0))

/-- B as the last cycle left it. -/
def budget (s : State) : Nat := s.f aEschBud2 16 16

/-- Step 3: the budget registers. -/
def budgetStep (s : State) : State :=
  let s := settleTa s
  let b := budgetTerms s
  let r := budgetOf b s
  let s := s.setB aEschStat 25 (decide (s.f (aThermDie 1) 29 3 = 2) || s.b (aThermDie 1) 28)
  let s := s.setReg aEschBud0 (halves (b.poe.getD 0xFFFF) b.vfl)
  let s := s.setReg aEschBud1 (halves (b.grove.getD 0xFFFF) b.th)
  let s := s.setReg aEschBud2 (halves r.1 (iFix s).floor.toNat)
  let s := s.setF aEschStat 20 4 r.2
  s.setF aEschMeas 16 16 (roundRat (vfMean s / 10)).toNat

/-! ### Queue and admission -/

/-- R349, step 1: what arrived for channel n since the last cycle. -/
def takeArrivals (n : Nat) (s : State) : State :=
  let c := chanSt n s
  let s := if c.cancelRun then
      let move := match c.run with | some r => decide (r.kind = 0) | none => false
      let s := endRunning n s
      let c := chanSt n s
      setChan n { c with cancelRun := false, deadEnd := if move && !c.homing then some (s.now + msT 200) else c.deadEnd } s
    else s
  let c := chanSt n s
  let s := if c.cancelPend then setChan n { c with pend := none, aged := none, rejected := false, suspended := false, cancelPend := false } s else s
  let c := chanSt n s
  match c.fresh with
  | none => s
  | some r =>
    let kept := match c.keepJoin with | some k => some k | none => if c.pend.isSome && !c.rejected then some (c.joined, c.joinOrd) else none
    let j := kept.getD (s.now, s.drv.joinCtr)
    let s := { s with drv := { s.drv with joinCtr := s.drv.joinCtr + 1 } }
    let rej := decide (r.cls ≠ 0) && decide (budget s < r.icur)
    setChan n { c with fresh := none, pend := some r, joined := j.1, joinOrd := j.2, keepJoin := none, suspended := false,
                       aged := if c.pend.isSome then c.aged else none, rejected := rej && c.rejected } s

/-- Step 2: requests whose DUR has run out, R313 and TPM periods. -/
def takeEnds (n : Nat) (s : State) : State :=
  let s := match durationDue n s with | some t => if t ≤ s.now then durationEnd n s else s | none => s
  match (chanSt n s).tpmAt with
  | some t =>
    if t ≤ s.now ∧ drvMode n s = 1 ∧ drvLsub n s = 2 ∧ !isSafe n s ∧ !claimed (drvRef n) s ∧ (calOf n s).isNone then tpmPulse n (s.reg (aDrvDem n)) s else s
  | none => s

/-- The running channels whose request satisfies `p`, latest admitted first. -/
def runningBy (p : Req → Bool) (s : State) : List Nat :=
  let l := (List.range 48).filter (fun n => match (chanSt n s).run with | some r => p r | none => false)
  sortBy (fun a b => decide ((chanSt b s).admOrd ≤ (chanSt a s).admOrd)) l

/-- R366: the request of channel n is shed. -/
def shed (n : Nat) (s : State) : State :=
  let c := chanSt n s
  match c.run with
  | none => s
  | some r =>
    let s := endRunning n (calPaused n s)
    let s := (s.setB aEschStat 30 true).bump aEschCnt 16 16
    if r.kind = 0 then
      setChan n { chanSt n s with deadEnd := some (s.now + msT 200), keepJoin := some (c.joined, c.joinOrd), homing := false } s
    else if c.pend.isSome then s
    else setChan n { chanSt n s with pend := some r, aged := none, rejected := false, suspended := false } s

/-- R366, step 4: maintenance before comfort, the latest admitted first. -/
def shedStep (s : State) : State :=
  let order := runningBy (fun r => decide (r.cls = 2)) s ++ runningBy (fun r => decide (r.cls = 1)) s
  forEach order (fun n s => if budget s < admitted s then shed n s else s) s

/-- R362: the wait after which a request is aged. -/
def ageLimit (r : Req) : Nat := if r.dur = 0 then secT 60 else msT (4 * r.dur)

/-- R362: the pending request of channel n is aged. -/
def markAged (n : Nat) (s : State) : State :=
  let s := setChan n { chanSt n s with aged := some s.drv.ageCtr } { s with drv := { s.drv with ageCtr := s.drv.ageCtr + 1 } }
  (s.setB aEschStat 28 true).bump aEschCnt 0 8

/-- R360, step 5: rejection and re-check. -/
def rejectStep (n : Nat) (s : State) : State :=
  let c := chanSt n s
  match c.pend with
  | none => s
  | some r =>
    if r.cls = 0 then (if c.rejected then setChan n { c with rejected := false } s else s)
    else if budget s < r.icur then
      if c.rejected then s
      else ((setChan n { c with rejected := true, aged := none } s).setB aEschStat 29 true).bump aEschCnt 8 8
    else if c.rejected then
      setChan n { c with rejected := false, joined := s.now, joinOrd := s.drv.joinCtr } { s with drv := { s.drv with joinCtr := s.drv.joinCtr + 1 } }
    else if c.aged.isNone ∧ c.joined + ageLimit r ≤ s.now then markAged n s
    else s

/-- R359, R361: the queue in order: safety, then aged in the order of aging, then in join order. -/
def queueOrder (s : State) : List Nat :=
  let q := (List.range 48).filter (fun n => (chanSt n s).pend.isSome && !(chanSt n s).rejected)
  let safety := q.filter (fun n => match (chanSt n s).pend with | some r => decide (r.cls = 0) | none => false)
  let rest := q.filter (fun n => match (chanSt n s).pend with | some r => decide (r.cls ≠ 0) | none => false)
  let byJoin := fun (l : List Nat) => sortBy (fun a b => decide ((chanSt a s).joined < (chanSt b s).joined ∨
    ((chanSt a s).joined = (chanSt b s).joined ∧ (chanSt a s).joinOrd ≤ (chanSt b s).joinOrd))) l
  let aged := sortBy (fun a b => decide ((chanSt a s).aged.getD 0 ≤ (chanSt b s).aged.getD 0)) (rest.filter (fun n => (chanSt n s).aged.isSome))
  byJoin safety ++ aged ++ byJoin (rest.filter (fun n => (chanSt n s).aged.isNone))

/-- R361: the request of channel n is a motor start. -/
def motorStart (n : Nat) (r : Req) (s : State) : Bool := decide (r.kind = 0) || s.b (aEschMod n) 31
/-- SPACING in ticks. -/
def spacing (s : State) : Nat := msT (max 1 (s.f aEschCtl 14 8))
/-- R361: start spacing allows the request. -/
def spaced (n : Nat) (r : Req) (s : State) : Bool :=
  !motorStart n r s || (match s.drv.lastMotor with | some t => decide (t + spacing s ≤ s.now) | none => true)

/-- R361: ADMITTED with the request in place of the one it replaces. -/
def admittedWith (n : Nat) (r : Req) (s : State) : Nat :=
  admitted s + r.icur - (match (chanSt n s).run with | some o => o.icur | none => 0)

/-- LEASE in ticks. -/
def leaseT (s : State) : Nat := secT (s.f aEschCtl 6 8)

/-- R22, R361: the pending request of channel n is admitted and sent to the Bark stage. -/
def admitOne (n : Nat) (r : Req) (s : State) : State :=
  let c := chanSt n s
  let s := setChan n { c with pend := none, aged := none, rejected := false, suspended := false, run := some r, admAt := s.now,
                              admOrd := s.drv.admCtr, leaseEnd := s.now + leaseT s } s
  let s := { s with drv := { s.drv with admCtr := s.drv.admCtr + 1, lastMotor := if motorStart n r s then some s.now else s.drv.lastMotor } }
  sendStream 9 10 (512 + n) (BitVec.ofNat 32 (((r.kind * 4 + r.cls) * 2 + r.dir.toNat) * 2 ^ 27 + r.icur / 2 * 2 ^ 17 + r.dur)) [] s

/-- R359 to R361: the scan of the queue; `blocked`: the aged head does not fit. -/
def admitScan : List Nat → Bool → Bool → State → State
  | [], _, _, s => s
  | n :: t, first, blocked, s =>
    match (chanSt n s).pend with
    | none => admitScan t first blocked s
    | some r =>
      if r.cls = 0 then
        admitScan t first blocked (if spaced n r s && stageReady n s then admitOne n r s else s)
      else
        let fits := decide (admittedWith n r s ≤ budget s)
        let blocked := blocked || (first && (chanSt n s).aged.isSome && !fits)
        admitScan t false blocked (if !blocked && fits && spaced n r s && stageReady n s then admitOne n r s else s)

/-- R361, R363: the head of the queue is aged and does not fit. -/
def headBlocked (s : State) : Bool :=
  match (queueOrder s).filter (fun n => match (chanSt n s).pend with | some r => decide (r.cls ≠ 0) | none => false) with
  | n :: _ => (match (chanSt n s).pend with
    | some r => (chanSt n s).aged.isSome && !decide (admittedWith n r s ≤ budget s)
    | none => false)
  | [] => false

/-- R363: the request of channel n is suspended: off, and at the tail of the queue. -/
def suspend (n : Nat) (s : State) : State :=
  match (chanSt n s).run with
  | none => s
  | some r =>
    let s := endRunning n s
    if (chanSt n s).pend.isSome then s else
    setChan n { chanSt n s with pend := some r, joined := s.now, joinOrd := s.drv.joinCtr, aged := none, rejected := false, suspended := true }
      { s with drv := { s.drv with joinCtr := s.drv.joinCtr + 1 } }

/-- R363: the leases of the listed channels end: renewed, or suspended while an aged head does not fit. -/
def leaseEnds (l : List Nat) (s : State) : State :=
  forEach l (fun n s =>
    match (chanSt n s).run with
    | some r => if r.cls ≠ 0 ∧ headBlocked s then suspend n s else setChan n { chanSt n s with leaseEnd := s.now + leaseT s } s
    | none => s) s

/-- The leased requests whose lease has ended, in the order in which they would be suspended. -/
def expiring (s : State) : List Nat :=
  let due := fun (cls : Nat) => (runningBy (fun r => decide (r.kind = 1 ∧ r.dur = 0 ∧ r.cls = cls)) s).filter (fun n => decide ((chanSt n s).leaseEnd ≤ s.now))
  due 2 ++ due 1 ++ due 0

/-- The registers that show the requests. -/
def showRequests (s : State) : State :=
  let s := forRange 48 (fun n s =>
    let c := chanSt n s
    let w : Nat := match c.run, c.pend with
      | some r, _ => 3 * 2 ^ 29 + r.cls * 2 ^ 27 + r.kind * 2 ^ 25 + r.icur / 2 * 2 ^ 15
      | none, some r =>
        (if c.rejected then 4 else if c.suspended then 5 else if c.aged.isSome then 2 else 1) * 2 ^ 29 + r.cls * 2 ^ 27 + r.kind * 2 ^ 25
          + r.icur / 2 * 2 ^ 15 + min 0x7FFF ((s.now - c.joined) / msT 100)
      | none, none => 0
    s.setReg (aEschReq n) (BitVec.ofNat 32 w)) s
  let q := ((List.range 48).filter (fun n => (chanSt n s).pend.isSome && !(chanSt n s).rejected)).length
  let r := ((List.range 48).filter (fun n => (chanSt n s).run.isSome)).length
  let s := (s.setF aEschStat 8 7 q).setF aEschStat 0 7 r
  s.setReg aEschBud3 (halves (min 65535 (admitted s)) (min 65535 (reserves s)))

/-- R317: the position estimate of a moving pair, updated every 10 ms. -/
def trackPos (n : Nat) (s : State) : State :=
  if stageOn n s ∧ drvMode n s = 2 then s.setReg (aDrvPos n) (movedPos n (ranMs n s / 10 * 10) s) else s

/-- R353: one cycle. -/
def cycle (s : State) : State :=
  let s := forRange 48 takeArrivals s
  let s := forRange 48 takeEnds s
  let s := shedStep (budgetStep s)
  let s := forRange 48 rejectStep s
  let s := leaseEnds (expiring s) s
  let s := admitScan (queueOrder s) true false s
  let s := forRange 16 kickIfReady s
  showRequests (forRange 48 trackPos s)

/-- SCHEDULER_CYCLE (R353): every 1 ms; `vfMv` is the sample of the VFIELD monitor, `ma` the current readings of the stages
(R324; log entry 151). -/
def execSchedulerCycle (r : CycleReadings) (s : State) : Host.Outcome State Fault Refusal :=
  let s := s.advTo (s.drv.cycleAt + msT 1)
  let s := { s with drv := { s.drv with cycleAt := s.now, vf := (r.vfMv :: s.drv.vf).take 100 } }
  .next (cycle (forRange 48 safeLswStart (forRange 16 noteBand (readStages r.ma s))))

/-- REQUEST_DURATION_END (R353): the DUR of a running request runs out; it is removed at that cycle. -/
def execRequestDurationEnd (n : Fin 48) (s : State) : Host.Outcome State Fault Refusal :=
  .next (match durationDue n s with
    | some t => showRequests (durationEnd n (s.advTo t))
    | none => s)

/-- REQUEST_AGED (R362): the pending request has waited 4 × DUR. -/
def execRequestAged (n : Fin 48) (s : State) : Host.Outcome State Fault Refusal :=
  let c := chanSt n s
  .next (match c.pend with
    | some r => if c.rejected || c.aged.isSome || decide (r.cls = 0) then s else showRequests (markAged n (s.advTo (c.joined + ageLimit r)))
    | none => s)

/-- LEASE_END (R363). -/
def execLeaseEnd (n : Fin 48) (s : State) : Host.Outcome State Fault Refusal :=
  let c := chanSt n s
  .next (match c.run with
    | some r => if r.kind = 1 ∧ r.dur = 0 then showRequests (let s := s.advTo c.leaseEnd; leaseEnds (expiring s) s) else s
    | none => s)

/-- MOVE_DEAD_TIME_END (R319, R366): 200 ms after a cancelled or shed MOVE a new one is formed from the updated p. -/
def execMoveDeadTimeEnd (n : Fin 48) (s : State) : Host.Outcome State Fault Refusal :=
  .next (match (chanSt n s).deadEnd with
    | some t =>
      let s := s.advTo t
      let s := setChan n { chanSt n s with deadEnd := none } s
      match calOf n s with
      | some r => calRequest r s
      | none =>
        let s := applyDemand n s
        if (chanSt n s).fresh.isSome then s else setChan n { chanSt n s with keepJoin := none } s
    | none => s)

/-- PDCLASS_CHANGE (R356): a new pin value has been stable for 10 ms. -/
def execPdclassChange (cls : Fin 8) (s : State) : Host.Outcome State Fault Refusal :=
  .next (if s.f aEschStat 17 3 = cls.val then s else (s.setF aEschStat 17 3 cls.val).setB aEschStat 27 true)

/-- R368: an allotment arrives. -/
def allotArrives (ma : Nat) (s : State) : State :=
  let s := (s.setF aEschAllot 16 16 ma).setB aEschStat 26 false
  { s with drv := { s.drv with allotAt := some s.now } }

/-- ALLOTMENT_TIMEOUT (R368): no allotment for 5 s. -/
def execAllotmentTimeout (s : State) : Host.Outcome State Fault Refusal :=
  .next (match s.drv.allotAt with
    | some t => (s.advTo (t + secT 5)).setB aEschStat 26 true
    | none => s)

/-- R358: the next of the estimates, every 100 ms, is due. -/
def ambientTick (s : State) : State :=
  let s := s.advTo (s.drv.taAt + msT 100)
  { s with drv := { s.drv with taAt := s.now } }

/-- AMBIENT_ESTIMATE (R358). -/
def execAmbientEstimate (s : State) : Host.Outcome State Fault Refusal :=
  .next (match ambientNow (ambientTick s) with
    | some v =>
      let s := ambientTick s
      ({ s with drv := { s.drv with ta := some v } }).setF aEschMeas 8 8 (lowBits 8 (max (-128) (min 127 (f32Round v))))
    | none => ambientTick s)

/-! ### Writes of the ESCH registers (R370) -/

/-- R370: the write would set a field outside its range. -/
def eschBad (a : Nat) (v : Word) : Bool :=
  if a = aEschCtl then decide (fld v 6 8 < 10)
  else if a = aEschPoecfg then decide (fld v 0 7 < 50) || decide (100 < fld v 0 7)
  else if a = aEschVflim then decide (fld v 0 16 < 100) || decide (4000 < fld v 0 16)
  else if a = aEschAllot then decide (4000 < fld v 0 16) && decide (fld v 0 16 ≠ 0xFFFF)
  else if a = aEschThcfg then decide (fld v 24 8 < 10) || decide (fld v 16 8 = 0)
  else if aEschMod 0 ≤ a then decide ((a - aEschMod 0) % 8 = 0) && decide (2046 < fld v 16 12)
  else false

/-- R370: a write of an ESCH register: one out of range changes nothing and sets CFGERR. -/
def eschWrite (a : Nat) (v : Word) (s : State) : State :=
  if eschBad a v then s.setB aEschStat 31 true else plainWrite a v s

end Sys2Proof.Machine
end

