-- ==== Sys2Proof/Machine/Buses.lean ====
section
/-! DEFINITION. Sys2Proof/Machine/Buses.lean: the RS-485 ports (12): configuration, MS/TP data link, Modbus master, raw
UART. -/

namespace Sys2Proof.Machine

open Sys2Proof

/-- Hidden state of port p. -/
def busPort (p : Nat) (s : State) : BusPort := tblGet busPort0 s.bus.port p
/-- Set the hidden state of port p. -/
def setPort (p : Nat) (v : BusPort) (s : State) : State := { s with bus := { s.bus with port := tblSet busPort0 s.bus.port p v } }
/-- MODE of port p. -/
def portMode (p : Nat) (s : State) : Nat := s.f (aBusPcfg p) 29 3
/-- ADDR of port p. -/
def portAddr (p : Nat) (s : State) : Nat := s.f (aBusPcfg p) 0 8
/-- Frames go onto the bus. -/
def busSend (p : Nat) (fs : List (List Byte)) (s : State) : State := setPort p { busPort p s with out := fs } s
/-- An invalid frame counts (CRCCNT). -/
def badFrame (p : Nat) (s : State) : State := s.bump (aBusPcnt p) 16 8

/-! ### Configuration (R373, R374, R392) -/

/-- R373: RATE and FMT allowed for MODE. -/
def rateFmtOk (mode rate fmt : Nat) : Bool :=
  match mode with
  | 1 => decide (3 ≤ rate ∧ rate ≤ 8) && decide (fmt = 0)
  | 2 => decide (3 ≤ rate ∧ rate ≤ 9) && decide (fmt ≠ 0)
  | 3 => decide (3 ≤ rate ∧ rate ≤ 9) && decide (fmt ≠ 0)
  | _ => decide (rate ≤ 9)

/-- R392: a write to BUS_PCFGp is refused. -/
def pcfgBad (p : Nat) (v : Word) (s : State) : Bool :=
  let m := fld v 29 3
  decide (4 < m) || decide (9 < fld v 25 4) || !rateFmtOk m (fld v 25 4) (fld v 23 2) ||
  (decide (m = 1) && decide (127 < fld v 0 8)) || (decide (m = 3) && (decide (fld v 0 8 = 0) || decide (247 < fld v 0 8))) ||
  (decide (m = 1) && (List.range 6).any (fun q => decide (q ≠ p) && decide (portMode q s = 1)))

/-- R374, R384: the poll rounds of port p start afresh. -/
def forgetRounds (p : Nat) (s : State) : State :=
  forRange 32 (fun k s => if s.f (aBusMbp0 k) 28 3 = p then { s with bus := { s.bus with polled := tblSet none s.bus.polled k none } } else s) s

/-- R374: the port restarts in its new setting and keeps no state from the old one; NEXTST starts at the port's own
address in MS/TP. -/
def portRestart (p : Nat) (s : State) : State :=
  let s := setPort p { busPort0 with tmo := (busPort p s).tmo, pollSt := portAddr p s } s
  let s := forgetRounds p s
  let s := ((s.setB (aBusPstat p) 30 false).setB (aBusPstat p) 29 false).setF (aBusPstat p) 8 9 0
  s.setF (aBusPstat p) 0 8 (if portMode p s = 1 then portAddr p s else 0)

/-! ### Serial frames (R373, R381) -/

/-- R373: the rates in bit/s. -/
def rates : List Nat := [1200, 2400, 4800, 9600, 19200, 38400, 57600, 76800, 115200, 230400]
/-- The time of one character on port p in ticks: 10 bits in 8N1, else 11. -/
def charT (p : Nat) (s : State) : Nat :=
  20000000 * (if s.f (aBusPcfg p) 23 2 = 0 then 10 else 11) / nth rates (s.f (aBusPcfg p) 25 4) 1200
/-- R381: the silence that ends a Modbus frame: 3.5 characters, 1.750 ms above 19,200 bit/s. -/
def frameGap (p : Nat) (s : State) : Nat := if 4 < s.f (aBusPcfg p) 25 4 then 35000 else 7 * charT p s / 2
/-- R381: a silence inside a frame that makes it invalid: above 1.5 characters, 750 µs above 19,200 bit/s. -/
def gapBad (p gapUs : Nat) (s : State) : Bool :=
  if 4 < s.f (aBusPcfg p) 25 4 then decide (750 < gapUs) else decide (3 * charT p s < 40 * gapUs)
/-- Framing and parity errors count (FERR). -/
def countErrs (p : Nat) (f : SerialFrame) (s : State) : State := forRange f.errs (fun _ s => s.bump (aBusPcnt p) 24 8) s

/-! ### MS/TP (R375 to R377) -/

/-- Header check of MS/TP: CRC-8 of the data link of ANSI/ASHRAE 135 clause 9 (polynomial x⁸ + x⁷ + 1, reflected 0x81,
initial value 0xFF, sent inverted; log entry 15). -/
def mstpCrc8 (bs : List Byte) : Nat := 255 - crcR 0x81 0xFF bs
/-- The CRC-16 of an MS/TP data part, reflected 0x1021, initial value 0xFFFF, sent inverted. -/
def mstpCrc16 (bs : List Byte) : Nat := 65535 - crcR 0x8408 0xFFFF bs

/-- An MS/TP frame. -/
def mstpFrame (ty : Nat) (dst src : Byte) (data : List Byte) : List Byte :=
  let h : List Byte := [BitVec.ofNat 8 ty, dst, src] ++ beBytes 2 data.length
  [0x55, 0xFF] ++ h ++ [BitVec.ofNat 8 (mstpCrc8 h)] ++ (if data = [] then [] else data ++ leBytes 2 (mstpCrc16 data))

/-- A valid MS/TP frame: type, destination, source, data. -/
def mstpParse (f : List Byte) : Option (Nat × Byte × Byte × List Byte) :=
  match f with
  | 0x55 :: 0xFF :: ty :: dst :: src :: lh :: ll :: hc :: rest =>
    let h := [ty, dst, src, lh, ll]
    let n := beNat [lh, ll]
    if hc.toNat ≠ mstpCrc8 h then none
    else if n = 0 then (if rest = [] then some (ty.toNat, dst, src, []) else none)
    else if rest.length ≠ n + 2 ∨ leNat (rest.drop n) ≠ mstpCrc16 (rest.take n) then none
    else some (ty.toNat, dst, src, rest.take n)
  | _ => none

/-- Max_Master. -/
def maxMaster (p : Nat) (s : State) : Nat := max 1 (s.f (aBusPcfg p) 14 7)
/-- The address after `a` in the ring of addresses. -/
def nextAddr (p a : Nat) (s : State) : Nat := if maxMaster p s ≤ a then 0 else a + 1

/-- A frame without data from port p: 0 Token, 1 Poll For Master, 2 Reply To Poll For Master. -/
def mstpControl (p ty dst : Nat) (s : State) : List Byte := mstpFrame ty (BitVec.ofNat 8 dst) (BitVec.ofNat 8 (portAddr p s)) []
/-- Next_Station of port p. -/
def nextStation (p : Nat) (s : State) : Nat := s.f (aBusPstat p) 0 8

/-- R375: the token goes to the next station. -/
def passToken (p : Nat) (again : Bool) (s : State) : State :=
  setPort p { busPort p s with token := 1, again := again, out := [mstpControl p 0 (nextStation p s) s] } s

/-- R375: station ps is polled for a master. -/
def pollMaster (p ps : Nat) (s : State) : State :=
  setPort p { busPort p s with token := 2, pollSt := ps, out := [mstpControl p 1 ps s] } s

/-- R375: the port holds the token: up to Max_Info_Frames messages leave, then it polls for masters while it knows no
successor and after every 50 tokens, else it passes the token on; the only master keeps it (log entry 15). -/
def useToken (p : Nat) (s : State) : State :=
  let b := busPort p s
  let n := s.f (aBusPcfg p) 10 4 + 1
  let s : State := { s with bus := { s.bus with sent := b.queue.take n } }
  let s := setPort p { b with queue := b.queue.drop n, token := 3, out := [] } (s.setB (aBusPstat p) 29 true)
  let me := portAddr p s
  let ns := nextStation p s
  let c := nextAddr p b.pollSt s
  if ns = me ∧ b.sole = false then pollMaster p (nextAddr p me s) s
  else if b.tokens < 49 then
    let s := setPort p { busPort p s with tokens := b.tokens + 1 } s
    if b.sole then s else passToken p false s
  else if c ≠ ns then pollMaster p c s
  else if b.sole then pollMaster p (nextAddr p ns s) (setPort p { busPort p s with tokens := 1 } s)
  else passToken p false (setPort p { busPort p s with tokens := 1, pollSt := me } s)

/-- R375: no frame has come for `ms` milliseconds: a token that nobody uses within 20 ms is passed once more and then
taken elsewhere, a poll without reply goes on, and after 500 ms the token is lost, which counts in TMOCNT; the port of
address a makes a new one after 10·a ms more (times of the standard, log entry 15). -/
def mstpQuiet (p ms : Nat) (s : State) : State :=
  let b := busPort p s
  let me := portAddr p s
  let ns := nextStation p s
  match b.token with
  | 0 =>
    if ms < 500 then s
    else
      let s := (s.bump (aBusPcnt p) 8 8).setB (aBusPstat p) 29 false
      if ms < 500 + 10 * me then s
      else pollMaster p (nextAddr p me s) (setPort p { busPort p s with tokens := 0, sole := false } (s.setF (aBusPstat p) 0 8 me))
  | 1 =>
    if ms < 20 then s
    else if b.again then pollMaster p (nextAddr p ns s) (setPort p { b with tokens := 0 } (s.setF (aBusPstat p) 0 8 me))
    else passToken p true s
  | 2 =>
    if ms < 20 then s
    else if b.sole then useToken p s
    else if ns ≠ me then passToken p false s
    else if nextAddr p b.pollSt s ≠ me then pollMaster p (nextAddr p b.pollSt s) s
    else useToken p (setPort p { b with sole := true } s)
  | _ => useToken p s

/-- R375: a frame of another station shows that the token is in use elsewhere. -/
def tokenElsewhere (p : Nat) (s : State) : State :=
  let b := busPort p s
  setPort p { b with token := 0, again := false, sole := b.sole && decide (b.token ≠ 3) } s

/-- R375 to R377: a valid frame. -/
def mstpTake (p ty : Nat) (dst src : Byte) (data : List Byte) (s : State) : State :=
  let me := BitVec.ofNat 8 (portAddr p s)
  if src = me then
    ringEvent 9 ((s.setB (aBusPstat p) 30 true).setB (aBusPstat p) 29 false)
  else if dst ≠ me ∧ dst ≠ 0xFF then s
  else
    match ty with
    | 0 => if dst = me then useToken p (setPort p { busPort p s with sole := false } s) else s
    | 1 => if dst = me then busSend p [mstpControl p 2 src.toNat s] s else s
    | 2 => s
    | 3 => if dst = me then busSend p [mstpFrame 4 src me data] s else s
    | 4 => s
    | 5 =>
      if dst = me then
        if ready s then setPort p { busPort p s with npdu := some (src, data), expecting := some src } s
        else busSend p [mstpFrame 7 src me []] s
      else s
    | 6 => if ready s then setPort p { busPort p s with npdu := some (src, data) } s else s
    | _ => s

/-- R375: a reply to the poll for masters makes its sender the next station, which gets the token. -/
def takeSuccessor (p : Nat) (src : Byte) (s : State) : State :=
  let s := s.setF (aBusPstat p) 0 8 src.toNat
  passToken p false (setPort p { busPort p s with sole := false, pollSt := portAddr p s, tokens := 0 } s)

/-- R375 to R377: a frame: extended frame types and NPDUs above 501 octets are invalid and counted. A port with DUPMAC
sends nothing and answers nothing. -/
def mstpReceive (p : Nat) (frame : SerialFrame) (s : State) : State :=
  let s := countErrs p frame s
  match mstpParse frame.bytes with
  | none => badFrame p s
  | some (ty, dst, src, data) =>
    if 7 < ty ∨ 501 < data.length ∨ frame.errs ≠ 0 then badFrame p s
    else if s.b (aBusPstat p) 30 then s
    else if ty = 2 ∧ dst.toNat = portAddr p s ∧ src ≠ dst ∧ (busPort p s).token = 2 then takeSuccessor p src s
    else mstpTake p ty dst src data (tokenElsewhere p s)

/-- MSTP_FRAME_RECEIVE (R375 to R377): a frame after `quietMs` without one; an empty frame is the silence alone. -/
def execMstpFrameReceive (p : Fin 6) (r : MstpFrame) (s : State) : Host.Outcome State Fault Refusal :=
  .next (if domOn .bus s && decide (portMode p s = 1) then
    (let s := busSend p [] (s.advTo (s.now + msT r.quietMs))
     let s := if s.b (aBusPstat p) 30 then s else mstpQuiet p r.quietMs s
     if r.frame.bytes = [] then s else mstpReceive p r.frame s)
    else s)

/-! ### Writing the configuration (R374) -/

/-- R374: the token that a port in MS/TP holds, for its next station. -/
def tokenHeld (p : Nat) (s : State) : List (List Byte) :=
  if portMode p s = 1 ∧ 2 ≤ (busPort p s).token ∧ nextStation p s ≠ portAddr p s ∧ s.b (aBusPstat p) 30 = false
  then [mstpControl p 0 (nextStation p s) s] else []

/-- R374, R376, R392: a write to BUS_PCFGp. A frame is whole in one step, so the change takes effect at once; a token held
is passed first. -/
def pcfgWrite (p : Nat) (v : Word) (s : State) : State :=
  if pcfgBad p v s then s.setB (aBusPstat p) 31 true
  else
    let old := s.reg (aBusPcfg p)
    let l := tokenHeld p s
    let s := plainWrite (aBusPcfg p) v s
    let new := s.reg (aBusPcfg p)
    if fld old 23 9 ≠ fld new 23 9 ∨ fld old 0 8 ≠ fld new 0 8 then busSend p l (portRestart p s)
    else s.setB (aBusPstat p) 30 false

/-- PORT_CONFIG_WRITE (R374, R392). -/
def execPortConfigWrite (p : Fin 6) (v : Word) (s : State) : Host.Outcome State Fault Refusal :=
  .next (if domOn .bus s then pcfgWrite p v s else s)

/-! ### Raw UART (R386) -/

/-- RXFILL follows the receive buffer. -/
def showFill (p : Nat) (s : State) : State := s.setF (aBusPstat p) 8 9 (busPort p s).rx.length

/-- RAW_BYTE_RECEIVE (R386). -/
def execRawByteReceive (p : Fin 6) (byte : Byte) (err : Bool) (s : State) : Host.Outcome State Fault Refusal :=
  .next (if domOn .bus s && decide (portMode p s = 4) then
    (let b := busPort p s
     if 256 ≤ b.rx.length then s.bump (aBusPcnt p) 0 4
     else
       (let s := showFill p (setPort p { b with rx := b.rx ++ [byte] } s)
        if err then s.bump (aBusPcnt p) 24 8 else s))
    else s)

/-! ### Modbus master (R384, R385) -/

/-- A Modbus frame with its CRC, low byte first (R381). -/
def mbFrame (bs : List Byte) : List Byte := bs ++ leBytes 2 (crc16Modbus bs)

/-- The body of a frame whose CRC holds. -/
def mbParse (f : List Byte) : Option (List Byte) :=
  if f.length < 4 then none
  else if leNat (f.drop (f.length - 2)) = crc16Modbus (f.take (f.length - 2)) then some (f.take (f.length - 2)) else none

/-- Poll-list entry k: slave, function, start register, registers. -/
def mbpSlave (k : Nat) (s : State) : Nat := s.f (aBusMbp0 k) 16 8
/-- FUNC. -/
def mbpFunc (k : Nat) (s : State) : Nat := 3 + s.f (aBusMbp0 k) 27 1
/-- FMT. -/
def mbpFmt (k : Nat) (s : State) : Nat := s.f (aBusMbp0 k) 24 3
/-- Registers of an entry. -/
def mbpRegs (k : Nat) (s : State) : Nat := if mbpFmt k s < 2 then 1 else 2
/-- PERIOD in ticks. -/
def mbpPeriod (k : Nat) (s : State) : Nat := msT (10 * s.f (aBusMbp1 k) 0 16)

/-- R384, R385: the request of entry k goes out `gap` ticks from now. -/
def pollSend (p k : Nat) (again : Bool) (gap : Nat) (s : State) : State :=
  let f := mbFrame ([BitVec.ofNat 8 (mbpSlave k s), BitVec.ofNat 8 (mbpFunc k s)] ++ beBytes 2 (s.f (aBusMbp1 k) 16 16) ++ beBytes 2 (mbpRegs k s))
  setPort p { busPort p s with await := some (k, again, s.now + gap + f.length * charT p s), out := [f] } s

/-- The next entry of the round, `gap` ticks from now. -/
def pollNext (p gap : Nat) (s : State) : State :=
  let b := busPort p s
  match b.todo with
  | [] => setPort p { b with await := none } s
  | k :: t => pollSend p k false gap (setPort p { b with todo := t } s)

/-- R384: entry k starts a round at this time: its PERIOD after its last start. -/
def entryDue (k : Nat) (s : State) : Nat :=
  match tblGet none s.bus.polled k with
  | some t => t + mbpPeriod k s
  | none => 0

/-- MODBUS_POLL_ROUND (R384): the entries of port p whose PERIOD is over, in ascending k. -/
def execModbusPollRound (p : Fin 6) (s : State) : Host.Outcome State Fault Refusal :=
  .next (if domOn .bus s && decide (portMode p s = 2) && (busPort p s).await.isNone then
    (let mine := (List.range 32).filter (fun k => s.b (aBusMbp0 k) 31 && decide (s.f (aBusMbp0 k) 28 3 = p.val) && decide (mbpFmt k s ≤ 5))
     match mine with
     | [] => s
     | k0 :: t =>
       let due := t.foldl (fun m k => min m (entryDue k s)) (entryDue k0 s)
       let s := s.advTo due
       let l := mine.filter (fun k => decide (entryDue k s ≤ s.now))
       let s := forEach l (fun k s => { s with bus := { s.bus with polled := tblSet none s.bus.polled k (some s.now) } }) s
       pollNext p 0 (setPort p { busPort p s with todo := l } s))
    else s)

/-- R384: the raw value of a reply and whether OVR is set. -/
def pollRaw (fmt : Nat) (data : List Byte) : Int × Bool :=
  let lim : Int := 2147483647
  let w := beNat data
  match fmt with
  | 0 => (signed 16 w, false)
  | 1 => (w, false)
  | 2 => (signed 32 w, false)
  | 3 => if lim < (w : Int) then (lim, true) else (w, false)
  | _ =>
    let v : F32 := BitVec.ofNat 32 (if fmt = 5 then beNat (data.drop 2 ++ data.take 2) else w)
    if !f32Fin v then (0, true)
    else
      let r := roundRat (f32Rat v * 1000)
      if lim < r then (lim, true) else if r < -lim then (-lim, true) else (r, false)

/-- R385: the entry in hand fails: raw 0 with OPEN. -/
def pollFail (p k gap : Nat) (s : State) : State := pollNext p gap (sendRaw (s.f (aBusMbp0 k) 0 8) 0 128 s)

/-- R384, R385: the frame `bs` (without its CRC) answers entry k, or it is invalid. -/
def masterTake (p k : Nat) (bs : List Byte) (s : State) : State :=
  let slave := (bs.headD 0).toNat
  let fn := (bs.getD 1 0).toNat
  let data := bs.drop 3
  if slave ≠ mbpSlave k s then badFrame p s
  else if fn = mbpFunc k s + 128 then pollFail p k 0 (s.bump (aBusPcnt p) 4 4)
  else if fn = mbpFunc k s ∧ (bs.getD 2 0).toNat = 2 * mbpRegs k s ∧ data.length = 2 * mbpRegs k s then
    (let r := pollRaw (mbpFmt k s) data
     pollNext p 0 (sendRaw (s.f (aBusMbp0 k) 0 8) r.1 (if r.2 then 64 else 0) s))
  else badFrame p s

/-- R381: the body of a Modbus frame at port p: none when a silence inside it, a character or its CRC makes it invalid. -/
def mbBody (p : Nat) (f : SerialFrame) (s : State) : Option (List Byte) :=
  if f.errs ≠ 0 ∨ gapBad p f.gapUs s = true then none else mbParse f.bytes

/-- MODBUS_MASTER_REPLY (R384, R385): the reply to the request in hand, once the silence of R381 has ended it; a frame that is
no valid reply counts as invalid and the entry goes on waiting, and one that ends after TMO comes too late. -/
def execModbusMasterReply (p : Fin 6) (frame : SerialFrame) (s : State) : Host.Outcome State Fault Refusal :=
  .next (if domOn .bus s && decide (portMode p s = 2) then
    (match (busPort p s).await with
     | none => s
     | some (k, _, t) =>
       let s := countErrs p frame (s.advTo (t + frame.bytes.length * charT p s + frameGap p s))
       if t + msT (busPort p s).tmo + frameGap p s < s.now then s
       else match mbBody p frame s with
         | none => badFrame p s
         | some bs => masterTake p k bs s)
    else s)

/-- MODBUS_MASTER_TIMEOUT (R385): no valid reply within TMO of the request's end: the request is repeated once, then the entry
fails; the next request keeps the silence of R381 after the timeout. -/
def execModbusMasterTimeout (p : Fin 6) (s : State) : Host.Outcome State Fault Refusal :=
  .next (if domOn .bus s && decide (portMode p s = 2) then
    (match (busPort p s).await with
     | none => s
     | some (k, again, t) =>
       let s := s.advTo (t + msT (busPort p s).tmo)
       if again then pollFail p k (frameGap p s) (s.bump (aBusPcnt p) 8 8) else pollSend p k true (frameGap p s) s)
    else s)

end Sys2Proof.Machine
end

