-- ==== Sys2Proof/Machine/Graft.lean ====
section
/-! DEFINITION. Sys2Proof/Machine/Graft.lean: the Graft link (13): ports, ordered sets, frames, credits, routes,
acknowledgement, joining. -/

namespace Sys2Proof.Machine

open Sys2Proof

/-- The role strap (R407): 0 standalone, 1 member, 2 standby master, 3 master. -/
def grRole (s : State) : Nat := s.f aSysStrap 4 2
/-- STATE: 0 OFF, 1 LISTEN, 2 JOINED, 3 OUT (R408). -/
def grState (s : State) : Nat := s.f aGraftStat 24 2
/-- The node's identifier in the grove. -/
def myNode (s : State) : Nat := s.f aGraftCtl 16 4
/-- This node acts as master (R407, R410). -/
def acting (s : State) : Bool := s.b aGraftStat 17
/-- LINK of port p: 0 DOWN, 1 TRAINING, 2 UP. -/
def grLink (p : Nat) (s : State) : Nat := s.f (aGraftPort p) 30 2
/-- The device identifier as one number: part number 0x9648 and serial number (R399, R566). -/
def myIdent : Nat := 0x9648 * 2 ^ 48 + Config.serial % (2 ^ 48 - 1) + 1
/-- What is known of node n. -/
def grNode (n : Nat) (s : State) : Option GrNode := tblGet none s.gft.nodes n

/-- Bit n of GRAFT_NODES is set in either half: node n is present (R408). -/
def nodePresent (n : Nat) (s : State) : Bool := s.b aGraftNodes n || s.b aGraftNodes (16 + n)

/-! ### Frames (R397, R398) -/

/-- A frame, without SOF and EOF: the CRC leaves HOP out. -/
def grFrame (ty src dst hop seq : Nat) (payload : List Byte) : List Byte :=
  let head := [BitVec.ofNat 8 ty, BitVec.ofNat 8 src, BitVec.ofNat 8 dst]
  let tail := beBytes 2 seq ++ beBytes 2 payload.length ++ payload
  head ++ [BitVec.ofNat 8 ((15 - hop % 16) * 16 + hop % 16)] ++ tail ++ leBytes 4 (crc32Graft (head ++ tail))

/-- A valid frame, taken apart. -/
structure GrParsed where
  ty : Nat
  src : Nat
  dst : Nat
  hop : Nat
  seq : Nat
  payload : List Byte
deriving DecidableEq, Repr

/-- R399: the known types. -/
def grTypes : List Nat := [0x01, 0x02, 0x03, 0x04, 0x41, 0x42, 0x43, 0x44, 0x45, 0x81, 0x82, 0xC1, 0xC2, 0xC3]

/-- R398: a frame that passes every check. -/
def grParse (f : List Byte) : Option GrParsed :=
  match f with
  | ty :: src :: dst :: hop :: s1 :: s0 :: l1 :: l0 :: rest =>
    let n := beNat [l1, l0]
    let h := hop.toNat % 16
    if 256 < n ∨ rest.length ≠ n + 4 then none
    else if hop.toNat / 16 ≠ 15 - h then none
    else if leNat (rest.drop n) ≠ crc32Graft ([ty, src, dst, s1, s0, l1, l0] ++ rest.take n) then none
    else if ¬ ty.toNat ∈ grTypes then none
    else some ⟨ty.toNat, src.toNat, dst.toNat, h, beNat [s1, s0], rest.take n⟩
  | _ => none

/-- The class of a type. -/
def grCls (ty : Nat) : Nat := ty / 64

/-- The same frame with another HOP (R402). -/
def withHop (f : List Byte) (h : Nat) : List Byte := f.set 3 (BitVec.ofNat 8 ((15 - h) * 16 + h))

/-! ### Sending (R400 to R404) -/

/-- An ordered set goes out of port p. -/
def sendSet (p : Nat) (x : GrSet) (s : State) : State := { s with gft := { s.gft with sets := s.gft.sets ++ [(p, x)] } }

/-- R400: the buffer of a frame that came in by the other port is free again: its credit returns. -/
def freeBuffer (p cls : Nat) (fwd : Bool) (s : State) : State := if fwd then sendSet (1 - p) (.credit cls 1) s else s

/-- R400: a frame of a class goes out of port p while the neighbour has a free buffer, else it waits; `fwd`: it came in by
the other port. -/
def offerFrame (p cls : Nat) (fwd : Bool) (f : List Byte) (s : State) : State :=
  if grLink p s ≠ 2 ∨ grState s ≠ 2 then freeBuffer p cls fwd s
  else
    let u := tblGet 0 s.gft.used (4 * p + cls)
    if u < 8 ∧ !s.gft.held.any (fun h => decide (h.port = p ∧ h.cls = cls)) then
      freeBuffer p cls fwd { s with gft := { s.gft with used := tblSet 0 s.gft.used (4 * p + cls) (u + 1), out := s.gft.out ++ [(p, f)] } }
    else { s with gft := { s.gft with held := s.gft.held ++ [⟨p, cls, s.now, fwd, f⟩] } }

/-- R400: an own frame of a class goes out of port p. -/
def putFrame (p cls : Nat) (f : List Byte) (s : State) : State := offerFrame p cls false f s

/-- R403: the port towards node n: GRAFT_NODES; the other port when that one is not UP. -/
def routeTo (n : Nat) (s : State) : Nat :=
  let p := if s.b aGraftNodes n then 1 else 0
  if grLink p s = 2 then p else 1 - p

/-- R403: a frame of this node goes towards its destination; a broadcast out of both ports. -/
def launch (dst cls : Nat) (f : List Byte) (s : State) : State :=
  if dst = 0xFF then putFrame 1 cls f (putFrame 0 cls f s) else putFrame (routeTo dst s) cls f s

/-- R398: the next SEQ of a class. -/
def takeSeq (cls : Nat) (s : State) : Nat × State :=
  let q := (tblGet 0 s.gft.seqTx cls + 1) % 65536
  (q, { s with gft := { s.gft with seqTx := tblSet 0 s.gft.seqTx cls q } })

/-- A frame that needs no acknowledgement. -/
def sendFrame (ty dst : Nat) (payload : List Byte) (s : State) : State :=
  let q := takeSeq (grCls ty) s
  launch dst (grCls ty) (grFrame ty (myNode s) dst 15 q.1 payload) q.2

/-- R562: what a request frame must not overtake: an MBOX to the same node, a SCHED of the same schedule day, a CAL of the
same entry. -/
def sameItem (x y : GrSend) : Bool :=
  let key := fun (f : List Byte) => ((f.headD 0).toNat, if (f.headD 0).toNat = 0x42 then (f.drop 8).take 2
    else if (f.headD 0).toNat = 0x43 then (f.drop 8).take 1 else [])
  decide (x.dst = y.dst) && decide ((key x.frame).1 ∈ [0x41, 0x42, 0x43]) && decide (key x.frame = key y.frame)

/-- R401, R562: waiting frames go out while fewer than 4 of their class are unacknowledged, and none of the same item. -/
def pump (cls : Nat) (s : State) : State :=
  forRange 4 (fun _ s =>
    if (s.gft.unacked.filter (fun x => x.cls = cls)).length < 4 then
      match takeFirst (fun (x : GrSend) => decide (x.cls = cls) && s.gft.unacked.all (fun y => !sameItem x y)) s.gft.backlog with
      | some (x, rest) =>
        let s := { s with gft := { s.gft with backlog := rest, unacked := s.gft.unacked ++ [{ x with sentAt := s.now }] } }
        launch x.dst cls x.frame s
      | none => s
    else s) s

/-- R404: a frame that is retransmitted until it is acknowledged. -/
def sendReliable (ty dst : Nat) (payload : List Byte) (cmd : Option Nat) (s : State) : State :=
  let c := grCls ty
  let q := takeSeq c s
  let s := q.2
  let x : GrSend := ⟨c, q.1, dst, grFrame ty (myNode s) dst 15 q.1 payload, s.now, 0, cmd⟩
  pump c { s with gft := { s.gft with backlog := s.gft.backlog ++ [x] } }

/-- R400: credits of a class return on port p; waiting frames go out. -/
def creditBack (p cls n : Nat) (s : State) : State :=
  let u := tblGet 0 s.gft.used (4 * p + cls)
  let s := { s with gft := { s.gft with used := tblSet 0 s.gft.used (4 * p + cls) (u - n) } }
  forRange n (fun _ s =>
    let u := tblGet 0 s.gft.used (4 * p + cls)
    if u < 8 then
      match takeFirst (fun (h : GrHeld) => decide (h.port = p ∧ h.cls = cls)) s.gft.held with
      | some (h, rest) => freeBuffer p cls h.fwd
          { s with gft := { s.gft with held := rest, used := tblSet 0 s.gft.used (4 * p + cls) (u + 1), out := s.gft.out ++ [(p, h.frame)] } }
      | none => s
    else s) s

/-- The line of the last step is cleared before a row acts. -/
def freshLine (s : State) : State := { s with gft := { s.gft with out := [], sets := [] } }

/-- R402: a frame leaves by the other port with H less one; one not for this node with H = 0 is discarded and counted. Its
credit returns when it has left or is discarded. -/
def forward (p : Nat) (g : GrParsed) (f : List Byte) (s : State) : State :=
  if g.hop = 0 then sendSet p (.credit (grCls g.ty) 1) (if g.dst = 0xFF then s else s.bump (aGraftPcnt p) 0 8)
  else offerFrame (1 - p) (grCls g.ty) true (withHop f (g.hop - 1)) s

/-- R398: the frame repeats an accepted SEQ: the status it was answered with. -/
def duplicate (g : GrParsed) (s : State) : Option Nat :=
  ((tblGet [] s.gft.seen (4 * g.src + grCls g.ty)).find? (fun x => x % 65536 = g.seq)).map (fun x => x / 65536)
/-- R398: the SEQ is accepted, with the status of its answer; the last 16 are kept. -/
def noteSeq (g : GrParsed) (status : Nat) (s : State) : State :=
  let k := 4 * g.src + grCls g.ty
  { s with gft := { s.gft with seen := tblSet [] s.gft.seen k (((g.seq + 65536 * status) :: tblGet [] s.gft.seen k).take 16) } }

/-- R404: an ACK answers a request frame or an MBOX_REPLY: status 0 done, 1 refused. -/
def sendAck (g : GrParsed) (status : Nat) (s : State) : State :=
  sendFrame 0x82 g.src (beBytes 2 g.seq ++ [BitVec.ofNat 8 status, 0]) s

/-- R398, R400: a frame that fails its checks is counted; the buffer it lay in, of the class that its first byte shows, is free
again. -/
def dropBad (p : Nat) (f : List Byte) (s : State) : State :=
  sendSet p (.credit (grCls (f.headD 0).toNat) 1) (s.bump (aGraftPcnt p) 24 8)

/-- The node takes part: JOINED with port p UP. -/
def onLine (p : Nat) (s : State) : Bool := decide (grState s = 2) && decide (grLink p s = 2)

/-- R398, R400 to R404: a frame of type `ty` arrives on port p. What is not for this node is forwarded, a broadcast is
forwarded and taken; a duplicate is acknowledged again and not taken. `h` is what the node does with a frame it takes;
it answers the status of the ACK. -/
def receive (ty p : Nat) (f : List Byte) (h : GrParsed → State → Nat × State) (s : State) : State :=
  if !domOn .gft s || !onLine p s then s
  else
    let s := freshLine s
    match grParse f with
    | none => dropBad p f s
    | some g =>
      if g.ty ≠ ty then s
      else
        if g.src = myNode s then sendSet p (.credit (grCls ty) 1) s
        else if g.dst ≠ 0xFF ∧ g.dst ≠ myNode s then forward p g f s
        else
          let s := if g.dst = 0xFF then forward p g f s else sendSet p (.credit (grCls ty) 1) s
          let acks := decide (grCls ty = 1) || decide (ty = 0x81) || decide (ty = 0x04)
          match duplicate g s with
          | some st => if acks then sendAck g st s else s
          | none =>
            let r := h g s
            let s := noteSeq g r.1 r.2
            if acks then sendAck g r.1 s else s

/-- GRAFT_FRAME_FORWARD (R397, R398, R402): a frame for another node arrives on port p. -/
def execGraftFrameForward (p : Fin 2) (frame : List Byte) (s : State) : Host.Outcome State Fault Refusal :=
  .next (if domOn .gft s && onLine p s then
    (let s := freshLine s
     match grParse frame with
     | none => dropBad p frame s
     | some g =>
       if g.src = myNode s ∨ g.dst = myNode s then sendSet p (.credit (grCls g.ty) 1) s else forward p g frame s)
    else s)

/-- CREDIT (R394, R400): the neighbour returns count credits of a class. -/
def execCredit (p : Fin 2) (d : Byte) (s : State) : Host.Outcome State Fault Refusal :=
  .next (if domOn .gft s && onLine p s then
    (if 1 ≤ d.toNat % 16 ∧ d.toNat % 16 ≤ 8 then creditBack p (d.toNat / 64) (d.toNat % 16) (freshLine s) else s) else s)

/-- HOP_CREDIT_TIMEOUT (R401): a control or stream frame has waited 1 ms for credit and is discarded. -/
def execHopCreditTimeout (p : Fin 2) (cls : Fin 4) (s : State) : Host.Outcome State Fault Refusal :=
  .next (if domOn .gft s && decide (cls.val = 0 ∨ cls.val = 3) then
    (match takeFirst (fun (h : GrHeld) => decide (h.port = p.val ∧ h.cls = cls.val)) s.gft.held with
     | some (h, rest) =>
       freeBuffer p cls h.fwd ((({ (freshLine s) with gft := { (freshLine s).gft with held := rest } }).advTo (h.at_ + msT 1)).bump (aGraftPcnt p) 0 8)
     | none => s)
    else s)

/-! ### Ports (R395, R396) -/

/-- R403: GRAFT_NODES from what is known of each present node: the port with the larger H, GFA on a tie, the other port
where that one is DOWN. -/
def routeBits (s : State) : State :=
  s.setReg aGraftNodes (BitVec.ofNat 32 ((List.range 16).foldl (fun a n =>
    match grNode n s with
    | none => a
    | some g =>
      let viaB := decide (g.hA < g.hB)
      let viaB := if viaB then decide (grLink 1 s = 2 ∨ grLink 0 s ≠ 2) else decide (grLink 0 s ≠ 2 ∧ grLink 1 s = 2)
      a + 2 ^ (if viaB then n else 16 + n)) 0))

/-- LINK_TRAINING (R395): a port that was DOWN receives valid characters again. -/
def execLinkTraining (p : Fin 2) (s : State) : Host.Outcome State Fault Refusal :=
  .next (if domOn .gft s && decide (grState s = 2) && decide (grLink p s = 0) then s.setF (aGraftPort p) 30 2 1 else s)

/-- R399: the HELLO of this node. -/
def helloPayload (s : State) : List Byte :=
  let m := if s.b aGraftStat 19 then s.f aGraftStat 20 4 else 0xFF
  beBytes 8 myIdent ++ [BitVec.ofNat 8 (grRole s), BitVec.ofNat 8 (grState s), BitVec.ofNat 8 m,
    BitVec.ofNat 8 ((acting s).toNat + 2 * (s.b aGraftStat 31).toNat + 4 * (s.b aGraftStat 30).toNat)] ++ beBytes 4 (s.reg aGraftTick).toNat

/-- LINK_UP (R395, R408): 100 µs of valid characters without violation; HELLO goes out of it. -/
def execLinkUp (p : Fin 2) (s : State) : Host.Outcome State Fault Refusal :=
  .next (if domOn .gft s && decide (grState s = 2) && decide (grLink p s ≠ 2) then
    (let s := (freshLine s).setF (aGraftPort p) 30 2 2
     let s := forRange 4 (fun c s => { s with gft := { s.gft with used := tblSet 0 s.gft.used (4 * p + c) 0 } }) s
     let s := routeBits s
     let q := takeSeq 0 s
     let s := putFrame p 0 (grFrame 0x01 (myNode q.2) 0xFF 15 q.1 (helloPayload q.2)) q.2
     forRange 3 pump s)
    else s)

/-- LINK_DOWN (R395, R403): 1 ms with so many violations, and `silent` when it held no valid K28.5: the port is DOWN after
such a silence, or after 16 violations; fewer only count. -/
def execLinkDown (p : Fin 2) (v : LineFault) (s : State) : Host.Outcome State Fault Refusal :=
  .next (if domOn .gft s && decide (grLink p s ≠ 0) then
    (let s := s.setF (aGraftPcnt p) 16 8 (satAdd 8 (s.f (aGraftPcnt p) 16 8) v.violations)
     if v.silent = false ∧ v.violations < 16 then s
     else
     let s := (s.setF (aGraftPort p) 30 2 0).setB aGraftStat 28 true
     let s := s.bump (aGraftPcnt p) 8 8
     let gone := s.gft.held.filter (fun h => h.port = p.val)
     let s := { (freshLine s) with gft := { (freshLine s).gft with held := s.gft.held.filter (fun h => h.port ≠ p.val) } }
     routeBits (forEach gone (fun h s => freeBuffer p h.cls h.fwd s) s))
    else s)

/-- PING (R396): without a number, this node's PING of the 10 ms; with one, the neighbour's, which is answered with an
ECHO. The turnaround is a physical figure up to 1 µs, a free value (log entry 6). -/
def execPing (p : Fin 2) (rx : Option Byte) (s : State) : Host.Outcome State Fault Refusal :=
  .next (if domOn .gft s && onLine p s then
    (let s := freshLine s
     match rx with
     | some n =>
       let w := s.draw
       sendSet p (.echo n (BitVec.ofNat 8 (w.1.toNat % 101))) w.2
     | none =>
       let s := s.advTo (tblGet 0 s.gft.pingAt p + msT 10)
       let n := s.gft.pingNo % 256
       let g := { s.gft with ping := tblSet none s.gft.ping p (some (n, s.now)), pingNo := (n + 1) % 256, pingAt := tblSet 0 s.gft.pingAt p s.now }
       sendSet p (.ping (BitVec.ofNat 8 n)) { s with gft := g })
    else s)

/-- ECHO (R396): the answer to the PING outstanding: the delay is the mean of the last 16 exchanges. -/
def execEcho (p : Fin 2) (n turnaround : Byte) (s : State) : Host.Outcome State Fault Refusal :=
  .next (if domOn .gft s && onLine p s then
    (match tblGet none s.gft.ping p with
     | some (k, t) =>
       if k = n.toNat then
         (let d := ((s.now - t) * 5 - turnaround.toNat) / 2
          let l := (d :: tblGet [] s.gft.delays p).take 16
          let s := { s with gft := { s.gft with ping := tblSet none s.gft.ping p none, delays := tblSet [] s.gft.delays p l } }
          s.setF (aGraftPort p) 0 16 (min 65535 (l.foldl (· + ·) 0 / l.length)))
       else s
     | none => s)
    else s)

/-! ### Joining and leaving (R405 to R409) -/

/-- R405: the node leaves the ring: bypass closed, ports DOWN, nothing known, nothing waiting. -/
def leaveGrove (st : Nat) (s : State) : State :=
  let s := ((s.setF aGraftStat 24 2 st).setB aGraftStat 18 true).setB aGraftStat 17 false
  let s := (s.setB aGraftStat 19 false).setReg aGraftNodes 0
  let s := (s.setF (aGraftPort 0) 30 2 0).setF (aGraftPort 1) 30 2 0
  { s with gft := { s.gft with nodes := [], held := [], unacked := [], backlog := [], used := [] } }

/-- R408 step 1: state LISTEN. -/
def startListen (s : State) : State :=
  let s := leaveGrove 1 s
  { s with gft := { s.gft with listenAt := s.now } }

/-- R405, R407 to R409: a write to GRAFT_CTL. -/
def graftCtlWrite (v : Word) (s : State) : State :=
  let was := s.b aGraftCtl 31
  let old := myNode s
  let s := plainWrite aGraftCtl v s
  let en := s.b aGraftCtl 31
  let moved := decide (myNode s ≠ old)
  if !en then (if was then (leaveGrove 0 s).setB aGraftStat 31 false else s)
  else if grRole s = 0 then s
  else if !was || moved || (grState s = 3 && s.b aGraftStat 31) then startListen ((s.setB aGraftStat 31 false).setB aGraftStat 30 false)
  else s

/-- GRAFT_CTL_WRITE (R408, R409). -/
def execGraftCtlWrite (v : Word) (s : State) : Host.Outcome State Fault Refusal :=
  .next (if domOn .gft s then graftCtlWrite v s else s)

/-- The HELLOs heard: nodes that satisfy `q`. -/
def heardNodes (q : Nat → GrNode → Bool) (s : State) : List Nat :=
  (List.range 16).filter (fun n => match grNode n s with | some g => q n g | none => false)

/-- R408 step 3: state JOINED: the bypass opens and both ports train. -/
def joinGrove (s : State) : State :=
  let s := ((s.setF aGraftStat 24 2 2).setB aGraftStat 18 false).setReg aGraftTick 0
  let s := (s.setF (aGraftPort 0) 30 2 1).setF (aGraftPort 1) 30 2 1
  let at_ := if s.gft.listenAt < s.gft.tickAt then s.gft.tickAt else s.now
  { s with gft := { s.gft with helloAt := s.now, masterAt := s.now, freeRun := false, tickAt := at_ } }

/-- R409: what LISTEN has heard: stays OUT, or joins. -/
def judgeListen (s : State) : State :=
  let dup := (heardNodes (fun n g => decide (n = myNode s) && decide (g.ident ≠ myIdent)) s).isEmpty
  let masters := heardNodes (fun n g => decide (n ≠ myNode s) && g.acting && decide (g.role = 3)) s
  let standby := heardNodes (fun n g => decide (n ≠ myNode s) && g.acting && decide (g.role = 2)) s
  let twin := !(heardNodes (fun n g => decide (n ≠ myNode s) && decide (g.role = 2)) s).isEmpty
  if !dup then (leaveGrove 3 s).setB aGraftStat 31 true
  else if grRole s = 3 ∧ masters ≠ [] then
    let s := (leaveGrove 3 s).setB aGraftStat 30 true
    { s with gft := { s.gft with outAt := s.now } }
  else
    let s := joinGrove (if grRole s = 3 then s.setB aGraftStat 30 false else s)
    if grRole s = 3 then
      match standby with
      | n :: _ => sendReliable 0x04 n [] none ((s.setF aGraftStat 20 4 n).setB aGraftStat 19 true)
      | [] => ((s.setB aGraftStat 17 true).setF aGraftStat 20 4 (myNode s)).setB aGraftStat 19 true
    else if grRole s = 2 ∧ twin then s.setB aGraftStat 30 true
    else s

/-- LISTEN_END (R408, R409): 20 ms after LISTEN began. -/
def execListenEnd (s : State) : Host.Outcome State Fault Refusal :=
  .next (if domOn .gft s && decide (grState s = 1) then judgeListen (s.advTo (s.gft.listenAt + msT 20)) else s)

/-- ROLECONF_RELISTEN (R409): every 10 s a strapped master that is OUT with ROLECONF listens again. -/
def execRoleconfRelisten (s : State) : Host.Outcome State Fault Refusal :=
  .next (if domOn .gft s && decide (grState s = 3) && s.b aGraftStat 30 then startListen (s.advTo (s.gft.outAt + secT 10)) else s)

/-- HELLO_SEND (R408): every 100 ms. -/
def execHelloSend (s : State) : Host.Outcome State Fault Refusal :=
  .next (if domOn .gft s && decide (grState s = 2) then
    (let s := freshLine (s.advTo (s.gft.helloAt + msT 100))
     let s := { s with gft := { s.gft with helloAt := s.now } }
     sendFrame 0x01 0xFF (helloPayload s) s)
    else s)

/-- R409, R403: a HELLO is noted; the copies of the latest one say where it arrived with the larger H. -/
def noteHello (p : Nat) (g : GrParsed) (s : State) : State :=
  let old := match grNode g.src s with | some o => if o.seq = g.seq then some o else none | none => none
  let hA := if p = 0 then g.hop + 1 else (match old with | some o => o.hA | none => 0)
  let hB := if p = 1 then g.hop + 1 else (match old with | some o => o.hB | none => 0)
  let flags := beNat ((g.payload.drop 11).take 1)
  let n : GrNode := ⟨s.now, hA, hB, beNat (g.payload.take 8), beNat ((g.payload.drop 8).take 1), decide (flags % 2 = 1), g.seq⟩
  let s := { s with gft := { s.gft with nodes := tblSet none s.gft.nodes g.src (some n), absentAt := tblSet none s.gft.absentAt g.src none } }
  let s := routeBits s
  if n.acting && !acting s then
    let s := ((s.setF aGraftStat 20 4 g.src).setB aGraftStat 19 true)
    { s with gft := { s.gft with masterAt := s.now } }
  else s

/-- R409: conflicts that a JOINED node finds in a HELLO. -/
def judgeHello (g : GrParsed) (s : State) : State :=
  let ident := beNat (g.payload.take 8)
  let role := beNat ((g.payload.drop 8).take 1)
  let act := decide (beNat ((g.payload.drop 11).take 1) % 2 = 1)
  if g.src = myNode s then
    (if ident < myIdent then (leaveGrove 3 s).setB aGraftStat 31 true else s)
  else if grRole s = 3 ∧ act ∧ role = 3 then
    let s := (leaveGrove 3 s).setB aGraftStat 30 true
    { s with gft := { s.gft with outAt := s.now } }
  else if grRole s = 2 ∧ role = 2 then
    let s := s.setB aGraftStat 30 true
    if acting s then (s.setB aGraftStat 17 false).setB aGraftStat 19 false else s
  else s

/-- NODE_ABSENCE (R408, R422): no HELLO of node n for 500 ms. -/
def execNodeAbsence (node : Fin 16) (s : State) : Host.Outcome State Fault Refusal :=
  .next (match grNode node s with
    | some g =>
      if domOn .gft s then
        (let s := s.advTo (g.lastHello + msT 500)
         let s := { s with gft := { s.gft with nodes := tblSet none s.gft.nodes node none, absentAt := tblSet none s.gft.absentAt node (some g.lastHello) } }
         let s := routeBits s
         if s.f aGraftStat 20 4 = node.val ∧ !acting s then s.setB aGraftStat 19 false else s)
      else s
    | none => s)

/-! ### Ticks (R411, R412) -/

/-- Grove ticks of this node: `k` more, the last at `t` with this count. -/
def groveTicks (k t count : Nat) (s : State) : State :=
  let s := s.setReg aGraftTick (s.reg aGraftTick + BitVec.ofNat 32 k)
  { s with gft := { s.gft with tickAt := t, tickMod := count % 256 } }

/-- R411, R412: a TICK arrives on port p: it is forwarded with the delays added, and taken from the port towards the
master. After free-running the tick moves by at most 2 µs at a time. -/
def takeTick (p : Nat) (count : Byte) (delay : Half) (s : State) : State :=
  let cable := s.f (aGraftPort p) 0 16
  let acc := delay.toNat + cable
  let s := if onLine (1 - p) s then sendSet (1 - p) (.tick count (BitVec.ofNat 16 acc)) s else s
  let m := s.f aGraftStat 20 4
  if s.b aGraftStat 19 ∧ routeTo m s = p then
    let ideal := s.now - acc / 5
    let exp := s.gft.tickAt + msT 1
    let t := if s.gft.freeRun then max (exp - 40) (min (exp + 40) ideal) else ideal
    let s := groveTicks 1 t count.toNat s
    { s with gft := { s.gft with freeRun := s.gft.freeRun && decide (t ≠ ideal), masterAt := s.now } }
  else s

/-! ### Register writes (R431) -/

/-- R431: a write to a GRAFT register other than GRAFT_CTL is refused. -/
def graftBad (a : Nat) (v : Word) (s : State) : Bool :=
  if aGraftExp 0 ≤ a ∧ a ≤ aGraftExp 63 then
    decide (fld v 16 8 = 0) || (!bit v 30 && decide (fld v 26 4 = myNode s) && bit v 31)
  else if aGraftShare 0 ≤ a ∧ a ≤ aGraftShare 3 then
    (List.range 4).any (fun g => decide (aGraftShare g ≠ a) && decide ((s.reg (aGraftShare g) &&& v &&& 0xFFFF) ≠ 0))
  else false

/-- R431: a write to a GRAFT register. -/
def graftWrite (a : Nat) (v : Word) (s : State) : State :=
  if a = aGraftCtl then graftCtlWrite v s
  else if graftBad a v s then s.setB aGraftStat 16 true
  else plainWrite a v s

end Sys2Proof.Machine
end

