-- ==== Sys2Proof/Machine/HostRegs.lean ====
section
/-! DEFINITION. Sys2Proof/Machine/HostRegs.lean: the host-port registers, mailbox channels and epochs (R53 to R74), as a
frame of either world sees and writes them. -/

namespace Sys2Proof.Machine

open Sys2Proof

/-! ### Addresses (R53, R57) -/

/-- R57: a channel of the secure world. -/
def secureCh (ch : Nat) : Bool := decide (ch < 4)

/-- What a host-port address means. -/
inductive HpWhere where
  | inM (ch : Nat) (k : Nat)
  | inCtl (ch : Nat)
  | inStat (ch : Nat)
  | inTmo (ch : Nat)
  | inSeq (ch : Nat)
  | outM (ch : Nat) (k : Nat)
  | outCtl (ch : Nat)
  | outStat (ch : Nat)
  | outTmo (ch : Nat)
  | outSeq (ch : Nat)
  | glob
deriving DecidableEq, Repr

/-- R53: the register of a mailbox channel at a host-port address; `glob` for every other address. -/
def hpWhere (a : Nat) : HpWhere :=
  let pick := fun (base : Nat) (m ctl st tm sq : Nat → HpWhere) (mk : Nat → Nat → HpWhere) =>
    let ch := (a - base) / 128
    let o := (a - base) % 128
    if o < 64 then mk ch (o / 4) else if o = 64 then ctl ch else if o = 68 then st ch else if o = 72 then tm ch
    else if o = 76 then sq ch else m ch
  if 0x100 ≤ a ∧ a < 0x900 then pick 0x100 (fun _ => .glob) .inCtl .inStat .inTmo .inSeq .inM
  else if 0x900 ≤ a ∧ a < 0x1100 then pick 0x900 (fun _ => .glob) .outCtl .outStat .outTmo .outSeq .outM
  else .glob

/-- The channel of an address, if it belongs to one. -/
def HpWhere.chan : HpWhere → Option Nat
  | .inM ch _ => some ch | .inCtl ch => some ch | .inStat ch => some ch | .inTmo ch => some ch | .inSeq ch => some ch
  | .outM ch _ => some ch | .outCtl ch => some ch | .outStat ch => some ch | .outTmo ch => some ch | .outSeq ch => some ch
  | .glob => none

/-- R52, R57: an address that belongs to the secure world as a whole. -/
def secureAddr (a : Nat) : Bool := match (hpWhere a).chan with | some ch => secureCh ch | none => false

/-! ### Interrupts (R53 to R55) -/

/-- A flag of STAT of a channel: 0 FULL, 1 TAKEN, 2 TMO, 3 WITHDRAWN, 4 BUSERR. -/
def inFull (ch : Nat) (s : State) : Bool := s.b (aHpInStat ch) 0
/-- FULL of an outbound channel. -/
def outFull (ch : Nat) (s : State) : Bool := s.b (aHpOutStat ch) 0

/-- HP_CHIRQ: IEMPTY as held, OFULL as the outbound channels are. -/
def chirqNow (s : State) : Word := (List.range 16).foldl (fun w n => setBit w (16 + n) (outFull n s)) (s.reg aHpChirq)
/-- R57: the bits of HP_CHIRQ that a world sees. -/
def chirqMask (sec : Bool) : Word := if sec then 0xFFFFFFFF else 0xFFF0FFF0
/-- R70: the doorbell bits that a world sees. -/
def dbMask (sec : Bool) : Word := if sec then 0xFFFFFFFF else 0x0FFFFFFF

/-- HP_IRQ as a world sees it. -/
def irqNow (sec : Bool) (s : State) : Word :=
  let ch := chirqNow s &&& s.reg aHpChirqen &&& chirqMask sec
  let db := s.reg aHpDbout &&& dbMask sec
  setBit (setBit (s.reg aHpIrq) 31 (decide (ch ≠ 0))) 30 (decide (db ≠ 0))

/-- R54: HIRQ_N is asserted. -/
def hirqLow (s : State) : Bool := decide (irqNow true s &&& s.reg aHpIrqen ≠ 0)

/-- R52, R53, R55: what a read of a host-port register returns to a world; `a` is the expert address. -/
def hpRead (sec : Bool) (a : Nat) (s : State) : Word :=
  let w := s.reg a
  if a = aHpIrq then irqNow sec s
  else if a = aHpChirq then chirqNow s &&& chirqMask sec
  else if a = aHpChirqen then w &&& chirqMask sec
  else if a = aHpDbin ∨ a = aHpDbout then w &&& dbMask sec
  else if a = aHpHostwd then setBit w 31 (s.b aHpStat 29)
  else if sec then w
  else if a = aHpStat then setBit w 27 false
  else if a = aHpEpoch then w &&& 0xFFFF
  else if a = aHpErrlog then (if bit w 27 then 0 else w)
  else if secureAddr (a - 0x20000) then 0
  else w

/-! ### Channels (R56 to R67) -/

/-- The low five bits of a STAT register: FULL, TAKEN, TMO, WITHDRAWN, BUSERR. -/
def putStat (a : Nat) (full taken tmo withdrawn buserr : Bool) (s : State) : State :=
  s.setReg a (BitVec.ofNat 32 (full.toNat + 2 * taken.toNat + 4 * tmo.toNat + 8 * withdrawn.toNat + 16 * buserr.toNat))

/-- R58: the channel has left FULL. -/
def setIempty (ch : Nat) (s : State) : State := s.setReg aHpChirq (setBit (s.reg aHpChirq) ch true)

/-- R56, R60: GO sends the message of inbound channel ch. -/
def goSend (ch : Nat) (s : State) : State :=
  let s := putStat (aHpInStat ch) true false false false false s
  let h := s.hp
  { s with hp := { h with goAt := tblSet 0 h.goAt ch s.now, goTmo := tblSet 0 h.goTmo ch (s.f (aHpInTmo ch) 0 16),
                          restarted := tblSet false h.restarted ch false, svcMsg := if ch = 15 then false else h.svcMsg } }

/-- R60, R61, R72: the message of inbound channel ch is withdrawn. -/
def withdraw (ch : Nat) (tmo : Bool) (s : State) : State :=
  let a := aHpInStat ch
  setIempty ch (putStat a false (s.b a 1) (tmo || s.b a 2) true (s.b a 4) s)

/-- R61: ABORT on inbound channel ch. -/
def abortSend (ch : Nat) (s : State) : State := if inFull ch s then withdraw ch false s else s

/-- R524: a device reset that waits for the release of the reply on channel ch is due at once. -/
def resetReleased (ch : Nat) (s : State) : State :=
  match s.fw.pendReset with
  | some r =>
    if r.chan = ch ∧ r.at_.isSome ∧ (r.scope = 1 ∨ r.scope = 2) then
      { s with fw := { s.fw with pendReset := some { r with at_ := some s.now } } }
    else s
  | none => s

/-- R67: the reply of outbound channel ch is released. -/
def releaseReply (ch : Nat) (s : State) : State :=
  let a := aHpOutStat ch
  if outFull ch s then resetReleased ch (putStat a false true (s.b a 2) (s.b a 3) (s.b a 4) s) else s

/-! ### Epochs (R71, R72) -/

/-- The channels of a world. -/
def worldChans (sec : Bool) : List Nat := (List.range 16).filter (fun ch => secureCh ch == sec)
/-- The pending bit of a world's epoch change in HP_STAT. -/
def pendBit (sec : Bool) : Nat := if sec then 27 else 28
/-- A world's epoch change is pending. -/
def epochPending (sec : Bool) (s : State) : Bool := s.b aHpStat (pendBit sec)
/-- A world's epoch. -/
def epochOf (sec : Bool) (s : State) : Nat := s.f aHpEpoch (if sec then 16 else 0) 16

/-- R71, R72 steps 1 and 2: a world's epoch is written. -/
def epochWrite (sec : Bool) (v : Nat) (s : State) : State :=
  if epochOf sec s = v ∨ epochPending sec s then s
  else
    let s := (s.setF aHpEpoch (if sec then 16 else 0) 16 v).setB aHpStat (pendBit sec) true
    forEach (worldChans sec) (fun ch s => if inFull ch s then withdraw ch false s else s) s

/-! ### Writing a word (R48, R52) -/

/-- R76, R52: a write to HP_HOSTWD; ignored through HCS_N. -/
def hostwdWrite (sec : Bool) (v : Word) (s : State) : State :=
  if sec && decide (fld v 0 16 ≤ 600) then
    { s.setF aHpHostwd 0 16 (fld v 0 16) with hp := { s.hp with lastGood := s.now } }
  else s

/-- R69: a write to HP_DBIN. -/
def dbinWrite (sec : Bool) (v : Word) (s : State) : State := s.setReg aHpDbin (s.reg aHpDbin ||| (v &&& dbMask sec &&& 0xF000FFFF))

/-- A word written without parity trouble (R609). -/
def storeWord (a : Nat) (v : Word) (s : State) : State :=
  { s.setReg (0x20000 + a) v with hp := { s.hp with badPar := tblSet false s.hp.badPar a false } }

/-- R609: words of mailbox channels whose parity has failed, as the next check finds. -/
def upsetWords (l : List Nat) (s : State) : State :=
  let bad := l.filter (fun a => match hpWhere a with | .inM _ _ => true | .inSeq _ => true | .outM _ _ => true | .outSeq _ => true | _ => false)
  { s with hp := { s.hp with badPar := bad.foldl (fun t a => tblSet false t (a - a % 4) true) s.hp.badPar } }

/-- R48, R52: a word of an accepted write frame is applied; CTL registers act apart. -/
def hpWriteWord (sec : Bool) (a : Nat) (v : Word) (s : State) : State :=
  match hpWhere a with
  | .inM _ _ => storeWord a v s
  | .inSeq _ => storeWord a (v &&& 0xFFFF) s
  | .inStat ch => plainWrite (aHpInStat ch) v s
  | .inTmo ch => plainWrite (aHpInTmo ch) v s
  | .outStat ch => plainWrite (aHpOutStat ch) v s
  | .outTmo ch => plainWrite (aHpOutTmo ch) v s
  | .inCtl _ => s
  | .outCtl _ => s
  | .outM _ _ => s
  | .outSeq _ => s
  | .glob =>
    let x := 0x20000 + a
    if x = aHpEpoch then
      let s := epochWrite false (fld v 0 16) s
      if sec then epochWrite true (fld v 16 16) s else s
    else if x = aHpHostwd then hostwdWrite sec v s
    else if x = aHpDbin then dbinWrite sec v s
    else if x = aHpDbout then plainWrite x (v &&& dbMask sec) s
    else if x = aHpChirq then plainWrite x (v &&& chirqMask sec) s
    else if x = aHpChirqen then s.setReg x ((s.reg x &&& ~~~ chirqMask sec) ||| (v &&& chirqMask sec))
    else plainWrite x v s

/-- R48: the CTL registers act after every other word. -/
def hpCtlWord (a : Nat) (v : Word) (s : State) : State :=
  match hpWhere a with
  | .inCtl ch => if bit v 0 then goSend ch s else if bit v 1 then abortSend ch s else s
  | .outCtl ch => if bit v 0 then releaseReply ch s else s
  | _ => s

end Sys2Proof.Machine
end

