-- ==== Sys2Proof/Machine/Trend.lean ====
section
/-! DEFINITION. Sys2Proof/Machine/Trend.lean: the trend store (R454 to R459) and the TREND commands (R461). -/

namespace Sys2Proof.Machine

open Sys2Proof

/-! ### Positions (R459) -/

/-- A position's place in the order. -/
def posLe (a b : Nat × Nat) : Bool := decide (a.1 < b.1) || (decide (a.1 = b.1) && decide (a.2 ≤ b.2))
/-- The position after one. -/
def posNext (p : Nat × Nat) : Nat × Nat := if p.2 < 254 then (p.1, p.2 + 1) else (p.1 + 1, 0)
/-- R459: a position as a word. -/
def posWord (p : Nat × Nat) : Word := BitVec.ofNat 32 (p.1 % 2 ^ 24 * 256 + p.2)

/-- The head sector. -/
def headSec (s : State) : Option TrSec := s.trend.secs.getLast?
/-- The position that the next record programmed takes. -/
def headPos (s : State) : Nat × Nat :=
  match headSec s with
  | some h => if h.recs.length < 255 then (h.sseq, h.recs.length) else (h.sseq + 1, 0)
  | none => (1, 0)
/-- The position of the i-th record of the buffer. -/
def bufPos (s : State) (i : Nat) : Nat × Nat := let p := headPos s; (p.1 + (p.2 + i) / 255, (p.2 + i) % 255)
/-- The oldest position. -/
def oldestPos (s : State) : Nat × Nat := match s.trend.secs.head? with | some h => (h.sseq, 0) | none => headPos s
/-- All records with their positions, oldest first, buffered records included. -/
def trendAll (s : State) : List ((Nat × Nat) × TrendRec) :=
  s.trend.secs.flatMap (fun x => x.recs.zipIdx.map (fun y => ((x.sseq, y.2), y.1)))
    ++ s.trend.buf.zipIdx.map (fun y => (bufPos s y.2, y.1.1))
/-- The records from a position up to another. -/
def trendFrom (a b : Nat × Nat) (s : State) : List ((Nat × Nat) × TrendRec) :=
  (trendAll s).filter (fun x => posLe a x.1 && !posLe b x.1)

/-! ### Recording (R455, R456) -/

/-- The configuration of trend log l. -/
def trendCfg (l : Nat) (s : State) : Option TrendCfg := s.fw.image.bind (fun im => im.trend[l]?)

/-- R455: seconds since start-up. -/
def sinceStart (s : State) : Nat := (s.now - s.pwr.t0) / secT 1

/-- R455: the second of a record: the time word, else seconds since start-up. -/
def logSecond (s : State) : Nat := (timeNow s).getD (sinceStart s)

/-- R455: log l records now: its interval, its delta, or a change of the flag byte. -/
def trendDue (cfg : TrendCfg) (v : F32) (flags : Nat) (last : Option (F32 × Nat)) (s : State) : Bool :=
  let t := logSecond s
  (decide (0 < cfg.interval) && decide (t % cfg.interval = 0))
    || (match last with
        | none => f32Lt 0 cfg.cov
        | some (w, fl) => (f32Lt 0 cfg.cov && f32Le cfg.cov (f32Abs (f32Sub v w))) || decide (flags ≠ fl))

/-- R455, R456: a record of log l joins the buffer; it is dropped when the buffer is full. -/
def trendRecord (l : Nat) (s : State) : State :=
  match trendCfg l s with
  | none => s
  | some cfg =>
    match tblGet none s.fw.crownPts cfg.point with
    | none => s
    | some (v, hi) =>
      let flags := fld hi 0 8
      let t := s.trend
      if !trendDue cfg v flags (tblGet none t.last l) s || decide (tblGet none t.lastSec l = some (logSecond s)) then s
      else if 256 ≤ t.buf.length then
        { s with trend := { t with tlost := satAdd 16 t.tlost 1, gap := tblSet false t.gap l true, lastSec := tblSet none t.lastSec l (some (logSecond s)) } }
      else
        let inv := (timeNow s).isNone
        let r : TrendRec := ⟨BitVec.ofNat 32 (logSecond s), l, cfg.point, flags,
          inv.toNat + 2 * (tblGet false t.gap l).toNat, v⟩
        { s with trend := { t with
            buf := t.buf ++ [(r, s.now)], gap := tblSet false t.gap l false, last := tblSet none t.last l (some (v, flags)),
            lastSec := tblSet none t.lastSec l (some (logSecond s)) } }

/-- TREND_RECORD (R455, R456). -/
def execTrendRecord (l : Fin 128) (s : State) : Host.Outcome State Fault Refusal :=
  .next (if ready s then trendRecord l (crownDrain s) else s)

/-! ### The log on the flash (R454, R456 to R458) -/

/-- The next good sector after p, and those passed over on the way to it. -/
def nextGood (n p : Nat) (bad : List Nat) : Nat × List Nat :=
  let l := (List.range n).map (fun k => (p + 1 + k) % n)
  let skipped := l.takeWhile (fun x => x ∈ bad)
  ((l.drop skipped.length).headD p, skipped)

/-- R457, R459: sectors are erased: C, R and E leave them, and LOSTC counts the records after C. -/
def discard (ps : List Nat) (s : State) : State :=
  forEach (s.trend.secs.filter (fun x => x.phys ∈ ps)) (fun x s =>
    let t := s.trend
    let rest := t.secs.filter (fun y => y.sseq ≠ x.sseq)
    let lost := ((List.range x.recs.length).filter (fun i => posLe t.c (x.sseq, i))).length
    let s := { s with trend := { t with secs := rest } }
    let first := oldestPos s
    let mv := fun (p : Nat × Nat) => if p.1 = x.sseq then first else p
    { s with trend := { s.trend with lostc := satAdd 32 t.lostc lost, c := mv t.c, r := mv t.r, e := mv t.e } }) s

/-- R457: the sector after a is erased, bad ones passed over. -/
def eraseAfter (a : Nat) (s : State) : State :=
  let b := nextGood s.trend.nsec a s.trend.bad
  discard (if b.1 = a then [] else b.1 :: b.2) s

/-- R457: a sector has failed; the 65th closes the store. -/
def sectorFails (p : Nat) (s : State) : State :=
  let bad := s.trend.bad ++ [p]
  { s with trend := { s.trend with bad := bad, closed := s.trend.closed || decide (64 < bad.length) } }

/-- R457: the next sector becomes the head, with SSEQ + 1; the sector after it is erased, or, when that fails, skipped. -/
def advanceHead (erased : Bool) (s : State) : State :=
  let t := s.trend
  let p := match headSec s with | some h => h.phys | none => t.nsec - 1
  let q := match headSec s with | some h => h.sseq + 1 | none => 1
  let a := nextGood t.nsec p t.bad
  let s := discard (a.1 :: a.2) s
  let s := { s with trend := { s.trend with secs := s.trend.secs ++ [⟨a.1, q, []⟩] } }
  let b := (nextGood t.nsec a.1 t.bad).1
  if erased || decide (b = a.1) then eraseAfter a.1 s else eraseAfter a.1 (sectorFails b s)

/-- The store can be used: READY, BUS on, a flash, open. -/
def trendUp (s : State) : Bool := ready s && domOn .bus s && s.trend.open_ && !s.trend.closed

/-- R456, R457: one page is programmed; a failing sector is skipped. -/
def programPage (ok erased : Bool) (s : State) : State :=
  match headSec s with
  | none => s
  | some h =>
    let t := s.trend
    if ok then
      let n := min t.buf.length (min (16 - (h.recs.length + 1) % 16) (255 - h.recs.length))
      let h' := { h with recs := h.recs ++ (t.buf.take n).map (·.1) }
      let s := { s with trend := { t with secs := t.secs.dropLast ++ [h'], buf := t.buf.drop n } }
      if h'.recs.length = 255 then advanceHead erased s else s
    else
      let s := sectorFails h.phys s
      if s.trend.closed then s else advanceHead erased s

/-- TREND_PROGRAM (R456, R457): with 16 records waiting, or 10 s after the oldest arrived; `ok` and `erased`: the program
and an erase that follows it have not failed three times. -/
def execTrendProgram (w : PageWrite) (s : State) : Host.Outcome State Fault Refusal :=
  .next (if !trendUp s then s
    else match s.trend.buf with
      | [] => s
      | x :: _ => programPage w.ok w.erased (if s.trend.buf.length < 16 then s.advTo (x.2 + secT 10) else s))

/-- R391, R454: sectors of the store on a flash of so many Mbit. -/
def storeSectors (mbit : Nat) : Nat := 32 * mbit - 256

/-- R458: firmware opens the store. -/
def openStore (s : State) : State :=
  let s := { s with trend := { s.trend with open_ := true, nsec := storeSectors s.pwr.flashMbit } }
  if s.trend.secs.isEmpty then advanceHead true s else s

/-- TREND_OPEN (R458). -/
def execTrendOpen (s : State) : Host.Outcome State Fault Refusal :=
  .next (if ready s && domOn .bus s && s.pwr.sfdp && decide (0 < storeSectors s.pwr.flashMbit) && !s.trend.open_ && !s.trend.closed && !s.fw.recovery
    then openStore s else s)

/-- R456, R532: the buffer is lost; the next record of each log in it carries GAP. -/
def loseBuffer (s : State) : State :=
  let g := s.trend.buf.foldl (fun g x => tblSet false g x.1.log true) s.trend.gap
  { s with trend := { s.trend with buf := [], gap := g, open_ := false } }

/-! ### TREND commands (R461) -/

/-- R390, R457, R458: the status that every TREND command meets first, 0 when the store is open. -/
def trendStatus (s : State) : Nat :=
  if s.trend.closed || (domOn .bus s && s.b aQspiStat 31) then stStoreFail else if !domOn .bus s || !s.trend.open_ then stNoResource else 0

/-- A TREND command runs where the store is open. -/
def trendCmd (s : State) (form : List (Bool × Nat)) (run : Reply × State) : Reply × State :=
  checked (form ++ [(decide (trendStatus s ≠ 0), trendStatus s)]) s run

/-- TREND_STATUS (R461). -/
def execTrendStatus (id : Nat) (s : State) : Host.Outcome State Fault Refusal :=
  .next (runCmd id 0x1001 (fun _ s => trendCmd s [] (
    let t := s.trend
    (.done stOk [BitVec.ofNat 32 (2 ^ 31 + t.bad.length % 65536), BitVec.ofNat 32 t.nsec, posWord (headPos s), posWord (oldestPos s),
      posWord t.c, halves t.tlost t.badrec], s))) s)

/-- TREND_SNAPSHOT (R459, R461). -/
def execTrendSnapshot (id : Nat) (s : State) : Host.Outcome State Fault Refusal :=
  .next (runCmd id 0x1002 (fun _ s => trendCmd s [] (
    let e := bufPos s s.trend.buf.length
    let lost := s.trend.lostc
    let s := { s with trend := { s.trend with e := e, r := s.trend.c, lostc := 0 } }
    (.done stOk [posWord e, posWord s.trend.c, BitVec.ofNat 32 (trendFrom s.trend.c e s).length, BitVec.ofNat 32 lost], s))) s)

/-- R459, R461, R454: the final reply of a TREND.DRAIN: up to k records from R, which advances past them. Bit i of `bad`:
the i-th record from R fails its CRC on the flash; it is skipped and counted in BADREC. -/
def trendOut (k : Nat) (bad : Word) (s : State) : List Word × State :=
  let l := trendFrom s.trend.r s.trend.e s
  let fails := fun (x : ((Nat × Nat) × TrendRec) × Nat) => decide (x.2 < 32) && bit bad x.2 && !posLe (headPos s) x.1.1
  let out := (l.zipIdx.filter (fun x => !fails x)).take k
  let used := if out.length = k then (match out.getLast? with | some x => x.2 + 1 | none => 0) else l.length
  let r := match (l.take used).getLast? with | some x => posNext x.1 | none => s.trend.r
  let words := out.flatMap (fun x => [x.1.2.time, x.1.2.val,
    BitVec.ofNat 32 (((x.1.2.log * 256 + x.1.2.point) * 256 + x.1.2.pflags) * 256 + x.1.2.rflags)])
  ([BitVec.ofNat 32 (min 0xFFFF (l.length - used) * 65536 + out.length), posWord r] ++ words,
    { s with trend := { s.trend with r := r, badrec := satAdd 16 s.trend.badrec ((l.zipIdx.take used).filter fails).length } })

/-- R459: a TREND.DRAIN is about to end: its records are read and R advances, as its final reply enters the reply store. -/
def trendReady (id : Nat) (bad : Word) (s : State) : State :=
  match cmdById id s with
  | some c =>
    if ready s ∧ msgCode c.words = 0x1003 ∧ c.reply.isNone then
      let r := trendOut (fld (mw c.words 1) 0 3) bad s
      updCmd id (fun c => { c with ending := some (stOk, r.1) }) r.2
    else s
  | none => s

/-- TREND_DRAIN (R459, R461). -/
def execTrendDrain (job : DrainJob) (s : State) : Host.Outcome State Fault Refusal :=
  .next (
    let s := if endingOf job.id s then trendReady job.id job.bad s else s
    runCmd job.id 0x1003 (fun c s =>
      let k := fld (mw c.words 1) 0 3
      trendCmd s [(!onlyBits (mw c.words 1) 7, stBadArg), (decide (k < 1 ∨ 4 < k), stBadArg)] (.ends stOk [], s)) s)

/-- TREND_ADVANCE (R459, R461). -/
def execTrendAdvance (id : Nat) (s : State) : Host.Outcome State Fault Refusal :=
  .next (runCmd id 0x1004 (fun c s =>
    let m := mw c.words 1
    let t := s.trend
    let p := (t.c.1 + (fld m 8 24 + 2 ^ 24 - t.c.1 % 2 ^ 24) % 2 ^ 24, fld m 0 8)
    trendCmd s [] (checked [(!(posLe t.c p && posLe p t.r && decide (p.2 < 255)), stRange)] s
      (.st stOk, { s with trend := { t with c := p } }))) s)

end Sys2Proof.Machine
end

