-- ==== Sys2Proof/Machine/Domains.lean ====
section
/-! DEFINITION. Sys2Proof/Machine/Domains.lean: what the reset of each power domain does to the state of its blocks
(R5, R31, R511, R512), and the reset of the device (R519). -/

namespace Sys2Proof.Machine

open Sys2Proof

/-- R31, R20: packets that the islands of a domain hold and requests that they wait for are gone, and their sequence
numbers start again. -/
def resetFabric (d : Dom) (s : State) : State :=
  let of := fun (i : Nat) => decide (islandDom i = some d)
  let fb := s.fab
  { s with fab := { fb with
      flight := fb.flight.filter (fun p => !of (hfld p.hdr 60 4))
      waiting := fb.waiting.filter (fun w => !of (hfld w.pkt.hdr 56 4))
      outstanding := fb.outstanding.filter (fun q => !of q.src)
      answers := fb.answers.filter (fun r => !of r.src)
      txTag := tblDrop (fun k => of (k / 1024)) fb.txTag
      rxTag := tblDrop (fun k => of (k / 16384)) fb.rxTag } }

/-- R246, R276: Cambium, tuners and models; runs in progress end with SLOT_OFF. -/
def resetCamb (s : State) : State :=
  { s with camb := { cambReset with t0 := s.now, runs := s.camb.runs.map (fun r => { r with reason := some 11 }) } }

/-- R141, R175: RTA: converters A and B, AIN0 to AIN47, the result queue and its time base. -/
def resetRta (s : State) : State :=
  let low := fun (k : Nat) => decide (k < 48)
  let i := { s.inp with st := tblDrop low s.inp.st, cap := [] }
  { s with inp := i, cnv := tblDrop (fun k => decide (k < 2)) s.cnv, rq := { rqReset with origin := s.now } }

/-- R141: RTB: converters C and D, AIN48 to AIN95, the presence detectors. -/
def resetRtb (s : State) : State :=
  let i := { s.inp with st := tblDrop (fun k => decide (48 ≤ k)) s.inp.st, pir := [] }
  { s with inp := i, cnv := tblDrop (fun k => decide (k = 2 ∨ k = 3)) s.cnv }

/-- RTP: converters P and Q. -/
def resetRtp (s : State) : State := { s with cnv := tblDrop (fun k => decide (4 ≤ k)) s.cnv }

/-- R486: the recorder's contents are lost. -/
def resetGrr (s : State) : State := { s with grr := { grrReset with doneSec := s.rtc.secs, scrubAt := s.now } }

/-- R212, R372: ports, segments and buses; discovery runs end with ABORTED; the trend store closes. -/
def resetBus (s : State) : State :=
  let s := forRange 5 (fun g s => endRun g stAborted s) s
  let b := { s.bus with port := [], polled := [], svcTx := [] }
  { s with field := fldReset, bus := b, trend := { s.trend with open_ := false } }

/-- R332, R321: BRK: every stage is off and every fan released. -/
def resetBrk (s : State) : State :=
  let s := forRange 48 (fun n s =>
    let s := dropRequests n s
    setChan n { chanSt0 with slotDem := (chanSt n s).slotDem } s) s
  let s := { s with drv := { s.drv with safeQ := [] } }
  forRange 16 (fun f s => setFan f { fanSt0 with slotDem := (fanSt f s).slotDem } s) s

/-- R511: a switchable domain comes to its reset state. -/
def resetDomain (d : Dom) (s : State) : State :=
  let s := match d with
    | .cmb => resetCamb s | .rta => resetRta s | .rtb => resetRtb s | .rtp => resetRtp s | .grr => resetGrr s
    | .bus => resetBus s | .gft => { s with gft := gftReset } | .brk => resetBrk s
    | .hwd => s | .bkp => s | .aon => s | .crn => s
  resetDomRegs d (resetFabric d s)

/-- R31, R511: a domain switches off. -/
def domainOff (d : Dom) (s : State) : State :=
  match domBit d with
  | some b => if s.b aSysPwrstat b then resetDomain d (s.setB aSysPwrstat b false) else s
  | none => s

/-- R511: a domain is powered, every register at its reset value, and isolated no longer. -/
def domainOn (d : Dom) (s : State) : State :=
  match domBit d with
  | some b =>
    if s.b aSysPwrstat b then s
    else
      let s := (resetDomain d s).setB aSysPwrstat b true
      match d with
      | .hwd => if s.pwr.heartOk then s.setReg aHwdJseq (BitVec.ofNat 32 (journalHead s)) else s
      | _ => s
  | none => s

/-- The switchable domains in the order of SYS_PWRCTL. -/
def switchable : List Dom := [.cmb, .rta, .rtb, .rtp, .grr, .hwd, .bus, .gft, .brk]

/-- The domain of a number of the table rows. -/
def domOf (d : Fin 9) : Dom := switchable.getD d .cmb

/-- R511: SYS_PWRCTL is written: domains no longer requested switch off; those requested come up with
DOMAIN_POWER_UP. -/
def pwrctlWrite (v : Word) (s : State) : State :=
  let s := s.setReg aSysPwrctl (v &&& 0x1FF#32)
  forEach switchable (fun d s =>
    match domBit d with
    | some b =>
      if !bit v b then
        domainOff d { s with pwr := { s.pwr with upAt := tblSet none s.pwr.upAt b none } }
      else if s.b aSysPwrstat b ∨ (tblGet none s.pwr.upAt b).isSome then s
      else { s with pwr := { s.pwr with upAt := tblSet none s.pwr.upAt b (some (s.now + msT 2)) } }
    | none => s) s

/-- SYS_PWRCTL_WRITE (R511, R31). -/
def execSysPwrctlWrite (v : Word) (s : State) : Host.Outcome State Fault Refusal := .next (pwrctlWrite v s)

/-! ### Operating points (R14 to R16, R543, R544) -/

/-- R14, R15: a requested pair is allowed. -/
def oppOk (n freq : Nat) (v09 : Bool) : Bool :=
  if n = 0 then decide (10 ≤ freq) && decide (freq ≤ 200) && (v09 || decide (freq ≤ 100))
  else decide (25 ≤ freq) && decide (freq ≤ 100) && (v09 || decide (freq ≤ 50))

/-- R543: a die is at throttle level or beyond. -/
def throttled (s : State) : Bool := decide (2 ≤ s.f (aThermDie 0) 29 3) || decide (2 ≤ s.f (aThermDie 1) 29 3)

/-- R543, R544: the point to reach: the request, or the cap while a die is at throttle level. -/
def oppTarget (n : Nat) (s : State) : Nat × Bool :=
  if throttled s then (min (s.f (aSysOpp n) 0 8) (if n = 0 then 50 else 25), false)
  else (s.f (aSysOpp n) 0 8, s.b (aSysOpp n) 8)

/-- R16: one step towards the target: the voltage first when rising, the clock first when falling. -/
def oppStep (n : Nat) (s : State) : State :=
  let t := oppTarget n s
  let fa := s.f (aSysOpp n) 16 8
  let va := s.b (aSysOpp n) 24
  if t.2 && !va then s.setB (aSysOpp n) 24 true
  else if fa ≠ t.1 then s.setF (aSysOpp n) 16 8 t.1
  else if va && !t.2 then s.setB (aSysOpp n) 24 false
  else s

/-- R14, R16: a write to SYS_OPPn; its first step takes effect. -/
def oppWrite (n : Nat) (v : Word) (s : State) : State :=
  if oppOk n (fld v 0 8) (bit v 8) then oppStep n (plainWrite (aSysOpp n) v s)
  else
    let s := plainWrite (aSysOpp n) ((s.reg (aSysOpp n) &&& 0x1FF) ||| (v &&& 0x80000000)) s
    s.setB (aSysOpp n) 31 true

/-- SYS_OPP_WRITE (R14, R16). -/
def execSysOppWrite (n : Fin 2) (v : Word) (s : State) : Host.Outcome State Fault Refusal := .next (oppWrite n v s)

/-- OPP_STEP_COMPLETE (R16): the next step of a change under way. -/
def execOppStepComplete (n : Fin 2) (s : State) : Host.Outcome State Fault Refusal := .next (oppStep n s)

end Sys2Proof.Machine
end

