-- ==== Sys2Proof/Machine/Reset.lean ====
section
/-! DEFINITION. Sys2Proof/Machine/Reset.lean: entering a device reset (R519, R520, R527), the safe state of the Bark
die (R11, R79), the Crown watchdog registers (R522), the power-fail registers (R515). -/

namespace Sys2Proof.Machine

open Sys2Proof

/-- R11, R79, R342: the Bark die applies every safe value and releases every fan. -/
def barkSafe (cause : Nat) (s : State) : State :=
  fansSafe (applySafe cause s)

/-- A register that a device reset keeps: the BKP domain, SYS_RSTCAUSE, the comparator; on a thermal shut-down the
thermal monitor (R5, R519, R520, R545). -/
def keptReg (therm : Bool) (a : Nat) : Bool :=
  (match regFind a with | some (d, ix) => decide (d.domAt ix = .bkp) | none => false) || decide (a = aSysRstcause)
    || decide (a = aThermSafestat) || decide (a = aThermSafeval) || (therm && decide (aThermTs 0 ≤ a ∧ a < aThermSafestat))

/-- R535, R564: the SVN floor. -/
def svnFloorNow (s : State) : Nat := max Config.svnFloor.val (s.pwr.svnf.getD 0)

/-- R5: a register as it reads: the fields whose reset value is the straps or the fuses show these at every read
(SYS_BOOTSTAT.SVNF, THERM_SAFESTAT.SEL, GRAFT_STAT.ROLE); EXCOFF follows the excitation of its input (R140). -/
def asRead (a : Nat) (s : State) : Word :=
  if a = aSysBootstat then setFld (s.reg a) 8 5 (svnFloorNow s)
  else if a = aThermSafestat then setFld (s.reg a) 25 3 s.ther.safeSel
  else if a = aGraftStat then setFld (s.reg a) 26 2 (s.f aSysStrap 4 2)
  else if aRootAinstat 0 ≤ a ∧ a < aRootAinstat 96 then setBit (s.reg a) 5 (excOff ((a - aRootAinstat 0) / 4) s)
  else s.reg a

/-- R549, R554: SAFE_STOP_N should be asserted: a fault or FORCE. -/
def safeWanted (s : State) : Bool :=
  decide (s.f aThermSafestat 20 2 ≠ 0) || decide (s.f aThermSafestat 22 2 ≠ 0) || s.b aThermSafectl 31

/-- R549: SAFE_STOP_N follows its causes; it stays asserted for 5 s after the last of them ends. A change
of its drive ends FB (R550). -/
def judgeSafe (s : State) : State :=
  let s := s.setB aThermSafestat 28 (s.b aThermSafectl 31)
  if safeWanted s then
    let s := { s with ther := { s.ther with assertEnd := none } }
    if s.b aThermSafestat 31 then s
    else (((s.setB aThermSafestat 31 true).setB aThermSafestat 30 true).setB aThermSafestat 29 false).bump aThermCnt 0 8
  else if s.b aThermSafestat 31 && s.ther.assertEnd.isNone then
    { s with ther := { s.ther with assertEnd := some (s.now + secT 5) } }
  else s

/-- R519, R527: a device reset: every domain but BKP. -/
def enterReset (therm : Bool) (s : State) : State :=
  let regs := s.regs.filter (fun e => keptReg therm e.1)
  let h := { s.heart with cntAcc := [], cntQ := [], shadow := [] }
  let t := if therm then s.ther else { s.ther with excl := [], coolAt := none, cool := 0, level := [] }
  let p := { s.pwr with inService := false, startDue := true, recNext := false, crownAt := none, kickAt := s.now, cwdLocked := false, t0 := s.now, pfOff := 0, pfOpp := 0, upAt := [] }
  let g := { grrReset with doneSec := s.rtc.secs }
  let s := { loseBuffer s with
    regs := regs, fab := fabReset, hp := hpReset, fw := fwReset, inp := inpReset, cnv := [], rq := rqReset, field := fldReset,
    camb := cambReset, drv := drvReset, fan := [], bus := busReset, gft := gftReset, heart := h, grr := g, pwr := p,
    ther := { t with pinForce := none } }
  let s := s.setF aSysStrap 8 3 s.ther.safeSel
  let s := s.setB aThermSafestat 30 false
  judgeSafe s

/-- R519, R530: the cause that held the device reset has ended: start-up is due from here, unless RESET_N is low. -/
def releaseHold (s : State) : State :=
  { s with pwr := { s.pwr with held := if s.pwr.pinLow then some .pin else none, t0 := s.now, kickAt := s.now } }

/-- R520: a reset cause sets its bit. -/
def resetCause (b : Nat) (s : State) : State := s.setB aSysRstcause b true

/-! ### Crown watchdog registers (R522) -/

/-- R522: the interval in force. -/
def cwdInterval (s : State) : Nat := s.f aSysCwd 0 11

/-- R522, R3: a write to SYS_CWD: KEY kicks; the first write sets and locks INTERVAL. -/
def cwdWrite (v : Word) (s : State) : State :=
  let s := if fld v 16 16 = 0xC3A5 then { s with pwr := { s.pwr with kickAt := s.now } } else s
  if s.pwr.cwdLocked then s
  else
    let i := fld v 0 11
    let i := if 100 ≤ i ∧ i ≤ 2000 then i else 2000
    { s.setF aSysCwd 0 11 i with pwr := { s.pwr with cwdLocked := true } }

/-- WATCHDOG_KICK (R522). -/
def execWatchdogKick (v : Word) (s : State) : Host.Outcome State Fault Refusal :=
  .next (if s.pwr.held.isSome then s else cwdWrite v s)

/-! ### Power-fail registers (R515) -/

/-- R515: a write to SYS_PFCFG. -/
def pfcfgWrite (v : Word) (s : State) : State :=
  if fld v 0 16 < 2550 ∨ 5400 < fld v 0 16 then s.setB aSysPfstat 26 true else plainWrite aSysPfcfg v s

/-! ### VFIELD (R510) -/

/-- VFLOW (R510): VFIELD below 16.0 V for 10 ms: Twig segments lose power, and a discovery run ends as one whose segment
is switched off. -/
def execVflow (s : State) : Host.Outcome State Fault Refusal :=
  .next (if s.b aSysPfstat 27 || s.pwr.held.isSome then s else
    forRange 5 (fun g s => if domOn .bus s && s.b (aTwigSegctl g) 31 then endRun g stAborted (twIdle g (s.setF (aTwigSegstat g) 24 3 0)) else s)
      (s.setB aSysPfstat 27 true))

/-- VFLOW_CLEAR (R510): VFIELD above 17.0 V for 100 ms; not while VFREV is set. -/
def execVflowClear (s : State) : Host.Outcome State Fault Refusal :=
  .next (if !s.b aSysPfstat 27 || s.b aDrvGstat 31 then s else
    forRange 5 (fun g s => if domOn .bus s && s.b (aTwigSegctl g) 31 then twOn g s else s) (s.setB aSysPfstat 27 false))

end Sys2Proof.Machine
end

