-- ==== Sys2Proof/Machine/Thermal.lean ====
section
/-! DEFINITION. Sys2Proof/Machine/Thermal.lean: the thermal monitor (R538 to R546), the safety stop (R547 to R552) and
the SAFE commands (R553, R554). -/

namespace Sys2Proof.Machine

open Sys2Proof

/-! ### Sensors (R538 to R540). Temperatures in units of 0.125 °C. -/

/-- The sensors of die d. -/
def dieSensors : Nat → List Nat
  | 0 => [0, 1, 2, 3] | 1 => [4, 5, 6, 7] | _ => [8]
/-- The die of a sensor. -/
def sensorDie (k : Nat) : Nat := if k < 4 then 0 else if k < 8 then 1 else 2

/-- R540: a reading that counts. -/
def counts (r : Option Int) : Option Int := r.filter (fun t => decide (-400 ≤ t ∧ t ≤ 1400))

/-- R540: two readings of a die disagree: they differ by more than 8 K plus the allowance. -/
def disagree (d : Nat) (a b : Int) (s : State) : Bool :=
  decide (64 + 2 * (if d = 0 then s.f aThermCfg 0 8 else s.f aThermCfg 8 8) < (a - b).natAbs)

/-- R540: sensor k of the Crown or Bark die is excluded in this sample. -/
def caseApplies (rs : List (Option Int)) (k : Nat) (s : State) : Bool :=
  match counts (nth rs k none) with
  | none => true
  | some t =>
    if sensorDie k = 2 then false
    else
      let others := ((dieSensors (sensorDie k)).filter (· ≠ k)).filterMap (fun j => counts (nth rs j none))
      decide (2 ≤ (others.filter (fun u => disagree (sensorDie k) t u s)).length)

/-- R540: the sensor is good. -/
def sensorGood (k : Nat) (s : State) : Bool := decide (tblGet 0 s.ther.excl k = 0)

/-- R540: sensor k after a sample: excluded, or good again after 10 clean samples. -/
def judgeSensor (k : Nat) (r : Option Int) (bad : Bool) (s : State) : State :=
  let n := tblGet 0 s.ther.excl k
  let put := fun (m : Nat) (s : State) => { s with ther := { s.ther with excl := tblSet 0 s.ther.excl k m } }
  let s := if bad then
      (if n = 0 then ((put 1 s).setB (aThermTs k) 30 true).bump aThermCnt 8 8 else put 1 s)
    else if n = 0 then s else if 10 ≤ n then put 0 s else put (n + 1) s
  let s := match r with | some t => s.setF (aThermTs k) 0 16 (lowBits 16 t) | none => s
  s.setB (aThermTs k) 31 (sensorGood k s)

/-- The readings of the good sensors of die d. -/
def goodReadings (rs : List (Option Int)) (d : Nat) (s : State) : List Int :=
  (dieSensors d).filterMap (fun k => if sensorGood k s then nth rs k none else none)

/-- R540: the sensors of a sample: Crown and Bark, then TS8 against the mean of the good Crown sensors. -/
def judgeSensors (rs : List (Option Int)) (s : State) : State :=
  let s0 := s
  let s := forRange 8 (fun k s => judgeSensor k (nth rs k none) (caseApplies rs k s0) s) s
  let crown := goodReadings rs 0 s
  let far := match counts (nth rs 8 none), crown with
    | some t, _ :: _ => decide (240 * crown.length < (t * crown.length - crown.foldl (· + ·) 0).natAbs)
    | _, _ => false
  judgeSensor 8 (nth rs 8 none) (caseApplies rs 8 s0 || far) s

/-! ### Levels (R541 to R543) -/

/-- R541: the temperature of a die, if it has a good sensor. -/
def dieTemp (rs : List (Option Int)) (d : Nat) (s : State) : Option Int :=
  (goodReadings rs d s).foldl (fun a t => match a with | some u => some (max u t) | none => some t) none

/-- R541: the limits of die d (0 Crown, 1 Bark) make it treated as at throttle level. -/
def dieForced (rs : List (Option Int)) (d : Nat) (s : State) : Bool :=
  let g := goodReadings rs d s
  let spread := match g with | [] => false | x :: t => decide (80 < t.foldl max x - t.foldl min x)
  let hot := match dieTemp rs 0 s, dieTemp rs 1 s with
    | some a, some b => if d = 0 then decide (240 < a - b) else decide (240 < b - a)
    | _, _ => false
  decide (d < 2) && (decide (g.length < 2) || (decide (d = 0) && spread) || hot)

/-- R542: warning, throttle and shut-down levels of a die; none for Heartwood beyond warning. -/
def dieLevels : Nat → Int × Option Int × Option Int
  | 0 => (840, some 920, some 1040) | 1 => (920, some 1000, some 1160) | _ => (760, none, none)

/-- R542: a level is reached at its threshold and left 5 K below it. -/
def holdsLevel (thr : Option Int) (t : Option Int) (was : Bool) : Bool :=
  match thr, t with
  | some h, some t => decide (h ≤ t) || (was && decide (h - 40 ≤ t))
  | _, _ => false

/-- R542: the level that the temperature of die d has reached after a sample. -/
def levelOf (rs : List (Option Int)) (d : Nat) (s : State) : Nat :=
  let old := tblGet 0 s.ther.level d
  let t := match dieTemp rs d s with | some t => some t | none => if d = 2 then dieTemp rs 0 s else none
  let l := dieLevels d
  if holdsLevel l.2.2 t false then 3
  else if holdsLevel l.2.1 t (decide (2 ≤ old)) then 2
  else if holdsLevel (some l.1) t (decide (1 ≤ old)) then 1 else 0

/-- R526, R545: a die reaches shut-down: a device reset, held. -/
def thermalShutdown (d : Nat) (s : State) : State :=
  let s := resetCause 5 (s.bump aThermCnt 24 8)
  let s := enterReset true s
  { s with pwr := { s.pwr with held := some (.therm d s.now) }, ther := { s.ther with cool := 0 } }

/-- R543, R541: die d after a sample: its register, and what reaching warning and throttle does. -/
def judgeDie (rs : List (Option Int)) (d : Nat) (s : State) : State :=
  let old := s.f (aThermDie d) 29 3
  let forced := dieForced rs d s
  let reached := levelOf rs d s
  let l := if forced then max 2 reached else reached
  let s := { s with ther := { s.ther with level := tblSet 0 s.ther.level d reached } }
  let s := (s.setF (aThermDie d) 29 3 l).setB (aThermDie d) 28 forced
  let s := s.setF (aThermDie d) 16 4 (goodReadings rs d s).length
  let s := match dieTemp rs d s with | some t => s.setF (aThermDie d) 0 16 (lowBits 16 t) | none => s
  let s := if old < 1 ∧ 1 ≤ l then ringEvent 8 (s.setB (aThermDie d) 27 true) else s
  if old < 2 ∧ 2 ≤ l then ringEvent 8 ((s.setB (aThermDie d) 26 true).bump aThermCnt 16 8) else s

/-- R539: the sampling rate after a sample. -/
def judgeRate (rs : List (Option Int)) (s : State) : State :=
  let all := [0, 1, 2].flatMap (fun d => (goodReadings rs d s).map (fun t => ((dieLevels d).1, t)))
  if all.any (fun x => decide (x.1 - 80 ≤ x.2)) then
    { s.setB aThermCfg 31 true with ther := { s.ther with coolAt := none } }
  else if all.all (fun x => decide (x.2 < x.1 - 120)) then
    match s.ther.coolAt with
    | none => { s with ther := { s.ther with coolAt := some s.now } }
    | some t => if secT 1 ≤ s.now - t then s.setB aThermCfg 31 false else s
  else { s with ther := { s.ther with coolAt := none } }

/-- R540, R546: one sample: sensors first, then levels. -/
def thermSample (rs : List (Option Int)) (s : State) : State :=
  let s := { s with ther := { s.ther with sampleAt := s.now } }
  let s := judgeRate rs (judgeDie rs 2 (judgeDie rs 1 (judgeDie rs 0 (judgeSensors rs s))))
  oppStep 1 (oppStep 0 s)

/-- R545: every good sensor of die d reads at least 5 K below its shut-down level; none: it has no good sensor. -/
def dieCool (rs : List (Option Int)) (d : Nat) (s : State) : Option Bool :=
  match goodReadings rs d s, (dieLevels d).2.2 with
  | [], _ => none
  | l, some h => some (l.all (fun t => decide (t ≤ h - 40)))
  | _, none => some true

/-- R545: a sample during a hold. -/
def holdSample (d : Nat) (rs : List (Option Int)) (s : State) : State :=
  let s := thermSample rs (s.setB aThermCfg 31 true)
  { s with ther := { s.ther with cool := if dieCool rs d s = some true then s.ther.cool + 1 else 0 } }

/-- THERMAL_SAMPLE (R539 to R543): the nine readings, none where the readout reports an open or shorted diode. -/
def execThermalSample (readings : List (Option Int)) (s : State) : Host.Outcome State Fault Refusal :=
  .next (match s.pwr.held with
    | some (.therm d _) => holdSample d readings (s.advTo (s.ther.sampleAt + msT 10))
    | some _ => s
    | none =>
      let s := thermSample readings (s.advTo (s.ther.sampleAt + msT (if s.b aThermCfg 31 then 10 else 100)))
      if s.f (aThermDie 0) 29 3 = 3 then thermalShutdown 0 s
      else if s.f (aThermDie 1) 29 3 = 3 then thermalShutdown 1 s
      else s)

/-- SHUTDOWN_HOLD_END (R526, R545): these readings hold for 10 samples: the hold ends after at least 1 s, or after 60 s
when the die has no good sensor. Start-up is then due. -/
def execShutdownHoldEnd (readings : List (Option Int)) (s : State) : Host.Outcome State Fault Refusal :=
  .next (match s.pwr.held with
    | some (.therm d at_) =>
      let s := forRange 10 (fun _ s => holdSample d readings (s.advTo (s.ther.sampleAt + msT 10))) s
      let free := fun (t : Nat) (s : State) => releaseHold (s.advTo t)
      match dieCool readings d s with
      | some _ => if 10 ≤ s.ther.cool then free (at_ + secT 1) s else s
      | none => free (at_ + secT 60) s
    | _ => s)

/-! ### The safety comparator (R547 to R550) -/

/-- R547: trip voltage in mV of a SAFE_SEL value. -/
def tripMv (sel : Nat) : Nat := nth [725, 572, 450, 354, 280, 223, 178, 144] sel 144
/-- R548: the voltage in mV that stands for the trip temperature minus 5 K (B = 3,450 K, 10 kΩ against 10 kΩ),
whole mV below it. -/
def tripEndMv (sel : Nat) : Nat := nth [814, 644, 507, 398, 314, 249, 198, 159] sel 159

/-- R528: the comparator works: not while the power-on reset is asserted. -/
def comparatorOn (s : State) : Bool := decide (s.pwr.held ≠ some .por)

/-- The lowest bit of STATEi. -/
def stateBit (i : Nat) : Nat := 20 + 2 * i

/-- R555: THERM_SAFEVAL shows a pin voltage. -/
def showPin (i mv : Nat) (s : State) : State := s.setF aThermSafeval (16 * i) 12 (min 4095 (mv * 4096 / 2500))

/-- FB (R550): the pin has read this level for more than 1 ms. -/
def execFb (high : Bool) (s : State) : Host.Outcome State Fault Refusal :=
  .next (if comparatorOn s then (s.advTo (s.ther.porAt + msT 2)).setB aThermSafestat 29 (high == s.b aThermSafestat 31) else s)

/-- R555, R37: a write to THERM_SAFECTL; FORCE is secure-only. -/
def safectlWrite (sec : Bool) (v : Word) (s : State) : State :=
  let force := if sec then bit v 31 else s.b aThermSafectl 31
  let s := if force then s else { s with ther := { s.ther with pinForce := none } }
  judgeSafe ((s.setB aThermSafectl 30 (bit v 30)).setB aThermSafectl 31 force)

/-- R555: a write to THERM_CFG. -/
def thermCfgWrite (v : Word) (s : State) : State :=
  if 40 < fld v 0 8 ∨ 40 < fld v 8 8 then s.setB aThermCfg 30 true else plainWrite aThermCfg v s

/-- R554: the force of PIN ends. -/
def endPinForce (s : State) : State := judgeSafe ({ s with ther := { s.ther with pinForce := none } }.setB aThermSafectl 31 false)

end Sys2Proof.Machine
end

