-- ==== Sys2Proof/Machine/Access.lean ====
section
/-! DEFINITION. Sys2Proof/Machine/Access.lean: reading and writing the expert block space: fabric status of an address
(R31 to R37), the write rules of every block in one place, requests of one to sixteen words, Sapflow routing and
credits (R18 to R28), and the die links (R10, R11). -/

namespace Sys2Proof.Machine

open Sys2Proof

/-! ### Status of an address (R31 to R37) -/

/-- R37: a register that is secure-only as a whole. Words 0 to 31 of the backup SRAM refuse a write; a read through
HCS_N gives 0 (R506). The host-port mirror has no such register: a SEC = 0 read of a secure channel's register sees what a
frame through HCS_N would see (R53), which is 0 (R52). -/
def secureOnly (wr : Bool) (a : Nat) : Bool := decide (a = aRtcTrkl) || (wr && decide (aRtcBram 0 ≤ a ∧ a < aRtcBram 32))

/-- R10: the key of a die link in the fabric's tables. -/
def linkKey : DieLink → Nat
  | .bark => 0 | .heartwood => 1

/-- R10: the bridge of a die link answers LINK_FAIL. -/
def linkDown (l : DieLink) (s : State) : Bool := tblGet false s.fab.down (linkKey l)

/-- R10: a bridge answers LINK_FAIL at once: its link has failed, or the Heartwood die did not answer at start-up (R533). -/
def bridgeFails (l : DieLink) (s : State) : Bool := linkDown l s || (decide (l = .heartwood) && !s.pwr.heartOk)

/-- R10, R34: the address is served by the bridge of a die link that has failed: blocks DRV and FAN by BKB, block HWD by
HWB. -/
def linkFails (a : Nat) (s : State) : Bool :=
  (decide (0x070000 ≤ a ∧ a < 0x090000) && bridgeFails .bark s)
    || (decide (0x0C0000 ≤ a ∧ a < 0x0D0000) && bridgeFails .heartwood s)

/-- R32, R35: the fabric status of one word. -/
def wordStatus (sec wr : Bool) (a : Nat) (s : State) : Nat :=
  if !addrMapped a then 1
  else if !domOn (addrDom a) s then 2
  else if !sec && secureOnly wr a then 3
  else if linkFails a s then 4
  else 0

/-! ### Reading -/

/-- A read of one register by a reader (0 and 1 the cores, 2 the host expert window): its word and its effect. -/
def regRead (sec : Bool) (r : Nat) (a : Nat) (s : State) : Word × State :=
  if 0x020000 ≤ a ∧ a < 0x030000 then (hpRead sec a s, s)
  else if aRqLvtlo 0 ≤ a ∧ a < aRqLvtlo 256 then
    let n := (a - aRqLvtlo 0) / 8
    if a % 8 = 0 then
      (s.reg a, { s with rq := { s.rq with shadow := tblSet 0 s.rq.shadow r (s.reg (aRqLvthi n)) } })
    else (tblGet 0 s.rq.shadow r, s)
  else if aCambCtl 0 ≤ a ∧ a < aCambCtl 96 ∧ (a - aCambCtl 0) % 256 = 0x54 then
    (let n := (a - aCambCtl 0) / 256
     if (slotSt n s).rspSet then s.reg a else inF (aCambSpk n) s, s)
  else if aFanCfg 0 ≤ a ∧ a < aFanCfg 16 ∧ (a - aFanCfg 0) % 64 = 0x18 then
    (let f := (a - aFanCfg 0) / 64
     (setFld (s.reg a) 16 16 (fanSpeed f s), s))
  else if aRootAinstat 0 ≤ a ∧ a < aRootAinstat 96 then (let s := settleMode ((a - aRootAinstat 0) / 4) s; (asRead a s, s))
  else if aRootCnvctl 0 ≤ a ∧ a < aRootCnvctl 6 then (let s := catchUp ((a - aRootCnvctl 0) / 16) s; (asRead a s, s))
  else if a = aRqTimems then (BitVec.ofNat 32 (timeBaseMs s), s)
  else if aHwdWin 0 ≤ a ∧ a < aHwdWin 16 then (heartWindow ((a - aHwdWin 0) / 4) s, s)
  else if aHwdLock 0 ≤ a ∧ a < aHwdLock 4 then (lockWord ((a - aHwdLock 0) / 4) s, s)
  else if a = aGrrCursor then (tblGet 0 s.grr.cursor r, s)
  else if aGrrWin 0 ≤ a ∧ a < aGrrWin 16 then (tblGet 0 s.grr.win (16 * r + (a - aGrrWin 0) / 4), s)
  else if a = aRtcSec then let s := rtcCapture r s; (rtcShadow r 0 s, s)
  else if aRtcSec < a ∧ a ≤ aRtcSubsec then (rtcShadow r ((a - aRtcSec) / 4) s, s)
  else if aRtcBram 0 ≤ a ∧ a < aRtcBram 32 then (if sec then s.reg a else 0, s)
  else if a = aThermSafectl then (if sec then s.reg a else setBit (s.reg a) 31 false, s)
  else (asRead a s, s)

/-! ### Writing -/

/-- A write to the SYS block. -/
def sysWrite (a : Nat) (v : Word) (s : State) : State :=
  if a = aSysCwd then cwdWrite v s
  else if a = aSysPwrctl then pwrctlWrite v s
  else if a = aSysPfcfg then pfcfgWrite v s
  else if a = aSysOpp 0 then oppWrite 0 v s
  else if a = aSysOpp 1 then oppWrite 1 v s
  else plainWrite a v s

/-- A write to the ROOT block; a hole ignores it (R35). -/
def rootWrite (a : Nat) (v : Word) (s : State) : State :=
  if (regFind a).isNone then s
  else if a < aRootCnvctl 0 then seqWrite ((a - 0x030000) / 8) (decide (a % 8 = 4)) v s
  else if a < aRootCnvctl 6 then
    let c := (a - aRootCnvctl 0) / 16
    if a % 16 = 0 then cnvctlWrite c v s
    else if a % 16 = 8 then urgentRequest c (fld v 0 5) s
    else plainWrite a v s
  else if aRootAincfg 0 ≤ a ∧ a < aRootAincfg 96 then aincfgWrite ((a - aRootAincfg 0) / 4) v s
  else if aRootPircfg 0 ≤ a ∧ a < aRootPircfg 12 then pircfgWrite ((a - aRootPircfg 0) / 4) v s
  else plainWrite a v s

/-- A write to the CAMB block. -/
def cambWrite (a : Nat) (v : Word) (s : State) : State :=
  if a < aCambCtl 96 then slotWrite ((a - aCambCtl 0) / 256) ((a - aCambCtl 0) % 256) v s
  else if a = aCambGctl then gctlWrite v s
  else if aCambTctl 0 ≤ a ∧ a < aCambTctl 8 then tunerWrite a ((a - aCambTctl 0) / 64) v s
  else plainWrite a v s

/-- R331: a write to DRV_SAFECLR0 or DRV_SAFECLR1. -/
def safeclrWrite (hi : Nat) (v : Word) (s : State) : State :=
  forRange 32 (fun i s => if bit v i ∧ 32 * hi + i < 48 then releaseSafe (32 * hi + i) s else s) s

/-- A write to the DRV block. -/
def drvBlockWrite (a : Nat) (v : Word) (s : State) : State :=
  if a < aDrvCtl 48 then
    let n := (a - aDrvCtl 0) / 64
    let o := (a - aDrvCtl 0) % 64
    if o = 0 then drvCtlWrite n v s
    else if a = aDrvMan n then manWrite n v s
    else drvWrite n o v s
  else if a = aDrvSafeclr 0 then safeclrWrite 0 v s
  else if a = aDrvSafeclr 1 then safeclrWrite 1 v s
  else if aDrvPwmper 0 ≤ a ∧ a < aDrvPwmper 64 then pwmWrite ((a - aDrvPwmper 0) / 8) (decide (a % 8 = 4)) v s
  else plainWrite a v s

/-- A write to the FAN block. -/
def fanBlockWrite (a : Nat) (v : Word) (s : State) : State :=
  if a < aFanCfg 16 then
    (if (a - aFanCfg 0) % 64 ≤ 0x10 then fanWrite ((a - aFanCfg 0) / 64) ((a - aFanCfg 0) % 64) v s else plainWrite a v s)
  else if a = aFanSafeclr then forRange 16 (fun f s => if bit v f then fanRelease f s else s) s
  else plainWrite a v s

/-- A write to the BUS and TWIG blocks. -/
def busBlockWrite (a : Nat) (v : Word) (s : State) : State :=
  if a < aBusPcfg 6 ∧ a % 16 = 0 then pcfgWrite ((a - aBusPcfg 0) / 16) v s
  else if aBusI2cctl 0 ≤ a ∧ a < aBusI2cctl 8 then i2cctlWrite ((a - aBusI2cctl 0) / 4) v s
  else if aBusI2cx 0 ≤ a ∧ a < aBusI2cx 64 then xWrite ((a - aBusI2cx 0) / 4) v s
  else if aBusI2ctr 0 0 ≤ a ∧ a < aBusI2ctr 8 0 then
    let p := (a - aBusI2ctr 0 0) / 2048
    let o := (a - aBusI2ctr 0 0) % 2048
    if o < 2048 ∧ o % 128 = 0 then trWrite p (o / 128) v s else plainWrite a v s
  else if aTwigSegctl 0 ≤ a ∧ a < aTwigSegctl 5 ∧ a % 16 = 0 then segctlWrite ((a - aTwigSegctl 0) / 16) v s
  else plainWrite a v s

/-- A write to the HWD block. -/
def hwdBlockWrite (a : Nat) (v : Word) (s : State) : State :=
  if a = aHwdSave then hwdSaveWrite v s
  else if aHwdCntcfg 0 ≤ a ∧ a < aHwdCntcfg 128 then cntcfgWrite ((a - aHwdCntcfg 0) / 4) v s
  else plainWrite a v s

/-- A write to the GRR block. -/
def grrBlockWrite (r : Nat) (a : Nat) (v : Word) (s : State) : State :=
  if a = aGrrCursor then cursorWrite r v s
  else if a = aGrrPreswr then preswr v s
  else if aGrrChcfg 0 ≤ a ∧ a < aGrrChcfg 256 then chcfgWrite ((a - aGrrChcfg 0) / 4) v s
  else if aGrrEdge 0 0 ≤ a ∧ a < aGrrEdge 32 0 ∧ (regFind a).isSome then edgeWrite a ((a - 0x0D2000) / 128) v s
  else plainWrite a v s

/-- A write to the RTC block. -/
def rtcBlockWrite (sec : Bool) (a : Nat) (v : Word) (s : State) : State :=
  if s.rtc.held then s
  else if a ≤ aRtcSubsec then rtcTimeWrite ((a - aRtcSec) / 4) v s
  else if a = aRtcCtl then rtcCtlWrite v s
  else if a = aRtcCal then rtcCalWrite v s
  else if a = aRtcTrkl then trickleWrite sec v s
  else if a = aRtcFsoarm then fsoarmWrite v s
  else plainWrite a v s

/-- A write of one register, by the rules of its block; the host-port mirror ignores writes (R53). -/
def regWrite (sec : Bool) (r : Nat) (a : Nat) (v : Word) (s : State) : State :=
  if a < 0x020000 then sysWrite a v s
  else if a < 0x030000 then s
  else if a < 0x040000 then rootWrite a v s
  else if a < 0x050000 then plainWrite a v s
  else if a < 0x060000 then cambWrite a v s
  else if a < 0x070000 then (if a < aModelCtl 48 then modelWrite ((a - aModelCtl 0) / 256) ((a - aModelCtl 0) % 256) v s else s)
  else if a < 0x080000 then drvBlockWrite a v s
  else if a < 0x090000 then fanBlockWrite a v s
  else if a < 0x0A0000 then eschWrite a v s
  else if a < 0x0B0000 then busBlockWrite a v s
  else if a < 0x0C0000 then graftWrite a v s
  else if a < 0x0D0000 then hwdBlockWrite a v s
  else if a < 0x0E0000 then grrBlockWrite r a v s
  else if a < 0x0F0000 then rtcBlockWrite sec a v s
  else if a = aThermSafectl then safectlWrite sec v s
  else if a = aThermCfg then thermCfgWrite v s
  else plainWrite a v s

/-! ### Requests of several words (R32, R100) -/

/-- A read request from an address: the status of the first failing word or 0, and the words before it. -/
def readWords (sec : Bool) (r : Nat) : Nat → Nat → State → Nat × List Word × State
  | _, 0, s => (0, [], s)
  | a, n + 1, s =>
    let st := wordStatus sec false a s
    if st ≠ 0 then (st, [], s)
    else
      let x := regRead sec r a s
      let y := readWords sec r (a + 4) n x.2
      (y.1, x.1 :: y.2.1, y.2.2)

/-- A write request: the status of the first failing word or 0, the number of words before it. -/
def writeWords (sec : Bool) (r : Nat) : Nat → List Word → State → Nat × Nat × State
  | _, [], s => (0, 0, s)
  | a, v :: t, s =>
    let st := wordStatus sec true a s
    if st ≠ 0 then (st, 0, s)
    else
      let y := writeWords sec r (a + 4) t (regWrite sec r a v s)
      (y.1, y.2.1 + 1, y.2.2)

/-- R608: the points whose registers a range of words touches. -/
def pointsIn (a n : Nat) : List Nat :=
  (List.range 256).filter (fun p => decide (aRqPcfg p < a + 4 * n) && decide (a < aRqPcfg p + 64))

/-- R608, R100: a write request, and the judgement of the points it touches at its end. -/
def writeRequest (sec : Bool) (r : Nat) (a : Nat) (ws : List Word) (s : State) : Nat × Nat × State :=
  let y := writeWords sec r a ws s
  (y.1, y.2.1, if aRqPcfg 0 ≤ a ∧ a < aRqPcfg 256 then forEach (pointsIn a ws.length) (fun p t => settlePoint p s t) y.2.2 else y.2.2)

/-- R6: the event counter tied to a W1C flag: its register, lowest bit and width. -/
def tiedCounter (a i : Nat) : Option (Nat × Nat × Nat) :=
  if aRootAinstat 0 ≤ a ∧ a < aRootAinstat 96 then (if i = 7 then some (a, 24, 8) else none)
  else if aRootCnvctl 0 ≤ a ∧ a < aRootCnvctl 6 then (if a % 16 = 4 ∧ i = 30 then some (a + 8, 0, 16) else none)
  else if aRqPcfg 0 ≤ a ∧ a < aRqPcfg 256 then (if a % 64 = 0x30 ∧ i = 2 then some (a, 24, 8) else none)
  else if aRqPart 0 ≤ a ∧ a < aRqPart 3 then (if i = 15 then some (a, 16, 16) else none)
  else if aTwigSegctl 0 ≤ a ∧ a < aTwigSegctl 5 then (if a % 16 = 4 ∧ i = 27 then some (a, 16, 8) else none)
  else if aCambCtl 0 ≤ a ∧ a < aCambCtl 96 then (if a % 256 = 0x0C ∧ i = 30 then some (a + 0x60, 16, 16) else none)
  else if aModelCtl 0 ≤ a ∧ a < aModelCtl 48 then (if a % 256 = 4 ∧ i = 30 then some (a + 0x64, 0, 16) else none)
  else if aDrvCtl 0 ≤ a ∧ a < aDrvCtl 48 then (if a % 64 = 0x14 ∧ i = 27 then some (a + 0x0C, 0, 8) else none)
  else if a = aDrvGstat then (if i = 30 then some (a, 0, 8) else none)
  else if aFanCfg 0 ≤ a ∧ a < aFanCfg 16 then (if a % 64 = 0x14 ∧ i = 30 then some (a + 8, 16, 16) else none)
  else if a = aEschStat then
    (if i = 30 then some (aEschCnt, 16, 16) else if i = 29 then some (aEschCnt, 8, 8) else if i = 28 then some (aEschCnt, 0, 8) else none)
  else if aThermTs 0 ≤ a ∧ a < aThermTs 9 then (if i = 30 then some (aThermCnt, 8, 8) else none)
  else if aThermDie 0 ≤ a ∧ a < aThermDie 3 then (if i = 26 then some (aThermCnt, 16, 8) else none)
  else if a = aThermSafestat then (if i = 30 then some (aThermCnt, 0, 8) else none)
  else none

/-- R6, R33: the W1C flags that hardware sets in the cycle of a write stand after it, and their event counters count. In
SYS_SFERR bits [30:12] of `hw` are the record of the error. -/
def hwFlags (a : Nat) (hw : Word) (s : State) : State :=
  if a = aSysSferr then
    (if bit hw 31 then
      (let s := s.bump aSysSfdrop 0 16
       if s.b aSysSferr 31 then s else s.setReg aSysSferr (hw &&& 0xFFFFF000))
     else s)
  else
    match regFind a with
    | none => s
    | some (d, _) =>
      forRange 32 (fun i s =>
        if bit (hw &&& d.w1c) i then
          (let s := s.setB a i true
           match tiedCounter a i with
           | some (b, lo, n) => s.bump b lo n
           | none => s)
        else s) s

/-- REGISTER_WRITE (R3 to R7, R33 to R37): a write of one register with the flags that hardware sets in the same
cycle. -/
def execRegisterWrite (sec : Bool) (addr : Nat) (v hw : Word) (s : State) : Host.Outcome State Fault Refusal :=
  .next (if addr % 4 ≠ 0 ∨ wordStatus sec true addr s ≠ 0 ∨ s.pwr.held.isSome then s
    else
      let t := hwFlags addr hw (regWrite sec 2 addr v s)
      if aRqPcfg 0 ≤ addr ∧ addr < aRqPcfg 256 then settlePoint ((addr - aRqPcfg 0) / 64) s t else t)

/-! ### Packets, routing and credits (R18 to R28) -/

/-- R26: the links of the Crown die, by the islands they join, with the depth of each class's buffer. -/
def fabLinks : List (Nat × Nat × Nat) := [
  (1, 2, 8), (1, 3, 8), (1, 6, 8), (1, 7, 8), (1, 11, 8), (2, 3, 8), (2, 9, 8), (9, 10, 8), (7, 10, 8), (6, 11, 8),
  (1, 8, 12), (1, 9, 6), (3, 4, 6), (3, 5, 6)]

/-- The link that joins two islands. -/
def linkBetween (a b : Nat) : Option Nat :=
  (List.range 14).find? (fun k => match fabLinks[k]? with
    | some (x, y, _) => decide ((x = a ∧ y = b) ∨ (x = b ∧ y = a))
    | none => false)

/-- The islands that a link joins to an island, in the order of R26. -/
def neighbours (a : Nat) : List Nat :=
  fabLinks.filterMap (fun l => if l.1 = a then some l.2.1 else if l.2.1 = a then some l.1 else none)

/-- An island is reached over at most n links. -/
def within : Nat → Nat → Nat → Bool
  | 0, a, b => decide (a = b)
  | n + 1, a, b => decide (a = b) || (neighbours a).any (fun c => within n c b)

/-- The next island on a shortest path, the first link of R26 where several serve (log entry 25). -/
def nextIsland (a b : Nat) : Nat :=
  match (List.range 5).find? (fun n => within (n + 1) a b) with
  | some n => ((neighbours a).find? (fun c => within n c b)).getD b
  | none => b

/-- Flits of a packet. -/
def flits (p : Packet) : Nat := 1 + p.payload.length

/-- The key of the credits of requests on a link towards an island. -/
def creditKey (link far : Nat) : Nat := 2 * link + (match fabLinks[link]? with | some x => (decide (x.1 = far)).toNat | none => 0)
/-- Request credits in use on a link towards an island. -/
def creditsUsed (link far : Nat) (s : State) : Nat := tblGet 0 s.fab.used (creditKey link far)
/-- The depth of a link's buffers. -/
def linkDepth (link : Nat) : Nat := match fabLinks[link]? with | some x => x.2.2 | none => 6

/-- R10: a request is answered LINK_FAIL: counted, and the first since the link failed recorded. -/
def linkFailure (l : DieLink) (hdr : Flit) (s : State) : State :=
  if tblGet false s.fab.failSeen (linkKey l) then s.setReg aSysSfdrop (bumpFld (s.reg aSysSfdrop) 0 16)
  else fabricError 5 hdr { s with fab := { s.fab with failSeen := tblSet false s.fab.failSeen (linkKey l) true } }

/-- R31, R10, R33: the fabric error of a request whose word at `a` was answered with status `st`. -/
def requestError (st a : Nat) (hdr : Flit) (s : State) : State :=
  if st = 2 then fabricError 4 hdr s
  else if st = 4 then linkFailure (if a < 0x090000 then .bark else .heartwood) hdr s
  else s

/-- R173: the reader that a request's TAG names: 0 and 1 the cores, 2 the host expert window. -/
def tagReader (tag : Nat) : Nat := if tag < 24 then 0 else if tag < 48 then 1 else 2

/-- R22: the response to a request. -/
def respond (dst src tag st addr : Nat) (data : List Word) (s : State) : State :=
  { s with fab := { s.fab with answers := s.fab.answers ++ [⟨dst, src, tag, st, addr, data⟩] } }

/-- R10: the last flit of a request has left. -/
def requestLeft (src tag : Nat) (s : State) : State :=
  let l := s.fab.outstanding.map (fun q => if q.src = src ∧ q.tag = tag then { q with sentAt := some s.now } else q)
  { s with fab := { s.fab with outstanding := l } }

/-- The island that serves an address (R34, R35). -/
def addrIsland (a : Nat) : Nat :=
  match addrDom a with
  | .crn => 1 | .cmb => 2 | .rta => 3 | .rtb => 4 | .rtp => 5 | .grr => 6 | .bus => 7 | .gft => 8 | .hwd => 11 | .brk => 10
  | .aon => if 0x070000 ≤ a ∧ a < 0x090000 then 10 else 9
  | .bkp => 9

/-- R22: the words of a request's payload, two to a flit, the lower-addressed in bits [31:0]. -/
def payloadWords (n : Nat) (l : List Flit) : List Word := (l.flatMap (fun f => [flitLow f, flitVal f])).take n

/-- R24, R31: an endpoint serves a request; an isolated one is answered DOMAIN_OFF by its neighbour. A request with a
reserved OP stays outstanding and is never answered; one for an address that another island serves has no effect and a free
status (log entry 24). -/
def serveRequest (p : Packet) (s : State) : State :=
  let h := p.hdr
  let src := hfld h 56 4
  let dst := hfld h 60 4
  let tag := hfld h 48 6
  let a := hfld h 0 24
  let n := hfld h 24 4 + 1
  let sec := h.getLsbD 31
  let s := requestLeft src tag s
  match islandDom dst with
  | none => s
  | some d =>
    if !domOn d s then respond dst src tag 2 a [] (fabricError 4 h s)
    else if 1 < hfld h 28 3 then s
    else if addrMapped a && decide (addrIsland a ≠ dst) then
      let x := s.draw
      respond dst src tag (x.1.toNat % 256) a [] x.2
    else if hfld h 28 3 = 1 then
      let y := writeRequest sec (tagReader tag) a (payloadWords n p.payload) s
      respond dst src tag y.1 a [] (requestError y.1 (a + 4 * y.2.1) h y.2.2)
    else
      let y := readWords sec (tagReader tag) a n s
      respond dst src tag y.1 a y.2.1 (requestError y.1 (a + 4 * y.2.1.length) h y.2.2)

/-- R25: a request is at an island and goes on, link by link, as far as credit goes; the rest waits. -/
def forwardFrom : Nat → Nat → Packet → State → State
  | 0, _, p, s => serveRequest p s
  | n + 1, a, p, s =>
    let dst := hfld p.hdr 60 4
    if a = dst then serveRequest p s
    else
      let b := nextIsland a dst
      match linkBetween a b with
      | none => serveRequest p s
      | some l =>
        if s.fab.waiting.any (fun w => decide (w.link = l) && decide (w.far = b)) then
          { s with fab := { s.fab with waiting := s.fab.waiting ++ [⟨l, a, b, flits p, p⟩] } }
        else
          let go := min (linkDepth l - creditsUsed l b s) (flits p)
          let s := { s with fab := { s.fab with used := tblSet 0 s.fab.used (creditKey l b) (creditsUsed l b s + go) } }
          if go = flits p then forwardFrom n b p s
          else { s with fab := { s.fab with waiting := s.fab.waiting ++ [⟨l, a, b, flits p - go, p⟩] } }

/-- R24, R25: a request leaves its source; no path of R26 is longer than 4 links. -/
def forwardRequest (p : Packet) (s : State) : State := forwardFrom 5 (hfld p.hdr 56 4) p s

/-- R20: a source records a request as outstanding; at most 64. A request whose TAG is outstanding at its source already
is none that the source can send: it has no effect (log entry 24). -/
def recordRequest (p : Packet) (s : State) : Option State :=
  let src := hfld p.hdr 56 4
  let mine := s.fab.outstanding.filter (fun r => r.src = src)
  if 64 ≤ mine.length ∨ mine.any (fun r => r.tag = hfld p.hdr 48 6) then none
  else some { s with fab := { s.fab with
    outstanding := s.fab.outstanding ++ [⟨src, hfld p.hdr 48 6, hfld p.hdr 60 4, hfld p.hdr 0 24, none⟩] } }

/-- R27: the island that a stream packet goes to holds it until a command takes it from the fabric: a result at the queue, a
point value at Cambium, a sample at the recorder, a drive or fan demand, an actuator request. -/
def streamHeld (p : Packet) : Bool :=
  let src := hfld p.hdr 56 4
  let obj := hfld p.hdr 40 2
  match hfld p.hdr 60 4 with
  | 2 => pointPacket p
  | 3 => (List.range 6).any (fun c => if h : c < 6 then fromProducer (.converter ⟨c, h⟩) p else false)
      || (decide (src = 3 ∨ src = 4) && decide (p.payload.length = 1) && decide (6 ≤ resConv (p.payload.headD 0))
          && decide (resInput (p.payload.headD 0) < 96))
      || ((decide (src = 7 ∨ src = 10) || decide (src = 2 ∧ hfld p.hdr 32 10 < 256)) && decide (p.payload.length = 1))
  | 6 => decide (obj = 0) && decide (src = 1 ∨ src = 9)
  | 9 => decide (obj = 2)
  | 10 => decide (2 ≤ obj)
  | _ => false

/-- ROUTER_RECEIVE (R18, R19, R24, R25, R27, R31): a packet enters the fabric at its source's router. A stream packet for
which its island has no use is accepted and has no further effect (log entry 24). -/
def execRouterReceive (hdr : Flit) (payload : List Flit) (s : State) : Host.Outcome State Fault Refusal :=
  .next (
    let cls := hfld hdr 54 2
    let f := payload.headD 0
    let p : Packet := ⟨hdr, payload, s.now, s.reg (aRootSeqlo (32 * resConv f + hfld f 49 5))⟩
    if cls = 3 then fabricError 1 hdr s
    else if 32 < hfld hdr 42 6 then fabricError 2 hdr s
    else if !islandOk (hfld hdr 60 4) then fabricError 3 hdr s
    else if hfld hdr 42 6 ≠ payload.length then s
    else match cls with
      | 0 =>
        (match recordRequest p s with
         | none => s
         | some s => forwardRequest p s)
      | 1 => respond (hfld hdr 56 4) (hfld hdr 60 4) (hfld hdr 48 6) (hfld hdr 24 8) (hfld hdr 0 24) (payloadWords (2 * payload.length) payload) s
      | _ =>
        match islandDom (hfld hdr 60 4) with
        | some d =>
          if !domOn d s then streamDrop hdr s
          else if streamHeld p then { s with fab := { s.fab with flight := s.fab.flight ++ [p] } }
          else sinkTag hdr s
        | none => s)

/-- CREDIT_RETURN (R25, R27): a credit of a class returns on a link, to its first island (`rev`) or to its second; a
waiting request takes it for its next flit and, with the last one, goes on. Responses and stream packets are accepted on
arrival and never wait (R27), so their credits are not counted. -/
def execCreditReturn (at_ : LinkEnd) (cls : Fin 3) (s : State) : Host.Outcome State Fault Refusal :=
  .next (
    let far := match fabLinks[at_.link.val]? with | some x => if at_.rev then x.1 else x.2.1 | none => 0
    let u := creditsUsed at_.link far s
    if cls.val ≠ 0 ∨ u = 0 then s
    else
      match takeFirst (fun (w : FabWait) => decide (w.link = at_.link.val) && decide (w.far = far)) s.fab.waiting with
      | some (w, rest) =>
        if w.left ≤ 1 then forwardFrom 5 far w.pkt { s with fab := { s.fab with waiting := rest } }
        else { s with fab := { s.fab with waiting := s.fab.waiting.map (fun x => if x = w then { x with left := x.left - 1 } else x) } }
      | none => { s with fab := { s.fab with used := tblSet 0 s.fab.used (creditKey at_.link far) (u - 1) } })

/-- FABRIC_RESPONSE (R20, R27, R28, R32): the response to a request of a source arrives and ends it, in the order in which
its island sent its responses to that source. -/
def execFabricResponse (src : Fin 16) (tag : Fin 64) (s : State) : Host.Outcome State Fault Refusal :=
  .next (match takeFirst (fun (r : FabResp) => decide (r.src = src.val) && decide (r.tag = tag.val)) s.fab.answers with
    | none => s
    | some (r, rest) =>
      if (s.fab.answers.takeWhile (fun q => decide (q ≠ r))).any (fun q => decide (q.src = r.src) && decide (q.from_ = r.from_)) then s
      else
        let f := s.fab
        { s with fab := { f with
            answers := rest
            outstanding := f.outstanding.filter (fun q => !(decide (q.src = src.val) && decide (q.tag = tag.val)))
            arrived := r :: f.arrived.filter (fun q => !(decide (q.src = src.val) && decide (q.tag = tag.val))) } })

/-! ### Die links (R10, R11) -/

/-- The bridge island of a die link. -/
def bridgeOf : DieLink → Nat
  | .bark => 10 | .heartwood => 11

/-- R10: the requests across a die link whose response has not come, oldest first. -/
def linkPending (l : DieLink) (s : State) : List FabReq := s.fab.outstanding.filter (fun q => decide (q.dst = bridgeOf l))

/-- R10: a request across a die link is answered LINK_FAIL by its bridge, in place of the response that has not come. -/
def failRequest (q : FabReq) (s : State) : State :=
  let f := s.fab
  let s := { s with fab := { f with
    answers := f.answers.filter (fun r => !(decide (r.src = q.src) && decide (r.tag = q.tag))),
    waiting := f.waiting.filter (fun w => !(decide (hfld w.pkt.hdr 56 4 = q.src) && decide (hfld w.pkt.hdr 48 6 = q.tag))) } }
  respond q.dst q.src q.tag 4 q.addr [] s

/-- R10: the header by which a request across a die link is recorded in SYS_SFERR. -/
def requestHdr (q : FabReq) : Flit := mkHdr q.dst q.src 0 q.tag 0 0 0

/-- R10: every pending request across a die link is answered LINK_FAIL. -/
def failRequests (l : DieLink) (s : State) : State :=
  forEach (linkPending l s) (fun q s => failRequest q (linkFailure l (requestHdr q) s)) s

/-- FLIT_CRC_FAIL (R10): the flit of this number on the link fails its CRC-8; after its third failed retransmission the
pending request is answered LINK_FAIL and the error recorded. -/
def execFlitCrcFail (x : FailedFlit) (s : State) : Host.Outcome State Fault Refusal :=
  .next (
    let f := s.fab
    let k := linkKey x.link
    let n := (if tblGet 0 f.crcFlit k = x.flit + 1 then tblGet 0 f.crcFails k else 0) + 1
    if n < 4 then { s with fab := { f with crcFails := tblSet 0 f.crcFails k n, crcFlit := tblSet 0 f.crcFlit k (x.flit + 1) } }
    else
      let s := { s with fab := { f with crcFails := tblSet 0 f.crcFails k 0, crcFlit := tblSet 0 f.crcFlit k 0 } }
      match linkPending x.link s with
      | q :: _ => failRequest q (fabricError 5 (requestHdr q) s)
      | [] => fabricError 5 (mkHdr (bridgeOf x.link) 9 2 0 0 0 0) s)

/-- R10: when the bridge last received a valid word. -/
def lastWordAt (l : DieLink) (far : Bool) (s : State) : Nat := tblGet 0 s.fab.lastWord (2 * linkKey l + far.toNat)

/-- R10: when the bridge gives up: 1 ms after the last valid word, or 1 ms after the last flit of the oldest request without
a response left. -/
def bridgeDeadline (l : DieLink) (s : State) : Nat :=
  ((linkPending l s).filterMap (·.sentAt)).foldl min (lastWordAt l false s) + msT 1

/-- BRIDGE_LINK_TIMEOUT (R10): no valid word for 1 ms, or no response 1 ms after a request left: LINK_FAIL from now on. -/
def execBridgeLinkTimeout (link : DieLink) (s : State) : Host.Outcome State Fault Refusal :=
  .next (if linkDown link s then s
    else
      let s := s.advTo (bridgeDeadline link s)
      let s := failRequests link s
      { s with fab := { s.fab with down := tblSet false s.fab.down (linkKey link) true } })

/-- LINK_VALID_WORDS_RETURN (R10, R11, R331): the bridge answers LINK_FAIL no longer; firmware releases the channels and
fans that a link loss made safe. -/
def execLinkValidWordsReturn (link : DieLink) (s : State) : Host.Outcome State Fault Refusal :=
  .next (
    let f := s.fab
    let lost := decide (link = .bark) && f.barkSafe
    let g := { f with down := tblSet false f.down (linkKey link) false, crcFails := tblSet 0 f.crcFails (linkKey link) 0,
                      lastWord := tblSet 0 f.lastWord (2 * linkKey link) s.now,
                      barkSafe := f.barkSafe && !decide (link = .bark),
                      failSeen := tblSet false f.failSeen (linkKey link) false }
    let s := { s with fab := g }
    if lost && ready s then releaseAllFans (releaseAllSafe s) else s)

/-- IDLE_WORD (R10, R11): a side sends an idle word, which the other receives as a valid word. -/
def execIdleWord (link : DieLink) (far : Bool) (s : State) : Host.Outcome State Fault Refusal :=
  .next { s with fab := { s.fab with lastWord := tblSet 0 s.fab.lastWord (2 * linkKey link + (!far).toNat) s.now } }

/-- BARK_LINK_LOSS (R11): the Bark die has received no valid word for 2 ms. -/
def execBarkLinkLoss (s : State) : Host.Outcome State Fault Refusal :=
  .next (if s.fab.barkSafe || s.pwr.held.isSome then s
    else
      let s := { s with fab := { s.fab with barkSafe := true } }
      barkSafe 3 (s.advTo (lastWordAt .bark true s + msT 2)))

end Sys2Proof.Machine
end

