-- ==== Sys2Proof/Machine/Layers.lean ====
section
/-! DEFINITION. Sys2Proof/Machine/Layers.lean: the configuration layers (09): merge of the active layers over the
fields of a resource (R279, R280), switching (R299 to R301), taking resources (R111), the order of evaluation (R230),
zone setpoints (R290), overlay triggers and the active set (R295 to R298). -/

namespace Sys2Proof.Machine

open Sys2Proof

/-! ### Zone records -/

/-- The address under which an item names a field of a zone record (log entry 12). -/
def zrecAddr (z f : Nat) : Nat := 0x1004000 + 4 * (64 * z + f)

/-- The default of a zone-record field, key 64·zone + field (09, "Zone modes and setpoints"): 0 SCHED with its use in
bit 31; 1 to 5 SP0 to SP4; 6 SPMIN; 7 SPMAX; 8 OFFPT; 9 OFFSPAN; 10 to 13 PRESPT0 to PRESPT3; 14 PRESUP, PRESDOWN,
PREDEN, LEARNHOL in bits 0 to 3 and FALLBACK in [10:8]; 15 PRESHOLD and 16 ABSDELAY in min; 17 THRESH; 18 ALPHA;
19 OCCMIN in %. -/
def zrecDflt (k : Nat) : Word :=
  match k % 64 with
  | 1 => 0x41A80000 | 2 => 0x41980000 | 3 => 0x41800000 | 4 => 0x41900000 | 5 => 0x41400000
  | 6 => 0x40A00000 | 7 => 0x420C0000 | 9 => 0x40400000 | 14 => 0x00000100 | 15 => 30 | 16 => 30
  | 17 => 0x3F000000 | 18 => 0x3E800000 | 19 => 0x41200000 | _ => 0

/-- A field of a zone record in force. -/
def zrec (z f : Nat) (s : State) : Word := tblGetD zrecDflt s.fw.zrec (64 * z + f)

/-- A flag of a zone record. -/
def zflag (z i : Nat) (s : State) : Bool := bit (zrec z 14 s) i

/-- FALLBACK of a zone. -/
def fallbackMode (z : Nat) (s : State) : Nat := min 4 (fld (zrec z 14 s) 8 3)

/-! ### Fields of resources -/

/-- The value of a field that no layer names (log entry 17): its reset value or default. -/
def fieldReset (a : Nat) : Word := if 0x1004000 ≤ a then zrecDflt ((a - 0x1004000) / 4) else regReset a

/-- The value of a field now. -/
def fieldNow (a : Nat) (s : State) : Word :=
  if 0x1004000 ≤ a then tblGetD zrecDflt s.fw.zrec ((a - 0x1004000) / 4) else s.reg a

/-- The addresses under which items name the words of schedules, and of the calendar from 0x1018000 (log entry 12). -/
def schedAddr : Nat := 0x1010000

/-- Firmware writes a field; a register in a domain that is off, or behind a failed die link, is not written. Fields that
are no registers and no zone fields are read through their layers. -/
def writeField (a : Nat) (v : Word) (s : State) : State :=
  if schedAddr ≤ a then s
  else if 0x1004000 ≤ a then { s with fw := { s.fw with zrec := tblSetD zrecDflt s.fw.zrec ((a - 0x1004000) / 4) v } }
  else if 0x1003000 ≤ a then s
  else (writeRequest true 0 a [v] s).2.2

/-- Every item of an image, the base first. -/
def imageItems (im : Image) : List Item :=
  im.base ++ im.overlays.flatMap (fun o => match o with | some o => o.items | none => [])

/-- R512, R486: the domains that an image uses: those it marks, and GRR while a zone has PREDEN. -/
def usedMask (im : Image) : Word :=
  setBit im.used 4 (bit im.used 4 || (imageItems im).any (fun i => decide (0x1004000 ≤ i.addr ∧ i.addr < schedAddr)
    && decide ((i.addr - 0x1004000) / 4 % 64 = 14) && bit i.mask 2 && bit i.val 2))

/-- The items of the active layers for a resource, from the lowest layer to the highest (R280). -/
def activeItems (r : Word) (s : State) : List Item :=
  let base := match s.fw.image with | some im => im.base | none => []
  let upper := (layersFor r s).reverse.flatMap (fun k => match overlayOf k s with | some o => o.items | none => [])
  (base ++ upper).filter (fun i => i.ref = r)

/-- R280: the value of a field: the highest layer that names its bits, else the value without layers. -/
def mergeAt (a : Nat) (l : List Item) : Word :=
  l.foldl (fun w i => if i.addr = a then (w &&& ~~~ i.mask) ||| (i.val &&& i.mask) else w) (fieldReset a)

/-- The bits of a field that some item names. -/
def maskAt (a : Nat) (l : List Item) : Word := l.foldl (fun w i => if i.addr = a then w ||| i.mask else w) 0

/-- The addresses that items name, each once, the highest first: the control word of a group comes last. -/
def itemAddrs (l : List Item) : List Nat := (sortBy (fun a b => decide (b ≤ a)) (l.map (·.addr))).dedup

/-- A register whose reset value is one that a write refuses (R187, R247): the setpoint source of a slot, a descriptor or an
extraction of a sensor port; the y and u1 sources of a zone model (R275). -/
def resetRefused (a : Nat) : Bool :=
  (decide (aModelCtl 0 ≤ a ∧ a < aModelCtl 48) && decide ((a - aModelCtl 0) % 256 = 0x08 ∨ (a - aModelCtl 0) % 256 = 0x0C)) ||
  (decide (aCambCtl 0 ≤ a ∧ a < aCambCtl 96) && decide ((a - aCambCtl 0) % 256 = 0x14)) ||
  (decide (0x0A2000 ≤ a ∧ a < 0x0A6000) && decide (a % 128 = 0)) || decide (aBusI2cx 0 ≤ a ∧ a < aBusI2cx 64)

/-- Firmware writes a field; one that no layer names any more returns to its reset value even where a write of that value is
refused (log entry 159). -/
def putField (a : Nat) (v : Word) (s : State) : State :=
  if resetRefused a && decide (v = regReset a) && domOn (addrDom a) s then
    (if a < aCambCtl 96 ∧ aCambCtl 0 ≤ a then stage ((a - aCambCtl 0) / 256) a v s else s.setReg a v)
  else writeField a v s

/-- One field takes its merged value; before the last pass, only a write that the block accepts. -/
def putMerged (final : Bool) (all cur : List Item) (a : Nat) (s : State) : State :=
  let m := maskAt a all
  let v := (fieldNow a s &&& ~~~ m) ||| (mergeAt a cur &&& m)
  if v = fieldNow a s then s
  else
    let t := putField a v s
    if final || decide (fieldNow a t = v) then t else s

/-- Some field of a resource is to change. -/
def refChanges (items : List Item) (r : Word) (s : State) : Bool :=
  let all := items.filter (fun i => i.ref = r)
  let cur := activeItems r s
  (itemAddrs all).any (fun a => decide (fieldNow a s &&& maskAt a all ≠ mergeAt a cur &&& maskAt a all))

/-- R142: the enabled sequence entries that firmware may write and that are to change, or that convert an input that is to
change. -/
def entriesToStop (items : List Item) (refs : List Word) (s : State) : List Nat :=
  (List.range 192).filter (fun k => domOn .rta s && s.b (aRootSeqlo k) 31 && decide (ownerKind (ownerOf (mkRef 0x10 k) s) ≤ 4)
    && ((decide (mkRef 0x10 k ∈ refs) && refChanges items (mkRef 0x10 k) s)
      || (decide (mkRef 0x14 (s.f (aRootSeqlo k) 15 7) ∈ refs) && refChanges items (mkRef 0x14 (s.f (aRootSeqlo k) 15 7)) s)))

/-- R299: LOCK of every slot among the resources. -/
def lockSlots (on : Bool) (refs : List Word) (s : State) : State :=
  if domOn .cmb s then forEach (refs.filter (fun r => refType r = 0x02)) (fun r s => s.setB (aCambCtl (refInst r)) 31 on) s else s

/-- R105: the registers of held resources that a holder wrote or a load left, as items that name them no longer. The state
of a slot and of a zone model, and the manual word of a drive channel, are no configuration. -/
def wroteItems (s : State) : List Item :=
  (s.fw.wrote.filter (fun p => !decide ((aCambCtl 0 ≤ p.2 ∧ p.2 < aCambCtl 96 ∧ ((p.2 - aCambCtl 0) % 256 = 0x60 ∨ (p.2 - aCambCtl 0) % 256 = 0x64))
    ∨ (aModelCtl 0 ≤ p.2 ∧ p.2 < aModelCtl 48 ∧ 0x34 ≤ (p.2 - aModelCtl 0) % 256)
    ∨ (aDrvCtl 0 ≤ p.2 ∧ p.2 < aDrvCtl 48 ∧ p.2 % 64 = aDrvMan 0 % 64) ∨ refType p.1 = 0x1F))).map (fun p =>
    ⟨p.1, p.2, (match regFind p.2 with | some (d, _) => d.rw | none => 0), 0⟩)

/-- R105, R299: the fields of resources take the values of the layers that are active; `old` are items of a former
image. Fields may be checked against each other: one that is refused is tried again after the others. Sequence entries stop
before the inputs change and are written after them (R142). LOCK stands over the writes to slots. -/
def rewriteRefs (old : List Item) (refs : List Word) (s : State) : State :=
  let items := (match s.fw.image with | some im => imageItems im | none => []) ++ old ++ wroteItems s
  let s := { s with fw := { s.fw with wrote := s.fw.wrote.filter (fun p => !decide (p.1 ∈ refs)) } }
  let stops := entriesToStop items refs s
  let pass := fun (rs : List Word) (final : Bool) (s : State) => forEach rs (fun r s =>
    let all := items.filter (fun i => i.ref = r)
    forEach (itemAddrs all) (putMerged final all (activeItems r s)) s) s
  let three := fun (rs : List Word) (s : State) => pass rs true (pass rs false (pass rs false s))
  let s := forEach stops (fun k s => writeField (aRootSeqlo k) (setBit (s.reg (aRootSeqlo k)) 31 false) s) (lockSlots true refs s)
  let s := three (refs.filter (fun r => decide (refType r = 0x10))) (three (refs.filter (fun r => decide (refType r ≠ 0x10))) s)
  let s := forEach stops (fun k s =>
    if mkRef 0x10 k ∈ refs ∧ bit (maskAt (aRootSeqlo k) (items.filter (fun i => i.ref = mkRef 0x10 k))) 31 then s
    else writeField (aRootSeqlo k) (setBit (s.reg (aRootSeqlo k)) 31 true) s) s
  lockSlots false refs s

/-! ### Taking resources (R111) -/

/-- R255, R257: a LOOP.TUNE run is to stop, reported with this reason. -/
def stopTune (slot reason : Nat) (s : State) : State :=
  match s.camb.runs.find? (fun r => r.slot = slot) with
  | some r =>
    let s := { s with camb := { s.camb with runs := s.camb.runs.map (fun x =>
      if x.slot = slot ∧ x.reason.isNone then { x with reason := some reason } else x) } }
    stopTuner r.tuner s
  | none => s

/-- A GROVE.SCHED_PUSH run stops. -/
def stopPush (id status : Nat) (s : State) : State :=
  let s := { s with gft := { s.gft with push := s.gft.push.filter (fun r => r.cmd ≠ id) },
                    fw := { s.fw with services := s.fw.services.filter (fun v => !(decide (v.svc = 4) && decide (v.cmd = some id))) } }
  finishCmd id status [] s

/-- R96, R111: the run of a firmware service stops. -/
def stopService (v : Service) (reason status : Nat) (s : State) : State :=
  match v.svc with
  | 1 =>
    (match s.camb.runs.find? (fun r => some r.cmd = v.cmd) with
     | some r => stopTune r.slot reason s
     | none => s)
  | 2 =>
    (match s.drv.cal.find? (fun r => some r.cmd = v.cmd) with
     | some r => calFail r.chan status [] s
     | none => s)
  | 3 => endRun (if refType v.ref = 0x0B then refInst v.ref / 16 else refInst v.ref) status s
  | _ => (match v.cmd with | some id => stopPush id status s | none => s)

/-- R344, R346: a claim, a service or an overlay that takes a channel or fan ends its command override. -/
def endOverride (r : Word) (s : State) : State :=
  match refType r with
  | 0x06 => { s with fw := { s.fw with driveOvr := tblSet none s.fw.driveOvr (refInst r) none } }
  | 0x07 => { s with fw := { s.fw with fanOvr := tblSet none s.fw.fanOvr (refInst r) none } }
  | _ => s

/-- R105, R111, R365: a claim is no longer held: manual drive ends; recorder updates and a grove TIME that waited are
made. -/
def claimEnds (r : Word) (s : State) : State :=
  let s := { s with fw := { s.fw with claims := s.fw.claims.filter (fun c => c.ref ≠ r) } }
  let s := if refType r = 0x06 then
      (let n := refInst r
       let s := if domOn .brk s then s.setReg (aDrvMan n) (regReset (aDrvMan n)) else s
       if stageOn n s && (chanSt n s).run.isNone then stageStop n (ranMs n s) false s else s)
    else s
  let s := if r = grrRef ∧ s.grr.defer.isNone then
      forEach s.grr.presWait preswrWrite { s with grr := { s.grr with presWait := [] } }
    else s
  if r = rtcRef then applyWaitingTime s else s

/-- R111: a condition or safety overlay that owns a resource revokes its claim and stops its service. -/
def takeResource (r : Word) (s : State) : State :=
  let k := ownerKind (ownerOf r s)
  if k = 3 ∨ k = 4 then
    let s := endOverride r s
    let s := if claimed r s then ringEvent 1 (claimEnds r s) else s
    match serviceOf r s with
    | some v => stopService v 4 stAborted s
    | none => s
  else s

/-! ### Order of evaluation (R230) -/

/-- R230: slot b consumes slot a, by the registers as last written. -/
def staysBefore (a b : Nat) (s : State) : Bool :=
  [aCambSrcpv b, aCambSrcsp b, aCambSrcff b].any (fun r => decide (s.f r 29 3 = 2) && decide (s.f r 0 8 = a)) ||
  (List.range 4).any (fun k =>
    let d := s.reg (aCambDst a k)
    bit d 31 && decide (k < max 1 (s.f (aCambCtl a) 15 3)) && decide (fld d 0 10 = 256 + b))

/-- A topological order: the lowest slot whose producers all stand before it comes next (log entry 17). -/
def topoOrder : Nat → List Nat → State → List Nat
  | 0, left, _ => left
  | n + 1, left, s =>
    match left.find? (fun b => left.all (fun a => !staysBefore a b s)) with
    | some b => b :: topoOrder n (left.filter (fun x => x ≠ b)) s
    | none => left

/-- R230: firmware writes CAMB_ORDER. -/
def writeOrder (s : State) : State :=
  if domOn .cmb s && !claimed (mkRef 0x1F 0x050) s then
    let l := topoOrder 96 (List.range 96) s
    forRange 96 (fun i s => s.setReg (aCambOrder i) (BitVec.ofNat 32 (nth l i i))) s
  else s

/-! ### Blocked destinations (R236) -/

/-- The resource that a destination word names. -/
def dstRef (d : Word) : Word :=
  let i := fld d 0 8
  match fld d 8 2 with
  | 0 => mkRef 0x01 i | 1 => mkRef 0x02 i | 2 => mkRef 0x06 i | _ => mkRef 0x07 i

/-- R236, R314: DBLK of every destination, as last written, follows the owners. -/
def refreshDblk (s : State) : State :=
  if domOn .cmb s then
    forRange 96 (fun n s => forRange 4 (fun k s =>
      let d := s.reg (aCambDst n k)
      if bit d 31 then
        let r := dstRef d
        let row := match refType r with
          | 0x06 => (drvDemand (refInst r) s).2
          | 0x07 => (fanDemand (refInst r) s).2
          | _ => false
        s.setB (aCambStat n) (14 + k) (row || ownersDiffer (ownerOf r s) (ownerOf (mkRef 0x02 n) s))
      else s.setB (aCambStat n) (14 + k) false) s) s
  else s

/-- The demand of a drive channel or fan is chosen anew. -/
def refreshDemand (r : Word) (s : State) : State :=
  match refType r with
  | 0x06 => applyDemand (refInst r) s
  | 0x07 => applyFan (refInst r) s
  | _ => s

/-! ### Zone setpoints (R290) -/

/-- R418: the entry that a linked zone follows. -/
def linkEntry (z : Nat) (s : State) : Option ZoneIn :=
  match s.fw.image with
  | some im =>
    if im.zoneLinks.any (fun l => l.zone = z) && !(zoneSt z s).linkLost then tblGet none s.gft.zoneIn z else none
  | none => none

/-- The offset of a zone's offset point, when it is valid. -/
def zoneOffset (z : Nat) (s : State) : Option F32 :=
  let w := zrec z 8 s
  if bit w 31 then (lvtValid (fld w 0 8) s).map (fun v => f32Clamp (f32Neg (zrec z 9 s)) (zrec z 9 s) v) else none

/-- R290: the effective setpoint of a zone. -/
def spNow (z : Nat) (s : State) : F32 :=
  match linkEntry z s with
  | some e => e.sp
  | none =>
    let m := (zoneSt z s).mode.getD (fallbackMode z s)
    let start := match tblGet none s.fw.spOvr z with
      | some o => o.1
      | none => zrec z (1 + m) s
    let moved := if m ≤ 1 then (match zoneOffset z s with | some o => f32Add start o | none => start) else start
    f32Clamp (zrec z 6 s) (zrec z 7 s) moved

/-- R290: firmware recomputes the effective setpoint of a zone. -/
def refreshSp (z : Nat) (s : State) : State := setZone z { zoneSt z s with sp := spNow z s } s

/-- R290: of every zone. -/
def refreshSetpoints (s : State) : State := if s.fw.image.isSome then forRange 48 refreshSp s else s

/-! ### Switching (R299 to R301) -/

/-- R361: firmware sets MOTOR on every supply channel of a fan. -/
def setMotors (s : State) : State :=
  forRange 16 (fun f s => match fanChan f s with
    | some c => if claimed (drvRef c) s then s else s.setB (aEschMod c) 31 true
    | none => s) s

/-- The resources that the image's layers name, each once. -/
def imageRefs (s : State) : List Word :=
  match s.fw.image with | some im => ((imageItems im).map (·.ref)).dedup | none => []

/-- The active layers above the base that name a resource. -/
def namingLayers (r : Word) (s : State) : List Nat :=
  (layersFor r s).filter (fun k => match overlayOf k s with | some o => layerNames o.items r | none => false)

/-- R299, R111: resources pass to the layers now active: overlays take them, their fields are rewritten unless a claim
or service keeps them, and setpoints, order, demands and blocked destinations follow. LOCK stands over all of it, within
the step. -/
def applyRefs (old : List Item) (refs : List Word) (s : State) : State :=
  let s := forEach refs takeResource s
  let mine := refs.filter (fun r => decide (ownerKind (ownerOf r s) ≤ 4))
  let s := setMotors (refreshSetpoints (writeOrder (rewriteRefs old mine s)))
  refreshDblk (forEach refs refreshDemand s)

/-- R299: the set of active layers changed between the states `before` and `s`. -/
def switchLayers (before s : State) : State :=
  applyRefs [] ((imageRefs s).filter (fun r => decide (namingLayers r before ≠ namingLayers r s))) s

/-- R552, R555: firmware sets THERM_SAFECTL.OVLEN from the configuration, unless the THERM block is claimed. -/
def putOvlen (s : State) : State :=
  match s.fw.image with
  | some im => if 5 ≤ ownerKind (ownerOf (mkRef 0x1F 0x0F0) s) then s else s.setB aThermSafectl 30 im.safeStopTrig
  | none => s

/-- R105: a claim or service on a resource has ended: it is rewritten from the layer that owns it now. CAMB_ORDER follows a
slot and the CAMB block (R230), the effective setpoint a zone (R290). -/
def passBack (r : Word) (s : State) : State :=
  if ownerKind (ownerOf r s) ≤ 4 then
    let s := rewriteRefs [] [r] (if r = mkRef 0x1F 0x0F0 then putOvlen s else s)
    let s := if refType r = 0x02 ∨ r = mkRef 0x1F 0x050 then writeOrder s else s
    let s := if refType r = 0x03 ∧ s.fw.image.isSome then refreshSp (refInst r) s else s
    refreshDblk (refreshDemand r (setMotors s))
  else refreshDblk s

/-! ### Triggers (R295 to R298) -/

/-- The state of point trigger p of overlay k. -/
def trigSt (k p : Nat) (s : State) : TrigSt := tblGet ⟨false, none, none, false⟩ s.fw.trig (2 * k + p)
/-- Set it. -/
def setTrig (k p : Nat) (v : TrigSt) (s : State) : State :=
  { s with fw := { s.fw with trig := tblSet ⟨false, none, none, false⟩ s.fw.trig (2 * k + p) v } }

/-- The definition of point trigger p of overlay k. -/
def trigCfg (k p : Nat) (s : State) : Option PointTrig := (overlayOf k s).bind (fun o => o.trigs[p]?)

/-- R295: a judged change: counting goes on when it has the same target and cause, else starts now. -/
def countTrig (t : TrigSt) (b inv : Bool) (delay now : Nat) : TrigSt :=
  let due := match t.due with
    | some (b', d) => if b' = b ∧ t.inv = inv then (b', d) else (b, now + secT delay)
    | none => (b, now + secT delay)
  if due.2 ≤ now then { t with on := due.1, due := none, inv := inv } else { t with due := some due, inv := inv }

/-- R295: the point of a trigger is read and judged. -/
def judgeTrig (c : PointTrig) (v : Option F32) (now : Nat) (t : TrigSt) : TrigSt :=
  match v with
  | some v =>
    let beyond := if c.above then f32Lt c.thr v else f32Lt v c.thr
    let back := if c.above then f32Lt v (f32Sub c.thr c.hyst) else f32Lt (f32Add c.thr c.hyst) v
    if !t.on then (if beyond then countTrig t true false c.ton now else { t with due := none, inv := false })
    else if back then countTrig t false false c.toff now
    else { t with due := none, inv := false }
  | none =>
    if t.on = c.failact then { t with due := none, inv := true }
    else countTrig t c.failact true (if c.failact then c.ton else c.toff) now

/-- R298, R295: a trigger is evaluated. -/
def evalTrig (k p : Nat) (s : State) : State :=
  match trigCfg k p s with
  | none => s
  | some c =>
    let v := lvtValid c.point s
    let t := trigSt k p s
    match t.startEnd, v with
    | some _, none => setTrig k p { t with on := c.failact, due := none, inv := true } s
    | _, _ => setTrig k p (judgeTrig c v s.now { t with startEnd := none }) s

/-- R298: from the activation the triggers of the image are in their start-up interval of 10 s. -/
def startTriggers (s : State) : State :=
  let s := { s with fw := { s.fw with trig := [] } }
  forRange 16 (fun k s => forRange 2 (fun p s => match trigCfg k p s with
    | some _ => evalTrig k p (setTrig k p ⟨false, none, some (s.now + secT 10), false⟩ s)
    | none => s) s) s

/-- R295, R296, R552: an overlay is triggered. -/
def triggered (k : Nat) (s : State) : Bool :=
  match overlayOf k s with
  | none => false
  | some o =>
    let pts := (trigCfg k 0 s).isSome && (trigSt k 0 s).on || (trigCfg k 1 s).isSome && (trigSt k 1 s).on
    match o.kind with
    | .mode _ => false
    | .cond r => pts || (tblGet none s.fw.cmdTrig k).isSome || (decide (r = 3) && s.b aHpStat 29 && !s.hp.lossDue)
    | .safety => pts || s.fw.safeForce.isSome
        || (s.b aThermSafectl 30 && s.b aThermSafestat 31)

/-- R281: the triggered condition overlays, highest rank first, lower numbers before higher ones. -/
def triggeredConds (s : State) : List Nat :=
  (List.range 6).flatMap (fun r => (List.range 16).filter (fun k => triggered k s &&
    match overlayOf k s with | some o => decide (o.kind = .cond r) | none => false))

/-- The safety overlay, when triggered. -/
def triggeredSafety (s : State) : List Nat :=
  (List.range 16).filter (fun k => triggered k s && match overlayOf k s with | some o => decide (o.kind = .safety) | none => false)

/-- R297, R299, R302: the active set follows the triggers; a change is applied at once and rings COND_CHANGE. -/
def refreshLayers (s : State) : State :=
  let conds := triggeredConds s
  let act := triggeredSafety s ++ conds.take 3
  let pend := conds.drop 3
  if act = s.fw.active ∧ pend = s.fw.pendingOv then s
  else ringEvent 5 (switchLayers s { s with fw := { s.fw with active := act, pendingOv := pend } })

/-- TRIGGER_EVALUATION (R295, R297, R299): firmware reads the points of every trigger. -/
def execTriggerEvaluation (s : State) : Host.Outcome State Fault Refusal :=
  .next (if ready s then refreshLayers (forRange 16 (fun k s => forRange 2 (evalTrig k) s) s) else s)

/-- TRIGGER_DELAY_EXPIRY (R295): TON or TOFF of a point trigger runs out. -/
def execTriggerDelayExpiry (ov : Fin 16) (pt : Fin 2) (s : State) : Host.Outcome State Fault Refusal :=
  .next (match ready s, (trigSt ov pt s).due with
    | true, some (_, t) => refreshLayers (evalTrig ov pt (s.advTo t))
    | _, _ => s)

/-- TRIGGER_STARTUP_TIMEOUT (R298): 10 s after activation without a valid value. -/
def execTriggerStartupTimeout (ov : Fin 16) (pt : Fin 2) (s : State) : Host.Outcome State Fault Refusal :=
  .next (match ready s, (trigSt ov pt s).startEnd with
    | true, some t =>
      let s := s.advTo t
      refreshLayers (evalTrig ov pt (setTrig ov pt { trigSt ov pt s with startEnd := none } s))
    | _, _ => s)

/-! ### Services that end -/

/-- R105, R257: resources of service runs that ended elsewhere pass to their layers. -/
def handBackAll (s : State) : State :=
  forEach s.fw.handBack passBack { s with fw := { s.fw with handBack := [] } }

/-- The resources of a service run are free again and pass to their layer (R105, R257). -/
def endService (id svc : Nat) (s : State) : State :=
  let mine := s.fw.services.filter (fun v => decide (v.svc = svc) && decide (v.cmd = some id))
  let s := { s with fw := { s.fw with services := s.fw.services.filter (fun v => !(decide (v.svc = svc) && decide (v.cmd = some id))) } }
  forEach (mine.map (·.ref)) passBack s

end Sys2Proof.Machine
end

