-- ==== Sys2Proof/Machine/Schedules.lean ====
section
/-! DEFINITION. Sys2Proof/Machine/Schedules.lean: weekly schedules and the exception calendar (R282 to R288), effective
modes (R289), presence and predictive occupancy (R292 to R294), optimum start and stop (R268 to R270), the ZONE and
SCHED commands. -/

namespace Sys2Proof.Machine

open Sys2Proof

/-! ### Schedules and the calendar -/

/-- R280: a word of a schedule or of the calendar with the patches of the active overlays on it. -/
def patched (r : Word) (a : Nat) (w : Word) (s : State) : Word :=
  match s.fw.image with
  | none => w
  | some _ => (layersFor r s).reverse.foldl (fun w k => match overlayOf k s with
      | some o => o.items.foldl (fun w i => if i.ref = r ∧ i.addr = a then (w &&& ~~~ i.mask) ||| (i.val &&& i.mask) else w) w
      | none => w) w
/-- The header word of a schedule (R283). -/
def schedHead (k : Nat) (s : State) : Word := patched (mkRef 0x04 k) (schedAddr + 512 * k) (tblGet 0 s.fw.sched (128 * k)) s
/-- Switch point i, 1 to 8, of a day of a schedule (R282). -/
def schedPoint (k day i : Nat) (s : State) : Word :=
  patched (mkRef 0x04 k) (schedAddr + 4 * (128 * k + 16 * day + i)) (tblGet 0 s.fw.sched (128 * k + 16 * day + i)) s
/-- Word w of calendar entry e (R287). -/
def calWord (e w : Nat) (s : State) : Word :=
  patched (mkRef 0x05 0) (schedAddr + 0x8000 + 4 * (4 * e + w)) (tblGet 0 s.fw.cal (4 * e + w)) s

/-- The enabled switch points of a weekly profile: minute and VALUE. -/
def weekProfile (k day : Nat) (s : State) : List (Nat × Nat) :=
  (List.range 8).filterMap (fun i => let w := schedPoint k day (i + 1) s
    if bit w 31 then some (fld w 20 11, fld w 0 16) else none)

/-- R288: calendar entry e covers day `dn`. -/
def calCovers (e dn : Nat) (s : State) : Bool :=
  let lo := fld (calWord e 1 s) 16 16
  let hi := fld (calWord e 1 s) 0 16
  if bit (calWord e 0 s) 30 then
    let d := dateOf dn
    let x := dayNumber 0 d.2.1 d.2.2
    if lo ≤ hi then decide (lo ≤ x ∧ x ≤ hi) else decide (lo ≤ x ∨ x ≤ hi)
  else decide (lo ≤ dn ∧ dn ≤ hi)

/-- R288: the calendar entry that applies to schedule k on a day. -/
def calFor (k dn : Nat) (s : State) : Option Nat :=
  (List.range 64).find? (fun e => bit (calWord e 0 s) 31 && bit (calWord e 2 s) k && calCovers e dn s)

/-- R284, R287: the effective profile of schedule k on a day. -/
def dayProfile (k dn : Nat) (s : State) : List (Nat × Nat) :=
  match calFor k dn s with
  | some e =>
    let w := calWord e 0 s
    if fld w 27 3 = 0 then [(0, fld w 0 16)] else weekProfile k (fld w 24 3) s
  | none => weekProfile k (weekday dn) s

/-- R284: the search back: today up to the minute, then up to `n` earlier days. -/
def searchBack (k : Nat) : Nat → Nat → Nat → State → Option Nat
  | 0, dn, minute, s => (((dayProfile k dn s).filter (fun p => decide (p.1 ≤ minute))).getLast?).map (·.2)
  | n + 1, dn, minute, s =>
    match (((dayProfile k dn s).filter (fun p => decide (p.1 ≤ minute))).getLast?).map (·.2) with
    | some v => some v
    | none => if dn = 0 then none else searchBack k n (dn - 1) 1440 s

/-- R284: the value of schedule k at time word t. -/
def schedValue (k t : Nat) (s : State) : Nat :=
  (searchBack k 6 (t / 86400) (t % 86400 / 60) s).getD (fld (schedHead k s) 0 16)

/-- The times of day dn at which the value of schedule k changes after t: its midnight and its switch points. -/
def dayChanges (k t dn : Nat) (s : State) : List Nat :=
  (86400 * dn :: (dayProfile k dn s).map (fun p => 86400 * dn + 60 * p.1)).filter (fun u =>
    decide (t < u) && decide (schedValue k u s ≠ schedValue k (u - 1) s))

/-- The times after t, up to `limit`, at which the value of schedule k changes, with the new value. -/
def schedChanges (k t limit : Nat) (s : State) : List (Nat × Nat) :=
  let days := (List.range (limit / 86400 + 1 - t / 86400)).flatMap (fun d => dayChanges k t (t / 86400 + d) s)
  (days.filter (fun u => decide (u ≤ limit))).map (fun u => (u, schedValue k u s))

/-- R310: the first change of the value of schedule k after t, among n days from day dn. -/
def firstChange (k t : Nat) (s : State) : Nat → Nat → Option (Nat × Nat)
  | 0, _ => none
  | n + 1, dn => match dayChanges k t dn s with
    | u :: _ => some (u, schedValue k u s)
    | [] => firstChange k t s n (dn + 1)

/-! ### Presence -/

/-- The presence points of a zone. -/
def presPoints (z : Nat) (s : State) : List Nat :=
  ([10, 11, 12, 13].filter (fun f => bit (zrec z f s) 31)).map (fun f => fld (zrec z f s) 0 8)

/-- R289: a presence point reads present. -/
def presenceNow (z : Nat) (s : State) : Bool :=
  (presPoints z s).any (fun p => match lvtValid p s with | some v => f32Le f32Half v | none => false)
/-- Every presence point is valid. -/
def presAllValid (z : Nat) (s : State) : Bool := (presPoints z s).all (fun p => (lvtValid p s).isSome)
/-- Some presence point is valid. -/
def presAnyValid (z : Nat) (s : State) : Bool := (presPoints z s).any (fun p => (lvtValid p s).isSome)

/-- R292: the bin of a time word. -/
def binAt (t : Nat) : Nat := (weekday (t / 86400) - 1) * 96 + t % 86400 / 900

/-- The presence of a zone, as just read, enters its state. -/
def notePresence (z : Nat) (s : State) : State :=
  let st := zoneSt z s
  let p := presenceNow z s
  let spent := match st.lastPres with | some t => if st.present then s.now - t else 0 | none => 0
  setZone z { st with present := p, lastPres := if p || st.present then some s.now else st.lastPres,
                      binPres := st.binPres + spent, binValid := st.binValid || presAnyValid z s } s

/-! ### Effective modes (R289) -/

/-- R284: the MODE schedule of a zone, or DEVSCHED of the device level. -/
def modeSched (z : Nat) (s : State) : Option Nat :=
  if z = 48 then s.fw.image.bind (·.devSched)
  else if bit (zrec z 0 s) 31 then some (fld (zrec z 0 s) 0 5) else none

/-- The scheduled mode of a zone at a time word; a zone without schedule takes FALLBACK as R286 gives it to a zone with no
mode (DEDUCED, log entry 18). -/
def schedMode (z t : Nat) (s : State) : Nat :=
  match modeSched z s with
  | some k => min 4 (schedValue k t s % 8)
  | none => fallbackMode z s

/-- R289: the procedure for a zone without override, at time word t. -/
def evalMode (z t : Nat) (s : State) : ZoneSt :=
  let st := zoneSt z s
  let m0 := schedMode z t s
  let run := st.precond && decide (t < st.tOcc)
  let opt := st.optstop && decide (t < st.tEnd)
  let preEnd := if st.precond && !run then s.now else st.preEnd
  let recent := st.present || match st.lastPres with
    | some p => decide (s.now - p < secT (60 * (zrec z 15 s).toNat))
    | none => false
  let rest := decide (m0 = 1 ∨ m0 = 2)
  let raise := rest && zflag z 0 s && recent
  let pred := rest && !raise && zflag z 2 s && decide (255 * f32Rat (zrec z 17 s) ≤ (presBin z (binAt t) s : Rat))
  let pre := rest && !raise && !pred && run
  let m1 := if raise || pred || pre then 0 else m0
  let m2 := if m1 = 0 ∧ !raise ∧ opt then schedMode z st.tEnd s else m1
  let occAt := if m2 = 0 ∧ !st.occ then s.now else st.occAt
  let since := max (st.lastPres.getD 0) (max occAt preEnd)
  let lower := decide (m2 = 0) && zflag z 1 s && !run && presAllValid z s && !st.present
    && decide (secT (60 * (zrec z 16 s).toNat) ≤ s.now - since)
  { st with mode := some (if lower then 1 else m2), sched := m0, raise := raise, pred := pred, precond := run, optstop := opt,
            lower := lower, occ := decide (m2 = 0), occAt := occAt, preEnd := preEnd,
            calUsed := match modeSched z s with | some k => (calFor k (t / 86400) s).isSome | none => false }

/-- R286, R289, R418: the state of a zone, or of the device level (48), recomputed. -/
def recomputeZone (z : Nat) (s : State) : State :=
  let st := zoneSt z s
  let timed := match timeNow s with
    | some t => if z = 48 then
        (match modeSched 48 s with | some _ => { st with mode := some (schedMode 48 t s), sched := schedMode 48 t s } | none => { st with mode := none })
        else evalMode z t s
    | none => if z = 48 then st else { st with mode := some (st.mode.getD (fallbackMode z s)) }
  match linkEntry z s with
  | some e => setZone z { timed with mode := some e.mode, raise := false, lower := false, pred := false, precond := bit (BitVec.ofNat 32 e.flags) 0,
                                     optstop := bit (BitVec.ofNat 32 e.flags) 1 } s
  | none =>
    match tblGet none s.fw.modeOvr z with
    | some o => setZone z { timed with mode := some o.1, raise := false, lower := false, pred := false } s
    | none => setZone z timed s

/-- R289, R299, R302: zones are recomputed; a change of mode rings MODE_CHANGE and switches their mode overlays. -/
def recomputeModes (zs : List Nat) (s : State) : State :=
  if s.fw.image.isNone then s
  else
    let t := forEach zs recomputeZone s
    if zs.all (fun z => decide ((zoneSt z t).mode = (zoneSt z s).mode)) then forEach (zs.filter (fun z => decide (z < 48))) refreshSp t
    else switchLayers s (ringEvent 4 t)

/-- Every zone and the device level. -/
def allZones : List Nat := List.range 49

/-- R283, R285: LEVEL schedules write their values to their points when these change. -/
def levelSchedules (t : Nat) (s : State) : State :=
  forRange 32 (fun k s =>
    let h := schedHead k s
    if fld h 30 2 = 1 then
      let v := signed 16 (schedValue k t s)
      if tblGet none s.fw.levelLast k = some v then s
      else
        let s := { s with fw := { s.fw with levelLast := tblSet none s.fw.levelLast k (some v) } }
        if s.f (aRqPcfg (fld h 22 8)) 29 3 = 4 then publishVirtual (fld h 22 8) (f32OfRat (mkRat v 100)) s else s
    else s) s

/-- R285, R286: every schedule and every zone at the present time. -/
def evalSchedules (s : State) : State :=
  let s := match timeNow s with | some t => levelSchedules t s | none => s
  recomputeModes allZones s

/-- SCHEDULE_EVALUATION (R285): at a minute boundary of the clock. -/
def execScheduleEvaluation (s : State) : Host.Outcome State Fault Refusal := .next (if ready s then evalSchedules s else s)

/-- PRESENCE_CHANGE (R289, R290): a read of the zone's presence and offset points. -/
def execPresenceChange (z : Fin 48) (s : State) : Host.Outcome State Fault Refusal :=
  .next (if ready s then recomputeModes [z.val] (notePresence z s) else s)

/-- R293: the bin that ends at time word t is updated. -/
def endBin (z t : Nat) (s : State) : State :=
  let s := notePresence z s
  let st := zoneSt z s
  let b := binAt (t - 1)
  let h := presBin z b s
  let seen : Rat := mkRat st.binPres (secT 900)
  let o : Rat := if f32Rat (zrec z 19 s) / 100 ≤ seen then 255 else 0
  let v := roundRat ((h : Rat) + f32Rat (zrec z 18 s) * (o - (h : Rat)))
  let learn := zflag z 2 s && st.binValid && !(decide (st.mode = some 4) && !zflag z 3 s) && domOn .grr s
  let s := setZone z { st with binPres := 0, binValid := presAnyValid z s } s
  let w := BitVec.ofNat 32 ((max 0 (min 255 v)).toNat * 2 ^ 24 + z * 65536 + b)
  if !learn then s
  else if claimed grrRef s then { s with grr := { s.grr with presWait := s.grr.presWait ++ [w] } }
  else preswr w s

/-- PRESENCE_BIN_END (R292, R293): at the end of a bin of the clock. -/
def execPresenceBinEnd (z : Fin 48) (s : State) : Host.Outcome State Fault Refusal :=
  .next (match ready s, timeNow s with
    | true, some t => if t % 900 = 0 ∧ 0 < t then endBin z t s else s
    | _, _ => s)

/-! ### Zone models: leads (R268 to R270, R294) -/

/-- R294: the predicted start: the first bin ahead within LEADMAX that is likely enough, the zone's scheduled mode being
standby or unoccupied until then. -/
def predictedStart (z t : Nat) (s : State) : Option Nat :=
  let limit := t + 60 * s.f (aModelLeadmax z) 16 16
  let resting := fun u => decide (schedMode z u s = 1 ∨ schedMode z u s = 2)
  if zflag z 2 s && resting t then
    let changes := match modeSched z s with | some k => schedChanges k t limit s | none => []
    (((List.range 49).map (fun i => (t / 900 + 1 + i) * 900)).filter (fun u => decide (u ≤ limit))).find? (fun u =>
      decide (255 * f32Rat (zrec z 17 s) ≤ (presBin z (binAt u) s : Rat))
        && (changes.all (fun c => decide (u ≤ c.1) || decide (c.2 % 8 = 1 ∨ c.2 % 8 = 2))))
  else none

/-- R268, R294: t_occ within LEADMAX. -/
def nextOccupied (z t : Nat) (s : State) : Option Nat :=
  let limit := t + 60 * s.f (aModelLeadmax z) 16 16
  let sw := match modeSched z s with
    | some k => ((schedChanges k t limit s).find? (fun c => c.2 % 8 = 0)).map (·.1)
    | none => none
  match sw, predictedStart z t s with
  | some a, some b => some (min a b)
  | some a, none => some a
  | none, b => b

/-- R269: the next scheduled end of occupancy within STOPMAX. -/
def nextEnd (z t : Nat) (s : State) : Option Nat :=
  let limit := t + 60 * s.f (aModelLeadmax z) 0 16
  match modeSched z s with
  | some k => ((schedChanges k t limit s).find? (fun c => decide (c.2 % 8 ≠ 0) && decide (schedValue k (c.1 - 1) s % 8 = 0))).map (·.1)
  | none => none

/-- R268, R269: the smallest number of steps after which the simulated y satisfies `p`, at most `n`. -/
def leadSteps (theta u : List F64) (p : F64 → Bool) : Nat → Nat → F64 → F64 → Nat
  | 0, k, _, _ => k
  | n + 1, k, y1, y2 => if p y1 then k else leadSteps theta u p n (k + 1) (dot64 (regressors y1 y2 u) theta) y1

/-- A lead in s: steps of TM, at most `cap` s. -/
def leadOf (z : Nat) (u1 u4 : F64) (p : F64 → Bool) (cap : Nat) (s : State) : Nat :=
  let m := modSt z s
  let n := cap / max 1 m.tm + 1
  min cap (leadSteps m.theta [u1, nth m.u 1 0, nth m.u 2 0, u4] p n 0 m.y1.1 m.y2.1 * m.tm)

/-- R268: the start lead. -/
def startLead (z : Nat) (s : State) : Nat :=
  let sp := f64OfF32 (zrec z 1 s)
  let d := f64OfRat (mkRat 1 5)
  let cap := 60 * s.f (aModelLeadmax z) 16 16
  if f64Lt (modSt z s).y1.1 sp then leadOf z (f64OfInt 100) 0 (fun y => !f64Lt y (f64Sub sp d)) cap s
  else leadOf z (f64OfInt (-100)) 0 (fun y => !f64Lt (f64Add sp d) y) cap s

/-- R269: the stop lead. -/
def stopLead (z : Nat) (s : State) : Nat :=
  let sp := f64OfF32 (zrec z 1 s)
  let d := f64OfF32 (s.reg (aModelStopdrop z))
  let cap := 60 * s.f (aModelLeadmax z) 0 16
  if f32Lt (zrec z 3 s) (zrec z 1 s) then leadOf z 0 (f64OfInt 1) (fun y => !f64Lt (f64Sub sp d) y) cap s
  else leadOf z 0 (f64OfInt 1) (fun y => !f64Lt y (f64Add sp d)) cap s

/-- MODEL_OPT shows the leads in min. -/
def showLeads (z : Nat) (l : Nat × Nat) (s : State) : State :=
  (setMod z { modSt z s with leads := l } s).setReg (aModelOpt z) (halves (roundDiv l.1 60) (roundDiv l.2 60))

/-- R268 to R270: firmware's part of a boundary: leads, pre-conditioning and optimum stop. -/
def judgeLeads (z : Nat) (s : State) : State :=
  if !modelValid z s then showLeads z (0, 0) s
  else
    match timeNow s with
    | none => s
    | some t =>
      let s := if s.b (aModelCtl z) 30 then
          (match nextOccupied z t s with
           | some u =>
             let l := startLead z s
             let s := showLeads z (l, (modSt z s).leads.2) s
             if u - t ≤ l ∧ !(zoneSt z s).precond then setZone z { zoneSt z s with precond := true, tOcc := u } s else s
           | none => s)
        else s
      if s.b (aModelCtl z) 29 then
        (match nextEnd z t s with
         | some u =>
           let l := stopLead z s
           let s := showLeads z ((modSt z s).leads.1, l) s
           if u - t ≤ l ∧ !(zoneSt z s).optstop then setZone z { zoneSt z s with optstop := true, tEnd := u } s else s
         | none => s)
      else s

/-- MODEL_UPDATE (R258 to R264, R268, R269, R289): the next boundary of zone z. -/
def execModelUpdate (z : Fin 48) (s : State) : Host.Outcome State Fault Refusal :=
  .next (if domOn .cmb s && s.b (aModelCtl z) 31 then
    (let s := s.advTo ((modSt z s).last + secT (modSt z s).tm)
     let s := modelBoundary z s
     if ready s then recomputeModes [z.val] (judgeLeads z s) else s)
    else s)

/-! ### ZONE commands (R267) -/

/-- The checks for a zone reference and the island of the models. -/
def zoneChecks (r : Word) (s : State) : List (Bool × Nat) := refFails 0x03 r ++ [(!domOn .cmb s, stNoResource)]

/-- ZONE_READ (R267). -/
def execZoneRead (id : Nat) (s : State) : Host.Outcome State Fault Refusal :=
  .next (runCmd id 0x0501 (fun c s =>
    let r := mw c.words 1
    let z := refInst r
    checked (zoneChecks r s) s (
      let st := zoneSt z s
      let w := setBit (setBit (setBit (setBit 0 31 (modelValid z s)) 30 (s.b (aModelStat z) 1)) 29 st.precond) 28 st.optstop
      let l := (modSt z s).leads
      (.done stOk [w, st.sp, f32OfF64 (modSt z s).yNow, s.reg (aModelPred z), s.reg (aModelConf z), s.reg (aModelTau z),
        BitVec.ofNat 32 l.1, BitVec.ofNat 32 l.2], s))) s)

/-- ZONE_SETPOINT (R267, R290, R606): expiry 0 cancels. -/
def execZoneSetpoint (id : Nat) (s : State) : Host.Outcome State Fault Refusal :=
  .next (runCmd id 0x0502 (fun c s =>
    let r := mw c.words 1
    let z := refInst r
    let v := mw c.words 2
    let e := (mw c.words 3).toNat
    checked ((!f32Ok v, stBadArg) :: refFails 0x03 r) s (
      if !ownerBase r s then (conflictOn r s, s)
      else checked [(decide (e ≠ 0) && (f32Lt v (zrec z 6 s) || f32Lt (zrec z 7 s) v), stRange), (!expiryOk e (timeNow s), stRange)] s (
        let s := { s with fw := { s.fw with spOvr := tblSet none s.fw.spOvr z (if e = 0 then none else some (v, e)) } }
        (.st stOk, refreshSp z s)))) s)

/-- ZONE_MODEL (R267). -/
def execZoneModel (id : Nat) (s : State) : Host.Outcome State Fault Refusal :=
  .next (runCmd id 0x0503 (fun c s =>
    let r := mw c.words 1
    let z := refInst r
    checked (zoneChecks r s) s (
      (.done stOk ((List.range 7).map (fun k => s.reg (aModelTh z k)) ++ [s.reg (aModelConf z), s.reg (aModelTau z),
        s.reg (aModelGain z), s.reg (aModelRms z), s.reg (aModelCnt z), s.reg (aModelStat z)]), s))) s)

/-- ZONE_MODEL_RESET (R267, R265). -/
def execZoneModelReset (id : Nat) (s : State) : Host.Outcome State Fault Refusal :=
  .next (runCmd id 0x0504 (fun c s =>
    let r := mw c.words 1
    checked (zoneChecks r s) s (
      if !ownerBase r s then (conflictOn r s, s)
      else
        let s := showLeads (refInst r) (0, 0) (resetModel (refInst r) s)
        (.st stOk, { s with heart := { s.heart with modelDue := true } }))) s)

/-! ### SCHED commands (R309) -/

/-- R282, R283: the enabled switch points of a day keep the rules. -/
def profileOk (level : Bool) (ps : List Word) : Bool :=
  let on := ps.filter (fun w => bit w 31)
  on.all (fun w => decide (fld w 20 11 < 1440) && decide (fld w 16 4 = 0) && (level || decide (fld w 0 16 ≤ 4)))
    && (List.zipWith (fun a b => decide (fld a 20 11 < fld b 20 11)) on (on.drop 1)).all id

/-- R283: a header keeps the rules. -/
def headOk (h : Word) : Bool := decide (fld h 30 2 ≤ 1) && decide (fld h 16 6 = 0) && (decide (fld h 30 2 = 1) || decide (fld h 0 16 ≤ 4))

/-- R283: schedule k keeps the rules with this header and this profile of one day. -/
def schedOk (k day : Nat) (h : Word) (ps : List Word) (s : State) : Bool :=
  let level := decide (fld h 30 2 = 1)
  headOk h && profileOk level ps && (List.range 7).all (fun d =>
    decide (d + 1 = day) || profileOk level ((List.range 8).map (fun i => schedPoint k (d + 1) (i + 1) s)))

/-- R287: a calendar entry has no reserved code or bit. -/
def calForm (w0 : Word) : Bool := decide (fld w0 27 3 ≤ 1) && decide (fld w0 16 8 = 0)

/-- R288: the days of a calendar entry are in range. -/
def calOk (w0 w1 : Word) : Bool :=
  (decide (fld w0 27 3 = 0) || decide (1 ≤ fld w0 24 3)) &&
    (if bit w0 30 then decide (fld w1 16 16 ≤ 365 ∧ fld w1 0 16 ≤ 365) else decide (fld w1 16 16 ≤ fld w1 0 16))

/-- The words of a schedule's day enter. -/
def putSched (k day : Nat) (h : Word) (ps : List Word) (s : State) : State :=
  let t := tblSet 0 s.fw.sched (128 * k) h
  { s with fw := { s.fw with sched := forRange 8 (fun i t => tblSet 0 t (128 * k + 16 * day + i + 1) (nth ps i 0)) t } }

/-- The words of a calendar entry enter. -/
def putCal (e : Nat) (ws : List Word) (s : State) : State :=
  { s with fw := { s.fw with cal := forRange 3 (fun i t => tblSet 0 t (4 * e + i) (nth ws i 0)) s.fw.cal } }

/-- The payload of a SCHED frame (R399). -/
def schedPayload (k day : Nat) (s : State) : List Byte :=
  [BitVec.ofNat 8 k, BitVec.ofNat 8 day, 0, 0] ++ wordToBytes (schedHead k s)
    ++ (List.range 8).flatMap (fun i => wordToBytes (schedPoint k day (i + 1) s))
/-- The payload of a CAL frame (R399). -/
def calPayload (e : Nat) (s : State) : List Byte :=
  [BitVec.ofNat 8 e, 0, 0, 0] ++ (List.range 3).flatMap (fun w => wordToBytes (calWord e w s))

/-- R419: a schedule goes to a member, one frame per day. -/
def sendSchedTo (node k : Nat) (cmd : Option Nat) (s : State) : State :=
  forRange 7 (fun d s => sendReliable 0x42 node (schedPayload k (d + 1) s) cmd s) s
/-- R419: the calendar goes to a member. -/
def sendCalTo (node : Nat) (cmd : Option Nat) (s : State) : State :=
  forRange 64 (fun e s => sendReliable 0x43 node (calPayload e s) cmd s) s

/-- The members present, this node apart. -/
def membersPresent (s : State) : List Nat := (List.range 16).filter (fun n => decide (n ≠ myNode s) && nodePresent n s)

/-- R419: after a change of schedule k on the acting master. -/
def distributeSched (k : Nat) (s : State) : State :=
  if acting s && (match s.fw.image with | some im => bit im.groveSched k | none => false) then
    forEach (membersPresent s) (fun n s => sendSchedTo n k none s) (freshLine s)
  else s
/-- R419: after a change of the calendar on the acting master. -/
def distributeCal (s : State) : State :=
  if acting s && (match s.fw.image with | some im => im.groveCal | none => false) then
    forEach (membersPresent s) (fun n s => sendCalTo n none s) (freshLine s)
  else s

/-- SCHED_READ (R309). -/
def execSchedRead (id : Nat) (s : State) : Host.Outcome State Fault Refusal :=
  .next (runCmd id 0x0601 (fun c s =>
    let r := mw c.words 1
    let k := refInst r
    let d := (mw c.words 2).toNat
    checked ((decide (d < 1 ∨ 7 < d), stBadArg) :: refFails 0x04 r) s
      (.done stOk ([schedHead k s, BitVec.ofNat 32 (fld (schedHead k s) 0 16)]
        ++ (List.range 8).map (fun i => schedPoint k d (i + 1) s)), s)) s)

/-- SCHED_WRITE (R309, R283, R285, R419). -/
def execSchedWrite (id : Nat) (s : State) : Host.Outcome State Fault Refusal :=
  .next (runCmd id 0x0602 (fun c s =>
    let r := mw c.words 1
    let k := refInst r
    let d := (mw c.words 2).toNat
    let ps := (c.words.drop 4).take 8
    checked ((decide (d < 1 ∨ 7 < d), stBadArg) :: refFails 0x04 r) s (
      if !ownerBase r s then (conflictOn r s, s)
      else checked [(!schedOk k d (mw c.words 3) ps s, stRange)] s
        (.st stOk, evalSchedules (distributeSched k (ringEvent 6 (putSched k d (mw c.words 3) ps s)))))) s)

/-- SCHED_CALENDAR (R309, R287, R288, R419). -/
def execSchedCalendar (id : Nat) (s : State) : Host.Outcome State Fault Refusal :=
  .next (runCmd id 0x0603 (fun c s =>
    let r := mw c.words 1
    let m := mw c.words 2
    let e := fld m 0 6
    let ws := (c.words.drop 3).take 3
    let shows := fun (s : State) => Reply.done stOk ((List.range 3).map (fun w => calWord e w s))
    checked ((!onlyBits m 0x8000003F, stBadArg) :: (bit m 31 && !calForm (mw ws 0), stBadArg) :: refFails 0x05 r) s (
      if !bit m 31 then (shows s, s)
      else if !ownerBase r s then (conflictOn r s, s)
      else checked [(!calOk (mw ws 0) (mw ws 1), stRange)] s (
        let s := evalSchedules (distributeCal (ringEvent 6 (putCal e ws s)))
        (shows s, s)))) s)

/-- SCHED_OCCUPANCY (R309, R292): up to 52 bins, four to a word. -/
def execSchedOccupancy (id : Nat) (s : State) : Host.Outcome State Fault Refusal :=
  .next (runCmd id 0x0604 (fun c s =>
    let r := mw c.words 1
    let z := refInst r
    let b := (mw c.words 2).toNat
    checked ((decide (672 ≤ b), stBadArg) :: refFails 0x03 r ++ [(!domOn .grr s, stNoResource)]) s (
      let n := min 52 (672 - b)
      let h := fun i => if i < n then BitVec.ofNat 8 (presBin z (b + i) s) else 0
      (.done stOk (halves b n :: (List.range ((n + 3) / 4)).map (fun w => bytesToWord (h (4 * w)) (h (4 * w + 1)) (h (4 * w + 2)) (h (4 * w + 3)))), s))) s)

end Sys2Proof.Machine
end

