-- ==== Sys2Proof/Machine/ConfigLoad.lean ====
section
/-! DEFINITION. Sys2Proof/Machine/ConfigLoad.lean: loading, checking and activating a configuration (R113, R114, R303
to R308), overrides and their expiry (R309, R606), CFG.QUERY (R310), doorbell actions (R302), a change of the clock
(R607). -/

namespace Sys2Proof.Machine

open Sys2Proof

/-! ### Load sessions -/

/-- CFG_LOAD_BEGIN (R303). -/
def execCfgLoadBegin (id : Nat) (s : State) : Host.Outcome State Fault Refusal :=
  .next (runCmd id 0x0201 (fun c s =>
    let m := mw c.words 1
    let scope := fld m 24 8
    let n := (mw c.words 2).toNat
    checked [(decide (1 < scope), stBadArg), (!onlyBits m (if scope = 1 then 0x0100000F else 0), stBadArg), (decide (n % 4 ≠ 0), stBadArg),
      (decide (n < 4 ∨ (if scope = 0 then 131072 else 4096) < n), stRange)] s
      (.st stOk, { s with fw := { s.fw with load := some ⟨scope, fld m 0 4, n, mw c.words 3, []⟩ } })) s)

/-- CFG_LOAD_DATA (R304). -/
def execCfgLoadData (id : Nat) (s : State) : Host.Outcome State Fault Refusal :=
  .next (runCmd id 0x0202 (fun c s =>
    let off := (mw c.words 1).toNat
    let bs := bytesOfWords ((c.words.drop 2).take (msgLen c.words - 1))
    match s.fw.load with
    | none => checked [(decide (off % 4 ≠ 0), stBadArg)] s (.st stNotFound, s)
    | some l =>
      checked [(decide (off % 4 ≠ 0), stBadArg), (decide (l.len < off + bs.length), stRange)] s (
        let data := forRange bs.length (fun i t => tblSet 0 t (off + i) (nth bs i 0)) l.data
        (.st stOk, { s with fw := { s.fw with load := some { l with data := data } } }))) s)

/-! ### Checks of an image (R305 steps 3 and 4) -/

/-- The ways in which modes can be in force in some zones: each in one of the modes or in none of them. -/
def modeWays (modes : List Nat) : List Nat → List (List (Nat × Option Nat))
  | [] => [[]]
  | z :: t => (none :: modes.map some).flatMap (fun m => (modeWays modes t).map (fun w => (z, m) :: w))

/-- A device with every register at its reset value and every domain on, under image `im`. -/
def trialState (im : Image) : State :=
  { State.reset with regs := [(aSysPwrstat, 0x1FF#32)],
                     fw := { fwReset with image := some im, sched := im.sched, cal := im.cal } }

/-- R277, R281: the sizes and the numbers of the parts of an image of n bytes. -/
def sizesOk (n : Nat) (im : Image) : Bool :=
  let kinds := im.overlays.filterMap (fun o => o.map (·.kind))
  let once := fun (k : OvKind) => decide ((kinds.filter (fun x => x = k)).length ≤ 1)
  decide (n ≤ 131072) && decide (im.baseLen ≤ 131072) && decide (im.overlays.length ≤ 16)
    && im.overlays.all (fun o => match o with | some o => decide (o.len ≤ 4096) | none => true)
    && (List.range 5).all (fun m => once (.mode m)) && once .safety && once (.cond 3)

/-- R113: every combination of layers that can be active together, as the registers it gives. -/
def trials (im : Image) : List State :=
  let t0 := trialState im
  let refs := imageRefs t0
  let t1 := rewriteRefs [] refs t0
  let kinds := (List.range 16).filterMap (fun k => (overlayOf k t0).map (fun o => (k, o)))
  let modes := kinds.filterMap (fun p => match p.2.kind with | .mode m => some m | _ => none)
  let conds := kinds.filterMap (fun p => match p.2.kind with | .cond _ => some p.1 | _ => none)
  let safe := kinds.filterMap (fun p => if p.2.kind = .safety then some p.1 else none)
  let named := kinds.flatMap (fun p => match p.2.kind with | .mode _ => p.2.items.map (·.ref) | _ => [])
  let zones := (named.map (fun r => resZone r t1)).dedup
  let sets := (conds.sublists.filter (fun l => decide (l.length ≤ 3))).flatMap (fun l => l :: safe.map (fun k => k :: l))
  sets.flatMap (fun act => (modeWays modes zones).map (fun w =>
    let t := forEach w (fun p t => setZone p.1 { zoneSt0 with mode := p.2 } t) t1
    rewriteRefs [] refs { t with fw := { t.fw with active := act } }))

/-- A field of a zone record has an acceptable value. -/
def zrecOk (f : Nat) (v : Word) : Bool :=
  if (1 ≤ f ∧ f ≤ 7) ∨ f = 9 ∨ f = 17 ∨ f = 18 ∨ f = 19 then f32Ok v
  else if f = 14 then decide (fld v 8 3 ≤ 4) else true

/-- R305 step 3: the fields of a resource are registers of it and took their values. -/
def refOk (r : Word) (t : State) : Bool :=
  let all := match t.fw.image with | some im => (imageItems im).filter (fun i => i.ref = r) | none => []
  let cur := activeItems r t
  decide (refCheck r = 0) && (itemAddrs all).all (fun a =>
    if schedAddr + 0x8000 ≤ a then decide (r = mkRef 0x05 0) && decide (a < schedAddr + 0x8400) && decide (a % 16 < 12)
    else if schedAddr ≤ a then
      (let k := (a - schedAddr) / 4
       decide (r = mkRef 0x04 (k / 128)) && (decide (k % 128 = 0) || (decide (1 ≤ k % 16) && decide (k % 16 ≤ 8) && decide (1 ≤ k % 128 / 16))))
    else if 0x1004000 ≤ a then decide (refType r = 0x03) && decide ((a - 0x1004000) / 256 = refInst r)
      && zrecOk ((a - 0x1004000) / 4 % 64) (mergeAt a cur)
    else if 0x1003000 ≤ a then
      decide (a = demandAddr r) && f32Ok (mergeAt a cur) && f32Le 0 (mergeAt a cur) && f32Le (mergeAt a cur) 0x42C80000
    else decide (addrRef a t = some r) && decide (fieldNow a t &&& maskAt a all = mergeAt a cur &&& maskAt a all))

/-- R235: what segment k of slot n, by the registers as last written, sends for an output u. -/
def segSends (n k : Nat) (u : F32) (t : State) : F32 :=
  let xlo := t.reg (aCambXlo n k)
  let xhi := t.reg (aCambXhi n k)
  let ylo := t.reg (aCambYlo n k)
  f32Fma (f32Div (f32Sub (f32Min (f32Max u xlo) xhi) xlo) (f32Sub xhi xlo)) (f32Sub (t.reg (aCambYhi n k)) ylo) ylo

/-- R235: a value that slot n sends to a drive channel or fan can leave 0 to 100 %: that of an output at OUT_MIN or
OUT_MAX. -/
def sendsOutside (n : Nat) (t : State) : Bool :=
  let out := fun (w : Word) => f32Lt w 0 || f32Lt 0x42C80000 w
  let acts := fun k => t.b (aCambDst n k) 31 && decide (2 ≤ t.f (aCambDst n k) 8 2)
  let nseg := t.f (aCambCtl n) 15 3
  if nseg = 0 then acts 0 && (out (t.reg (aCambOutmin n)) || out (t.reg (aCambOutmax n)))
  else (List.range (min 4 nseg)).any (fun k =>
    acts k && (out (segSends n k (t.reg (aCambOutmin n)) t) || out (segSends n k (t.reg (aCambOutmax n)) t)))

/-- R335: the supply channel of fan f is refused. -/
def supplyBad (f : Nat) (t : State) : Bool :=
  t.b (aFanCfg f) 31 && t.b (aFanCfg f) 14 &&
  (let c := t.f (aFanCfg f) 8 6
   decide (48 ≤ c) || !(decide (drvMode c t = 1) && decide (drvLsub c t = 0))
    || (List.range 16).any (fun g => decide (g ≠ f) && t.b (aFanCfg g) 31 && t.b (aFanCfg g) 14 && decide (t.f (aFanCfg g) 8 6 = c))
    || (List.range 96).any (fun n => (List.range 4).any (fun k => t.b (aCambDst n k) 31 && decide (t.f (aCambDst n k) 0 10 = 512 + c)))
    || ownersDiffer (ownerOf (drvRef c) t) (ownerOf (fanRef f) t))

/-- R283, R287, R288: the first schedule, or the calendar, that breaks its rules in one combination. -/
def schedFail (t : State) : Option Word :=
  match (List.range 32).find? (fun k => !(headOk (schedHead k t) && (List.range 7).all (fun d =>
      profileOk (decide (fld (schedHead k t) 30 2 = 1)) ((List.range 8).map (fun i => schedPoint k (d + 1) (i + 1) t))))) with
  | some k => some (mkRef 0x04 k)
  | none => if (List.range 64).all (fun e => calForm (calWord e 0 t) && calOk (calWord e 0 t) (calWord e 1 t))
      then none else some (mkRef 0x05 0)

/-- R305 step 3 for one combination: the first object that fails. -/
def objectFail (t : State) : Option Word :=
  match (imageRefs t).find? (fun r => !refOk r t) with
  | some r => some r
  | none =>
    match (List.range 96).find? (fun n => sendsOutside n t) with
    | some n => some (mkRef 0x02 n)
    | none => match (List.range 16).find? (fun f => supplyBad f t) with
      | some f => some (fanRef f)
      | none => schedFail t

/-- R302: the doorbell assignments are acceptable. -/
def doorbellsOk (im : Image) : Bool :=
  im.dbin.all (fun p => (decide (p.1 < 16) || decide (28 ≤ p.1 ∧ p.1 < 32)) &&
    (let cond := fun k => match im.overlays.getD k none with | some o => (match o.kind with | .cond _ => true | _ => false) | none => false
     match p.2 with
     | .setCond k => decide (28 ≤ p.1) && cond k
     | .releaseCond k => decide (28 ≤ p.1) && cond k
     | .modeSet zs m => zs.all (fun z => decide (z ≤ 48)) && decide (m ≤ 4)
     | .modeCancel zs => zs.all (fun z => decide (z ≤ 48)))) &&
  im.dbout.all (fun p => (decide (16 ≤ p.1 ∧ p.1 < 28) || decide (29 ≤ p.1 ∧ p.1 < 32)) && decide (1 ≤ p.2 ∧ p.2 ≤ 9))

/-- R512: the bits of the domains that the image leaves unused. -/
def unusedMask (im : Image) : Word := ~~~ im.used &&& 0x1FF#32

/-- R512: the registers of a switchable domain (by its bit) whose field at `lo` is not 0 while a resource is enabled. -/
def enableFields (b : Nat) : List (Nat × Nat × Nat) :=
  match b with
  | 0 => (List.range 96).map (fun n => (aCambCtl n, 27, 3)) ++ (List.range 48).map (fun z => (aModelCtl z, 31, 1))
  | 2 => (List.range 48).map (fun n => (aRootAincfg (48 + n), 4, 4)) ++ (List.range 64).map (fun e => (aRootSeqlo (64 + e), 31, 1))
      ++ [(aRootCnvctl 2, 31, 1), (aRootCnvctl 3, 31, 1)] ++ (List.range 16).map (fun d => (aRootPircfg d, 31, 1))
  | 3 => (List.range 64).map (fun e => (aRootSeqlo (128 + e), 31, 1)) ++ [(aRootCnvctl 4, 31, 1), (aRootCnvctl 5, 31, 1)]
  | 4 => (aGrrCtl, 31, 1) :: (List.range 256).map (fun c => (aGrrChcfg c, 31, 1))
  | 6 => (List.range 6).map (fun p => (aBusPcfg p, 29, 3)) ++ (List.range 8).map (fun p => (aBusI2cctl p, 31, 1))
      ++ (List.range 5).map (fun g => (aTwigSegctl g, 31, 1)) ++ (List.range 32).map (fun k => (aBusMbp0 k, 31, 1))
  | 7 => [(aGraftCtl, 31, 1)]
  | 8 => (List.range 48).map (fun n => (aDrvCtl n, 0, 4)) ++ (List.range 16).map (fun f => (aFanCfg f, 31, 1))
  | _ => []

/-- R512: a resource of an unused domain that is enabled in one combination of layers. -/
def unusedIn (im : Image) (t : State) : Option Word :=
  (List.range 9).findSome? (fun b => if bit (unusedMask im) b
    then ((enableFields b).find? (fun e => decide (t.f e.1 e.2.1 e.2.2 ≠ 0))).map (fun e => (addrRef e.1 t).getD 0) else none)

/-- R512: HWD and RTA are always used, and nothing that is enabled stands in an unused domain. -/
def unusedFail (im : Image) (ts : List State) : Option Word :=
  if bit (unusedMask im) 5 then some (mkRef 0x1F 0x0C0)
  else if bit (unusedMask im) 1 then some (mkRef 0x1F 0x040)
  else ts.findSome? (unusedIn im)

/-- R305 step 3: the first failing object. -/
def rangeFail (im : Image) (ts : List State) : Option Word :=
  match ts.findSome? objectFail with
  | some r => some r
  | none =>
    match unusedFail im ts with
    | some r => some r
    | none => if doorbellsOk im then none else some (mkRef 0x1F 0x020)

/-- R280, R114: two items of one layer name one field. -/
def itemClash : List Item → Option Word
  | [] => none
  | i :: t => if t.any (fun j => decide (j.addr = i.addr) && decide (j.mask &&& i.mask ≠ 0)) then some i.ref else itemClash t

/-- R165: the enabled entries that name point p are not the set that its source permits. -/
def pointClash (p : Nat) (t : State) : Bool :=
  match (List.range 192).filter (fun n => t.b (aRootSeqlo n) 31 && decide (t.f (aRootSeqlo n) 22 8 = p)) with
  | [] => false
  | [a] => decide (t.f (aRqPcfg p) 29 3 ≠ 0) || t.b (aRootSeqlo a) 30
  | [a, b] => decide (t.f (aRqPcfg p) 29 3 ≠ 0) || !(decide (a / 32 < 4 ∧ 4 ≤ b / 32) && t.b (aRootSeqlo a) 30 && t.b (aRootSeqlo b) 30
      && decide (t.f (aRootSeqlo a) 15 7 = t.f (aRootSeqlo b) 15 7))
  | _ => true

/-- The first of `n` units that a list of users names twice. -/
def namedTwice (n : Nat) (users : List Nat) : Option Nat :=
  (List.range n).find? (fun u => decide (2 ≤ (users.filter (fun x => x = u)).length))

/-- R133, R335: a capture unit that two of the pulse inputs and enabled fans name. -/
def captureClash (t : State) : Option Word :=
  (namedTwice 32 (((List.range 96).filter (fun n => ainMode n t = 10)).map (fun n => t.f (aRootAincfg n) 8 5)
    ++ ((List.range 16).filter (fun f => t.b (aFanCfg f) 31)).map (fun f => t.f (aFanCfg f) 16 5))).map (mkRef 0x11)

/-- R335: a PWM generator that two of the LSW PWM channels and enabled fans name (DEDUCED, log entry 147). -/
def generatorClash (t : State) : Option Word :=
  (namedTwice 64 (((List.range 48).filter (fun n => decide (drvMode n t = 1) && decide (drvLsub n t = 1))).map (fun n => t.f (aDrvCtl n) 16 6)
    ++ ((List.range 16).filter (fun f => t.b (aFanCfg f) 31)).map (fun f => t.f (aFanCfg f) 21 6))).map (mkRef 0x12)

/-- R314: a drive channel that two enabled slot destinations name. -/
def demandClash (t : State) : Option Word :=
  ((List.range 48).find? (fun c => decide (2 ≤ ((List.range 96).flatMap (fun n => (List.range 4).filter (fun k =>
    t.b (aCambDst n k) 31 && decide (t.f (aCambDst n k) 0 10 = 512 + c)))).length))).map drvRef

/-- R311: an H-bridge pair of which a layer names both halves and gives them different owners. -/
def pairClash (t : State) : Option Word :=
  ((List.range 47).find? (fun n => decide (drvMode n t = 2) && decide (ownerKind (ownerOf (drvRef (n + 1)) t) ≠ 0)
    && decide (ownerOf (drvRef n) t ≠ ownerOf (drvRef (n + 1)) t))).map drvRef

/-- R114: a contested resource in one combination. -/
def clashIn (t : State) : Option Word :=
  match (List.range 256).find? (fun p => pointClash p t) with
  | some p => some (mkRef 0x01 p)
  | none => [captureClash t, generatorClash t, demandClash t, pairClash t].findSome? id

/-- R230: slots reachable from slot a in at most n steps of the consume relation. -/
def reachFrom (t : State) : Nat → List Nat → List Nat
  | 0, l => l
  | n + 1, l => reachFrom t n ((List.range 96).filter (fun b => decide (b ∈ l) || l.any (fun a => staysBefore a b t)))

/-- R230: a slot on a cycle. -/
def cycleIn (t : State) : Option Word :=
  ((List.range 96).find? (fun a => decide (a ∈ reachFrom t 96 ((List.range 96).filter (fun b => staysBefore a b t))))).map (mkRef 0x02)

/-- R305 step 4: CONFLICT per R92 with the owner that the new configuration would give, or RANGE for a cycle. -/
def comboFail (im : Image) (ts : List State) (s : State) : Option Reply :=
  let conflict := fun (r w : Word) => Reply.done stConflict [r, ownerOf r s, w]
  let dup := match itemClash im.base with
    | some r => some (conflict r (ownerWord 1 0 0 63))
    | none => (List.range 16).findSome? (fun k => (im.overlays.getD k none).bind (fun o => (itemClash o.items).map (fun r =>
        conflict r (ownerWord (match o.kind with | .mode _ => 2 | .cond _ => 3 | .safety => 4) k 0 63))))
  match dup with
  | some e => some e
  | none => ts.findSome? (fun t => match clashIn t with
    | some r => some (conflict r (ownerOf r t))
    | none => (cycleIn t).map (fun r => Reply.done stRange [r]))

/-! ### Activation (R306, R308) -/

/-- R245, R329, R345, R387, R484: registers that commands set and that last until a configuration load. -/
def commandRegs : List (Nat × Word) :=
  (List.range 96).flatMap (fun n => ([aCambKp n, aCambTi n, aCambTd n, aCambTf n, aCambDb n, aCambOutmin n, aCambOutmax n, aCambRate n,
    aCambKff n, aCambSpk n, aCambManval n, aCambSafeout n, aCambDstep n, aCambCtl n].map (fun a => (a, mkRef 0x02 n)))) ++
  (List.range 48).flatMap (fun n => [aDrvSafe n, aDrvStroke n].map (fun a => (a, drvRef n))) ++
  (List.range 16).map (fun f => (aFanFail f, fanRef f)) ++
  (List.range 6).map (fun p => (aBusPcfg p, mkRef 0x08 p)) ++
  (List.range 256).map (fun c => (aGrrChcfg c, mkRef 0x0D c)) ++
  (List.range 4).map (fun g => (aGraftShare g, mkRef 0x1F 0x0B0))

/-- R189: the script registers of the sensor ports that hold a value: descriptors, write data and BUS_I2CCTLp. -/
def scriptRegs (s : State) : List (Nat × Word) :=
  (s.regs.filter (fun e => decide (0x0A2000 ≤ e.1 ∧ e.1 < 0x0A6000) && decide (e.1 % 128 < 0x24))).map
    (fun e => (e.1, mkRef 0x09 ((e.1 - 0x0A2000) / 0x800))) ++
  (List.range 8).map (fun p => (aBusI2cctl p, mkRef 0x09 p))

/-- What commands set in registers that no item of the image names goes back to its reset value; a held resource keeps it
until it is handed back (R105). -/
def dropCommandRegs (im : Image) (s : State) : State :=
  forEach (commandRegs ++ scriptRegs s) (fun p s =>
    if (imageItems im).any (fun i => i.addr = p.1) || decide (s.reg p.1 = regReset p.1) then s
    else if 5 ≤ ownerKind (ownerOf p.2 s) then { s with fw := { s.fw with wrote := s.fw.wrote ++ [(p.2, p.1)] } }
    else putField p.1 (regReset p.1) s) s

/-- R105, R257: what the old image named of a held resource goes with it, and a LOOP.TUNE run hands its slot back to the new
layers. -/
def noteHeld (old : List Item) (s : State) : State :=
  let kept := (old.filter (fun i => decide (5 ≤ ownerKind (ownerOf i.ref s)))).map (fun i => (i.ref, i.addr))
  { s with fw := { s.fw with wrote := (s.fw.wrote ++ kept).dedup },
           camb := { s.camb with runs := s.camb.runs.map (fun r => { r with held := r.held.map (fun p => (p.1, [16])) }) } }

/-- R306: a command trigger stays when the new image has a condition overlay of the same type under its number. -/
def keepCmdTrigs (old : Option Image) (im : Image) (t : Tbl (Option Nat)) : Tbl (Option Nat) :=
  t.filter (fun e => match old.bind (fun o => o.overlays.getD e.1 none), im.overlays.getD e.1 none with
    | some a, some b => (match a.kind, b.kind with | .cond x, .cond y => decide (x = y) | _, _ => false)
    | _, _ => false)

/-- R295: triggers whose definition stays keep their state. -/
def keepTrigs (old : Option Image) (im : Image) (t : Tbl TrigSt) : Tbl TrigSt :=
  t.filter (fun e => match old.bind (fun o => o.overlays.getD (e.1 / 2) none), im.overlays.getD (e.1 / 2) none with
    | some a, some b => decide (a.trigs[e.1 % 2]? = b.trigs[e.1 % 2]?)
    | _, _ => false)

/-- R306, R308: the image `im` becomes the configuration. At start-up (`boot`) triggers start under R298 and what the
parameters record restored stays. -/
def activate (im : Image) (crc : Word) (copyB boot : Bool) (s : State) : State :=
  let old := s.fw.image
  let oldItems := match old with | some o => imageItems o | none => []
  let before := s
  let s := { s with fw := { s.fw with
    image := some im, imgCrc := crc, copyB := copyB, actTime := timeWord0 s, activated := true,
    sched := if boot then s.fw.sched else im.sched, cal := if boot then s.fw.cal else im.cal,
    cmdTrig := if boot then s.fw.cmdTrig else keepCmdTrigs old im s.fw.cmdTrig, trig := if boot then [] else keepTrigs old im s.fw.trig,
    levelLast := [], driveOvr := [], fanOvr := [] } }
  let tmo := fun p => ((im.portTmo.find? (fun e => e.1 = p)).map (·.2)).getD busPort0.tmo
  let s := forRange 6 (fun p s => if 5 ≤ ownerKind (ownerOf (mkRef 0x08 p) s) then s else setPort p { busPort p s with tmo := tmo p } s) s
  let s := putOvlen s
  let refs := ((imageRefs s) ++ oldItems.map (·.ref)).dedup
  let s := rewriteRefs oldItems (refs.filter (fun r => refType r = 0x03)) s
  let s := forEach allZones recomputeZone s
  let s := if boot then startTriggers s else forRange 16 (fun k s => forRange 2 (evalTrig k) s) s
  let conds := triggeredConds s
  let s : State := { s with fw := { s.fw with active := triggeredSafety s ++ conds.take 3, pendingOv := conds.drop 3 } }
  let s : State := if s.fw.active = before.fw.active ∧ s.fw.pendingOv = before.fw.pendingOv then s else ringEvent 5 s
  let s := if allZones.all (fun z => decide ((zoneSt z s).mode = (zoneSt z before).mode)) then s else ringEvent 4 s
  let s := applyRefs oldItems refs (noteHeld oldItems (dropCommandRegs im s))
  let s := forRange 48 (fun n s => applyDemand n s) s
  evalSchedules s

/-- The bytes of the image in use. -/
def imageBytes (s : State) : List Byte :=
  match recordInUse 0 s with
  | some f => (match f.payload with | .image n t => bytesOfTbl t n | _ => [])
  | none => []

/-- A list of bytes as a table. -/
def tblOfBytes (bs : List Byte) : Tbl Byte := forRange bs.length (fun i t => tblSet 0 t i (nth bs i 0)) []

/-- R305: the steps of CFG.LOAD_END on a session. -/
def loadEnd (l : LoadSession) (checkOnly : Bool) (id : Nat) (medium : Medium) (s : State) : Reply × State :=
  let sent := bytesOfTbl l.data l.len
  if crc32c sent ≠ l.crc then (.st stBadArg, s)
  else
    let bytes := if l.scope = 0 then some sent else Config.mergeOverlay (imageBytes s) l.overlay sent
    match bytes, bytes.bind (fun bs => (Config.parseImage bs).filter (sizesOk bs.length)) with
    | some bs, some im =>
      let ts := trials im
      (match rangeFail im ts with
       | some r => (.done stRange [r], s)
       | none =>
         match comboFail im ts s with
         | some e => (e, s)
         | none =>
           if checkOnly then (.ends stOk [], s)
           else
             let w := writeRecord 0 (.image bs.length (tblOfBytes bs)) 0 (some id) medium s
             match w.1 with
             | .failed => (.ends stStoreFail [], w.2)
             | .stopped => (.running, w.2)
             | .done =>
               let s := activate im (crc32c bs) ((chooseCopy 0 w.2).1.getD false) false w.2
               let s := if claimed (mkRef 0x1F 0x010) s then s else pwrctlWrite (s.reg aSysPwrctl ||| (usedMask im &&& 0x1FF#32)) s
               let s := forRange 32 distributeSched s
               (.ends stOk [], distributeCal s))
    | _, _ => (.st stBadArg, s)

/-- CFG_LOAD_END (R305, R306): the session ends with the final reply. -/
def execCfgLoadEnd (id : Nat) (medium : Medium) (s : State) : Host.Outcome State Fault Refusal :=
  .next (if !mayWrite s && !endingOf id s then s else runCmd id 0x0203 (fun c s =>
    checked [(!onlyBits (mw c.words 1) 1, stBadArg)] s (
      match s.fw.load with
      | none => (.st stNotFound, s)
      | some l =>
        let r := loadEnd l (bit (mw c.words 1) 0) c.id medium s
        (r.1, { r.2 with fw := { r.2.fw with load := none } }))) s)

/-! ### Overrides (R309, R606) -/

/-- R309: a mode override of a zone or the device level (48); none cancels. -/
def setModeOvr (z : Nat) (o : Option (Nat × Nat)) (s : State) : State :=
  recomputeModes [z] { s with fw := { s.fw with modeOvr := tblSet none s.fw.modeOvr z o } }

/-- CFG_MODE (R309, R289, R606). -/
def execCfgMode (id : Nat) (s : State) : Host.Outcome State Fault Refusal :=
  .next (runCmd id 0x0204 (fun c s =>
    let r := mw c.words 1
    let m := mw c.words 2
    let e := (mw c.words 3).toNat
    let dev := bit m 31
    let mode := fld m 0 3
    let form := (!onlyBits m 0x80000007, stBadArg) :: (decide (mode = 5 ∨ mode = 6), stBadArg) :: (dev && decide (r ≠ 0), stBadArg)
      :: (if dev then [] else refFails 0x03 r)
    checked form s (
      if !dev && !ownerBase r s then (conflictOn r s, s)
      else checked [(!expiryOk e (timeNow s), stRange)] s
        (.st stOk, setModeOvr (if dev then 48 else refInst r) (if mode = 7 then none else some (mode, e)) s))) s)

/-- R295: a command trigger is set with an expiry, or released. -/
def setCmdTrig (k : Nat) (o : Option Nat) (s : State) : State :=
  refreshLayers { s with fw := { s.fw with cmdTrig := tblSet none s.fw.cmdTrig k o } }

/-- Overlay k is a condition overlay. -/
def isCond (k : Nat) (s : State) : Bool :=
  match overlayOf k s with | some o => (match o.kind with | .cond _ => true | _ => false) | none => false

/-- CFG_CONDITION (R309, R295, R296, R606). -/
def execCfgCondition (id : Nat) (s : State) : Host.Outcome State Fault Refusal :=
  .next (runCmd id 0x0205 (fun c s =>
    let r := mw c.words 1
    let k := refInst r
    let m := mw c.words 2
    let e := (mw c.words 3).toNat
    checked ((!onlyBits m 1, stBadArg) :: refFails 0x0E r ++ [((overlayOf k s).isNone, stNotFound), (!isCond k s, stRange),
        (!expiryOk e (timeNow s), stRange)]) s
      (.st stOk, setCmdTrig k (if bit m 0 then some e else none) s)) s)

/-- R606: a time word of expiry has been reached. -/
def expired (e : Nat) (s : State) : Bool :=
  decide (e ≠ 0) && match timeNow s with | some t => decide (e ≤ t) | none => false

/-- The keys of a table whose expiry has been reached. -/
def expiredKeys {α : Type} (exp : α → Nat) (t : Tbl (Option α)) (s : State) : List Nat :=
  t.filterMap (fun e => match e.2 with | some v => if expired (exp v) s then some e.1 else none | none => none)

/-- R606, R554: every override, trigger and force whose expiry has been reached ends. -/
def judgeExpiries (s : State) : State :=
  let s := forEach (expiredKeys (·.2) s.fw.modeOvr s) (fun z s => setModeOvr z none s) s
  let s := forEach (expiredKeys (·.2) s.fw.spOvr s) (fun z s =>
    refreshSp z { s with fw := { s.fw with spOvr := tblSet none s.fw.spOvr z none } }) s
  let s := forEach (expiredKeys id s.fw.cmdTrig s) (fun k s => setCmdTrig k none s) s
  let s := forEach (expiredKeys (·.2) s.fw.driveOvr s) (fun n s => refreshDemand (drvRef n) (endOverride (drvRef n) s)) s
  let s := forEach (expiredKeys (·.2) s.fw.fanOvr s) (fun f s => refreshDemand (fanRef f) (endOverride (fanRef f) s)) s
  let s := match s.fw.safeForce with
    | some e => if expired e s then refreshLayers { s with fw := { s.fw with safeForce := none } } else s
    | none => s
  match s.ther.pinForce with
  | some e => if expired e s then refreshLayers (endPinForce s) else s
  | none => s

/-- OVERRIDE_EXPIRY (R606, R554). -/
def execOverrideExpiry (s : State) : Host.Outcome State Fault Refusal := .next (if ready s then judgeExpiries s else s)

/-- R413: a change of the clock on an acting master: TIME is due at once. -/
def timeWanted (s : State) : State := if acting s then { s with gft := { s.gft with timeAt := s.now + 1 } } else s

/-- CLOCK_CHANGE (R607, R285, R466, R606). -/
def execClockChange (s : State) : Host.Outcome State Fault Refusal :=
  .next (if ready s && s.rtc.change then
    judgeExpiries (timeWanted (evalSchedules (recorderChange { s with rtc := { s.rtc with change := false } })))
    else s)

/-! ### CFG.QUERY (R310) -/

/-- R310: the active overlays: condition and safety overlays, and mode overlays in force somewhere. -/
def activeOverlays (s : State) : List Nat :=
  (List.range 16).filter (fun k => decide (k ∈ s.fw.active) || allZones.any (fun z => modeOverlayOf z s = some k))

/-- A word with the bits of a list set. -/
def bitsWord (l : List Nat) : Word := l.foldl (fun w i => if i < 32 then w ||| onehot i else w) 0

/-- R310: the reply for an overlay. -/
def queryOverlay (k : Nat) (o : Overlay) (s : State) : List Word :=
  let kind := match o.kind with | .mode m => (2, m) | .cond r => (3, r) | .safety => (4, 0)
  let flags := [decide (k ∈ activeOverlays s), decide (k ∈ s.fw.pendingOv), (trigSt k 0 s).on, (trigSt k 1 s).on,
    (tblGet none s.fw.cmdTrig k).isSome]
  let m2 := BitVec.ofNat 32 (kind.1 * 2 ^ 28 + kind.2 * 2 ^ 24 + flags.foldl (fun a b => 2 * a + b.toNat) 0 * 2 ^ 19)
  let mine := ((o.items.map (·.ref)).dedup.filter (fun r =>
    decide (ownerKind (ownerOf r s) = kind.1) && decide (fld (ownerOf r s) 24 4 = k))).map (fun r => resZone r s)
  [m2, bitsWord (mine.filter (fun z => decide (z < 32))), bitsWord ((mine.filter (fun z => decide (32 ≤ z ∧ z < 48))).map (fun z => z - 32))]

/-- R310: the time word of the next scheduled switch and the mode at it; without one, free values (log entry 6). -/
def nextSwitch (z : Nat) (s : State) : List Word × State :=
  let l := match timeNow s, modeSched z s with | some t, some k => firstChange k t s 49711 (t / 86400) | _, _ => none
  match l with
  | some (t, v) => ([BitVec.ofNat 32 t, BitVec.ofNat 32 (v % 8)], s)
  | none =>
    let a := s.draw
    let b := a.2.draw
    ([a.1, b.1], b.2)

/-- R310: the reply for a zone. -/
def queryZone (z : Nat) (s : State) : List Word × State :=
  let st := zoneSt z s
  let m := st.mode.getD (fallbackMode z s)
  let sc := match timeNow s with | some t => schedMode z t s | none => m
  let flags := [(tblGet none s.fw.modeOvr z).isSome, st.calUsed, st.precond, st.optstop, st.raise, st.lower, st.pred, st.linkLost]
  let m2 := BitVec.ofNat 32 (m * 2 ^ 29 + sc * 2 ^ 26 + flags.foldl (fun a b => 2 * a + b.toNat) 0 * 2 ^ 18) ||| bitsWord s.fw.active
  let n := nextSwitch z s
  ([m2, st.sp] ++ n.1, n.2)

/-- CFG_QUERY (R309, R310); the words of an image are free values when there is none (log entry 6). -/
def execCfgQuery (id : Nat) (s : State) : Host.Outcome State Fault Refusal :=
  .next (runCmd id 0x0206 (fun c s =>
    let r := mw c.words 1
    if r = 0 then
      let m4 := setBit (setBit (setBit (bitsWord (activeOverlays s)) 31 s.fw.copyB) 30 s.fw.image.isNone) 29 s.fw.load.isSome
      match s.fw.image with
      | some im => (.done stOk [im.ident, s.fw.imgCrc, m4, s.fw.actTime], s)
      | none =>
        let x := s.draw
        let y := x.2.draw
        let z := y.2.draw
        (.done stOk [x.1, y.1, m4, z.1], z.2)
    else if refType r = 0x03 then
      checked (refFails 0x03 r) s (let q := queryZone (refInst r) s; (.done stOk q.1, q.2))
    else
      checked (refFails 0x0E r) s (
        match overlayOf (refInst r) s with
        | some o => (.done stOk (queryOverlay (refInst r) o s), s)
        | none => (.st stNotFound, s))) s)

/-! ### Doorbells (R302) -/

/-- R302: the action of an HP_DBIN bit: zones for which CFG.MODE would give CONFLICT are skipped. -/
def doAction (a : DbAction) (s : State) : State :=
  let may := fun (z : Nat) (s : State) => decide (z = 48) || ownerBase (mkRef 0x03 z) s
  match a with
  | .setCond k => if isCond k s then setCmdTrig k (some 0) s else s
  | .releaseCond k => if isCond k s then setCmdTrig k none s else s
  | .modeSet zs m => forEach zs (fun z s => if may z s then setModeOvr z (some (m, 0)) s else s) s
  | .modeCancel zs => forEach zs (fun z s => if may z s then setModeOvr z none s else s) s

/-- DOORBELL_ACTION (R69, R302): a set HP_DBIN bit is acted on, or just cleared when unassigned. -/
def execDoorbellAction (bit : Fin 32) (s : State) : Host.Outcome State Fault Refusal :=
  .next (if ready s && s.b aHpDbin bit then
    (let s := s.setB aHpDbin bit false
     match s.fw.image.bind (fun im => im.dbin.find? (fun p => p.1 = bit.val)) with
     | some p => doAction p.2 s
     | none => s)
    else s)

end Sys2Proof.Machine
end

