-- ==== Sys2Proof/Machine/SafeCmds.lean ====
section
/-! DEFINITION. Sys2Proof/Machine/SafeCmds.lean: the safety inputs, SAFE_STOP_N and the SAFE commands (R548, R549, R553 to
R555): each also brings the safety overlay up to date (R296). -/

namespace Sys2Proof.Machine

open Sys2Proof

/-- R549, R296: SAFE_STOP_N follows its causes, and the safety overlay follows SAFE_STOP_N and SAFE.FORCE. -/
def followSafe (s : State) : State :=
  let s := judgeSafe s
  if ready s then refreshLayers s else s

/-- SAFETY_INPUT_FAULT (R528, R548, R549): the pin of input i has been at this voltage, beyond a limit, for 100 ms; the
comparator works from 1 ms after the power-on reset releases. -/
def execSafetyInputFault (i : Fin 2) (mv : Nat) (s : State) : Host.Outcome State Fault Refusal :=
  .next (if !comparatorOn s then s
    else
      let s := s.advTo (s.ther.porAt + msT 101)
      let k := if mv < 25 then 3 else if 2400 < mv then 2 else if mv < tripMv s.ther.safeSel then 1 else 0
      if k = 0 then s else followSafe (showPin i mv (s.setF aThermSafestat (stateBit i) 2 k)))

/-- SAFETY_FAULT_END (R548, R549): the pin of input i has been at this voltage for 100 ms, and its fault ends. -/
def execSafetyFaultEnd (i : Fin 2) (mv : Nat) (s : State) : Host.Outcome State Fault Refusal :=
  .next (if !comparatorOn s then s
    else
      let s := s.advTo (s.ther.porAt + msT 101)
      let st := s.f aThermSafestat (stateBit i) 2
      let inRange := decide (25 ≤ mv ∧ mv ≤ 2400)
      let s := showPin i mv s
      if st = 0 ∨ !inRange then s
      else if st = 1 then (if tripEndMv s.ther.safeSel < mv then followSafe (s.setF aThermSafestat (stateBit i) 2 0) else s)
      else if mv < tripMv s.ther.safeSel then followSafe (s.setF aThermSafestat (stateBit i) 2 1)
      else followSafe (s.setF aThermSafestat (stateBit i) 2 0))

/-- SAFE_STOP_HOLD_END (R549): 5 s after the last cause ended. -/
def execSafeStopHoldEnd (s : State) : Host.Outcome State Fault Refusal :=
  .next (match s.ther.assertEnd with
    | some t =>
      let s := s.advTo t
      if safeWanted s then s
      else followSafe { (s.setB aThermSafestat 31 false).setB aThermSafestat 29 false with ther := { s.ther with assertEnd := none } }
    | none => s)

/-- SAFECTL_WRITE (R549, R555). -/
def execSafectlWrite (sec : Bool) (v : Word) (s : State) : Host.Outcome State Fault Refusal :=
  .next (if s.pwr.held.isSome then s else followSafe (safectlWrite sec v s))

/-- SAFE_STATUS (R553). -/
def execSafeStatus (id : Nat) (s : State) : Host.Outcome State Fault Refusal :=
  .next (runCmd id 0x0F01 (fun _ s =>
    (.done stOk [asRead aThermSafestat s, s.reg aThermSafeval, s.reg (aThermDie 0), s.reg (aThermDie 1), s.reg (aThermDie 2),
      s.reg aThermCnt], s)) s)

/-- SAFE_FORCE (R553, R606). -/
def execSafeForce (id : Nat) (s : State) : Host.Outcome State Fault Refusal :=
  .next (runCmd id 0x0F02 (fun c s =>
    let m := mw c.words 1
    let e := (mw c.words 2).toNat
    checked [(!onlyBits m 3, stBadArg), (decide (m = 0), stBadArg), (!expiryOk e (timeNow s), stRange)] s (
      let s := if bit m 0 then { s with fw := { s.fw with safeForce := some e } } else s
      let s := if bit m 1 then judgeSafe ({ s with ther := { s.ther with pinForce := some e } }.setB aThermSafectl 31 true) else s
      (.st stOk, followSafe s))) s)

/-- SAFE_RELEASE (R553, R554): NOT_FOUND when nothing named is forced. -/
def execSafeRelease (id : Nat) (s : State) : Host.Outcome State Fault Refusal :=
  .next (runCmd id 0x0F03 (fun c s =>
    let m := mw c.words 1
    let pin := bit m 1 && s.b aThermSafectl 31
    let ov := bit m 0 && s.fw.safeForce.isSome
    checked [(!onlyBits m 3, stBadArg), (decide (m = 0), stBadArg), (!pin && !ov, stNotFound)] s (
      let s := if ov then { s with fw := { s.fw with safeForce := none } } else s
      (.st stOk, followSafe (if pin then endPinForce s else s)))) s)

end Sys2Proof.Machine
end

