-- ==== Sys2Proof/Machine/Expert.lean ====
section
/-! DEFINITION. Sys2Proof/Machine/Expert.lean: the EXPERT commands (R99 to R106): reads and writes of the expert block
space, claims. -/

namespace Sys2Proof.Machine

open Sys2Proof

/-- R36: the command status of a fabric status. -/
def fabStatus : Nat → Nat
  | 0 => stOk
  | 1 => stNotFound
  | 2 => stNoResource
  | 3 => stDenied
  | _ => stInternal

/-- R100: some address of a range lies outside the expert block space. -/
def rangeOutside (a k : Nat) : Bool := decide (a < 0x010000) || decide (0x10FFFF < a + 4 * k - 4)

/-- R31, R10: the fabric error of a request of the host expert window that failed at `a`: SRC is CRN, CLASS request; which
of the window's TAGs 48 to 63 (R173) is a free value (log entry 5). -/
def windowError (st a : Nat) (s : State) : State :=
  if st = 2 ∨ st = 4 then
    (let d := s.draw
     requestError st a (mkHdr (addrIsland a) 1 0 (48 + d.1.toNat % 16) 0 0 0) d.2)
  else s

/-- R36, R10: a command whose requests go over the Bark link is answered INTERNAL while that link fails, and the failure is
recorded. -/
def overBark (s : State) (k : State → Reply × State) : Reply × State :=
  if bridgeFails .bark s then (.st stInternal, windowError 4 (aDrvCtl 0) s) else k s

/-- EXPERT_READ (R99, R100). -/
def execExpertRead (id : Nat) (s : State) : Host.Outcome State Fault Refusal :=
  .next (runCmd id 0x0E01 (fun c s =>
    let m := mw c.words 1
    let k := fld m 24 4 + 1
    let a := fld m 0 24
    checked [(decide (fld m 28 4 ≠ 0), stBadArg), (decide (14 < k), stBadArg), (decide (a % 4 ≠ 0), stBadArg), (rangeOutside a k, stNotFound)] s (
      let r := readWords c.secure 2 a k s
      if r.1 = 0 then (.done stOk r.2.1, r.2.2)
      else (.done (fabStatus r.1) (BitVec.ofNat 32 r.2.1.length :: r.2.1), windowError r.1 (a + 4 * r.2.1.length) r.2.2))) s)

/-- R101, R133, R273: the resources that a write of `v` to address `a` needs claims on. -/
def writeRefs (a : Nat) (v : Word) (s : State) : List Word :=
  let own := match addrRef a s with | some r => [r] | none => []
  if aRootAincfg 0 ≤ a ∧ a < aRootAincfg 96 ∧ a % 4 = 0 then
    let n := (a - aRootAincfg 0) / 4
    own ++ (if fld v 4 4 = 10 then [mkRef 0x11 (fld v 8 5)] else [])
      ++ (if (fld v 4 4 = 4 ∨ ainMode n s = 4) ∧ n < 95 then [mkRef 0x14 (n + 1)] else [])
  else if aDrvCtl 0 ≤ a ∧ a < aDrvCtl 48 then
    let n := (a - aDrvCtl 0) / 64
    if a = aDrvCtl n then own ++ (if (fld v 0 4 = 2 ∨ drvMode n s = 2) ∧ n < 47 then [drvRef (n + 1)] else [])
    else if a = aDrvMan n then own ++ [mkRef 0x12 (s.f (aDrvCtl n) 16 6)]
    else own
  else if (List.range 8).any (fun k => decide (a = aCambTctl k)) ∧ bit v 31 then own ++ [mkRef 0x02 (fld v 0 7)]
  else own

/-- R101: the first resource that a write of words needs and the world does not claim. -/
def unclaimedIn (sec : Bool) (a : Nat) (ws : List Word) (s : State) : Option Word :=
  let need := (ws.zipIdx).flatMap (fun p => writeRefs (a + 4 * p.2) p.1 s)
  need.find? (fun r => match claimOf r s with | some c => decide (c.secure ≠ sec) | none => true)

/-- R105: the registers that `n` words from address `a` on have written are noted for the hand-back of their resources. -/
def noteWrites (a n : Nat) (s : State) : State :=
  let l := (List.range n).filterMap (fun k => (addrRef (a + 4 * k) s).map (fun r => (r, a + 4 * k)))
  { s with fw := { s.fw with wrote := (s.fw.wrote ++ l).dedup } }

/-- EXPERT_WRITE (R99 to R101, R115). -/
def execExpertWrite (id : Nat) (s : State) : Host.Outcome State Fault Refusal :=
  .next (runCmd id 0x0E02 (fun c s =>
    let m := mw c.words 1
    let a := fld m 0 24
    let ws := (c.words.drop 2).take (msgLen c.words - 1)
    checked [(decide (fld m 24 8 ≠ 0), stBadArg), (decide (a % 4 ≠ 0), stBadArg), (rangeOutside a ws.length, stNotFound)] s (
      match unclaimedIn c.secure a ws s with
      | some r => (conflictOn r s, s)
      | none =>
        let r := writeRequest c.secure 2 a ws (noteWrites a ws.length s)
        if r.1 = 0 then (.st stOk, if a ≤ aThermSafectl ∧ aThermSafectl < a + 4 * ws.length then refreshLayers r.2.2
          else if a < aCambCtl 96 ∧ aCambCtl 0 < a + 4 * ws.length then refreshDblk r.2.2 else r.2.2)
        else (.done (fabStatus r.1) [BitVec.ofNat 32 r.2.1], windowError r.1 (a + 4 * r.2.1) r.2.2))) s)

/-- The object references of EXPERT.CLAIM and EXPERT.RELEASE. -/
def claimRefs (c : Cmd) : List Word := (c.words.drop 1).take (msgLen c.words)

/-- R91 steps 7 and 8 over several references. -/
def refsFail (refs : List Word) : List (Bool × Nat) :=
  [(refs.any (fun r => decide (refCheck r = stBadArg)), stBadArg), (refs.any (fun r => decide (refCheck r ≠ 0)), stNotFound)]

/-- The resource is claimed by this world. -/
def claimedBy (sec : Bool) (r : Word) (s : State) : Bool :=
  match claimOf r s with | some c => decide (c.secure = sec) | none => false

/-- R102, R316, R344: a resource is claimed: its override ends and its channel issues no requests. -/
def grantClaim (r : Word) (sec : Bool) (tag : Nat) (s : State) : State :=
  if claimed r s then s
  else
    let s := endOverride r { s with fw := { s.fw with claims := s.fw.claims ++ [⟨r, sec, tag⟩] } }
    refreshDemand r (if refType r = 0x06 then cancel (refInst r) true s else s)

/-- EXPERT_CLAIM (R102, R110). -/
def execExpertClaim (id : Nat) (s : State) : Host.Outcome State Fault Refusal :=
  .next (runCmd id 0x0E03 (fun c s =>
    let refs := claimRefs c
    let fresh := (refs.filter (fun r => !claimedBy c.secure r s)).dedup
    checked (refsFail refs ++ [(decide (64 < s.fw.claims.length + fresh.length), stNoResource)]) s (
      match fresh.find? (fun r => !ownerFree r s) with
      | some r => (conflictOn r s, s)
      | none => (.st stOk, refreshDblk (forEach fresh (fun r s => grantClaim r c.secure (msgTag c.words) s) s)))) s)

/-- R105: a claim ends, and the resource passes to its layer. -/
def endClaim (r : Word) (s : State) : State := passBack r (claimEnds r s)

/-- EXPERT_RELEASE (R104, R105). -/
def execExpertRelease (id : Nat) (s : State) : Host.Outcome State Fault Refusal :=
  .next (runCmd id 0x0E04 (fun c s =>
    let refs := claimRefs c
    checked (refsFail refs ++ [(refs.any (fun r => !(if c.secure then claimed r s else claimedBy false r s)), stNotFound)]) s
      (.st stOk, forEach refs.dedup endClaim s)) s)

/-- EXPERT_CLAIMS (R104): two words per claim, up to 7 claims, in the order of their grant (DESIGN CHOICE, log entry 146). -/
def execExpertClaims (id : Nat) (s : State) : Host.Outcome State Fault Refusal :=
  .next (runCmd id 0x0E05 (fun c s =>
    let l := (s.fw.claims.drop (mw c.words 1).toNat).take 7
    (.done stOk (l.flatMap (fun x => [x.ref, ownerWord 6 x.secure.toNat 0 x.tag])), s)) s)

end Sys2Proof.Machine
end

