-- ==== Sys2Proof/Machine/HostPort.lean ====
section
/-! DEFINITION. Sys2Proof/Machine/HostPort.lean: the frames of the host port (R38 to R52), the rows of its registers and
mailbox channels (R56 to R71) and the host watchdog (R76 to R78). -/

namespace Sys2Proof.Machine

open Sys2Proof

/-! ### The host watchdog (R76 to R78) -/

/-- Every fan follows its demand again. -/
def applyFans (s : State) : State := forRange 16 applyFan s

/-- R77: firmware's part of entering host-loss state. -/
def enterHostLoss (s : State) : State :=
  ringBit 3 (applyFans (refreshLayers { s with hp := { s.hp with lossDue := false } }))

/-- R78: firmware's part of leaving host-loss state. -/
def leaveHostLoss (s : State) : State :=
  let s := s.setB aHpStat 29 false
  ringBit 4 (applyFans (refreshLayers { s with hp := { s.hp with backDue := false, lossDue := false } }))

/-- R76, R78: a frame without rejection has ended. -/
def goodFrame (s : State) : State :=
  let s := { s with hp := { s.hp with lastGood := s.now } }
  if !s.b aHpStat 29 then s
  else if ready s then leaveHostLoss s
  else { s with hp := { s.hp with backDue := true } }

/-- HOST_WATCHDOG_EXPIRY (R76, R77): INTERVAL seconds without a frame; the part enters host-loss state. -/
def execHostWatchdogExpiry (s : State) : Host.Outcome State Fault Refusal :=
  .next (
    let n := s.f aHpHostwd 0 16
    if s.pwr.held.isSome ∨ n = 0 ∨ s.b aHpStat 29 = true then s
    else
      let s := s.advTo (s.hp.lastGood + secT n)
      let s := (s.setB aHpStat 29 true).setB aHpIrq 2 true
      let s := { s with hp := { s.hp with lossDue := true } }
      if ready s then enterHostLoss s else s)

/-! ### Frames -/

/-- R44: some channel that a world sees has TMO set. -/
def tmoSeen (sec : Bool) (s : State) : Bool :=
  (List.range 16).any (fun ch => (sec || !secureCh ch) && (s.b (aHpInStat ch) 2 || s.b (aHpOutStat ch) 2))

/-- R44: HSTAT as a chip select shows it. -/
def hstat (sec : Bool) (s : State) : Byte :=
  let low := if sec then s.hp.hstatS else s.hp.hstatN
  BitVec.ofNat 8 (128 * (ready s).toNat + 64 * (hirqLow s).toNat + 32 * (epochPending sec s).toNat
    + 16 * (tmoSeen sec s).toNat + low.toNat % 16)

/-- R45: the low four bits of HSTAT for the next frame of a chip select. -/
def putHstat (sec : Bool) (v : Byte) (s : State) : State :=
  if sec then { s with hp := { s.hp with hstatS := v } } else { s with hp := { s.hp with hstatN := v } }

/-- R51, R54: HP_ERRLOG and HP_IRQ.ERR record a frame. -/
def logFrame (reason : Nat) (sec : Bool) (opc addr : Nat) (s : State) : State :=
  (s.setReg aHpErrlog (BitVec.ofNat 32 (((reason * 16 + 8 * sec.toNat) * 256 + opc % 256) * 65536 + addr % 65536)))
    |>.setB aHpIrq 1 true

/-- R51: the HSTAT bits of a rejection: ERR and the bit of its reason. -/
def rejectBits : Nat → Byte
  | 1 => 0x03
  | 2 => 0x05
  | 3 => 0x09
  | _ => 0x01

/-- A frame as received: opcode, CRC wanted, COUNT + 1. -/
def frOpc (m : List Byte) : Nat := (m.headD 0).toNat
/-- TYPE; none for a frame that ended before its opcode was complete. -/
def frType (m : List Byte) : Option Nat := m.head?.map (fun b => b.toNat / 64)
/-- The CRC bit. -/
def frCrc (m : List Byte) : Bool := (m.headD 0).getLsbD 5
/-- COUNT + 1. -/
def frWords (m : List Byte) : Nat := frOpc m % 32 + 1
/-- R41: the bytes that a frame of its type has. -/
def frTotal (m : List Byte) : Nat :=
  (match frType m with | some 0 => 1 | some 1 => 4 | _ => 3) + 4 * frWords m + (frCrc m).toNat
/-- The start address as received; 0 in a status frame or a frame that ended before it. -/
def frAddr (m : List Byte) : Nat :=
  if frType m = some 1 ∨ frType m = some 2 then (if 3 ≤ m.length then beNat ((m.drop 1).take 2) else 0) else 0
/-- The data words of a write frame. -/
def frData (m : List Byte) : List Word := (wordsOfBytes (m.drop 3)).take (frWords m)
/-- The words of a write frame with their addresses. -/
def frPairs (m : List Byte) : List (Nat × Word) := (frData m).zipIdx.map (fun p => (frAddr m + 4 * p.2, p.1))

/-- R64: a word that a full inbound channel refuses. -/
def hitsFull (s : State) (p : Nat × Word) : Bool :=
  match hpWhere p.1 with
  | .inM ch _ => inFull ch s
  | .inSeq ch => inFull ch s
  | .inCtl ch => bit p.2 0 && inFull ch s
  | _ => false

/-- R71: a word that would change an epoch whose change is pending. -/
def hitsEpoch (sec : Bool) (s : State) (p : Nat × Word) : Bool :=
  decide (0x20000 + p.1 = aHpEpoch) &&
  ((epochPending false s && decide (epochOf false s ≠ fld p.2 0 16)) ||
   (sec && epochPending true s && decide (epochOf true s ≠ fld p.2 16 16)))

/-- R51, R56, R76: a word with a value out of range. -/
def hitsValue (sec : Bool) (p : Nat × Word) : Bool :=
  match hpWhere p.1 with
  | .inCtl _ => bit p.2 0 && bit p.2 1
  | .outCtl _ => bit p.2 0 && bit p.2 1
  | _ => sec && decide (0x20000 + p.1 = aHpHostwd) && decide (600 < fld p.2 0 16)

/-- The reason and address of the first word that satisfies `p`. -/
def wordReason (reason : Nat) (p : Nat × Word → Bool) (l : List (Nat × Word)) : Option (Nat × Nat) :=
  (l.find? p).map (fun x => (reason, x.1))

/-- R50, R51: why a frame whose chip select falls at time `fall` is rejected, in the order of the Judged column, with
the address recorded; none: not rejected. -/
def frameReason (sec : Bool) (fall : Nat) (m : List Byte) (part : Bool) (s : State) : Option (Nat × Nat) :=
  let ty := frType m
  let rw := ty = some 1 ∨ ty = some 2
  if (match s.hp.writeRise with | some t => decide (fall < t + 8) | none => false) then some (7, frAddr m)
  else if ty = some 3 ∨ (ty = some 0 ∧ 3 < frWords m) then some (6, frAddr m)
  else if part = true ∨ m.length ≠ frTotal m then some (5, frAddr m)
  else if rw ∧ (frAddr m % 4 ≠ 0 ∨ 0x2000 < frAddr m + 4 * frWords m) then some (4, frAddr m)
  else if ty ≠ some 2 then none
  else if frCrc m ∧ crc8Host m.dropLast ≠ m.getLastD 0 then some (1, frAddr m)
  else
    let l := frPairs m
    (if sec then none else wordReason 2 (fun p => secureAddr p.1) l)
      |>.or (wordReason 3 (hitsFull s) l)
      |>.or (wordReason 7 (hitsEpoch sec s) l)
      |>.or (wordReason 8 (hitsValue sec) l)

/-- R41, R52, R609: a read frame: a secure word reads 0 through HCS_N; a reply word whose parity fails sets BUSERR. -/
def readFrameWords (sec : Bool) (m : List Byte) (s : State) : List Word × State :=
  let as := (List.range (frWords m)).map (fun i => frAddr m + 4 * i)
  let ws := as.map (fun a => if !sec && secureAddr a then 0 else hpRead sec (0x20000 + a) s)
  let bad := fun (a : Nat) (s : State) =>
    if tblGet false s.hp.badPar a && (sec || !secureAddr a) then
      (match hpWhere a with
       | .outM ch _ => s.setB (aHpOutStat ch) 4 true
       | .outSeq ch => s.setB (aHpOutStat ch) 4 true
       | _ => s)
    else s
  (ws, forEach as bad s)

/-- R41, R49: the bytes a read frame shifts out after HSTAT. -/
def readMiso (m : List Byte) (ws : List Word) : List Byte :=
  let d := bytesOfWords ws
  ([0, 0, 0] ++ d ++ (if frCrc m then [crc8Host (m.take 4 ++ d)] else []) ++ List.replicate m.length 0).take (m.length - 1)

/-- R41: the bytes a status frame shifts out after HSTAT. -/
def statusMiso (sec : Bool) (m : List Byte) (s : State) : List Byte :=
  let d := bytesOfWords (([aHpIrq, aHpChirq, aHpDbout].take (frWords m)).map (fun a => hpRead sec a s))
  d ++ (if frCrc m then [crc8Host (m.take 1 ++ d)] else [])

/-- Bytes the spec does not give: as many free bytes as asked (log entry 5). -/
def freeBytes : Nat → State → List Byte × State
  | 0, s => ([], s)
  | n + 1, s => (let r := s.draw; let q := freeBytes n r.2; (BitVec.setWidth 8 r.1 :: q.1, q.2))

/-- R48: an accepted write frame is applied. -/
def applyWrite (sec : Bool) (m : List Byte) (s : State) : State :=
  let l := frPairs m
  forEach l (fun p s => hpCtlWord p.1 p.2 s) (forEach l (fun p s => hpWriteWord sec p.1 p.2 s) s)

/-- R49, R51: a rejected frame: what it shifts out, and its record. -/
def rejectFrame (sec : Bool) (m : List Byte) (h : Byte) (reason addr : Nat) (s : State) : State :=
  let r : List Byte × State :=
    if frType m = some 1 then (readMiso m (List.replicate (frWords m) 0), s)
    else if frType m = some 2 then (List.replicate (m.length - 1) 0, s)
    else freeBytes (m.length - 1) s
  let s := r.2
  let s := { s with hp := { s.hp with hmiso := if m = [] then [] else h :: r.1 } }
  putHstat sec (rejectBits reason) (logFrame reason sec (frOpc m) addr s)

/-- A frame through one chip select: it falls `gap` ticks from now and lasts 3.2 ticks a byte (50 MHz, log entry 1). -/
def frame (sec : Bool) (gap : Nat) (m : List Byte) (part : Bool) (s : State) : State :=
  if s.pwr.held.isSome then s
  else
    let fall := s.now + gap
    let s := s.advTo fall
    let h := hstat sec s
    let why := frameReason sec fall m part s
    let s := s.advTo (fall + 16 * m.length / 5)
    let s := if frType m = some 2 then { s with hp := { s.hp with writeRise := some s.now } } else s
    match why with
    | some (reason, addr) => rejectFrame sec m h reason addr s
    | none =>
      if frType m = some 2 then
        let s := { s with hp := { s.hp with hmiso := h :: List.replicate (m.length - 1) 0 } }
        goodFrame (applyWrite sec m (putHstat sec 0 s))
      else if frType m = some 1 then
        let r := readFrameWords sec m s
        let s := r.2
        let s := { s with hp := { s.hp with hmiso := h :: readMiso m r.1 } }
        let viol := if sec then none else ((List.range (frWords m)).map (fun i => frAddr m + 4 * i)).find? secureAddr
        match viol with
        | some a => goodFrame (putHstat sec 0x05 (logFrame 2 sec (frOpc m) a s))
        | none => goodFrame (putHstat sec 0 s)
      else
        goodFrame (putHstat sec 0 { s with hp := { s.hp with hmiso := h :: statusMiso sec m s } })

/-- STATUS_FRAME (R41): a frame of type status, or one whose type is reserved or missing. -/
def execStatusFrame (sec : Bool) (gap : Nat) (mosi : List Byte) (part : Bool) (s : State) : Host.Outcome State Fault Refusal :=
  .next (if frType mosi = some 1 ∨ frType mosi = some 2 then s else frame sec gap mosi part s)

/-- READ_FRAME (R41, R52, R609): `fin.upsets` are mailbox words whose parity fails by now (log entry 170). -/
def execReadFrame (sec : Bool) (gap : Nat) (mosi : List Byte) (fin : ReadTail) (s : State) :
    Host.Outcome State Fault Refusal :=
  .next (if frType mosi = some 0 ∨ frType mosi = some 2 then s else frame sec gap mosi fin.part (upsetWords fin.upsets s))

/-- WRITE_FRAME (R48, R51, R6): `fin.hw` names the flags that hardware sets in the cycle in which the frame takes effect, by
host-port address; `fin.upsets` the mailbox words that have lost their parity by its end. -/
def execWriteFrame (sec : Bool) (gap : Nat) (mosi : List Byte) (fin : WriteTail) (s : State) :
    Host.Outcome State Fault Refusal :=
  .next (if frType mosi = some 0 ∨ frType mosi = some 1 then s
    else upsetWords fin.upsets (forEach fin.hw (fun e s => hwFlags (0x20000 + e.1) e.2 s) (frame sec gap mosi fin.part s)))

/-- BOTHCS (R39): the frame is ignored and recorded for the secure world; HMISO stays high-impedance. -/
def execBothcs (s : State) : Host.Outcome State Fault Refusal :=
  .next (if s.pwr.held.isSome then s else logFrame 9 true 0 0 { s with hp := { s.hp with hmiso := [] } })

/-! ### Rows of the channels and registers -/

/-- GO (R56): refused on a full channel (R64). -/
def execGo (ch : Fin 16) (s : State) : Host.Outcome State Fault Refusal :=
  .next (if s.pwr.held.isSome ∨ inFull ch s = true then s else goSend ch s)

/-- ABORT (R61). -/
def execAbort (ch : Fin 16) (s : State) : Host.Outcome State Fault Refusal :=
  .next (if s.pwr.held.isSome then s else abortSend ch s)

/-- REPLY_RELEASE (R67). -/
def execReplyRelease (ch : Fin 16) (s : State) : Host.Outcome State Fault Refusal :=
  .next (if s.pwr.held.isSome then s else releaseReply ch s)

/-- NEPOCH_WRITE (R71): through either chip select. -/
def execNepochWrite (_secure : Bool) (v : Half) (s : State) : Host.Outcome State Fault Refusal :=
  .next (if s.pwr.held.isSome then s else epochWrite false v.toNat s)

/-- SEPOCH_WRITE (R71). -/
def execSepochWrite (v : Half) (s : State) : Host.Outcome State Fault Refusal :=
  .next (if s.pwr.held.isSome then s else epochWrite true v.toNat s)

/-- HOSTWD_WRITE (R76, R52). -/
def execHostwdWrite (secure : Bool) (v : Word) (s : State) : Host.Outcome State Fault Refusal :=
  .next (if s.pwr.held.isSome then s else hostwdWrite secure v s)

/-- DBIN_WRITE (R69, R70). -/
def execDbinWrite (secure : Bool) (v : Word) (s : State) : Host.Outcome State Fault Refusal :=
  .next (if s.pwr.held.isSome then s else dbinWrite secure v s)

/-- INBOUND_TIMEOUT (R60): the timeout is the TMO value when GO was set; 0 waits for ever (R63). -/
def execInboundTimeout (ch : Fin 16) (s : State) : Host.Outcome State Fault Refusal :=
  .next (
    let t := tblGet 0 s.hp.goTmo ch
    if s.pwr.held.isNone ∧ inFull ch s = true ∧ t ≠ 0 then withdraw ch true (s.advTo (tblGet 0 s.hp.goAt ch + msT t)) else s)

/-- REPLY_TIMEOUT (R67). -/
def execReplyTimeout (ch : Fin 16) (s : State) : Host.Outcome State Fault Refusal :=
  .next (
    let t := tblGet 0 s.hp.postTmo ch
    if s.pwr.held.isNone ∧ outFull ch s = true ∧ t ≠ 0 then
      let s := s.advTo (tblGet 0 s.hp.postAt ch + msT t)
      let a := aHpOutStat ch
      ringBit 5 (putStat a false (s.b a 1) true true (s.b a 4) s)
    else s)

end Sys2Proof.Machine
end

