-- ==== Sys2Proof/Machine/Points.lean ====
section
/-! DEFINITION. Sys2Proof/Machine/Points.lean: the POINT commands (R176, R177). -/

namespace Sys2Proof.Machine

open Sys2Proof

/-- A command whose rows divide by an OP field: this row runs it when OP is its own; an OP that is no row's is answered
BAD_ARG by whichever row comes. -/
def runOp (id code : Nat) (op : Cmd → Nat) (mine : Nat) (valid : List Nat) (body : Cmd → State → Reply × State) (s : State) : State :=
  match cmdById id s with
  | none => s
  | some c =>
    if op c = mine then runCmd id code body s
    else if op c ∈ valid then s
    else runCmd id code (fun _ s => (.st stBadArg, s)) s

/-- Payload words i to LEN of a command, M1 the first. -/
def argWords (c : Cmd) (i : Nat) : List Word := (c.words.drop i).take (msgLen c.words + 1 - i)

/-- R91 rows 7 and 8 over references that must be of type t. -/
def refsOfType (t : Nat) (refs : List Word) : List (Bool × Nat) :=
  [(refs.any (fun r => decide (needRef t r = .error stBadArg)), stBadArg),
   (refs.any (fun r => match needRef t r with | .ok _ => false | .error _ => true), stNotFound)]

/-- POINT_READ (R176): two words per point. -/
def execPointRead (id : Nat) (s : State) : Host.Outcome State Fault Refusal :=
  .next (runCmd id 0x0301 (fun c s =>
    let refs := argWords c 1
    checked (refsOfType 1 refs ++ [(!domOn .rta s, stNoResource)]) s (
      let ws := refs.flatMap (fun r => [s.reg (aRqLvtlo (refInst r)), s.reg (aRqLvthi (refInst r))])
      let aged := refs.any (fun r => bit (s.reg (aRqLvthi (refInst r))) 0)
      (.done (if aged then stStale else stOk) ws, s))) s)

/-- POINT_WRITE (R176, R166). -/
def execPointWrite (id : Nat) (s : State) : Host.Outcome State Fault Refusal :=
  .next (runCmd id 0x0302 (fun c s =>
    let r := mw c.words 1
    let v := mw c.words 2
    let n := refInst r
    checked ([(!f32Ok v, stBadArg)] ++ refFails 1 r ++ [(!domOn .rta s, stNoResource)]) s (
      if s.f (aRqPcfg n) 29 3 ≠ 4 then (conflictOn r s, s)
      else checked [(f32Lt v (s.reg (aRqLo n)) || f32Lt (s.reg (aRqHi n)) v, stRange)] s
        (.st stOk, publishVirtual n v s))) s)

/-- OP of POINT.STREAM. -/
def streamOp (c : Cmd) : Nat := fld (mw c.words 1) 24 8

/-- R163: up to k entries leave partition p, oldest first. -/
def popMany (p : Nat) : Nat → State → List PartEntry × State
  | 0, s => ([], s)
  | k + 1, s => match popPart p s with
    | none => ([], s)
    | some (e, t) => (e :: (popMany p k t).1, (popMany p k t).2)

/-- POINT_STREAM_DRAIN (R176, R177). -/
def execPointStreamDrain (id : Nat) (s : State) : Host.Outcome State Fault Refusal :=
  .next (runOp id 0x0303 streamOp 0 [1, 2] (fun c s =>
    let k := fld (mw c.words 1) 0 3
    checked [(decide (fld (mw c.words 1) 3 21 ≠ 0), stBadArg),
      (decide (k = 0) || decide (4 < k), stBadArg), (!domOn .rta s, stNoResource)] s (
      let r := popMany 2 k s
      let s := r.2
      let head := halves (partOf 2 s).length s.fw.streamLost
      let s := { s with fw := { s.fw with streamLost := 0 } }
      (.done stOk (head :: r.1.flatMap (fun e => [mkRef 1 e.point, e.val, e.hi])), s))) s)

/-- R176, R177: CHOST of the points named is set or cleared. -/
def streamChange (on : Bool) (c : Cmd) (s : State) : Reply × State :=
  let refs := argWords c 2
  checked ([(decide (fld (mw c.words 1) 0 24 ≠ 0), stBadArg)] ++ refsOfType 1 refs
      ++ [(!domOn .rta s, stNoResource)]) s
    (.st stOk, forEach refs (fun r s => s.setB (aRqPcfg (refInst r)) 19 on) s)

/-- POINT_STREAM_ADD (R176, R177). -/
def execPointStreamAdd (id : Nat) (s : State) : Host.Outcome State Fault Refusal :=
  .next (runOp id 0x0303 streamOp 1 [0, 2] (streamChange true) s)

/-- POINT_STREAM_REMOVE (R176, R177). -/
def execPointStreamRemove (id : Nat) (s : State) : Host.Outcome State Fault Refusal :=
  .next (runOp id 0x0303 streamOp 2 [0, 1] (streamChange false) s)

/-- R176: the entries enabled that feed point n, lowest first. -/
def entriesOf (n : Nat) (s : State) : List Nat :=
  (List.range 192).filter (fun k => s.b (aRootSeqlo k) 31 && decide (s.f (aRootSeqlo k) 22 8 = n))

/-- R176: the source word of POINT.INFO; of an input stage, the fields of its
reports (R137). -/
def sourceWord (n : Nat) (s : State) : Word :=
  let src := s.f (aRqPcfg n) 29 3
  let w := fun conv inp e1 e2 : Nat => BitVec.ofNat 32 (((((src * 8 + conv) * 128 + inp) * 32 + e1) * 32 + e2) * 512)
  if src = 0 then
    match entriesOf n s with
    | k :: t => w (k / 32) (s.f (aRootSeqlo k) 15 7) (k % 32) (t.headD 0 % 32)
    | [] => w 0 0 0 0
  else if src = 1 then
    match (List.range 96).find? (fun a => decide (s.f (aRootAincfg a) 22 8 = n) && decide (ainMode a s = 9 ∨ ainMode a s = 10 ∨ ainMode a s = 11)) with
    | some a => w (if ainMode a s = 11 then 7 else 6) a (if ainMode a s = 10 then 1 else 0) 0
    | none => w 0 0 0 0
  else w 0 0 0 0

/-- POINT_INFO (R176). -/
def execPointInfo (id : Nat) (s : State) : Host.Outcome State Fault Refusal :=
  .next (runCmd id 0x0304 (fun c s =>
    let r := mw c.words 1
    let n := refInst r
    checked (refFails 1 r ++ [(!domOn .rta s, stNoResource)]) s
      (.done stOk [s.reg (aRqPcfg n), s.reg (aRqLo n), s.reg (aRqHi n), s.reg (aRqPlim n), sourceWord n s], s)) s)

end Sys2Proof.Machine
end

