-- ==== Sys2Proof/Machine/Loops.lean ====
section
/-! DEFINITION. Sys2Proof/Machine/Loops.lean: the LOOP commands (R242 to R245) and what firmware adds to a relay auto-tune
run (R249, R255 to R257). -/

namespace Sys2Proof.Machine

open Sys2Proof

/-- The reference of slot n. -/
def slotRef (n : Nat) : Word := mkRef 0x02 n

/-- LOOP_READ (R242): the values of the last evaluation. -/
def execLoopRead (id : Nat) (s : State) : Host.Outcome State Fault Refusal :=
  .next (runCmd id 0x0401 (fun c s =>
    let r := mw c.words 1
    let n := refInst r
    checked (refFails 2 r ++ [(!domOn .cmb s, stNoResource)]) s
      (.done stOk ([aCambStat n, aCambPv n, aCambSp n, aCambOut n, aCambInt n, aCambErr n].map s.reg), s)) s)

/-- R243: the registers of the mask bits, in their order. -/
def setRegs (n : Nat) : List Nat :=
  [aCambKp n, aCambTi n, aCambTd n, aCambTf n, aCambDb n, aCambOutmin n, aCambOutmax n, aCambRate n, aCambKff n, aCambSpk n,
   aCambManval n, aCambSafeout n, aCambDstep n]

/-- R243: the registers that a mask names, with their values. -/
def setPairs (n : Nat) (mask : Word) (vs : List Word) : List (Nat × Word) :=
  (((List.range 13).filter (fun i => bit mask i)).map (fun i => nth (setRegs n) i 0)).zip vs

/-- R243: the staged parameters of slot n, as `t` holds them, break a limit. -/
def setBreaks (n : Nat) (t : State) : Bool :=
  let neg := fun (a : Nat) => f32Lt (t.reg a) 0
  let outside := fun (a : Nat) => f32Lt (t.reg a) (t.reg (aCambOutmin n)) || f32Lt (t.reg (aCambOutmax n)) (t.reg a)
  !f32Lt 0 (t.reg (aCambKp n))
  || [aCambTi n, aCambTd n, aCambTf n, aCambDb n, aCambRate n, aCambDstep n].any neg
  || !f32Lt (t.reg (aCambOutmin n)) (t.reg (aCambOutmax n))
  || outside (aCambManval n) || outside (aCambSafeout n) || sendsOutside n t

/-- R218: several values are staged in one operation. -/
def stageAll (n : Nat) (l : List (Nat × Word)) (s : State) : State := forEach l (fun p s => stage n p.1 p.2 s) s

/-- LOOP_SET (R243, R245). -/
def execLoopSet (id : Nat) (s : State) : Host.Outcome State Fault Refusal :=
  .next (runCmd id 0x0402 (fun c s =>
    let r := mw c.words 1
    let n := refInst r
    let m := mw c.words 2
    let vs := argWords c 3
    let l := setPairs n m vs
    checked ([(decide (fld m 13 19 ≠ 0) || decide (m = 0), stBadArg), (!vs.all f32Ok, stBadArg)] ++ refFails 2 r ++ [(!domOn .cmb s, stNoResource)]) s (
      if !ownerBase r s then (conflictOn r s, s)
      else checked [(setBreaks n (forEach l (fun p s => s.setReg p.1 p.2) s), stRange)] s (.st stOk, stageAll n l s))) s)

/-- LOOP_MODE (R244, R245). -/
def execLoopMode (id : Nat) (s : State) : Host.Outcome State Fault Refusal :=
  .next (runCmd id 0x0403 (fun c s =>
    let r := mw c.words 1
    let n := refInst r
    let m := mw c.words 2
    checked ([(!onlyBits m 0x103, stBadArg)] ++ refFails 2 r ++ [(!domOn .cmb s, stNoResource)]) s (
      if !ownerBase r s then (conflictOn r s, s)
      else
        let keep := if bit m 8 ∧ fld m 0 2 = 2 then [(aCambManval n, s.reg (aCambOut n))] else []
        (.st stOk, stageAll n ((aCambCtl n, setFld (s.reg (aCambCtl n)) 27 3 (fld m 0 2)) :: keep) s))) s)

/-! ### Relay auto-tune (R255 to R257) -/

/-- R249: the slot and its enabled destinations, each once. -/
def tuneRefs (n : Nat) (s : State) : List Word :=
  (slotRef n :: ((List.range 4).map (fun k => inF (aCambDst n k) s)).filterMap (fun d => if bit d 31 then some (dstRef d) else none)).dedup

/-- A tuner that no run holds. -/
def freeTuner (s : State) : Option Nat :=
  (List.range 8).find? (fun k => !s.b (aCambTctl k) 31 && !tunerBusy k s
    && s.camb.runs.all (fun r => decide (r.tuner ≠ k)))

/-- R255: TMAX of a payload word in s. -/
def tmaxOf (w : Word) : Nat := if w = 0 then 86400 else w.toNat

/-- R108: a service takes resources: overrides end and blocked destinations follow the owners. -/
def grantService (refs : List Word) (svc tag id : Nat) (s : State) : State :=
  let s := forEach refs (fun r s => endOverride r { s with fw := { s.fw with services := s.fw.services ++ [⟨r, svc, tag, some id⟩] } }) s
  refreshDblk (forEach refs refreshDemand s)

/-- R250, R255: a run is armed on tuner k and slot n. -/
def startTune (k n : Nat) (c : Cmd) (s : State) : State :=
  let refs := tuneRefs n s
  let held := refs.map (fun r => (r, namingLayers r s))
  let s := ((s.setReg (aCambTud k) (mw c.words 3)).setReg (aCambTeps k) (mw c.words 4)).setReg (aCambTband k) (mw c.words 5)
  let s := s.setReg (aCambTmax k) (BitVec.ofNat 32 (tmaxOf (mw c.words 6)))
  let s := armTuner k n s
  let s := { s with camb := { s.camb with runs := s.camb.runs ++ [⟨k, n, c.id, fld (mw c.words 2) 0 2, bit (mw c.words 2) 2, none, held⟩] } }
  grantService refs 1 (msgTag c.words) c.id s

/-- LOOP_TUNE (R249, R255); RANGE also for a slot that a tuner armed by a register write holds (R274, log entry 163). -/
def execLoopTune (id : Nat) (s : State) : Host.Outcome State Fault Refusal :=
  .next (runCmd id 0x0404 (fun c s =>
    let r := mw c.words 1
    let n := refInst r
    let d := mw c.words 3
    let eps := mw c.words 4
    let band := mw c.words 5
    let tm := tmaxOf (mw c.words 6)
    checked ([(!onlyBits (mw c.words 2) 7, stBadArg), (!([d, eps, band].all f32Ok), stBadArg),
        (decide (tm < 60) || decide (86400 < tm), stBadArg)] ++ refFails 2 r
        ++ [(!domOn .cmb s, stNoResource)]) s (
      match freeTuner s with
      | none => (.st stNoResource, s)
      | some k =>
        match (tuneRefs n s).find? (fun r => !ownerFree r s) with
        | some r => (conflictOn r s, s)
        | none => checked [(!tuneOk n d eps band s || (tunerOf n s).isSome, stRange)] s (.running, startTune k n c s))) s)

/-- R256: KP, TI, TD and TF of a rule set from Ku and Tu. -/
def tuneSettings (rule : Nat) (ku tu : F32) : List F32 :=
  let k := f32Rat ku
  let t := f32Rat tu
  let row : Rat × Rat × Rat :=
    match rule with
    | 0 => (mkRat 45 100, mkRat 10 12, 0)
    | 1 => (mkRat 60 100, mkRat 1 2, mkRat 1 8)
    | 2 => (mkRat 25 100, mkRat 8 10, 0)
    | _ => (mkRat 30 100, mkRat 6 10, mkRat 1 10)
  [row.1 * k, row.2.1 * t, row.2.2 * t, row.2.2 * t / 10].map f32OfRat

/-- R257: the resources of a run are free again; those whose overlays changed since its start pass to their layer. -/
def returnTune (r : TuneRun) (s : State) : State :=
  let s := { s with fw := { s.fw with services := s.fw.services.filter (fun v => !(decide (v.svc = 1) && decide (v.cmd = some r.cmd))) } }
  let s := forEach r.held (fun p s => if namingLayers p.1 s = p.2 then s else passBack p.1 s) s
  refreshDblk (forEach (r.held.map (·.1)) refreshDemand s)

/-- R255, R257: a run that has ended is reported. -/
def finishTune (r : TuneRun) (s : State) : State :=
  let k := r.tuner
  let st := s.reg (aCambTstat k)
  let reason := r.reason.getD (fld st 25 4)
  let ok := decide (reason = 0)
  let set := tuneSettings r.rule (s.reg (aCambTku k)) (s.reg (aCambTtu k))
  let head := BitVec.ofNat 32 (reason + 16 * fld st 20 5)
  let mid := if ok then [s.reg (aCambTku k), s.reg (aCambTtu k), s.reg (aCambTa k)] ++ set else List.replicate 7 0
  let u0 := s.reg (aCambTbias k)
  let s := { s with camb := { s.camb with runs := s.camb.runs.filter (fun x => x.cmd ≠ r.cmd) } }
  let s := returnTune r s
  let s := if ok && r.apply then
      stageAll r.slot ([aCambKp r.slot, aCambTi r.slot, aCambTd r.slot, aCambTf r.slot].zip set) s
    else s
  finishCmd r.cmd (if ok then stOk else stAborted) (head :: mid ++ [u0]) s

/-- TUNE_RUN_END (R257): the run of tuner k has ended at its slot's evaluation; firmware hands the slot back. -/
def execTuneRunEnd (k : Fin 8) (s : State) : Host.Outcome State Fault Refusal :=
  .next (match s.camb.runs.find? (fun r => r.tuner = k.val) with
    | some r =>
      if ready s ∧ ¬ tunerBusy k s then finishTune r s else s
    | none => s)

end Sys2Proof.Machine
end

