-- ==== Sys2Proof/Machine/DriveCmds.lean ====
section
/-! DEFINITION. Sys2Proof/Machine/DriveCmds.lean: the DRIVE commands (R343 to R345, R369) and the FAN commands (R346). -/

namespace Sys2Proof.Machine

open Sys2Proof

/-- DRIVE_READ (R343): the measured current reads 0 while BRK is off. -/
def execDriveRead (id : Nat) (s : State) : Host.Outcome State Fault Refusal :=
  .next (runCmd id 0x0701 (fun c s =>
    let r := mw c.words 1
    let n := refInst r
    checked (refFails 6 r) s (overBark s (fun s =>
      let ma := if domOn .brk s then f32OfInt (signed 16 (s.f (aDrvMeas n) 16 16)) else 0
      (.done stOk [s.reg (aDrvDiag n), s.reg (aDrvDem (pairOf n s)), s.reg (aDrvPos n), ma, s.reg (aDrvCnt n)], s)))) s)

/-- R343: the checks of a DRIVE.COMMAND or FAN.COMMAND payload word M2 and its demand. -/
def commandFails (t : Nat) (c : Cmd) : List (Bool × Nat) :=
  [(!onlyBits (mw c.words 2) 1, stBadArg), (!f32Ok (mw c.words 3), stBadArg)] ++ refFails t (mw c.words 1)

/-- R343, R606: a demand outside 0 to 100, or its expiry, is out of range. -/
def commandRange (c : Cmd) (s : State) : Bool :=
  f32Lt (mw c.words 3) 0 || f32Lt 0x42C80000 (mw c.words 3) || !expiryOk (mw c.words 4).toNat (timeNow s)

/-- DRIVE_COMMAND (R343, R344). -/
def execDriveCommand (id : Nat) (s : State) : Host.Outcome State Fault Refusal :=
  .next (runCmd id 0x0702 (fun c s =>
    checked (commandFails 6 c) s (
      let n := pairOf (refInst (mw c.words 1)) s
      let r := drvRef n
      if !ownerBase r s then (conflictOn r s, s)
      else if bit (mw c.words 2) 0 then (.st stOk, refreshDblk (refreshDemand r (endOverride r s)))
      else checked [(commandRange c s || decide (drvMode n s = 0 ∨ drvMode n s = 5), stRange)] s (
        let s := { s with fw := { s.fw with driveOvr := tblSet none s.fw.driveOvr n (some (mw c.words 3, (mw c.words 4).toNat)) } }
        (.st stOk, refreshDblk (refreshDemand r s))))) s)

/-- DRIVE_DIAG (R343, R103): CLEAR writes 1 to LATCHED and to every seen flag; DRV_MEASn reads 0 while BRK is off. -/
def execDriveDiag (id : Nat) (s : State) : Host.Outcome State Fault Refusal :=
  .next (runCmd id 0x0703 (fun c s =>
    let r := mw c.words 1
    let n := refInst r
    checked ([(!onlyBits (mw c.words 2) 1, stBadArg)] ++ refFails 6 r) s (
      if bit (mw c.words 2) 0 && claimed (drvRef n) s then (conflictOn (drvRef n) s, s) else overBark s (fun s =>
      let meas := if domOn .brk s then s.reg (aDrvMeas n) else 0
      let out := [s.reg (aDrvDiag n), meas, s.reg (aDrvStroke n), BitVec.ofNat 32 (s.f (aEschMod n) 0 12)]
      (.done stOk out, if bit (mw c.words 2) 0 then drvWrite n 0x14 0xFC000000 s else s)))) s)

/-- DRIVE_SAFEVAL (R343, R347): applies at the next application of safe values; not for a claimed channel (R103). -/
def execDriveSafeval (id : Nat) (s : State) : Host.Outcome State Fault Refusal :=
  .next (runCmd id 0x0704 (fun c s =>
    let r := mw c.words 1
    let n := refInst r
    let w := mw c.words 2
    checked ([(decide (fld w 24 5 ≠ 0), stBadArg)] ++ refFails 6 r ++ [(decide (5 < fld w 29 3), stRange)]) s (
      if claimed (drvRef n) s then (conflictOn (drvRef n) s, s) else overBark s (fun s => (.st stOk, s.setReg (aDrvSafe n) w)))) s)

/-- DRIVE_CALIBRATE (R345): the channel or pair is taken as service 0x02 and its first run requested, after the dead time of a
MOVE that it cancels. -/
def execDriveCalibrate (id : Nat) (s : State) : Host.Outcome State Fault Refusal :=
  .next (runCmd id 0x0705 (fun c s =>
    let r := mw c.words 1
    checked (refFails 6 r ++ [(!domOn .brk s, stNoResource)]) s (
      let n := pairOf (refInst r) s
      let m := drvMode n s
      let refs := if m = 2 then [drvRef n, drvRef (n + 1)] else [drvRef n]
      match refs.find? (fun r => !ownerFree r s) with
      | some r => (conflictOn r s, s)
      | none => checked [(decide (m ≠ 1 ∧ m ≠ 2), stRange)] s (
          let run : CalRun := ⟨c.id, n, if m = 2 then 0 else 3, 0, 0, 0, 0⟩
          let s := grantService refs 2 (msgTag c.words) c.id s
          let s := cancel n true { s with drv := { s.drv with cal := s.drv.cal ++ [run] } }
          let moving := match (chanSt n s).run with | some r => decide (r.kind = 0) | none => false
          (.running, if moving then s else calRequest run s)))) s)

/-- Milliamperes as amperes in binary32. -/
def ampsOf (ma : Nat) : F32 := f32OfRat (mkRat ma 1000)
/-- R369: a budget term in A, −1.0 for a term not applied. -/
def termAmps (ma : Nat) : F32 := if ma = 0xFFFF then f32OfInt (-1) else ampsOf ma

/-- DRIVE_BUDGET (R369): the values of the last cycle. -/
def execDriveBudget (id : Nat) (s : State) : Host.Outcome State Fault Refusal :=
  .next (runCmd id 0x0706 (fun _ s =>
    let s := settleTa s
    let cls := if s.b aEschCtl 31 then s.f aEschStat 17 3 + 1 else 0
    let m11 := BitVec.ofNat 32 (((s.f aEschStat 20 4 * 16 + cls) * 256 + s.f aEschStat 8 7) * 65536 + s.f aEschStat 0 7 * 256)
    (.done stOk [ampsOf (s.f aEschBud2 16 16), termAmps (s.f aEschBud0 16 16), termAmps (s.f aEschBud0 0 16),
      termAmps (s.f aEschBud1 16 16), termAmps (s.f aEschBud1 0 16), ampsOf (s.f aEschBud2 0 16), ampsOf (s.f aEschBud3 16 16),
      f32OfRat (vfMean s / 1000), s.drv.ta.getD 0, m11], s)) s)

/-! ### FAN commands -/

/-- FAN_READ (R346). -/
def execFanRead (id : Nat) (s : State) : Host.Outcome State Fault Refusal :=
  .next (runCmd id 0x0801 (fun c s =>
    let r := mw c.words 1
    let f := refInst r
    checked (refFails 7 r ++ [(!domOn .brk s, stNoResource)]) s (overBark s (fun s =>
      (.done stOk [s.reg (aFanStat f), s.reg (aFanDem f), (fanSt f s).duty, f32OfNat (fanSpeed f s), s.reg (aFanCnt f)], s)))) s)

/-- FAN_COMMAND (R346, R344). -/
def execFanCommand (id : Nat) (s : State) : Host.Outcome State Fault Refusal :=
  .next (runCmd id 0x0802 (fun c s =>
    checked (commandFails 7 c ++ [(!domOn .brk s, stNoResource)]) s (
      let r := mw c.words 1
      let f := refInst r
      if !ownerBase r s then (conflictOn r s, s)
      else if bit (mw c.words 2) 0 then (.st stOk, refreshDblk (refreshDemand r (endOverride r s)))
      else checked [(commandRange c s || !s.b (aFanCfg f) 31, stRange)] s (
        let s := { s with fw := { s.fw with fanOvr := tblSet none s.fw.fanOvr f (some (mw c.words 3, (mw c.words 4).toNat)) } }
        (.st stOk, refreshDblk (refreshDemand r s))))) s)

/-- FAN_FAILSAFE (R346): lasts until the next configuration load. -/
def execFanFailsafe (id : Nat) (s : State) : Host.Outcome State Fault Refusal :=
  .next (runCmd id 0x0803 (fun c s =>
    let r := mw c.words 1
    let f := refInst r
    let w := mw c.words 2
    checked ([(!onlyBits w 0x7F, stBadArg)] ++ refFails 7 r ++ [(decide (100 < w.toNat), stRange)]) s (
      if claimed (fanRef f) s then (conflictOn (fanRef f) s, s)
      else overBark s (fun s => (.st stOk, refreshDemand r (s.setReg (aFanFail f) w))))) s)

/-- FAN_CLEAR_FAIL (R346, R338, R103). -/
def execFanClearFail (id : Nat) (s : State) : Host.Outcome State Fault Refusal :=
  .next (runCmd id 0x0804 (fun c s =>
    let r := mw c.words 1
    checked (refFails 7 r ++ [(!domOn .brk s, stNoResource)]) s (
      if claimed (fanRef (refInst r)) s then (conflictOn (fanRef (refInst r)) s, s)
      else overBark s (fun s => (.st stOk, clearFail (refInst r) s)))) s)

end Sys2Proof.Machine
end

