-- ==== Sys2Proof/Machine/BusCmds.lean ====
section
/-! DEFINITION. Sys2Proof/Machine/BusCmds.lean: the BUS commands (R387, R189, R210). -/

namespace Sys2Proof.Machine

open Sys2Proof

/-- The owner reference of an RS-485 port (R97). -/
def portRef (p : Nat) : Word := mkRef 0x08 p

/-- BUS_PORT (R387, R392, R374). -/
def execBusPort (id : Nat) (s : State) : Host.Outcome State Fault Refusal :=
  .next (runCmd id 0x0901 (fun c s =>
    let r := mw c.words 1
    let p := refInst r
    let v := mw c.words 2
    let t := (mw c.words 3).toNat
    let master := decide (fld v 29 3 = 2)
    checked ([(decide (65535 < t) || decide (fld v 8 2 ≠ 0), stBadArg), (!master && decide (t ≠ 0), stBadArg)] ++ refFails 8 r
        ++ [(!domOn .bus s, stNoResource)]) s (
      if !ownerBase r s then (conflictOn r s, s)
      else checked [(pcfgBad p v s || (master && (decide (t < 10) || decide (2000 < t))), stRange)] s (
        let s := pcfgWrite p v s
        (.st stOk, if master then setPort p { busPort p s with tmo := t } s else s)))) s)

/-- BUS_STATUS (R387). -/
def execBusStatus (id : Nat) (s : State) : Host.Outcome State Fault Refusal :=
  .next (runCmd id 0x0902 (fun c s =>
    let r := mw c.words 1
    let n := refInst r
    let t := refType r
    checked ([(decide (t ≠ 8 ∧ t ≠ 9 ∧ t ≠ 10), stBadArg)] ++ refFails t r ++ [(!domOn .bus s, stNoResource)]) s
      (.done stOk (if t = 8 then [s.reg (aBusPstat n), s.reg (aBusPcnt n)] else if t = 9 then [s.reg (aBusI2cstat n)]
        else [s.reg (aTwigSegstat n), s.reg (aTwigSegmon n), s.reg (aTwigSegcnt n)]), s)) s)

/-- R386: the bytes that have left the transmit buffer by now are gone from it. -/
def drainTx (p : Nat) (s : State) : State :=
  let b := busPort p s
  let k := (s.now - b.txAt) / charT p s
  let left := b.tx.drop k
  setPort p { b with tx := left, txAt := if left = [] then s.now else b.txAt + k * charT p s } s

/-- The words that bytes make, four to a word, the first in [31:24]; a last word is filled with 0. -/
def packBytes (bs : List Byte) : List Word := wordsOfBytes (bs ++ List.replicate ((4 - bs.length % 4) % 4) 0)

/-- BUS_RAW (R386, R387). -/
def execBusRaw (id : Nat) (s : State) : Host.Outcome State Fault Refusal :=
  .next (runCmd id 0x0903 (fun c s =>
    let r := mw c.words 1
    let p := refInst r
    let m := if msgLen c.words = 1 then 0 else mw c.words 2
    let n := fld m 0 8
    let bytes := (bytesOfWords (argWords c 3)).take n
    checked ([(!onlyBits m 0x800000FF || decide (52 < n), stBadArg)] ++ refFails 8 r
        ++ [(decide (domOn .bus s = true ∧ portMode p s ≠ 4), stBadArg), (!domOn .bus s, stNoResource)]) s (
      let t := drainTx p s
      let send := bit m 31
      if send && decide (256 < (busPort p t).tx.length + n) then (.st stNoResource, s)
      else if !ownerBase r s then (conflictOn r s, s)
      else
        let b := busPort p t
        let got := b.rx.take 52
        let b := { b with rx := b.rx.drop 52 }
        let b := if send ∧ n ≠ 0 then { b with tx := b.tx ++ bytes, out := [bytes] } else b
        (.done stOk (BitVec.ofNat 32 got.length :: packBytes got), showFill p (setPort p b t)))) s)

/-- BUS_TWIG_DISCOVER (R210, R108, R110). -/
def execBusTwigDiscover (id : Nat) (s : State) : Host.Outcome State Fault Refusal :=
  .next (runCmd id 0x0904 (fun c s =>
    let r := mw c.words 1
    let g := refInst r
    checked ([(!onlyBits (mw c.words 2) 1, stBadArg)] ++ refFails 0x0A r
        ++ [(!domOn .bus s || !s.b (aTwigSegctl g) 31, stNoResource)]) s (
      match (segRef g :: (List.range 16).map (fun k => mkRef 0x0B (16 * g + k))).find? (fun r => !ownerFree r s) with
      | some r => (conflictOn r s, s)
      | none => (.running, startRun g (bit (mw c.words 2) 0) (some c.id) (msgTag c.words) s))) s)

/-- R189: the words of one transaction in the staging copy. -/
def stageTrans (p t : Nat) (c : Cmd) (s : State) : State :=
  let st := i2cSt p s
  let put := fun (x : Tbl Word) (a : Nat) (v : Word) => tblPut x a v
  let x := put st.staged (aBusI2ctr p t) (mw c.words 3)
  let x := (List.range 8).foldl (fun x j => put x (aBusI2cwd p t j) (mw c.words (4 + j))) x
  setI2c p { st with staged := x } s

/-- R189: COMMIT moves the staging copy and NTR into the port. -/
def commitScript (p ntr : Nat) (s : State) : State :=
  let l := (i2cSt p s).staged
  let s := setI2c p { i2cSt p s with staged := [] } s
  let one := fun (e : Nat × Word) (s : State) =>
    let o := e.1 - aBusI2ctr p 0
    if o % 128 = 0 then trWrite p (o / 128) e.2 s else s.setReg e.1 e.2
  (forEach l one s).setF (aBusI2cctl p) 24 4 ntr

/-- BUS_I2C_SCRIPT (R189, R187, R188). -/
def execBusI2cScript (id : Nat) (s : State) : Host.Outcome State Fault Refusal :=
  .next (runCmd id 0x0905 (fun c s =>
    let r := mw c.words 1
    let p := refInst r
    let m := mw c.words 2
    let t := fld m 28 4
    checked ([(!onlyBits m 0xF8F00000, stBadArg)] ++ refFails 9 r ++ [(!domOn .bus s, stNoResource)]) s (
      if !ownerBase r s then (conflictOn r s, s)
      else checked [(scriptBad p t (mw c.words 3) s, stRange)] s (
        let s := stageTrans p t c s
        (.st stOk, if bit m 27 then commitScript p (fld m 20 4) s else s)))) s)

end Sys2Proof.Machine
end

