-- ==== Sys2Proof/Machine/Modbus.lean ====
section
/-! DEFINITION. Sys2Proof/Machine/Modbus.lean: what a building bus writes (R379, R382) and the Modbus RTU slave (R381 to
R383). -/

namespace Sys2Proof.Machine

open Sys2Proof

/-! ### Writes of a building bus, as the firmware commands make them; the status says how they were refused -/

/-- As POINT.WRITE (R176). -/
def busPoint (n : Nat) (v : F32) (s : State) : Nat × State :=
  if !f32Ok v then (stBadArg, s)
  else if !domOn .rta s then (stNoResource, s)
  else if s.f (aRqPcfg n) 29 3 ≠ 4 then (stConflict, s)
  else if f32Lt v (s.reg (aRqLo n)) ∨ f32Lt (s.reg (aRqHi n)) v then (stRange, s)
  else (0, publishVirtual n v s)

/-- As DRIVE.COMMAND without expiry (R343, R344); none cancels. -/
def busDrive (n : Nat) (v : Option F32) (s : State) : Nat × State :=
  let n := pairOf n s
  let r := drvRef n
  if (match v with | some x => !f32Ok x | none => false) then (stBadArg, s)
  else if !ownerBase r s then (stConflict, s)
  else match v with
    | none => (0, refreshDblk (refreshDemand r (endOverride r s)))
    | some x =>
      if f32Lt x 0 ∨ f32Lt 0x42C80000 x ∨ drvMode n s = 0 ∨ drvMode n s = 5 then (stRange, s)
      else (0, refreshDblk (refreshDemand r { s with fw := { s.fw with driveOvr := tblSet none s.fw.driveOvr n (some (x, 0)) } }))

/-- As FAN.COMMAND without expiry (R346); none cancels. -/
def busFan (f : Nat) (v : Option F32) (s : State) : Nat × State :=
  let r := fanRef f
  if (match v with | some x => !f32Ok x | none => false) then (stBadArg, s)
  else if !domOn .brk s then (stNoResource, s)
  else if !ownerBase r s then (stConflict, s)
  else match v with
    | none => (0, refreshDblk (refreshDemand r (endOverride r s)))
    | some x =>
      if f32Lt x 0 ∨ f32Lt 0x42C80000 x ∨ s.b (aFanCfg f) 31 = false then (stRange, s)
      else (0, refreshDblk (refreshDemand r { s with fw := { s.fw with fanOvr := tblSet none s.fw.fanOvr f (some (x, 0)) } }))

/-- As ZONE.SETPOINT, without expiry (R382). -/
def busSetpoint (z : Nat) (v : F32) (s : State) : Nat × State :=
  let r := mkRef 0x03 z
  if !f32Ok v then (stBadArg, s)
  else if !ownerBase r s then (stConflict, s)
  else if f32Lt v (zrec z 6 s) ∨ f32Lt (zrec z 7 s) v then (stRange, s)
  else (0, refreshSp z { s with fw := { s.fw with spOvr := tblSet none s.fw.spOvr z (some (v, 0)) } })

/-! ### The Modbus slave -/

/-- A drive channel that is a coil (R382). -/
def coilOk (n : Nat) (s : State) : Bool := decide (n < 48) && decide (drvMode n s = 1) && decide (drvLsub n s = 0)

/-- R382: the binary32 pairs of the holding registers: the value at an even offset of a table. -/
def holdPair (a : Nat) (s : State) : Option F32 :=
  if a < 512 then some (s.reg (aRqLvtlo (a / 2)))
  else if 4096 ≤ a ∧ a < 4192 then some (zoneSt ((a - 4096) / 2) s).sp
  else if 8192 ≤ a ∧ a < 8288 then some (s.reg (aDrvDem ((a - 8192) / 2)))
  else if 8288 ≤ a ∧ a < 8320 then some (s.reg (aFanDem ((a - 8288) / 2)))
  else none

/-- A register of a pair: the high word at the lower address. -/
def halfOf (a : Nat) (v : F32) : Nat := if a % 2 = 0 then v.toNat / 65536 else v.toNat % 65536

/-- R382: a holding register; none outside the table. -/
def holdReg (a : Nat) (s : State) : Option Nat := (holdPair a s).map (halfOf a)

/-- R382: an input register. -/
def inputReg (a : Nat) (s : State) : Option Nat :=
  if a < 512 then some (halfOf a (s.reg (aRqLvtlo (a / 2))))
  else if a < 768 then some (fld (s.reg (aRqLvthi (a - 512))) 0 8)
  else none

/-- R382: a coil: d at least 50 %. -/
def coilBit (a : Nat) (s : State) : Option Bool :=
  if coilOk a s then some (f32Le 0x42480000 (s.reg (aDrvDem a))) else none

/-- R382: a discrete input: the point at least 0.5. -/
def inputBit (a : Nat) (s : State) : Option Bool := if a < 256 then some (f32Le f32Half (s.reg (aRqLvtlo a))) else none

/-- R383: the exception of a refusal. -/
def mbException (st : Nat) : Nat := if st = stBadArg ∨ st = stRange then 3 else 4

/-- R382: a binary32 is written to the pair of holding registers at address a. -/
def writePair (a : Nat) (v : F32) (s : State) : Nat × State :=
  let dem : Option F32 := if v = 0xBF800000 then none else some v
  if a < 512 then busPoint (a / 2) v s
  else if 4096 ≤ a ∧ a < 4192 then busSetpoint ((a - 4096) / 2) v s
  else if a < 8288 then busDrive ((a - 8192) / 2) dem s
  else busFan ((a - 8288) / 2) dem s

/-- The result of a slave request: an exception, or the data of the response. -/
inductive MbOut where
  | exc (code : Nat)
  | data (bs : List Byte)
deriving DecidableEq, Repr

/-- Values all present. -/
def allSome {α : Type} (l : List (Option α)) : Option (List α) := if l.all Option.isSome then some (l.filterMap id) else none

/-- Bits packed into bytes, the first the least significant. -/
def packBits (l : List Bool) : List Byte :=
  (List.range ((l.length + 7) / 8)).map (fun i => BitVec.ofNat 8 ((List.range 8).foldl (fun a j => a + (nth l (8 * i + j) false).toNat * 2 ^ j) 0))

/-- Start address and quantity of a request. -/
def mbStart (bs : List Byte) : Nat := beNat ((bs.drop 2).take 2)
/-- Quantity, or the value of a single write. -/
def mbQty (bs : List Byte) : Nat := beNat ((bs.drop 4).take 2)

/-- R382: read bits from a table. -/
def readBits (bitAt : Nat → Option Bool) (bs : List Byte) (s : State) : MbOut × State :=
  if bs.length ≠ 6 ∨ mbQty bs = 0 ∨ 2000 < mbQty bs then (.exc 3, s)
  else match allSome ((List.range (mbQty bs)).map (fun i => bitAt (mbStart bs + i))) with
    | some l => (.data (BitVec.ofNat 8 ((l.length + 7) / 8) :: packBits l), s)
    | none => (.exc 2, s)

/-- R382, R383: read registers from a table. -/
def readRegs (regAt : Nat → Option Nat) (bs : List Byte) (s : State) : MbOut × State :=
  if bs.length ≠ 6 ∨ mbQty bs = 0 ∨ 125 < mbQty bs then (.exc 3, s)
  else match allSome ((List.range (mbQty bs)).map (fun i => regAt (mbStart bs + i))) with
    | some l => (.data (BitVec.ofNat 8 (2 * l.length) :: l.flatMap (beBytes 2)), s)
    | none => (.exc 2, s)

/-- Writes in order; the first refusal stops them and nothing is kept. -/
def writeAll {α : Type} (put : α → State → Nat × State) : List α → State → State → Nat × State
  | [], _, s => (0, s)
  | x :: t, s0, s => let r := put x s; if r.1 = 0 then writeAll put t s0 r.2 else (r.1, s0)

/-- R382: write coils: an override of 100 % or 0 %. -/
def writeCoils (l : List (Nat × Bool)) (echo : List Byte) (s : State) : MbOut × State :=
  if l.all (fun p => coilOk p.1 s) then
    let r := writeAll (fun (p : Nat × Bool) s => busDrive p.1 (some (if p.2 then 0x42C80000 else 0)) s) l s s
    (if r.1 = 0 then .data echo else .exc (mbException r.1), r.2)
  else (.exc 2, s)

/-- Function 05. -/
def mbWriteCoil (bs : List Byte) (s : State) : MbOut × State :=
  if bs.length ≠ 6 ∨ (mbQty bs ≠ 0 ∧ mbQty bs ≠ 0xFF00) then (.exc 3, s)
  else writeCoils [(mbStart bs, decide (mbQty bs = 0xFF00))] (bs.drop 2) s

/-- Function 06 (R383): every holding register is half of a pair. -/
def mbWriteReg (bs : List Byte) (s : State) : MbOut × State := if bs.length ≠ 6 then (.exc 3, s) else (.exc 2, s)

/-- Function 15. -/
def mbWriteCoils (bs : List Byte) (s : State) : MbOut × State :=
  let n := mbQty bs
  let k := (n + 7) / 8
  let d := bs.drop 7
  if n = 0 ∨ 1968 < n ∨ (bs.getD 6 0).toNat ≠ k ∨ d.length ≠ k then (.exc 3, s)
  else writeCoils ((List.range n).map (fun i => (mbStart bs + i, (nth d (i / 8) 0).getLsbD (i % 8)))) ((bs.drop 2).take 4) s

/-- Function 16 (R383): whole pairs only. -/
def mbWriteRegs (bs : List Byte) (s : State) : MbOut × State :=
  let n := mbQty bs
  let a := mbStart bs
  let d := bs.drop 7
  if n = 0 ∨ 123 < n ∨ (bs.getD 6 0).toNat ≠ 2 * n ∨ d.length ≠ 2 * n then (.exc 3, s)
  else if !(List.range n).all (fun i => (holdPair (a + i) s).isSome) ∨ a % 2 = 1 ∨ n % 2 = 1 then (.exc 2, s)
  else
    let l := (wordsOfBytes d).zipIdx.map (fun p => (a + 2 * p.2, p.1))
    let r := writeAll (fun (p : Nat × Word) s => writePair p.1 p.2 s) l s s
    (if r.1 = 0 then .data ((bs.drop 2).take 4) else .exc (mbException r.1), r.2)

/-- R382, R383: the response goes onto the bus; a broadcast gets none. -/
def mbAnswer (p : Nat) (bs : List Byte) (out : MbOut) (s : State) : State :=
  if bs.headD 0 = 0 then busSend p [] s
  else
    let fn := bs.getD 1 0
    match out with
    | .exc c => busSend p [mbFrame [bs.headD 0, fn ||| 0x80, BitVec.ofNat 8 c]] s
    | .data d => busSend p [mbFrame (bs.headD 0 :: fn :: d)] s

/-- R381 to R383: a frame at a slave port whose function satisfies `mine`: an invalid one counts, one for another slave
and a broadcast that no function takes are ignored; during a Crown restart the BUS controller answers exception 06. -/
def slaveFrame (p : Nat) (mine : Nat → Bool) (bcast : Bool) (f : SerialFrame) (run : List Byte → State → MbOut × State) (s : State) : State :=
  if domOn .bus s && decide (portMode p s = 3) then
    let s := countErrs p f s
    match mbBody p f s with
    | none => badFrame p s
    | some bs =>
      let a := (bs.headD 0).toNat
      if !mine (bs.getD 1 0).toNat then s
      else if a ≠ portAddr p s ∧ (a ≠ 0 ∨ bcast = false) then s
      else if !ready s then mbAnswer p bs (.exc 6) s
      else (let r := run bs s; mbAnswer p bs r.1 r.2)
  else s

/-- MODBUS_FUNCTION_01 (R382): read coils. -/
def execModbusFunction01 (p : Fin 6) (frame : SerialFrame) (s : State) : Host.Outcome State Fault Refusal :=
  .next (slaveFrame p (· = 1) false frame (fun bs s => readBits (fun a => coilBit a s) bs s) s)

/-- MODBUS_FUNCTION_02 (R382): read discrete inputs. -/
def execModbusFunction02 (p : Fin 6) (frame : SerialFrame) (s : State) : Host.Outcome State Fault Refusal :=
  .next (slaveFrame p (· = 2) false frame (fun bs s => readBits (fun a => inputBit a s) bs s) s)

/-- MODBUS_FUNCTION_03 (R382, R383): read holding registers. -/
def execModbusFunction03 (p : Fin 6) (frame : SerialFrame) (s : State) : Host.Outcome State Fault Refusal :=
  .next (slaveFrame p (· = 3) false frame (fun bs s => readRegs (fun a => holdReg a s) bs s) s)

/-- MODBUS_FUNCTION_04 (R382, R383): read input registers. -/
def execModbusFunction04 (p : Fin 6) (frame : SerialFrame) (s : State) : Host.Outcome State Fault Refusal :=
  .next (slaveFrame p (· = 4) false frame (fun bs s => readRegs (fun a => inputReg a s) bs s) s)

/-- MODBUS_FUNCTION_05 (R382): write a coil. -/
def execModbusFunction05 (p : Fin 6) (frame : SerialFrame) (s : State) : Host.Outcome State Fault Refusal :=
  .next (slaveFrame p (· = 5) false frame mbWriteCoil s)

/-- MODBUS_FUNCTION_06 (R383): write a register. -/
def execModbusFunction06 (p : Fin 6) (frame : SerialFrame) (s : State) : Host.Outcome State Fault Refusal :=
  .next (slaveFrame p (· = 6) true frame mbWriteReg s)

/-- MODBUS_FUNCTION_15 (R382): write coils. -/
def execModbusFunction15 (p : Fin 6) (frame : SerialFrame) (s : State) : Host.Outcome State Fault Refusal :=
  .next (slaveFrame p (· = 15) false frame mbWriteCoils s)

/-- MODBUS_FUNCTION_16 (R383): write registers. -/
def execModbusFunction16 (p : Fin 6) (frame : SerialFrame) (s : State) : Host.Outcome State Fault Refusal :=
  .next (slaveFrame p (· = 16) true frame mbWriteRegs s)

/-- MODBUS_OTHER_FUNCTION (R382): exception 01. -/
def execModbusOtherFunction (p : Fin 6) (frame : SerialFrame) (s : State) : Host.Outcome State Fault Refusal :=
  .next (slaveFrame p (fun f => !decide (f ∈ [1, 2, 3, 4, 5, 6, 15, 16])) false frame (fun _ s => (.exc 1, s)) s)

end Sys2Proof.Machine
end

