-- ==== Sys2Proof/Machine/Bacnet.lean ====
section
/-! DEFINITION. Sys2Proof/Machine/Bacnet.lean: the BACnet device (R378 to R380, R453). Object types, property identifiers
and reliability codes are numbered as ANSI/ASHRAE 135 numbers them (log entry 19). -/

namespace Sys2Proof.Machine

open Sys2Proof

/-! ### Objects (R378) -/

/-- The port in MS/TP, unless it has left the ring (R373, R376). -/
def mstpPort (s : State) : Option Nat := (List.range 6).find? (fun p => decide (portMode p s = 1) && !s.b (aBusPstat p) 30)

/-- The configuration enables the object (R378); the Device object is always there. -/
def bacCfg (obj inst : Nat) (s : State) : Option BacObjCfg :=
  s.fw.image.bind (fun im => im.bacnet.find? (fun o => decide (o.objType = obj) && decide (o.inst = inst)))
/-- R380: the instance of the Device object. -/
def bacDevice (s : State) : Nat := match s.fw.image with | some im => im.bacDevice | none => 0

/-- R378: a point of a DRY or DIN source. -/
def contactPoint (n : Nat) (s : State) : Bool :=
  decide (s.f (aRqPcfg n) 29 3 = 1) &&
  ((List.range 96).any (fun a => decide (ainMode a s = 9) && decide (s.f (aRootAincfg a) 22 8 = n))
    || (List.range 48).any (fun c => decide (drvMode c s = 5) && decide (s.f (aDrvCtl c) 22 8 = n)))

/-- R378: the object is in the table and enabled. -/
def bacObject (obj inst : Nat) (s : State) : Bool :=
  if obj = 8 then decide (inst = bacDevice s)
  else
    (bacCfg obj inst s).isSome &&
    (match obj with
     | 0 => decide (inst < 256) && decide (s.f (aRqPcfg inst) 29 3 < 4)
     | 2 => decide (inst < 256) && decide (s.f (aRqPcfg inst) 29 3 = 4)
     | 3 => decide (inst < 256) && contactPoint inst s
     | 4 => coilOk inst s
     | 1 => (decide (inst < 48) && ((decide (drvMode inst s = 1) && decide (drvLsub inst s ≠ 0)) || decide (drvMode inst s = 2) || decide (drvMode inst s = 4)))
            || decide (100 ≤ inst ∧ inst < 116)
     | 5 => decide (inst < 16) && isCond inst s
     | 19 => decide (inst < 48)
     | 12 => decide (inst < 96)
     | 17 => decide (inst < 32)
     | 6 => decide (inst = 0)
     | 20 => decide (inst < 128)
     | _ => false)

/-- A commandable object (R379). -/
def commandable (obj : Nat) : Bool := decide (obj = 1 ∨ obj = 4)

/-- R379: the priority array of an object: level 1 to 16. -/
def prioAt (inst level : Nat) (s : State) : Option F32 := tblGet none s.bus.prio (16 * inst + (level - 1))
/-- R379: the value of the highest non-null priority. -/
def prioTop (inst : Nat) (s : State) : Option F32 := ((List.range 16).filterMap (fun k => prioAt inst (k + 1) s)).head?
/-- The default of a commandable object. -/
def relinquish (obj inst : Nat) (s : State) : F32 := match bacCfg obj inst s with | some o => o.relinquish | none => 0

/-- R378: the flag byte behind the flags of an input or value object. -/
def bacFlags (obj inst : Nat) (s : State) : Word :=
  if obj = 0 then (match tblGet none s.fw.crownPts inst with | some v => v.2 &&& 0xFF | none => 1)
  else s.reg (aRqLvthi inst) &&& 0xFF

/-- R378: Status_Flags: bit 1 FAULT, bit 2 OVERRIDDEN. -/
def statusFlags (obj inst : Nat) (s : State) : Word :=
  if obj = 0 ∨ obj = 2 ∨ obj = 3 then (if bacFlags obj inst s &&& 0xE5 ≠ 0 then 2 else 0)
  else if obj = 4 ∨ (obj = 1 ∧ inst < 48) then (if s.b (aDrvDiag inst) 4 then 4 else 0)
  else if obj = 1 then (if (fanDemand (inst - 100) s).2 then 4 else 0)
  else 0

/-- R378: Reliability: 0 none, 4 OPEN_LOOP, 2 OVER_RANGE, 7 UNRELIABLE_OTHER. -/
def reliability (obj inst : Nat) (s : State) : Word :=
  if obj = 0 ∨ obj = 2 ∨ obj = 3 then
    let f := bacFlags obj inst s
    if bit f 7 then 4 else if bit f 6 then 2 else if f &&& 0xE5 ≠ 0 then 7 else 0
  else 0

/-- R378: Present_Value; none where the part has no value yet. -/
def presentValue (obj inst : Nat) (s : State) : Option Word :=
  match obj with
  | 0 => (tblGet none s.fw.crownPts inst).map (·.1)
  | 2 => some (s.reg (aRqLvtlo inst))
  | 3 => some (if f32Le f32Half (s.reg (aRqLvtlo inst)) then 1 else 0)
  | 4 => some (if f32Le 0x42480000 ((prioTop inst s).getD (relinquish 4 inst s)) then 1 else 0)
  | 1 => some ((prioTop inst s).getD (relinquish 1 inst s))
  | 5 => some (if (tblGet none s.fw.cmdTrig inst).isSome then 1 else 0)
  | 19 => (zoneSt inst s).mode.map (fun m => BitVec.ofNat 32 (m + 1))
  | 12 => some (s.reg (aCambOut inst))
  | 17 => (timeNow s).map (fun t => BitVec.ofNat 32 (schedValue inst t s))
  | 6 => (timeNow s).map (fun t => if (List.range 64).any (fun e => bit (calWord e 0 s) 31 && calCovers e (t / 86400) s) then 1 else 0)
  | _ => none

/-- R378, R379: the Loop properties and the LOOP.SET registers they map to (log entry 19). -/
def loopProp (n prop : Nat) : Option Nat :=
  match prop with
  | 93 => some (aCambKp n) | 49 => some (aCambTi n) | 26 => some (aCambTd n) | 69 => some (aCambOutmin n)
  | 61 => some (aCambOutmax n) | 108 => some (aCambSpk n) | 85 => some (aCambManval n) | _ => none

/-- A property read: its words, or how the read is refused. -/
inductive BacRead where
  | words (ws : List Word)
  | refused (b : BacBody)
deriving DecidableEq, Repr

/-- Properties of objects with a Present_Value. -/
def hasPresent (obj : Nat) : Bool := decide (obj ∉ [8, 20])

/-- R378, R380: a property is read. A Present_Value that the part does not have yet is a free value. -/
def readProp (r : BacRef) (s : State) : BacRead × State :=
  let ok := fun (w : Word) => ((BacRead.words [w]), s)
  if !bacObject r.obj r.inst s then (.refused .unknownObject, s)
  else
    match r.prop with
    | 75 => ok (BitVec.ofNat 32 (r.obj * 2 ^ 22 + r.inst))
    | 79 => ok (BitVec.ofNat 32 r.obj)
    | 62 => if r.obj = 8 then ok 480 else (.refused .unknownProperty, s)
    | 107 => if r.obj = 8 then ok 3 else (.refused .unknownProperty, s)
    | 139 => if r.obj = 8 then ok 19 else (.refused .unknownProperty, s)
    | 85 =>
      if hasPresent r.obj then
        (match presentValue r.obj r.inst s with
         | some w => ok w
         | none => (.words [s.draw.1], s.draw.2))
      else (.refused .unknownProperty, s)
    | 111 => if hasPresent r.obj then ok (statusFlags r.obj r.inst s) else (.refused .unknownProperty, s)
    | 103 => if hasPresent r.obj then ok (reliability r.obj r.inst s) else (.refused .unknownProperty, s)
    | 104 => if commandable r.obj then ok (relinquish r.obj r.inst s) else (.refused .unknownProperty, s)
    | 87 =>
      if commandable r.obj then
        (match r.index with
         | none => (.words ((List.range 16).flatMap (fun k => match prioAt r.inst (k + 1) s with | some v => [1, v] | none => [0, 0])), s)
         | some 0 => ok 16
         | some i => if 16 < i then (.refused .outOfRange, s)
                     else (match prioAt r.inst i s with | some v => (.words [1, v], s) | none => (.words [0, 0], s)))
      else (.refused .unknownProperty, s)
    | 38 => if r.obj = 17 then (.words [], s) else (.refused .unknownProperty, s)
    | p =>
      if r.obj = 12 then
        (match loopProp r.inst p with | some a => ok (s.reg a) | none => (.refused .unknownProperty, s))
      else (.refused .unknownProperty, s)

/-! ### Requests and replies -/

/-- The messages of the device in this step. -/
def bacSend (l : List BacMsg) (s : State) : State := { s with bus := { s.bus with sent := l } }
/-- R375: a message that answers no confirmed request waits for the token of its port. -/
def bacQueue (m : BacMsg) (s : State) : State := setPort m.port { busPort m.port s with queue := (busPort m.port s).queue ++ [m] } s

/-- R380: communication 0 enabled, 1 disabled, 2 initiation disabled; enabled again once the time asked for is over. -/
def commNow (s : State) : Nat := match s.bus.commEnd with | some t => if t ≤ s.now then 0 else s.bus.comm | none => s.bus.comm

/-- R378, R380: the device serves requests on this port: MS/TP, in the ring, firmware up, a configuration in force that
says which device it is. DeviceCommunicationControl and ReinitializeDevice are served while communication is disabled. -/
def bacUp (port : Nat) (always : Bool) (s : State) : Bool :=
  ready s && s.fw.image.isSome && domOn .bus s && decide (mstpPort s = some port) && (always || decide (commNow s ≠ 1))

/-- A confirmed request is answered; the port no longer owes a reply (R377). -/
def answer (r : BacReq) (b : BacBody) (s : State) : State :=
  bacSend [⟨r.port, some r.source, some r.invoke, b⟩] (setPort r.port { busPort r.port s with expecting := none } s)

/-- A confirmed service; firmware has drained the present values of points (R162). -/
def serve (r : BacReq) (always : Bool) (f : State → BacBody × State) (s : State) : State :=
  if bacUp r.port always s then (let x := f (crownDrain s); answer r x.1 x.2) else s

/-- READ_PROPERTY (R378, R380). -/
def execReadProperty (req : BacReq) (obj : BacRef) (s : State) : Host.Outcome State Fault Refusal :=
  .next (serve req false (fun s =>
    let r := readProp obj s
    (match r.1 with | .words ws => .values [(obj, ws)] | .refused b => b, r.2)) s)

/-- Octets of a property in a ReadPropertyMultiple reply, as ANSI/ASHRAE 135 encodes them (log entry 19). -/
def bacOctets (ws : List Word) : Nat := 11 + 5 * ws.length

/-- Properties read one after the other; one refused answers no words. -/
def readProps : List BacRef → State → List (BacRef × List Word) × State
  | [], s => ([], s)
  | r :: t, s =>
    let x := readProp r s
    let ws := match x.1 with | .words ws => ws | .refused _ => []
    let q := readProps t x.2
    ((r, ws) :: q.1, q.2)

/-- READ_PROPERTY_MULTIPLE (R378, R380): the reply must fit 480 octets. -/
def execReadPropertyMultiple (req : BacReq) (objs : List BacRef) (s : State) : Host.Outcome State Fault Refusal :=
  .next (serve req false (fun s =>
    let r := readProps objs s
    if 480 < 3 + (r.1.map (fun p => bacOctets p.2)).foldl (· + ·) 0 then (.abort, s) else (.values r.1, r.2)) s)

/-! ### Writes (R379) -/

/-- R379: the class and code of a refusal. -/
def bacRefusal (st : Nat) : BacBody := if st = stBadArg ∨ st = stRange then .outOfRange else .denied

/-- R379: a level of the priority array is set and the highest value enters the channel or fan. -/
def writePrio (w : BacWrite) (s : State) : Nat × State :=
  let i := w.ref.inst
  let v : Option F32 := if w.ref.obj = 4 then w.value.map (fun x => if x = 0 then 0 else 0x42C80000) else w.value
  let bad := decide (w.ref.obj = 4) && (match w.value with | some x => decide (1 < x.toNat) | none => false)
  let t := { s with bus := { s.bus with prio := tblSet none s.bus.prio (16 * i + (w.prio - 1)) v } }
  if bad = true ∨ w.prio = 0 ∨ 16 < w.prio then (stRange, s)
  else
    let check := if i < 48 then busDrive i v s else busFan (i - 100) v s
    if check.1 ≠ 0 then (check.1, s)
    else
      let r := if i < 48 then busDrive i (prioTop i t) t else busFan (i - 100) (prioTop i t) t
      if r.1 ≠ 0 then (r.1, s) else r

/-- R245, R379: a write to a Loop property, as LOOP.SET and LOOP.MODE; Out_Of_Service stands for MANUAL. -/
def writeLoop (n prop : Nat) (v : Word) (s : State) : Option (Nat × State) :=
  let mode := fun (m : Nat) => stageAll n [(aCambCtl n, setFld (s.reg (aCambCtl n)) 27 3 m)] s
  let refuse : Option Nat := if !domOn .cmb s then some stNoResource else if !ownerBase (slotRef n) s then some stConflict else none
  if prop = 81 then
    some (match refuse with | some e => (e, s) | none => if 1 < v.toNat then (stRange, s) else (0, mode (if v = 1 then 2 else 1)))
  else (loopProp n prop).map (fun a =>
    if !f32Ok v then (stBadArg, s)
    else match refuse with
      | some e => (e, s)
      | none => if setBreaks n (s.setReg a v) then (stRange, s) else (0, stageAll n [(a, v)] s))

/-- R378, R379: one property is written: the refusal, or the state. -/
def writeProp (w : BacWrite) (s : State) : Except BacBody State :=
  let o := w.ref.obj
  let i := w.ref.inst
  let fin := fun (r : Nat × State) => if r.1 = 0 then Except.ok r.2 else Except.error (bacRefusal r.1)
  if !bacObject o i s then .error .unknownObject
  else if o = 12 then
    (match w.value with
     | none => .error .outOfRange
     | some v => (match writeLoop i w.ref.prop v s with | some r => fin r | none => .error .denied))
  else if w.ref.prop ≠ 85 then .error .denied
  else if commandable o then fin (writePrio w s)
  else
    match o, w.value with
    | _, none => .error .outOfRange
    | 2, some v => fin (busPoint i v s)
    | 5, some v => if 1 < v.toNat then .error .outOfRange else .ok (setCmdTrig i (if v = 1 then some 0 else none) s)
    | 19, some v =>
      if v.toNat = 0 ∨ 5 < v.toNat then .error .outOfRange
      else if !ownerBase (mkRef 0x03 i) s then .error .denied
      else .ok (setModeOvr i (some (v.toNat - 1, 0)) s)
    | _, some _ => .error .denied

/-- Writes in order; a refusal stops them, and those before it stay. -/
def writeProps : List BacWrite → State → BacBody × State
  | [], s => (.simpleAck, s)
  | w :: t, s => match writeProp w s with | .ok s' => writeProps t s' | .error b => (b, s)

/-- WRITE_PROPERTY (R379). -/
def execWriteProperty (req : BacReq) (w : BacWrite) (s : State) : Host.Outcome State Fault Refusal :=
  .next (serve req false (writeProps [w]) s)

/-- WRITE_PROPERTY_MULTIPLE (R379). -/
def execWritePropertyMultiple (req : BacReq) (ws : List BacWrite) (s : State) : Host.Outcome State Fault Refusal :=
  .next (serve req false (writeProps ws) s)

/-! ### Trend logs (R380) -/

/-- The sequence number of a record: its place in the store's numbering (log entry 19). -/
def seqOf (p : Nat × Nat) : Nat := p.1 * 255 + p.2
/-- A record as words: time, value, point flags, record flags. -/
def recWords (r : TrendRec) : List Word := [r.time, r.val, BitVec.ofNat 32 r.pflags, BitVec.ofNat 32 r.rflags]

/-- R380: the records of a log that a range names: forward from the reference, or backward to it; at most 20 fit a
reply (log entry 19). -/
def rangeRecords (g : BacRange) (s : State) : List ((Nat × Nat) × TrendRec) :=
  let all := (trendAll s).filter (fun x => x.2.log = g.log)
  let n := min 20 g.count.natAbs
  let key := fun (x : ((Nat × Nat) × TrendRec) × Nat) =>
    match g.by_ with | .position => x.2 + 1 | .sequence => seqOf x.1.1 | .time => x.1.2.time.toNat
  let ix := all.zipIdx
  let l := if 0 ≤ g.count then (ix.filter (fun x => if g.by_ = .time then decide (g.first < key x) else decide (g.first ≤ key x))).take n
    else
      let b := ix.filter (fun x => if g.by_ = .time then decide (key x < g.first) else decide (key x ≤ g.first))
      b.drop (b.length - n)
  l.map (·.1)

/-- READ_RANGE (R380): Trend Log only. -/
def execReadRange (req : BacReq) (range : BacRange) (s : State) : Host.Outcome State Fault Refusal :=
  .next (serve req false (fun s =>
    if !bacObject 20 range.log s then (.unknownObject, s)
    else if !trendUp s then (.noResource, s)
    else
      let l := rangeRecords range s
      (.range (match l with | x :: _ => seqOf x.1 | [] => 0) (l.map (fun x => recWords x.2)), s)) s)

/-! ### Change of value (R380) -/

/-- The value and flags that a subscription reports; none where the part has no value yet. -/
def covNow (c : CovSub) (s : State) : Option (Word × Word) :=
  (presentValue c.obj c.inst s).map (fun v => (v, statusFlags c.obj c.inst s))
/-- Subscription i. -/
def covSub (i : Nat) (s : State) : Option CovSub := tblGet none s.bus.subs i
/-- Set subscription i. -/
def setCov (i : Nat) (c : Option CovSub) (s : State) : State := { s with bus := { s.bus with subs := tblSet none s.bus.subs i c } }

/-- SUBSCRIBE_COV (R380): 32 subscriptions, lifetime at most 28,800 s. -/
def execSubscribeCov (req : BacReq) (sub : BacSub) (s : State) : Host.Outcome State Fault Refusal :=
  .next (serve req false (fun s =>
    let same := fun (i : Nat) => match covSub i s with
      | some c => decide (c.port = req.port.val ∧ c.source = req.source ∧ c.process = sub.process ∧ c.obj = sub.obj ∧ c.inst = sub.inst)
      | none => false
    let old := (List.range 32).find? same
    if sub.cancel then (.simpleAck, match old with | some i => setCov i none s | none => s)
    else if !bacObject sub.obj sub.inst s || !hasPresent sub.obj then (.unknownObject, s)
    else if 28800 < sub.lifetime then (.outOfRange, s)
    else
      match old.or ((List.range 32).find? (fun i => (covSub i s).isNone)) with
      | none => (.noResource, s)
      | some i =>
        let e := if sub.lifetime = 0 then none else some (s.now + secT sub.lifetime)
        (.simpleAck, setCov i (some ⟨req.port, req.source, sub.process, sub.obj, sub.inst, sub.confirmed, e, none⟩) s)) s)

/-- COV_NOTIFICATION (R380): the value or flags of a subscription differ from those last notified. -/
def execCovNotification (i : Fin 32) (s : State) : Host.Outcome State Fault Refusal :=
  .next (match covSub i s with
    | none => s
    | some c =>
      let s := if ready s then crownDrain s else s
      match covNow c s with
      | none => s
      | some v =>
      if bacUp c.port false s && decide (commNow s = 0) && decide (c.last ≠ some v) then
        let left := match c.until_ with | some t => (t - s.now) / secT 1 | none => 0
        bacQueue ⟨c.port, some c.source, none, .cov c.confirmed c.process c.obj c.inst v.1 v.2 left⟩ (setCov i (some { c with last := some v }) s)
      else s)

/-- COV_SUBSCRIPTION_EXPIRY (R380). -/
def execCovSubscriptionExpiry (i : Fin 32) (s : State) : Host.Outcome State Fault Refusal :=
  .next (match (covSub i s).bind (·.until_) with
    | some t => setCov i none (s.advTo t)
    | none => s)

/-! ### Discovery and time (R380) -/

/-- The instance lies within the limits of a request. -/
def inLimits (limits : Option (Nat × Nat)) (n : Nat) : Bool :=
  match limits with | some l => decide (l.1 ≤ n ∧ n ≤ l.2) | none => true

/-- An unconfirmed request that the device answers with a broadcast on its port, at its next token. -/
def broadcastReply (b : BacBody) (s : State) : State :=
  match mstpPort s with
  | some p => if bacUp p false s then bacQueue ⟨p, none, none, b⟩ s else s
  | none => s

/-- WHO_IS (R380). -/
def execWhoIs (limits : Option (Nat × Nat)) (s : State) : Host.Outcome State Fault Refusal :=
  .next (if inLimits limits (bacDevice s) then broadcastReply (.iAm (bacDevice s)) s else s)

/-- WHO_HAS (R380). -/
def execWhoHas (limits : Option (Nat × Nat)) (obj inst : Nat) (s : State) : Host.Outcome State Fault Refusal :=
  .next (if inLimits limits (bacDevice s) && bacObject obj inst s then broadcastReply (.iHave (bacDevice s) obj inst) s else s)

/-- R380: the clock is set as CLOCK.SET does; a grove member ignores it. -/
def syncTime (t : Word) (s : State) : State :=
  match mstpPort s with
  | some p => if bacUp p false s && decide (grRole s ≠ 1) && ownerBase rtcRef s then setClock t.toNat s else s
  | none => s

/-- TIME_SYNCHRONIZATION (R380). -/
def execTimeSynchronization (t : Word) (s : State) : Host.Outcome State Fault Refusal := .next (syncTime t s)

/-- UTC_TIME_SYNCHRONIZATION (R380): the configuration's time zone offset is added. -/
def execUtcTimeSynchronization (t : Word) (s : State) : Host.Outcome State Fault Refusal :=
  .next (syncTime (t + BitVec.ofInt 32 (60 * (match s.fw.image with | some im => im.utcOffset | none => 0))) s)

/-! ### Device control (R380, R453) -/

/-- R453: the password of a request. -/
def bacPassword (pw : List Byte) : Nat := beNat ((pw ++ List.replicate 8 0).take 8)

/-- R453: a request that needs the write password of area 0. -/
def withPassword (pw : List Byte) (run : State → BacBody × State) (s : State) : BacBody × State :=
  let r := checkPassword 0 true (bacPassword pw) s
  if r.1 = 0 then run r.2 else (.passwordFailure, r.2)

/-- DEVICE_COMMUNICATION_CONTROL (R380, R453): for so many minutes, 0 without end. -/
def execDeviceCommunicationControl (req : BacReq) (mode : BacComm) (minutes : Nat) (pw : List Byte) (s : State) :
    Host.Outcome State Fault Refusal :=
  .next (serve req true (withPassword pw (fun s =>
    let m := match mode with | .enable => 0 | .disable => 1 | .disableInitiation => 2
    (.simpleAck, { s with bus := { s.bus with comm := m, commEnd := if m = 0 ∨ minutes = 0 then none else some (s.now + secT (60 * minutes)) } }))) s)

/-- REINITIALIZE_DEVICE (R380, R453): WARMSTART only. The spec does not say what a warm start does; the model requests a
Crown restart as SYS.RESET with SCOPE 0 does (log entry 20). -/
def execReinitializeDevice (req : BacReq) (warm : Bool) (pw : List Byte) (s : State) : Host.Outcome State Fault Refusal :=
  .next (serve req true (withPassword pw (fun s =>
    if warm then
      (.simpleAck, if s.fw.pendReset.isSome then s
        else { s with fw := { s.fw with pendReset := some ⟨0, s.fw.nextId, 16, some (s.now + msT 10)⟩ } })
    else (.reject, s))) s)

/-- UNRECOGNIZED_SERVICE (R380): a confirmed service is rejected, an unconfirmed one ignored. -/
def execUnrecognizedService (req : BacReq) (confirmed : Bool) (s : State) : Host.Outcome State Fault Refusal :=
  .next (if confirmed then serve req false (fun s => (.reject, s)) s else s)

end Sys2Proof.Machine
end

