-- ==== Sys2Proof/Machine/Service.lean ====
section
/-! DEFINITION. Sys2Proof/Machine/Service.lean: the service UART (R388, R389). -/

namespace Sys2Proof.Machine

open Sys2Proof

/-- R388: a body without its escapes; none when an escape is malformed. -/
def svcUnescape : List Byte → Option (List Byte)
  | [] => some []
  | 0x7D :: 0x5E :: t => (svcUnescape t).map (0x7E :: ·)
  | 0x7D :: 0x5D :: t => (svcUnescape t).map (0x7D :: ·)
  | 0x7D :: _ => none
  | 0x7E :: _ => none
  | b :: t => (svcUnescape t).map (b :: ·)

/-- R388: a byte as it is sent inside a body. -/
def svcEscape (b : Byte) : List Byte := if b = 0x7E then [0x7D, 0x5E] else if b = 0x7D then [0x7D, 0x5D] else [b]

/-- R388: the frame of a body of type `ty`. -/
def svcFrame (ty : Byte) (seq : Nat) (ws : List Word) : List Byte :=
  let b := ty :: beBytes 2 seq ++ bytesOfWords ws
  [0x7E] ++ (b ++ beBytes 2 (crc16Ccitt b)).flatMap svcEscape ++ [0x7E]

/-- R388: SEQ and words of a command frame; none when its CRC or its length is wrong. -/
def svcParse (wire : List Byte) : Option (Nat × List Word) :=
  if wire.length < 2 ∨ wire.headD 0 ≠ 0x7E ∨ wire.getLastD 0 ≠ 0x7E then none
  else
    match svcUnescape ((wire.drop 1).dropLast) with
    | none => none
    | some b =>
      let n := b.length - 2
      let body := b.take n
      let ws := wordsOfBytes (body.drop 3)
      if b.length < 9 ∨ beNat (b.drop n) ≠ crc16Ccitt body ∨ body.headD 0 ≠ 1 then none
      else if (body.length - 3) % 4 ≠ 0 ∨ ws.length ≠ 1 + msgLen ws then none
      else some (beNat ((body.drop 1).take 2), ws)

/-- Bytes leave on SVC_TX. -/
def svcSend (bs : List Byte) (s : State) : State := { s with bus := { s.bus with svcTx := bs } }

/-- R389: the reply to a frame that finds channel 15 full: M0 copies the command, LEN 0, BUSY_TAG. -/
def svcBusy (seq : Nat) (ws : List Word) (s : State) : State :=
  let m1 := BitVec.ofNat 32 (((stBusyTag * 16 + nodeId s) * 16 + 15) * 65536 + seq % 65536)
  svcSend (svcFrame 2 seq [mw ws 0 &&& 0xFFFFFC3F, m1]) s

/-- SERVICE_FRAME (R388, R389): a command frame is written into channel 15 and sent as if by GO. -/
def execServiceFrame (wire : List Byte) (s : State) : Host.Outcome State Fault Refusal :=
  .next (if s.pwr.held.isSome || !domOn .bus s then s
    else
      match svcParse wire with
      | none => s
      | some (seq, ws) =>
        if inFull 15 s then svcBusy seq ws s
        else
          let s := forEach ws.zipIdx (fun p s => storeWord (0x100 + 0x80 * 15 + 4 * p.2) p.1 s) s
          let s := goSend 15 (storeWord (0x100 + 0x80 * 15 + 0x4C) (BitVec.ofNat 32 seq) s)
          { s with hp := { s.hp with svcMsg := true } })

end Sys2Proof.Machine
end

