-- ==== Sys2Proof/Machine/Grove.lean ====
section
/-! DEFINITION. Sys2Proof/Machine/Grove.lean: the grove services (R404, R408 to R420, R424 to R431): acknowledgement,
ticks and time, budget sharing, loss of the master, points, zones and schedules across devices, the GROVE commands. -/

namespace Sys2Proof.Machine

open Sys2Proof

/-! ### Acknowledgement (R404) -/

/-- R430: a frame of a GROVE.SCHED_PUSH run has been answered: `bad` when it was refused or failed. The final reply
follows the last one; the schedules pass back before it (R108). -/
def pushAnswered (id node : Nat) (bad : Bool) (s : State) : State :=
  match s.gft.push.find? (fun r => r.cmd = id) with
  | none => s
  | some r =>
    let left := (r.left.map (fun e => if e.1 = node then (e.1, e.2 - 1) else e)).filter (fun e => e.2 ≠ 0)
    let badMap := if bad then r.bad ||| 2 ^ node else r.bad
    let others := s.gft.push.filter (fun x => x.cmd ≠ id)
    if left = [] then
      let s := endService id 4 { s with gft := { s.gft with push := others } }
      finishCmd id stOk [BitVec.ofNat 32 (r.nodes &&& (65535 ^^^ badMap)), BitVec.ofNat 32 badMap] s
    else { s with gft := { s.gft with push := others ++ [{ r with left := left, bad := badMap }] } }

/-- Allotments come into force in GRAFT_ALLOTn. -/
def putAllots (l : List (Nat × Nat)) (s : State) : State := forEach l (fun e s => s.setF (aGraftAllot e.1) 16 16 e.2) s

/-- R427, R428: the rounds and allotments of the last ALLOTs heard are those in force. -/
def adoptAllots (s : State) : State :=
  let rounds := (List.range 4).foldl (fun t g => tblSet grRound0 t g ⟨tblGet 0 s.gft.applied (4 + g) - 1, [], [], [], s.now⟩) []
  putAllots s.gft.heard { s with gft := { s.gft with round := rounds } }

/-- What follows the answer to a frame: `status` 0 done, 1 refused, 2 no answer (R404). An unanswered MBOX or RESET gives
GROVE_UNREACHABLE (R422, R430); an answered TAKEBACK makes this node the acting master (R428). -/
def frameAnswered (x : GrSend) (status : Nat) (s : State) : State :=
  let s := { s with gft := { s.gft with unacked := s.gft.unacked.filter (fun y => !(decide (y.cls = x.cls) && decide (y.seq = x.seq))) } }
  let ty := (x.frame.headD 0).toNat
  let s := match x.cmd with
    | some id =>
      if ty = 0x41 then (if status = 2 then finishCmd id stUnreachable [] s else s)
      else if ty = 0x45 then finishCmd id (if status = 2 then stUnreachable else stOk) [] s
      else pushAnswered id x.dst (decide (status ≠ 0)) s
    | none =>
      if ty = 0x04 ∧ status ≠ 2 ∧ grState s = 2 then
        let s := ((s.setB aGraftStat 17 true).setF aGraftStat 20 4 (myNode s)).setB aGraftStat 19 true
        adoptAllots { s with gft := { s.gft with freeRun := false, tickAt := s.now, timeAt := s.now + 1, allocAt := s.now } }
      else s
  pump x.cls s

/-- ACK (R404): the oldest frame outstanding to its source with that SEQ is answered. -/
def execAck (p : Fin 2) (frame : List Byte) (s : State) : Host.Outcome State Fault Refusal :=
  .next (receive 0x82 p frame (fun g s => (0,
    if g.payload.length ≠ 4 then s
    else
      match s.gft.unacked.find? (fun x => decide (x.dst = g.src) && decide (x.seq = beNat (g.payload.take 2))) with
      | some x => frameAnswered x (min 1 (beNat ((g.payload.drop 2).take 1))) s
      | none => s)) s)

/-- ACK_TIMEOUT (R404): 20 ms without an ACK: the frame is sent again, up to 3 times, and has then failed; an MBOX_REPLY
goes on once a second while its destination acts as master. -/
def execAckTimeout (cls : Fin 4) (seq : Half) (s : State) : Host.Outcome State Fault Refusal :=
  .next (match s.gft.unacked.find? (fun x => decide (x.cls = cls.val) && decide (x.seq = seq.toNat)) with
    | none => s
    | some x =>
      if !domOn .gft s then s
      else
        let reply := decide ((x.frame.headD 0).toNat = 0x81)
        let s := freshLine (s.advTo (x.sentAt + (if reply && decide (3 ≤ x.tries) then secT 1 else msT 20)))
        let on := decide (x.tries < 3) || (reply && s.b aGraftStat 19 && decide (s.f aGraftStat 20 4 = x.dst))
        if on then
          let y := { x with sentAt := s.now, tries := x.tries + 1 }
          launch x.dst x.cls x.frame { s with gft := { s.gft with unacked := s.gft.unacked.map (fun z => if z = x then y else z) } }
        else frameAnswered x 2 s)

/-- A frame that firmware takes: while firmware does not serve, it is neither taken nor acknowledged. -/
def receiveFw (ty p : Nat) (f : List Byte) (h : GrParsed → State → Nat × State) (s : State) : State :=
  match grParse f with
  | some g =>
    if !ready s && decide (g.dst = myNode s) && domOn .gft s && onLine p s then sendSet p (.credit (grCls ty) 1) (freshLine s)
    else receive ty p f (if ready s then h else fun _ s => (0, s)) s
  | none => receive ty p f h s

/-! ### HELLO (R408, R409) -/

/-- R419: the grove schedules and the calendar go to a member. -/
def distributeTo (n : Nat) (s : State) : State :=
  match s.fw.image with
  | some im =>
    let s := forRange 32 (fun k s => if bit im.groveSched k then sendSchedTo n k none s else s) s
    if im.groveCal then sendCalTo n none s else s
  | none => s

/-- R413, R419: a node joins: the acting master owes it the time, the schedules and the calendar. -/
def nodeJoined (n : Nat) (s : State) : State :=
  if acting s then distributeTo n { s with gft := { s.gft with timeAt := s.now + 1 } } else s

/-- R428: a strapped master that hears a standby acting takes back. -/
def takeBack (g : GrParsed) (s : State) : State :=
  let role := beNat ((g.payload.drop 8).take 1)
  let act := decide (beNat ((g.payload.drop 11).take 1) % 2 = 1)
  let asked := (s.gft.unacked ++ s.gft.backlog).any (fun x => decide ((x.frame.headD 0).toNat = 0x04))
  if grRole s = 3 ∧ grState s = 2 ∧ act ∧ role = 2 ∧ !asked then sendReliable 0x04 g.src [] none s else s

/-- HELLO (R403, R408, R409): heard in LISTEN, or by a JOINED node; one that carries this node's identifier is judged and
discarded (R402). -/
def execHello (p : Fin 2) (frame : List Byte) (s : State) : Host.Outcome State Fault Refusal :=
  .next (
    match grParse frame with
    | none => receive 0x01 p frame (fun _ s => (0, s)) s
    | some g =>
      let whole := decide (g.ty = 0x01) && decide (g.payload.length = 16)
      if domOn .gft s && whole && decide (grState s = 1) then noteHello p g s
      else if domOn .gft s && whole && onLine p s && decide (g.src = myNode s) then
        judgeHello g (sendSet p (.credit 0 1) (freshLine s))
      else
        let fresh := (grNode g.src s).isNone
        let s := if domOn .gft s && whole && onLine p s then noteHello p g s else s
        receive 0x01 p frame (fun g s => (0,
          if g.payload.length ≠ 16 then s
          else
            let s := takeBack g (judgeHello g s)
            if fresh ∧ grState s = 2 then nodeJoined g.src s else s)) s)

/-! ### Ticks and time (R411 to R413) -/

/-- R413, R562: the time word applies at the tick it names, or at once when that tick has passed. -/
def judgeTime (s : State) : State :=
  match s.gft.timeDue with
  | some (w, t) =>
    let ahead := (t + 256 - s.gft.tickMod) % 256
    if 1 ≤ ahead ∧ ahead ≤ 200 then s else applyTime w { s with gft := { s.gft with timeDue := none } }
  | none => s

/-- TICK (R411, R412): the acting master discards it; a node in LISTEN notes it. -/
def execTick (p : Fin 2) (count : Byte) (delay : Half) (s : State) : Host.Outcome State Fault Refusal :=
  .next (if domOn .gft s && decide (grState s = 1) then
      { s with gft := { s.gft with tickAt := s.now - delay.toNat / 5, tickMod := count.toNat } }
    else if domOn .gft s && onLine p s && !acting s then judgeTime (takeTick p count delay (freshLine s))
    else s)

/-- TICK_SEND (R411): every 1 ms, out of both ports. -/
def execTickSend (s : State) : Host.Outcome State Fault Refusal :=
  .next (if domOn .gft s && decide (grState s = 2) && acting s then
    (let s := freshLine (s.advTo (s.gft.tickAt + msT 1))
     let s := groveTicks 1 s.now (s.gft.tickMod + 1) s
     forRange 2 (fun p s => if onLine p s then sendSet p (.tick (BitVec.ofNat 8 s.gft.tickMod) 0) s else s) s)
    else s)

/-- TICK_LOSS (R412): 3 ms without a TICK, then every 1 ms: the node's own clock gives the ticks that are due. -/
def execTickLoss (s : State) : Host.Outcome State Fault Refusal :=
  .next (if domOn .gft s && decide (grState s = 2) && !acting s then
    (let s := s.advTo (s.gft.tickAt + msT (if s.gft.freeRun then 1 else 3))
     let k := (s.now - s.gft.tickAt) / msT 1
     let s := groveTicks k (s.gft.tickAt + msT k) (s.gft.tickMod + k) s
     judgeTime { s with gft := { s.gft with freeRun := true } })
    else s)

/-- TIME (R413): a member keeps the time word for the tick that the frame names. -/
def execTime (p : Fin 2) (frame : List Byte) (s : State) : Host.Outcome State Fault Refusal :=
  .next (receive 0x02 p frame (fun g s => (0,
    if g.payload.length ≠ 8 ∨ acting s then s
    else
      let due := (BitVec.ofNat 32 (beNat (g.payload.take 4)), beNat ((g.payload.drop 4).take 1))
      judgeTime { s with gft := { s.gft with timeDue := some due } })) s)

/-- TIME_SEND (R413): when a TIME is owed: at a whole hour, after a node joined, after a change of the clock. How many ticks ahead, up to 200, the frame names is the
part's own choice, a free value (log entry 5). -/
def execTimeSend (s : State) : Host.Outcome State Fault Refusal :=
  .next (match timeNow s with
    | some t =>
      if domOn .gft s && ready s && decide (grState s = 2) && acting s && decide (s.gft.timeAt ≠ 0) then
        let w := s.draw
        let n := w.1.toNat % 201
        let s := freshLine w.2
        let later := t + (if s.rtc.phase + secLen s ≤ s.now + msT n then 1 else 0)
        let s := { s with gft := { s.gft with timeAt := 0 } }
        sendFrame 0x02 0xFF (beBytes 4 later ++ [BitVec.ofNat 8 (s.gft.tickMod + n), 0, 0, 0]) s
      else s
    | none => s)

/-! ### Budget sharing (R424 to R426) -/

/-- Members of share group g. -/
def groupMembers (g : Nat) (s : State) : List Nat := (List.range 16).filter (fun n => s.b (aGraftShare g) n)
/-- The group of this node: a GRAFT_SHAREg names it, or the last ALLOT that had an entry for it. -/
def myGroup (s : State) : Option Nat :=
  (List.range 4).find? (fun g => s.b (aGraftShare g) (myNode s) || decide (tblGet 0 s.gft.applied g ≠ 0))

/-- R424: the DEMAND of this node. -/
def ownDemand (g : Nat) (s : State) : GrDemand :=
  let runs := (List.range 48).filterMap (fun n => (chanSt n s).run)
  let pends := (List.range 48).filterMap (fun n => (chanSt n s).pend)
  let sum := fun (l : List Req) => l.foldl (fun a r => a + r.icur) 0
  ⟨tblGet 0 s.gft.applied g - 1, (iFix s).floor.toNat, sum (runs.filter (fun r => r.cls = 0)) + reserves s,
    sum (runs.filter (fun r => r.cls ≠ 0)) + sum pends, min 65535 ((allotment s).getD 65535)⟩

/-- DEMAND_SEND (R424): every 100 ms, and within 1 ms after an ALLOT. -/
def execDemandSend (s : State) : Host.Outcome State Fault Refusal :=
  .next (match myGroup s with
    | some g =>
      if domOn .gft s && decide (grState s = 2) then
        let s := freshLine (s.advTo s.gft.demandAt)
        let s := { s with gft := { s.gft with demandAt := s.now + msT 100 } }
        let d := ownDemand g s
        let s := if acting s then s.setF (aGraftAllot (myNode s)) 0 16 (min 65535 d.need) else s
        sendFrame 0xC3 0xFF ([BitVec.ofNat 8 g, BitVec.ofNat 8 d.round] ++ beBytes 2 (min 65535 d.ifix) ++ beBytes 2 (min 65535 d.safe)
          ++ beBytes 2 (min 65535 d.need) ++ beBytes 2 d.allot) s
      else s
    | none => s)

/-- R424, R431: the DEMAND last heard of a node; all zero before the first. -/
def demandOf (n : Nat) (s : State) : GrDemand := (tblGet none s.gft.demand n).getD ⟨0, 0, 0, 0, 0⟩
/-- GRAFT_ALLOTn: the allotment in force of node n. -/
def inForce (n : Nat) (s : State) : Nat := s.f (aGraftAllot n) 16 16

/-- R425: the allotments of the present members. -/
def allotments (limit : Nat) (absent : Nat) (l : List (Nat × GrDemand)) : List (Nat × Nat) :=
  let sum := fun (f : GrDemand → Nat) => l.foldl (fun a e => a + f e.2) 0
  let r : Int := (limit : Int) - sum (fun d => d.ifix + d.safe) - absent
  let need := sum (fun d => d.need)
  l.map (fun e =>
    let base := e.2.ifix + e.2.safe
    (e.1, min 65535 (if r ≤ 0 then base
      else if need ≤ r.toNat then base + e.2.need + (r.toNat - need) / l.length
      else base + r.toNat * e.2.need / need)))

/-- The allocation of group g. -/
def grRoundOf (g : Nat) (s : State) : GrRound := tblGet grRound0 s.gft.round g
/-- Set it. -/
def setRound (g : Nat) (r : GrRound) (s : State) : State := { s with gft := { s.gft with round := tblSet grRound0 s.gft.round g r } }

/-- R368, R562: an entry of an ALLOT for this node is applied when its round is not older than the last one applied;
DEMAND is due. -/
def takeAllot (g round ma : Nat) (s : State) : State :=
  let last := tblGet 0 s.gft.applied g
  if last = 0 ∨ (round + 256 - (last - 1) % 256) % 256 < 128 then
    let s := allotArrives ma s
    { s with gft := { s.gft with applied := tblSet 0 s.gft.applied g (round % 256 + 1), demandAt := min s.gft.demandAt s.now } }
  else s

/-- R426: an ALLOT frame goes out; the master's own entry is applied like a member's. -/
def sendAllot (g round : Nat) (l : List (Nat × Nat)) (s : State) : State :=
  let s := sendFrame 0x03 0xFF ([BitVec.ofNat 8 g, BitVec.ofNat 8 round, BitVec.ofNat 8 l.length, 0]
    ++ l.flatMap (fun e => [BitVec.ofNat 8 e.1, 0] ++ beBytes 2 e.2)) s
  match l.find? (fun e => e.1 = myNode s) with | some e => takeAllot g round e.2 s | none => s

/-- R426: the second frame of an allocation: the raised allotments. -/
def sendRaise (g : Nat) (s : State) : State :=
  let r := grRoundOf g s
  let s := putAllots r.high s
  let l := r.low.map (fun e => (e.1, inForce e.1 s))
  let n := (r.round + 1) % 256
  sendAllot g n l (setRound g ⟨n, [], l, [], s.now⟩ s)

/-- R425, R426: one group in an allocation cycle. Members that left while their lowering was unanswered keep the
allotment they had. -/
def allocate (g : Nat) (s : State) : State :=
  let here := fun n => nodePresent n s || decide (n = myNode s)
  let r := grRoundOf g s
  let waiting := r.waiting.filter here
  if waiting ≠ [] then setRound g { r with waiting := waiting } s
  else
    let ms := groupMembers g s
    let present := ms.filter here
    if present = [] then s
    else
      let away := (ms.filter (fun n => !here n)).foldl (fun a n => a + inForce n s) 0
      let new := allotments (s.f (aGraftShare g) 16 16) away
        (present.map (fun n => (n, if n = myNode s then ownDemand g s else demandOf n s)))
      let lower := new.filter (fun e => decide (e.2 < inForce e.1 s))
      let raise := new.filter (fun e => decide (inForce e.1 s < e.2))
      let first := new.map (fun e => (e.1, min e.2 (inForce e.1 s)))
      let n := (r.round + 1) % 256
      if lower ≠ [] then
        let wait := (lower.map (·.1)).filter (fun n => n ≠ myNode s)
        let s := setRound g ⟨n, wait, first, raise, s.now⟩ s
        let s := sendAllot g n first s
        if wait = [] then (if raise = [] then putAllots first s else sendRaise g (putAllots first s)) else s
      else if raise ≠ [] then sendRaise g (setRound g ⟨r.round, [], first, raise, s.now⟩ s)
      else if secT 1 ≤ s.now - r.sentAt ∨ r.round = 0 then
        let n := if r.round = 0 then 1 else r.round
        sendAllot g n first (setRound g ⟨n, [], first, [], s.now⟩ s)
      else s

/-- ALLOCATION_CYCLE (R425, R426): every 100 ms on the acting master. -/
def execAllocationCycle (s : State) : Host.Outcome State Fault Refusal :=
  .next (if domOn .gft s && ready s && decide (grState s = 2) && acting s then
    (let s := freshLine (s.advTo (s.gft.allocAt + msT 100))
     forRange 4 allocate { s with gft := { s.gft with allocAt := s.now } })
    else s)

/-- ALLOT_REPEAT (R426): a lowering unanswered for 20 ms is sent again. -/
def execAllotRepeat (g : Fin 4) (s : State) : Host.Outcome State Fault Refusal :=
  .next (
    let r := grRoundOf g s
    if domOn .gft s && ready s && decide (grState s = 2) && acting s && decide (r.waiting ≠ []) then
      let s := freshLine (s.advTo (r.sentAt + msT 20))
      sendAllot g r.round r.low (setRound g { r with sentAt := s.now } s)
    else s)

/-- ALLOT (R368, R426, R427): the entries are noted; the entry for this node is applied. -/
def execAllot (p : Fin 2) (frame : List Byte) (s : State) : Host.Outcome State Fault Refusal :=
  .next (receive 0x03 p frame (fun gr s => (0,
    let b := fun i => ((gr.payload.drop i).headD 0).toNat
    let n := b 2
    if gr.payload.length ≠ 4 + 4 * n ∨ 4 ≤ b 0 ∨ gr.payload.length = 0 then s
    else
      let l := (List.range n).map (fun i => (b (4 + 4 * i), 256 * b (6 + 4 * i) + b (7 + 4 * i)))
      let heard := l.foldl (fun t e => tblSet 0 t e.1 e.2) s.gft.heard
      let s := { s with gft := { s.gft with applied := tblSet 0 s.gft.applied (4 + b 0) (b 1 + 1), heard := heard } }
      match l.find? (fun e => e.1 = myNode s) with
      | some e => takeAllot (b 0) (b 1) e.2 s
      | none => s)) s)

/-- DEMAND (R424, R426): the acting master notes it; the raise follows when every lowered member has named the round. -/
def execDemand (p : Fin 2) (frame : List Byte) (s : State) : Host.Outcome State Fault Refusal :=
  .next (receive 0xC3 p frame (fun gr s => (0,
    let v := fun i => beNat ((gr.payload.drop i).take 2)
    let g := beNat (gr.payload.take 1)
    let d : GrDemand := ⟨beNat ((gr.payload.drop 1).take 1), v 2, v 4, v 6, v 8⟩
    if gr.payload.length ≠ 10 ∨ 4 ≤ g ∨ !acting s ∨ 16 ≤ gr.src then s
    else
      let s := { s with gft := { s.gft with demand := tblSet none s.gft.demand gr.src (some d) } }
      let s := s.setF (aGraftAllot gr.src) 0 16 d.need
      let r := grRoundOf g s
      if gr.src ∈ r.waiting ∧ d.round = r.round then
        let w := r.waiting.filter (fun n => n ≠ gr.src)
        let s := setRound g { r with waiting := w } (putAllots (r.low.filter (fun e => e.1 = gr.src)) s)
        if w = [] ∧ r.high ≠ [] then sendRaise g s else s
      else s)) s)

/-! ### Loss and return of the master (R427, R428) -/

/-- MASTER_LOSS (R427, R429): no TICK and no HELLO of the acting master for 2 s; a standby master acts as master, from the
allotments and rounds it last heard. -/
def execMasterLoss (s : State) : Host.Outcome State Fault Refusal :=
  .next (if domOn .gft s && decide (grState s = 2) && !acting s then
    (let s := freshLine (s.advTo (s.gft.masterAt + secT 2))
     let s := (s.setB aGraftStat 29 true).setB aGraftStat 19 false
     if grRole s = 2 ∧ !s.b aGraftStat 30 then
       let s := ((s.setB aGraftStat 17 true).setF aGraftStat 20 4 (myNode s)).setB aGraftStat 19 true
       let s := adoptAllots { s with gft := { s.gft with freeRun := false, timeAt := s.now + 1, allocAt := s.now } }
       forEach (membersPresent s) distributeTo (sendFrame 0x01 0xFF (helloPayload s) s)
     else s)
    else s)

/-- TAKEBACK (R428): a standby that acts as master sends its last TICK, acknowledges and is a member again. -/
def execTakeback (p : Fin 2) (frame : List Byte) (s : State) : Host.Outcome State Fault Refusal :=
  .next (receive 0x04 p frame (fun g s => (0,
    if acting s && decide (grRole s = 2) then
        (let s := s.advTo (s.gft.tickAt + msT 1)
         let s := groveTicks 1 s.now (s.gft.tickMod + 1) s
         let s := forRange 2 (fun p s => if onLine p s then sendSet p (.tick (BitVec.ofNat 8 s.gft.tickMod) 0) s else s) s
         let s := ((s.setB aGraftStat 17 false).setF aGraftStat 20 4 g.src).setB aGraftStat 19 true
         { s with gft := { s.gft with masterAt := s.now, timeAt := 0 } })
      else s)) s)

/-! ### RESET, SCHED, CAL (R525, R420) -/

/-- RESET (R525): the node acknowledges, saves and resets its device 10 ms after the ACK. -/
def execReset (p : Fin 2) (frame : List Byte) (s : State) : Host.Outcome State Fault Refusal :=
  .next (receiveFw 0x45 p frame (fun _ s =>
    (0, if (match s.fw.pendReset with | some r => decide (1 ≤ r.scope) | none => false) then s
      else { s with fw := { s.fw with pendReset := some ⟨4, 0, 16, some (s.now + msT 10)⟩ } })) s)

/-- SCHED (R420): applied as SCHED.WRITE would, when the schedule is grove-fed and owned by the base configuration or the
mode overlay; else refused. -/
def execSched (p : Fin 2) (frame : List Byte) (s : State) : Host.Outcome State Fault Refusal :=
  .next (receiveFw 0x42 p frame (fun g s =>
    let k := beNat (g.payload.take 1)
    let d := beNat ((g.payload.drop 1).take 1)
    let ws := wordsOfBytes (g.payload.drop 4)
    let h := mw ws 0
    let ps := (ws.drop 1).take 8
    let fed : Bool := match s.fw.image with | some im => decide (k < 32) && bit im.groveSched k | none => false
    if g.payload.length = 40 ∧ fed ∧ 1 ≤ d ∧ d ≤ 7 ∧ ownerBase (mkRef 0x04 k) s ∧ schedOk k d h ps s then
      (0, evalSchedules (ringEvent 6 (putSched k d h ps s)))
    else (1, s)) s)

/-- CAL (R420): likewise as SCHED.CALENDAR. -/
def execCal (p : Fin 2) (frame : List Byte) (s : State) : Host.Outcome State Fault Refusal :=
  .next (receiveFw 0x43 p frame (fun g s =>
    let e := beNat (g.payload.take 1)
    let ws := wordsOfBytes (g.payload.drop 4)
    let fed : Bool := match s.fw.image with | some im => im.groveCal | none => false
    if g.payload.length = 16 ∧ e < 64 ∧ fed ∧ ownerBase (mkRef 0x05 0) s ∧ calForm (mw ws 0) ∧ calOk (mw ws 0) (mw ws 1) then
      (0, evalSchedules (ringEvent 6 (putCal e (ws.take 3) s)))
    else (1, s)) s)

/-! ### Points across devices (R414 to R416) -/

/-- The 8-byte entries of a POINT or ZONE frame: 1 to 32; none for another length. -/
def frameEntries (l : List Byte) : List (List Byte) :=
  if l.length % 8 = 0 ∧ l.length ≤ 256 then (List.range (l.length / 8)).map (fun i => (l.drop (8 * i)).take 8) else []

/-- R415, R166: a value and flags written to a virtual point. -/
def importValue (n : Nat) (v : F32) (flags : Nat) (s : State) : State :=
  if domOn .rta s then
    let fin := f32Fin v
    let y := if fin then v else s.reg (aRqLo n)
    let range := !fin || f32Lt v (s.reg (aRqLo n)) || f32Lt (s.reg (aRqHi n)) v
    publish n y (timeBaseMs s) (if range then flags ||| 4 else flags) s
  else s

/-- POINT (R415): each entry is written to its virtual point, or counted in IMPDROP. -/
def execPoint (p : Fin 2) (frame : List Byte) (s : State) : Host.Outcome State Fault Refusal :=
  .next (receive 0xC1 p frame (fun g s => (0, forEach (frameEntries g.payload) (fun e s =>
    let n := beNat (e.take 1)
    if s.f (aRqPcfg n) 29 3 = 4 then
      let s := { s with gft := { s.gft with imports := tblSet none s.gft.imports n (some ⟨s.now, beNat ((e.drop 2).take 1)⟩) } }
      importValue n (BitVec.ofNat 32 (beNat (e.drop 4))) (beNat ((e.drop 1).take 1)) s
    else s.bump aGraftStat 8 8) s)) s)

/-- When export entry k is due. -/
def exportDue (k : Nat) (s : State) : Nat :=
  match tblGet none s.gft.exportAt k with | some t => t + msT (100 * s.f (aGraftExp k) 16 8) | none => 0
/-- The destination of export entry k. -/
def exportDst (k : Nat) (s : State) : Nat := if s.b (aGraftExp k) 30 then 0xFF else s.f (aGraftExp k) 26 4

/-- EXPORT_DUE (R414, R415): entry k and those due with it to the same destination, at most 32 to a frame. -/
def execExportDue (k : Fin 64) (s : State) : Host.Outcome State Fault Refusal :=
  .next (if domOn .gft s && decide (grState s = 2) && s.b (aGraftExp k) 31 then
    (let s := freshLine (s.advTo (exportDue k s))
     let l := (k.val :: (List.range 64).filter (fun j => decide (j ≠ k.val) && s.b (aGraftExp j) 31 && decide (exportDue j s ≤ s.now)
       && decide (exportDst j s = exportDst k s))).take 32
     let pl := l.flatMap (fun j =>
       let w := s.reg (aGraftExp j)
       [BitVec.ofNat 8 (fld w 8 8), BitVec.ofNat 8 (s.f (aRqLvthi (fld w 0 8)) 0 8), BitVec.ofNat 8 (fld w 16 8), 0]
         ++ wordToBytes (s.reg (aRqLvtlo (fld w 0 8))))
     let s := { s with gft := { s.gft with exportAt := l.foldl (fun t j => tblSet none t j (some s.now)) s.gft.exportAt } }
     sendFrame 0xC1 (exportDst k s) pl s)
    else s)

/-- IMPORT_TIMEOUT (R416): 3 periods without an entry: the last value again, with OPEN. -/
def execImportTimeout (p : Fin 256) (s : State) : Host.Outcome State Fault Refusal :=
  .next (match tblGet none s.gft.imports p with
    | some i =>
      if s.f (aRqPcfg p) 29 3 = 4 then
        let s := s.advTo (i.at_ + msT (300 * i.period))
        let s := { s with gft := { s.gft with imports := tblSet none s.gft.imports p (some { i with at_ := s.now }) } }
        importValue p (s.reg (aRqLvtlo p)) (s.f (aRqLvthi p) 0 8 ||| 0x80) s
      else s
    | none => s)

/-! ### Zones that span devices (R417, R418) -/

/-- ZONE (R418): each linked zone that the configuration ties to this node and zone takes mode and setpoint from its
entry. -/
def execZone (p : Fin 2) (frame : List Byte) (s : State) : Host.Outcome State Fault Refusal :=
  .next (receiveFw 0xC2 p frame (fun g s =>
    let links := match s.fw.image with | some im => im.zoneLinks | none => []
    let es := (frameEntries g.payload).filter (fun e => links.any (fun l => decide (l.zone = beNat ((e.drop 1).take 1))
      && decide (l.node = g.src) && decide (l.remote = beNat (e.take 1))) && decide (beNat ((e.drop 2).take 1) ≤ 4))
    let s := forEach es (fun e s =>
      let z := beNat ((e.drop 1).take 1)
      let s := setZone z { zoneSt z s with linkLost := false } s
      let i : ZoneIn := ⟨s.now, beNat ((e.drop 2).take 1), beNat ((e.drop 3).take 1), BitVec.ofNat 32 (beNat (e.drop 4))⟩
      { s with gft := { s.gft with zoneIn := tblSet none s.gft.zoneIn z (some i) } }) s
    (0, recomputeModes (es.map (fun e => beNat ((e.drop 1).take 1))) s)) s)

/-- R417: what an entry of home zone z says: mode, flags, setpoint. -/
def zoneEntry (z : Nat) (s : State) : Nat × Nat × F32 :=
  let st := zoneSt z s
  let ovr := (tblGet none s.fw.modeOvr z).isSome || (tblGet none s.fw.spOvr z).isSome
  (st.mode.getD (fallbackMode z s), st.precond.toNat + 2 * st.optstop.toNat + 4 * ovr.toNat, st.sp)

/-- ZONE_ENTRY_SEND (R417): at a change of mode or setpoint, else 10 s after the last entry. -/
def execZoneEntrySend (z : Fin 48) (s : State) : Host.Outcome State Fault Refusal :=
  .next (
    let links := match s.fw.image with | some im => im.homeLinks.filter (fun l => decide (l.zone = z.val)) | none => []
    if ready s && domOn .gft s && decide (grState s = 2) && decide (links ≠ []) then
      let e := zoneEntry z s
      let s := match tblGet none s.gft.zoneOut z with
        | some (t, m, _, sp) => if m = e.1 ∧ sp = e.2.2 then s.advTo (t + secT 10) else s
        | none => s
      let s := { s with gft := { (freshLine s).gft with zoneOut := tblSet none s.gft.zoneOut z (some (s.now, e.1, e.2.1, e.2.2)) } }
      forEach ((links.map (·.node)).dedup) (fun n s =>
        sendFrame 0xC2 n ((links.filter (fun l => l.node = n)).flatMap (fun l =>
          [BitVec.ofNat 8 z, BitVec.ofNat 8 l.remote, BitVec.ofNat 8 e.1, BitVec.ofNat 8 e.2.1] ++ wordToBytes e.2.2)) s) s
    else s)

/-- ZONE_LINK_TIMEOUT (R418): no entry for 30 s: LINKLOST, and the zone runs on its own schedule. -/
def execZoneLinkTimeout (z : Fin 48) (s : State) : Host.Outcome State Fault Refusal :=
  .next (
    let linked := match s.fw.image with | some im => im.zoneLinks.any (fun l => l.zone = z.val) | none => false
    if ready s && linked && !(zoneSt z s).linkLost then
      let s := s.advTo ((match tblGet none s.gft.zoneIn z with | some e => e.at_ | none => 0) + secT 30)
      recomputeModes [z.val] (setZone z { zoneSt z s with linkLost := true } s)
    else s)

/-! ### GROVE commands (R430) -/

/-- GROVE_STATUS (R430). -/
def execGroveStatus (id : Nat) (s : State) : Host.Outcome State Fault Refusal :=
  .next (runCmd id 0x0A01 (fun _ s =>
    (.done stOk [asRead aGraftStat s, s.reg aGraftNodes, s.reg aGraftTick, s.reg (aGraftPort 0), s.reg (aGraftPort 1)], s)) s)

/-- GROVE_RESET_NODE (R430): answered after the ACK of RESET. -/
def execGroveResetNode (id : Nat) (s : State) : Host.Outcome State Fault Refusal :=
  .next (runCmd id 0x0A02 (fun c s =>
    let m := mw c.words 1
    checked [(!onlyBits m 0xF, stBadArg), (!acting s, stNotFound), (decide (fld m 0 4 = myNode s), stRange)] s
      (.running, sendReliable 0x45 (fld m 0 4) [] (some id) (freshLine s))) s)

/-- The GRAFT block object. -/
def graftRef : Word := mkRef 0x1F 0x0B0

/-- GROVE_ALLOTMENT (R430, R431): reads or writes a share group. -/
def execGroveAllotment (id : Nat) (s : State) : Host.Outcome State Fault Refusal :=
  .next (runCmd id 0x0A03 (fun c s =>
    let m := mw c.words 1
    let v := mw c.words 2
    let g := fld m 0 2
    let shows := fun (s : State) => Reply.done stOk (s.reg (aGraftShare g) :: (List.range 8).map (fun k =>
      let n := fun i => if s.b (aGraftShare g) i then inForce i s else 0
      halves (n (2 * k)) (n (2 * k + 1))))
    checked [(!onlyBits m 0x80000003, stBadArg), (!acting s, stNotFound)] s (
      if !bit m 31 then (shows s, s)
      else if claimed graftRef s then (conflictOn graftRef s, s)
      else checked [(graftBad (aGraftShare g) v s, stRange)] s
        (let s := s.setReg (aGraftShare g) v; (shows s, s)))) s)

/-- GROVE_SCHED_PUSH (R430, R419, R108): the named schedules and the calendar go to the named nodes; a named node that is
not present is unreachable. -/
def execGroveSchedPush (id : Nat) (s : State) : Host.Outcome State Fault Refusal :=
  .next (runCmd id 0x0A04 (fun c s =>
    let ks := (List.range 32).filter (fun k => bit (mw c.words 1) k)
    let m := mw c.words 2
    let cal := bit m 16
    let refs := ks.map (mkRef 0x04)
    checked [(!onlyBits m 0x1FFFF, stBadArg), (!acting s, stNotFound)] s (
      match refs.find? (fun r => !ownerFree r s) with
      | some r => (conflictOn r s, s)
      | none =>
        let nodes := (List.range 16).filter (fun n => bit m n)
        let here := nodes.filter (fun n => nodePresent n s && decide (n ≠ myNode s))
        let bad := (nodes.filter (fun n => !decide (n ∈ here))).foldl (fun a n => a + 2 ^ n) 0
        let frames := 7 * ks.length + (if cal then 64 else 0)
        if here = [] ∨ frames = 0 then
          (.ends stOk [BitVec.ofNat 32 (fld m 0 16 - bad), BitVec.ofNat 32 bad], s)
        else
          let s := grantService refs 4 (msgTag c.words) id (freshLine s)
          let s := { s with gft := { s.gft with push := s.gft.push ++ [⟨id, fld m 0 16, here.map (fun n => (n, frames)), bad⟩] } }
          (.running, forEach here (fun n s =>
            let s := forEach ks (fun k s => sendSchedTo n k (some id) s) s
            if cal then sendCalTo n (some id) s else s) s))) s)

end Sys2Proof.Machine
end

