-- ==== Sys2Proof/Machine/SysCmds.lean ====
section
/-! DEFINITION. Sys2Proof/Machine/SysCmds.lean: the SYS commands: identification and status (R566, R567), the owner of an
object (R107), aborting (R95, R96), reset (R524), the diagnostic dump (R568 to R570), firmware images (R534, R535). -/

namespace Sys2Proof.Machine

open Sys2Proof

/-! ### Firmware images (R534, R535) -/

/-- Word k of image slot n of the flash; erased words are all ones. -/
def slotImage (n k : Nat) (s : State) : Word := tblGet 0xFFFFFFFF s.pwr.flash (131072 * n + k)
/-- Program a word: bits change from 1 to 0 only. -/
def programWord (n k : Nat) (w : Word) (s : State) : State :=
  { s with pwr := { s.pwr with flash := tblSet 0xFFFFFFFF s.pwr.flash (131072 * n + k) (slotImage n k s &&& w) } }
/-- STATE of a slot (R534). -/
def slotState (n : Nat) (s : State) : Nat := fld (slotImage n 1 s) 24 8
/-- SVN of a slot. -/
def slotSvn (n : Nat) (s : State) : Nat := fld (slotImage n 1 s) 8 8
/-- VERSION of a slot. -/
def slotVersion (n : Nat) (s : State) : Word := slotImage n 2 s
/-- LENGTH of a slot. -/
def slotLen (n : Nat) (s : State) : Nat := (slotImage n 3 s).toNat
/-- STATE is programmed. -/
def programState (n v : Nat) (s : State) : State := programWord n 1 (setFld 0xFFFFFFFF 24 8 v) s
/-- The header and the body of a slot. -/
def slotWords (n : Nat) (s : State) : List Word := (List.range (64 + slotLen n s / 4)).map (fun k => slotImage n k s)

/-- R534: MAGIC and FORMAT match and LENGTH is within its range. -/
def slotForm (n : Nat) (s : State) : Bool :=
  decide (slotImage n 0 s = 0x4F484D53) && decide (fld (slotImage n 1 s) 16 8 = 1) && decide (4 ≤ slotLen n s)
    && decide (slotLen n s ≤ 524032) && decide (slotLen n s % 4 = 0)
/-- R534: a slot is valid, STATE apart. -/
def slotGood (n : Nat) (s : State) : Bool :=
  slotForm n s && Config.imageSigned (slotWords n s) && decide (svnFloorNow s ≤ slotSvn n s) && decide (slotSvn n s ≤ 31)

/-- VERSION of the ROM firmware (R566). -/
def romVersion : Word := 0x01000000
/-- SRC: 0 ROM, 1 slot 0, 2 slot 1. -/
def bootSrc (s : State) : Nat := s.f aSysBootstat 30 2
/-- VERSION of the running firmware. -/
def runningVersion (s : State) : Word := if bootSrc s = 0 then romVersion else slotVersion (bootSrc s - 1) s

/-- OP of SYS.FW_UPDATE. -/
def fwOp (c : Cmd) : Nat := fld (mw c.words 1) 24 8
/-- The slot that it names. -/
def fwSlot (c : Cmd) : Nat := fld (mw c.words 1) 0 1

/-- R535: a row of SYS.FW_UPDATE: format, the flash, then the running slot. -/
def fwUpdate (id op : Nat) (free : Bool) (body : Cmd → State → Reply × State) (s : State) : State :=
  runOp id 0x0107 fwOp op [1, 2, 3, 4, 5] (fun c s =>
    checked [(!onlyBits (mw c.words 1) 0xFF000001, stBadArg), (decide (op = 2) && decide ((mw c.words 2).toNat % 4 ≠ 0), stBadArg), (!domOn .bus s, stNoResource)] s (
      if !free && decide (bootSrc s = fwSlot c + 1) then (.done stConflict [0, 0], s)
      else if !s.pwr.sfdp && decide (op ≠ 5) then (.ends stStoreFail [], s)
      else body c s)) s

/-- FW_UPDATE_ERASE (R535). -/
def execFwUpdateErase (id : Nat) (s : State) : Host.Outcome State Fault Refusal :=
  .next (fwUpdate id 1 false (fun c s =>
    (.ends stOk [], { s with pwr := { s.pwr with flash := tblDrop (fun k => k / 131072 = fwSlot c) s.pwr.flash } })) s)

/-- FW_UPDATE_WRITE (R535). -/
def execFwUpdateWrite (id : Nat) (s : State) : Host.Outcome State Fault Refusal :=
  .next (fwUpdate id 2 false (fun c s =>
    let off := (mw c.words 2).toNat
    let ws := argWords c 3
    let n := fwSlot c
    checked [(decide (524288 < off + 4 * ws.length), stRange),
        ((List.range ws.length).any (fun i => decide (slotImage n (off / 4 + i) s ≠ 0xFFFFFFFF)), stRange)] s
      (.ends stOk [], forEach ws.zipIdx (fun p s => programWord n (off / 4 + p.2) p.1 s) s)) s)

/-- FW_UPDATE_VERIFY (R534, R535): programs STATE pending. -/
def execFwUpdateVerify (id : Nat) (s : State) : Host.Outcome State Fault Refusal :=
  .next (fwUpdate id 3 false (fun c s =>
    let n := fwSlot c
    if !slotForm n s || !Config.imageSigned (slotWords n s) then (.ends stAuthFail [], s)
    else if slotSvn n s < svnFloorNow s then (.ends stRange [], s)
    else (.ends stOk [], programState n 0x7F s)) s)

/-- FW_UPDATE_CONFIRM (R535): only the running trial image confirms its own slot. -/
def execFwUpdateConfirm (id : Nat) (s : State) : Host.Outcome State Fault Refusal :=
  .next (fwUpdate id 4 true (fun c s =>
    let n := fwSlot c
    if bootSrc s = n + 1 ∧ s.b aSysBootstat 29 then
      let s := (programState n 0x3F s).setB aSysBootstat 29 false
      let f := max (svnFloorNow s) (slotSvn n s % 32)
      (.ends stOk [], { s with pwr := { s.pwr with svnf := some f } })
    else (.done stConflict [0, 0], s)) s)

/-- FW_UPDATE_STATUS (R535). -/
def execFwUpdateStatus (id : Nat) (s : State) : Host.Outcome State Fault Refusal :=
  .next (fwUpdate id 5 true (fun _ s =>
    (.ends stOk [BitVec.ofNat 32 (((slotState 0 s * 256 + slotState 1 s) * 256 + svnFloorNow s) * 256 + bootSrc s),
      slotVersion 0 s, slotVersion 1 s, romVersion], s)) s)

/-! ### Identification and status (R566, R567) -/

/-- The reply words of SYS.INFO. -/
def infoWords (s : State) : List Word :=
  let node := BitVec.ofNat 32 (grRole s * 2 ^ 30 + (acting s).toNat * 2 ^ 29 + (decide (grState s = 2)).toNat * 2 ^ 28 + nodeId s * 2 ^ 16)
  [s.reg aHpId, BitVec.ofNat 32 (myIdent / 2 ^ 32), BitVec.ofNat 32 myIdent, runningVersion s, romVersion, asRead aSysBootstat s,
    match s.fw.image with | some im => im.ident | none => 0, node]

/-- SYS_INFO (R566). -/
def execSysInfo (id : Nat) (s : State) : Host.Outcome State Fault Refusal :=
  .next (runCmd id 0x0101 (fun _ s => (.done stOk (infoWords s), s)) s)

/-- R87: a command in flight holds a tag. -/
def tagged (c : Cmd) : Bool := (!c.ghost || c.holds) && decide (msgTag c.words < 48) && decide (c.origin = .mailbox ∨ c.origin = .service)
/-- The command in flight on a tag. -/
def inFlight (tag : Nat) (s : State) : Option Cmd := s.fw.cmds.find? (fun c => tagged c && decide (msgTag c.words = tag))

/-- SYS_STATUS (R567). -/
def execSysStatus (id : Nat) (s : State) : Host.Outcome State Fault Refusal :=
  .next (runCmd id 0x0102 (fun c s =>
    let lv := fun d => s.f (aThermDie d) 29 3
    let n := (s.fw.cmds.filter tagged).length
    (.done stOk [hpRead c.secure aHpStat s, s.reg aSysRstcause, asRead aSysBootstat s, s.reg aSysPwrstat, s.reg aSysPfstat,
      BitVec.ofNat 32 (lv 0 * 2 ^ 24 + lv 1 * 2 ^ 16 + lv 2 * 2 ^ 8 + s.pwr.tenHi.toNat), BitVec.ofNat 32 (nowSec { s with now := s.now - s.pwr.t0 }),
      s.reg aSysSferr, halves (min 65535 s.fw.internalCount) n, s.reg aEschStat], s)) s)

/-- SYS_OWNER (R107). -/
def execSysOwner (id : Nat) (s : State) : Host.Outcome State Fault Refusal :=
  .next (runCmd id 0x0104 (fun c s =>
    let r := mw c.words 1
    checked [(decide (refCheck r ≠ 0), refCheck r)] s (.done stOk [ownerOf r s], s)) s)

/-! ### Aborting (R95, R96) -/

/-- R568, R570: a collect of the diagnostic dump whose end is still to come. -/
def collecting (c : Cmd) : Bool := c.ending.isSome && decide (msgCode c.words = 0x0106) && decide (fld (mw c.words 1) 24 8 = 0)

/-- R96, R423: a command that can be aborted stops: a forwarded one by an ABORT frame, a run by its service, one that has
not started at once (R570: a collect loses its dump); `reason` is the code a LOOP.TUNE reports (R253). -/
def abortCmd (c : Cmd) (reason : Nat) (s : State) : State :=
  match c.fwdTo with
  | some n => sendReliable 0x44 n [BitVec.ofNat 8 (msgTag c.words), 0, 0, 0] none s
  | none =>
    match s.fw.services.find? (fun v => v.cmd = some c.id) with
    | some v => handBackAll (stopService v reason stAborted s)
    | none => finishCmd c.id stAborted [] (if collecting c then { s with fw := { s.fw with dump := [] } } else s)

/-- SYS_ABORT (R95). -/
def execSysAbort (id : Nat) (s : State) : Host.Outcome State Fault Refusal :=
  .next (runCmd id 0x0103 (fun c s =>
    checked [(!onlyBits (mw c.words 1) 0x3F, stBadArg)] s (
      match inFlight (fld (mw c.words 1) 0 6) s with
      | none => (.st stNotFound, s)
      | some x =>
        if x.secure && !c.secure then (.st stDenied, s)
        else if x.reply.isSome then (.st stNotFound, s)
        else if (cmdInfo (msgCode x.words)).map (·.1) = some .longAbortable then (.st stOk, abortCmd x 1 (freshLine s))
        else (.done stConflict [0, 0], s))) s)

/-! ### Reset (R524) -/

/-- SYS_RESET (R524): the save of a device reset is made here, on a die that answers (log entry 21); the reset follows the
posting of the reply. -/
def execSysReset (id : Nat) (s : State) : Host.Outcome State Fault Refusal :=
  .next (runCmd id 0x0105 (fun c s =>
    let m := mw c.words 1
    let sc := fld m 0 2
    checked [(!onlyBits m 3, stBadArg), (decide (sc = 3), stBadArg)] s (
      let pending := match s.fw.pendReset with | some r => decide (sc ≤ r.scope) | none => false
      if pending then (.st stOk, s)
      else
        let s := if sc ≠ 0 ∧ s.pwr.inService ∧ domOn .hwd s then (saveSections saveOk s).2 else s
        (.st stOk, { s with fw := { s.fw with pendReset := some ⟨sc, c.id, c.chan, none⟩ } }))) s)

/-! ### The diagnostic dump (R568 to R570) -/

/-- OP of SYS.DIAG_DUMP. -/
def dumpOp (c : Cmd) : Nat := fld (mw c.words 1) 24 8

/-- R569: a register as the dump holds it. -/
def dumpReg (sec : Bool) (s : State) (a : Nat) : Word := if domOn (addrDom a) s then (regRead sec 0 a s).1 else 0

/-- R569: the lifetime layer of the lowest enabled recorder channel of die d; zeros without one. -/
def dieLayer (d : Nat) (s : State) : List Word :=
  match (List.range 256).find? (fun c => s.b (aGrrChcfg c) 31 && decide (s.f (aGrrChcfg c) 29 2 = 1) && decide (s.f (aGrrChcfg c) 0 8 = d)) with
  | some c => if domOn .grr s then (List.range 40).map (fun i => recPartWord c 2 i s) else List.replicate 40 0
  | none => List.replicate 40 0

/-- R569: the journal entries up to the head, oldest first; zeros where there is none. -/
def dumpJournal (s : State) : List Word :=
  (List.range 16).flatMap (fun i =>
    let j := journalHead s + i
    match if domOn .hwd s ∧ 16 ≤ j then tblGet none s.heart.journal ((j - 15) % 256) else none with
    | some e => if e.jseq = j - 15 then (List.range 8).map (journalWord e) else List.replicate 8 0
    | none => List.replicate 8 0)

/-- R569: words 0 to 685 of a dump. -/
def dumpBody (sec : Bool) (s : State) : List Word :=
  let r := dumpReg sec s
  let each := fun (n : Nat) (f : Nat → List Nat) => ((List.range n).flatMap f).map r
  let gr := fun (a n : Nat) => (List.range n).map (fun k => if domOn .grr s then recWord (a + k) s else 0)
  ([0x44474D50, 1] ++ infoWords s ++ [BitVec.ofNat 32 ((timeNow s).getD 0xFFFFFFFF), 0, 0, 0, 0, 0])
  ++ [aSysRstcause, aSysStrap, aSysBootstat, aSysPfstat, aSysPwrstat, aSysSferr, aSysSfdrop, aHpErrlog].map r
  ++ each 16 (fun k => [aRtcScar k])
  ++ [aGrrStat, aGrrBanks, aGrrEcc].map r ++ gr (healthBase + 2) 13 ++ gr histBase 64
  ++ each 9 (fun k => [aThermTs k]) ++ each 3 (fun k => [aThermDie k]) ++ [aThermCnt, aThermSafestat].map r
  ++ (List.range 3).flatMap (fun d => dieLayer d s)
  ++ [aHwdStat, aHwdEcc, aHwdSel, aHwdSave, aHwdJseq].map r ++ dumpJournal s
  ++ each 48 (fun n => [aDrvDiag n, aDrvCnt n]) ++ each 16 (fun f => [aFanStat f, aFanCnt f])
  ++ [aDrvGstat, aEschStat, aEschCnt].map r ++ each 6 (fun c => [aRootCnvstat c])
  ++ each 6 (fun p => [aBusPstat p, aBusPcnt p]) ++ each 8 (fun k => [aBusI2cstat k])
  ++ each 5 (fun g => [aTwigSegstat g, aTwigSegcnt g]) ++ [aGraftStat, aGraftPcnt 0, aGraftPcnt 1, aQspiStat].map r
  ++ (s.fw.faultLog ++ List.replicate 128 0).take 128

/-- DIAG_DUMP_COLLECT (R568, R569, R570). -/
def execDiagDumpCollect (id : Nat) (s : State) : Host.Outcome State Fault Refusal :=
  .next (runOp id 0x0106 dumpOp 0 [0, 1] (fun c s =>
    checked [(!onlyBits (mw c.words 1) 0, stBadArg)] s (
      let b := dumpBody c.secure s
      let crc := crc32c (bytesOfWords b)
      (.ends stOk [BitVec.ofNat 32 (b.length + 1), crc], { s with fw := { s.fw with dump := b ++ [crc] } }))) s)

/-- DIAG_DUMP_READ (R568, R570: not while a collect runs). -/
def execDiagDumpRead (id : Nat) (s : State) : Host.Outcome State Fault Refusal :=
  .next (runOp id 0x0106 dumpOp 1 [0, 1] (fun c s =>
    let off := fld (mw c.words 1) 0 10
    checked [(!onlyBits (mw c.words 1) 0xFF0003FF, stBadArg), (decide (686 < off), stBadArg), (s.fw.dump.isEmpty || s.fw.cmds.any collecting, stNotFound)] s (
      let ws := (s.fw.dump.drop off).take 13
      (.ends stOk (halves off ws.length :: ws), s))) s)

end Sys2Proof.Machine
end

