-- ==== Sys2Proof/Machine/Firmware.lean ====
section
/-! DEFINITION. Sys2Proof/Machine/Firmware.lean: taking messages (R58, R59, R68, R80 to R91, R609), posting replies (R65 to
R67, R85), epoch changes (R72 to R74), forwarding through the grove (R421 to R423). -/

namespace Sys2Proof.Machine

open Sys2Proof

/-! ### Intake (R81, R91) -/

/-- R81: the least and largest LEN that a command defines; `lenOk` judges those whose LEN depends on their payload. -/
def lenRange (code : Nat) : Nat × Nat :=
  match code with
  | 0x0101 => (0, 0) | 0x0102 => (0, 0) | 0x0103 => (1, 1) | 0x0104 => (1, 1) | 0x0105 => (1, 1) | 0x0106 => (1, 1)
  | 0x0107 => (1, 15)
  | 0x0201 => (3, 3) | 0x0202 => (2, 15) | 0x0203 => (1, 1) | 0x0204 => (3, 3) | 0x0205 => (3, 3) | 0x0206 => (1, 1)
  | 0x0301 => (1, 7) | 0x0302 => (2, 2) | 0x0303 => (1, 15) | 0x0304 => (1, 1)
  | 0x0401 => (1, 1) | 0x0402 => (3, 15) | 0x0403 => (2, 2) | 0x0404 => (6, 6)
  | 0x0501 => (1, 1) | 0x0502 => (3, 3) | 0x0503 => (1, 1) | 0x0504 => (1, 1)
  | 0x0601 => (2, 2) | 0x0602 => (11, 11) | 0x0603 => (5, 5) | 0x0604 => (2, 2)
  | 0x0701 => (1, 1) | 0x0702 => (4, 4) | 0x0703 => (2, 2) | 0x0704 => (2, 2) | 0x0705 => (1, 1) | 0x0706 => (0, 0)
  | 0x0801 => (1, 1) | 0x0802 => (4, 4) | 0x0803 => (2, 2) | 0x0804 => (1, 1)
  | 0x0901 => (3, 3) | 0x0902 => (1, 1) | 0x0903 => (1, 15) | 0x0904 => (2, 2) | 0x0905 => (11, 11)
  | 0x0A01 => (0, 0) | 0x0A02 => (1, 1) | 0x0A03 => (2, 2) | 0x0A04 => (2, 2)
  | 0x0B01 => (4, 4) | 0x0B02 => (5, 15) | 0x0B03 => (3, 3) | 0x0B04 => (3, 3) | 0x0B05 => (0, 0)
  | 0x0C01 => (2, 2) | 0x0C02 => (2, 2) | 0x0C03 => (3, 3) | 0x0C04 => (1, 1)
  | 0x0D01 => (0, 0) | 0x0D02 => (1, 1) | 0x0D03 => (3, 3) | 0x0D04 => (1, 1)
  | 0x0E01 => (1, 1) | 0x0E02 => (2, 15) | 0x0E03 => (1, 15) | 0x0E04 => (1, 15) | 0x0E05 => (1, 1)
  | 0x0F01 => (0, 0) | 0x0F02 => (2, 2) | 0x0F03 => (1, 1)
  | 0x1001 => (0, 0) | 0x1002 => (0, 0) | 0x1003 => (1, 1) | 0x1004 => (1, 1)
  | _ => (0, 0)

/-- R81, R91 row 2: LEN is what the command defines, by its payload where that says how long it is. -/
def lenOk (ws : List Word) : Bool :=
  let l := lenRange (msgCode ws)
  let n := msgLen ws
  decide (l.1 ≤ n ∧ n ≤ l.2) &&
  match msgCode ws with
  | 0x0107 =>
    let op := fld (mw ws 1) 24 8
    if op = 2 then decide (3 ≤ n) else !decide (1 ≤ op ∧ op ≤ 5) || decide (n = 1)
  | 0x0303 =>
    let op := fld (mw ws 1) 24 8
    if op = 0 then decide (n = 1) else !decide (op = 1 ∨ op = 2) || decide (2 ≤ n)
  | 0x0402 => decide (n = 2 + ((List.range 13).filter (fun i => bit (mw ws 2) i)).length)
  | 0x0903 => decide (n = 1 ∨ n = 2 + (fld (mw ws 2) 0 8 + 3) / 4)
  | 0x0B02 => decide (n = 5 + fld (mw ws 2) 0 4)
  | _ => true

/-- R80, R81, R91 row 2: the header is well formed. -/
def headerOk (ws : List Word) : Bool :=
  (cmdInfo (msgCode ws)).isSome && (decide (msgTag ws < 48) || decide (msgTag ws = 63)) && lenOk ws
    && !bit (mw ws 0) 0 && (msgFwd ws || decide (msgNode ws = 0))

/-- A command enters the list of commands taken. -/
def addCmd (c : Cmd) (s : State) : State := { s with fw := { s.fw with cmds := s.fw.cmds ++ [c], nextId := s.fw.nextId + 1 } }

/-- A message that is answered and not run: a duplicate (R68, R88) or a header that fails a check. One that is no duplicate
holds a free tag until its reply is posted (R87). -/
def answerCmd (c : Cmd) (status : Nat) (interim dup : Bool) (s : State) : State :=
  let s := { s with fw := { s.fw with orderCtr := s.fw.orderCtr + 1 } }
  addCmd { c with ghost := true, holds := !dup && (inFlight (msgTag c.words) s).isNone, order := s.fw.orderCtr, reply := some (replyWords c status [] interim dup (nodeId s)) } s

/-- R421: a command goes to a grove node in an MBOX frame. -/
def forwardCmd (c : Cmd) (node : Nat) (s : State) : State :=
  let m0 := mw c.words 0 &&& 0xFFFFFFC1
  let payload := [BitVec.ofNat 8 (c.chan % 16 + 16 * c.secure.toNat), BitVec.ofNat 8 (msgTag c.words)] ++ beBytes 2 c.seq
    ++ bytesOfWords (m0 :: c.words.drop 1)
  sendReliable 0x41 node payload (some c.id) (freshLine (addCmd { c with fwdTo := some node } s))

/-- R536: the commands that recovery mode serves. -/
def recoveryCmds : List Nat := [0x0101, 0x0102, 0x0105, 0x0107, 0x0B05]

/-- R82, R410: this device may forward. -/
def forwards (s : State) : Bool := decide (grRole s = 3) || acting s

/-- R91 rows 1 to 6, R536: a message taken; a forwarded one has passed rows 1 and 4 to 6 on the master (R421, R422). -/
def intake (c : Cmd) (s : State) : State :=
  let ws := c.words
  let tag := msgTag ws
  let own := decide (c.origin = .mailbox ∨ c.origin = .service)
  let held := if own then inFlight tag s else none
  match if own then s.fw.recs.find? (fun r => decide (r.chan = c.chan) && decide (r.seq = c.seq) && decide (r.tag = tag)) else none with
  | some r => answerCmd c r.status false true s
  | none =>
    if (match held with | some x => !x.discard && decide (x.chan = c.chan) && decide (x.seq = c.seq) | none => false) then answerCmd c stAccepted true true s
    else if !headerOk ws then answerCmd c stBadArg false false s
    else
      let info := (cmdInfo (msgCode ws)).getD (.short, false)
      let trusted := c.secure || (decide (c.origin = .service) && s.fw.recovery)
      if info.2 && !trusted then answerCmd c stDenied false false s
      else if held.isSome then answerCmd c stBusyTag false false s
      else if own && info.1 ≠ .short && decide (tag = 63) then answerCmd c stBadArg false false s
      else if own && msgFwd ws && !forwards s then answerCmd c stBadArg false false s
      else if s.fw.recovery && !decide (msgCode ws ∈ recoveryCmds) then answerCmd c stNoResource false false s
      else if own && msgFwd ws && decide (msgNode ws ≠ myNode s) then
        (if nodePresent (msgNode ws) s then forwardCmd c (msgNode ws) s else answerCmd c stUnreachable false false s)
      else addCmd c s

/-- A command as taken (R58, R81: the words above M(LEN) are ignored). -/
def newCmd (ch seq : Nat) (ws : List Word) (secure restarted : Bool) (o : Origin) (s : State) : Cmd :=
  ⟨s.fw.nextId, ch, seq, ws.take (msgLen ws + 1), secure, o, false, .none, false, none, 0, false, restarted, none, none, false⟩

/-- The words M0 to M15 of inbound channel ch. -/
def inWords (ch : Nat) (s : State) : List Word := (List.range 16).map (fun k => s.reg (aHpInM ch k))

/-- R609: a word of the message in inbound channel ch fails its parity. -/
def parityFails (ch : Nat) (s : State) : Bool :=
  ((List.range 16).map (fun k => 0x100 + 128 * ch + 4 * k) ++ [0x14C + 128 * ch]).any (fun a => tblGet false s.hp.badPar a)

/-- R59, R73: the channel whose message is taken next: FULL, its world's epoch not changing, the earliest GO, of those of one
time the lowest channel. -/
def nextMessage (s : State) : Option Nat :=
  let l := (List.range 16).filter (fun ch => inFull ch s && !epochPending (secureCh ch) s)
  l.foldl (fun m ch => match m with
    | some x => if tblGet 0 s.hp.goAt ch < tblGet 0 s.hp.goAt x then some ch else some x
    | none => some ch) none

/-- R65, R85, R422: entries of the reply store in use; forwarded commands are held apart. -/
def storeUsed (s : State) : Nat := (s.fw.cmds.filter (fun c => decide (c.origin = .mailbox ∨ c.origin = .service))).length

/-- MESSAGE_TAKE (R58, R59, R609): words whose parity fails were brought by frames (log entry 170). -/
def execMessageTake (s : State) : Host.Outcome State Fault Refusal :=
  .next (if !ready s || decide (64 ≤ storeUsed s) then s
    else
      match nextMessage s with
      | none => s
      | some ch =>
        let a := aHpInStat ch
        if parityFails ch s then setIempty ch (putStat a false false false true true s)
        else
          let o : Origin := if ch = 15 ∧ s.hp.svcMsg then .service else .mailbox
          let c := newCmd ch (s.f (aHpInSeq ch) 0 16) (inWords ch s) (secureCh ch) (tblGet false s.hp.restarted ch) o s
          let s := setIempty ch (putStat a false true (s.b a 2) (s.b a 3) (s.b a 4) s)
          let s := { s with hp := { s.hp with restarted := tblSet false s.hp.restarted ch false } }
          intake c s)

/-! ### Posting (R65 to R68, R85, R87) -/

/-- The command whose reply comes next on a channel, among those that satisfy `p`. -/
def nextReply (p : Cmd → Bool) (s : State) : Option Cmd :=
  (s.fw.cmds.filter (fun c => p c && (c.reply.isSome || decide (c.interim = .queued)))).foldl (fun m c => match m with
    | some x => if c.order < x.order then some c else some x
    | none => some c) none

/-- The words of the reply that a command posts next (R84, R85). -/
def wordsToPost (c : Cmd) (s : State) : List Word :=
  match c.reply with
  | some ws => ws
  | none => replyWords c stAccepted [] true false (c.fwdTo.getD (nodeId s))

/-- R68: the record of a command whose final reply is posted; the last 8 of a channel stay. -/
def addRec (r : Rec68) (s : State) : State :=
  let mine := (s.fw.recs.filter (fun x => decide (x.chan = r.chan))).take 7
  { s with fw := { s.fw with recs := r :: mine ++ s.fw.recs.filter (fun x => decide (x.chan ≠ r.chan)) } }

/-- R569: an INTERNAL status is reported: it counts and enters the fault log. What the fault code and address are is not
in the spec: free values. -/
def noteInternal (c : Cmd) (status : Nat) (s : State) : State :=
  if status ≠ stInternal then s
  else
    let d := s.draw
    let e := d.2.draw
    let ws := [BitVec.ofNat 32 ((timeNow s).getD 0xFFFFFFFF), BitVec.ofNat 32 (msgCode c.words), d.1, e.1]
    let log := s.fw.faultLog ++ ws
    { e.2 with fw := { e.2.fw with internalCount := satAdd 16 s.fw.internalCount 1, faultLog := log.drop (log.length - 128) } }

/-- The reply of command c has been posted: an interim one is gone, a final one frees the entry and the tag (R85, R87) and
leaves its record (R68); SYS.RESET counts from here (R524). -/
def replyPosted (c : Cmd) (s : State) : State :=
  match c.reply with
  | none => updCmd c.id (fun c => { c with interim := .posted }) s
  | some ws =>
    let status := fld (mw ws 1) 24 8
    let s := dropCmd c.id s
    let s := if bit (mw ws 0) 1 then s else addRec ⟨c.chan, c.seq, msgTag c.words, status⟩ s
    let s := noteInternal c status s
    match s.fw.pendReset with
    | some r =>
      if r.cmd = c.id ∧ r.at_.isNone ∧ r.scope ≤ 2 then
        { s with fw := { s.fw with pendReset := some { r with at_ := some (s.now + msT (if r.scope = 0 then 10 else 100)) } } }
      else s
    | none => s

/-- R53, R67: the words of a reply enter outbound channel ch: FULL sets, the other flags clear, SEQ counts up. -/
def putReply (ch : Nat) (ws : List Word) (s : State) : State :=
  let s := forEach ws.zipIdx (fun p s => storeWord (0x900 + 128 * ch + 4 * p.2) p.1 s) s
  let s := storeWord (0x94C + 128 * ch) (BitVec.ofNat 32 ((s.f (aHpOutSeq ch) 0 16 + 1) % 65536)) s
  let s := putStat (aHpOutStat ch) true false false false false s
  let h := { s.hp with postAt := tblSet 0 s.hp.postAt ch s.now, postTmo := tblSet 0 s.hp.postTmo ch (s.f (aHpOutTmo ch) 0 16) }
  { s with hp := h }

/-- R389: a reply to the service UART leaves at once. -/
def sendService (c : Cmd) (ws : List Word) (s : State) : State :=
  if c.origin = .service then releaseReply c.chan (svcSend (svcFrame 2 c.seq ws) s) else s

/-- R421: replies of forwarded commands of channel ch go back to the master. -/
def postForwarded (ch : Nat) (s : State) : State :=
  match nextReply (fun c => decide (c.chan = ch) && !decide (c.origin = .mailbox ∨ c.origin = .service)) s with
  | none => s
  | some c =>
    let node := match c.origin with | .grove n => n | _ => 0
    let payload := [BitVec.ofNat 8 (c.chan % 16 + 16 * c.secure.toNat), BitVec.ofNat 8 (msgTag c.words)] ++ beBytes 2 c.seq
      ++ bytesOfWords (wordsToPost c s)
    let s := sendReliable 0x81 node payload none (freshLine s)
    match c.reply with
    | none => updCmd c.id (fun c => { c with interim := .posted }) s
    | some ws => noteInternal c (fld (mw ws 1) 24 8) (dropCmd c.id s)

/-- R65, R67: the next reply of channel ch is posted when its outbound channel is not FULL. -/
def postNext (ch : Nat) (s : State) : State :=
  if outFull ch s then s
  else
    match nextReply (fun c => decide (c.chan = ch) && decide (c.origin = .mailbox ∨ c.origin = .service)) s with
    | none => s
    | some c => let ws := wordsToPost c s; sendService c ws (replyPosted c (putReply ch ws s))

/-- REPLY_POST (R65, R67, R421): resources of ended runs pass on first (R96, R105). -/
def execReplyPost (ch : Fin 16) (s : State) : Host.Outcome State Fault Refusal :=
  .next (if ready s then postNext ch (postForwarded ch (handBackAll s)) else s)

/-! ### Epoch changes (R72 to R74) -/

/-- R72 steps 3 and 4: a command of the old epoch: a queued reply is discarded; an abortable one stops; of the others the
reply is discarded later (R74). A SYS.RESET whose reply goes this way is due at once. -/
def discardCmd (c : Cmd) (s : State) : State :=
  let s := match s.fw.pendReset with
    | some r => if r.cmd = c.id ∧ r.at_.isNone then { s with fw := { s.fw with pendReset := some { r with at_ := some s.now } } } else s
    | none => s
  if c.reply.isSome then dropCmd c.id s
  else
    let s := updCmd c.id (fun c => { c with discard := true, interim := .posted }) s
    if (cmdInfo (msgCode c.words)).map (·.1) = some .longAbortable then abortCmd c 2 s else s

/-- R72 step 3: the posted reply of a channel is cleared without TAKEN; step 6: its SEQ returns to 0. -/
def clearOut (ch : Nat) (s : State) : State :=
  let a := aHpOutStat ch
  let s := if outFull ch s then putStat a false (s.b a 1) (s.b a 2) (s.b a 3) (s.b a 4) s else s
  storeWord (0x94C + 128 * ch) 0 s

/-- R72 steps 3 to 7. -/
def endEpoch (sec : Bool) (s : State) : State :=
  let mine := s.fw.cmds.filter (fun c => decide (c.secure = sec) && decide (c.origin = .mailbox ∨ c.origin = .service))
  let s := forEach mine discardCmd (forEach (worldChans sec) clearOut (freshLine s))
  let s := forEach ((s.fw.claims.filter (fun c => decide (c.secure = sec))).map (·.ref)) endClaim s
  let s := { s with fw := { s.fw with recs := s.fw.recs.filter (fun r => decide (secureCh r.chan ≠ sec)),
                                      load := if sec then none else s.fw.load } }
  ringBit (if sec then 28 else 1) (s.setB aHpStat (pendBit sec) false)

/-- EPOCH_CHANGE (R72): firmware completes the change of a world's epoch. -/
def execEpochChange (secure : Bool) (s : State) : Host.Outcome State Fault Refusal :=
  .next (if ready s && epochPending secure s then endEpoch secure s else s)

/-! ### Forwarding (R421 to R423) -/

/-- MBOX (R421, R422): a member takes a forwarded command; beyond 16 it is answered with NO_RESOURCE. -/
def execMbox (p : Fin 2) (frame : List Byte) (s : State) : Host.Outcome State Fault Refusal :=
  .next (receiveFw 0x41 p frame (fun g s => (0,
    let b := beNat (g.payload.take 1)
    let c := newCmd (b % 16) (beNat ((g.payload.drop 2).take 2)) (wordsOfBytes (g.payload.drop 4)) (decide (b / 16 % 2 = 1)) false (.grove g.src) s
    if g.payload.length < 8 then s
    else if 16 ≤ s.fw.cmds.length - storeUsed s then answerCmd c stNoResource false false s
    else intake c s)) s)

/-- MBOX_REPLY (R421, R423): the reply to a forwarded command in flight; any other is discarded. -/
def execMboxReply (p : Fin 2) (frame : List Byte) (s : State) : Host.Outcome State Fault Refusal :=
  .next (receiveFw 0x81 p frame (fun g s => (0,
    let b := beNat (g.payload.take 1)
    let ws := wordsOfBytes (g.payload.drop 4)
    let mine := fun (c : Cmd) => decide (c.fwdTo = some g.src) && c.reply.isNone && decide (c.chan = b % 16)
      && decide (msgTag c.words = beNat ((g.payload.drop 1).take 1)) && decide (c.seq = beNat ((g.payload.drop 2).take 2))
    match s.fw.cmds.find? mine with
    | none => s
    | some c =>
      if !acting s || decide (g.payload.length < 12) then s
      else if bit (mw ws 0) 2 then queueInterim c.id s
      else if c.discard then dropCmd c.id s
      else
        let s := { s with fw := { s.fw with orderCtr := s.fw.orderCtr + 1 } }
        updCmd c.id (fun c => { c with reply := some ws, order := if c.interim = .queued then c.order else s.fw.orderCtr }) s)) s)

/-- ABORT_FRAME (R423): the forwarded command with the master's tag stops as under SYS.ABORT. -/
def execAbortFrame (p : Fin 2) (frame : List Byte) (s : State) : Host.Outcome State Fault Refusal :=
  .next (receiveFw 0x44 p frame (fun g s => (0,
    match s.fw.cmds.find? (fun c => decide (c.origin = .grove g.src) && decide (msgTag c.words = beNat (g.payload.take 1)) && !c.ghost) with
    | some c =>
      if c.reply.isNone ∧ (cmdInfo (msgCode c.words)).map (·.1) = some .longAbortable then abortCmd c 1 s else s
    | none => s)) s)

/-- FORWARD_NODE_ABSENT (R422): the node has been absent for 2 s with forwarded commands in flight. -/
def execForwardNodeAbsent (node : Fin 16) (s : State) : Host.Outcome State Fault Refusal :=
  .next (match tblGet none s.gft.absentAt node with
    | some t =>
      let mine := s.fw.cmds.filter (fun c => decide (c.fwdTo = some node.val) && c.reply.isNone)
      if ready s && !mine.isEmpty then
        let s := s.advTo (t + secT 2)
        let ids := mine.map (·.id)
        let live := fun (x : GrSend) => match x.cmd with | some id => !decide (id ∈ ids) | none => true
        let s := { s with gft := { s.gft with unacked := s.gft.unacked.filter live, backlog := s.gft.backlog.filter live } }
        forEach ids (fun id s => finishCmd id stUnreachable [] s) s
      else s
    | none => s)

end Sys2Proof.Machine
end

