-- ==== Sys2Proof/Machine/Power.lean ====
section
/-! DEFINITION. Sys2Proof/Machine/Power.lean: power-on reset, RESET_N and device resets (R513, R519 to R521, R524, R525),
start-up (R530, R533, R536), the choice of a firmware image (R534, R523), Crown restarts (R75, R79, R532), the power-fail
warning (R514 to R517), domains that power up (R511, R481). -/

namespace Sys2Proof.Machine

open Sys2Proof

/-! ### Choosing the image to run (R534, R523) -/

/-- A slot that the boot ROM can run: valid, with this STATE. -/
def slotRuns (n state : Nat) (s : State) : Bool := s.pwr.sfdp && decide (slotState n s = state) && slotGood n s

/-- R534 row 2: the valid confirmed slot with the higher VERSION. -/
def confirmedSlot (s : State) : Option Nat :=
  match slotRuns 0 0x3F s, slotRuns 1 0x3F s with
  | true, true => some (if (slotVersion 0 s).toNat < (slotVersion 1 s).toNat then 1 else 0)
  | true, false => some 0
  | false, true => some 1
  | false, false => none

/-- SRC and TRIAL. -/
def putBoot (src : Nat) (trial : Bool) (s : State) : State := (s.setF aSysBootstat 30 2 src).setB aSysBootstat 29 trial

/-- R534: the image that runs; a trial that failed three times is rejected, or the ROM firmware is forced (R523). -/
def chooseBoot (s : State) : State :=
  let three := decide (3 ≤ s.f aSysBootstat 16 8)
  if three && s.b aSysBootstat 29 then
    let s := programState (bootSrc s - 1) 0x1F s
    match (if s.b aSysBootstat 27 then none else confirmedSlot s) with
    | some n => putBoot (n + 1) false s
    | none => putBoot 0 false s
  else if three then putBoot 0 false (s.setB aSysBootstat 27 true)
  else
    match [0, 1].find? (fun n => slotRuns n 0x7F s) with
    | some n => putBoot (n + 1) true s
    | none =>
      match (if s.b aSysBootstat 27 then none else confirmedSlot s) with
      | some n => putBoot (n + 1) false s
      | none => putBoot 0 false s

/-! ### READY (R530 steps 9 and 11, R75 step 4) -/

/-- R331, R342: firmware releases unclaimed channels and fans once READY is set. -/
def releaseUnclaimed (s : State) : State := releaseAllFans (releaseAllSafe s)

/-- R517: domains that the warning switched off are requested again, and the operating point of CRN is restored. -/
def pfRestore (s : State) : State :=
  let s := if s.pwr.pfOff = 0 then s else pwrctlWrite (s.reg aSysPwrctl ||| s.pwr.pfOff) s
  let s := if s.pwr.pfOpp = 0 then s else oppStep 0 (s.setReg (aSysOpp 0) ((s.reg (aSysOpp 0) &&& 0xFFFFFE00) ||| s.pwr.pfOpp))
  { s with pwr := { s.pwr with pfOff := 0, pfOpp := 0 } }

/-- R447, R506: the power-fail save; SAVEOK, its time word in the backup SRAM and, for the next start-up, PFLAST when
it completes. -/
def pfSave (m : SaveMedium) (s : State) : State :=
  let r := saveSections m s
  match r.1 with
  | some true =>
    let s := bramWritten (showDuration ((r.2.setB aSysPfstat 29 true).setB aHwdStat 25 true))
    { s with heart := { s.heart with pfSave := some s.heart.saveCtr } }
  | _ => r.2

/-- R516: firmware's part of a warning: RTB, RTP, BUS and GFT (bits 2, 3, 6 and 7 of SYS_PWRCTL) go off. -/
def pfAct (m : SaveMedium) (s : State) : State :=
  let off := s.reg aSysPwrctl &&& 0xCC
  let s := pwrctlWrite (s.reg aSysPwrctl &&& ~~~(0xCC : Word)) { s with pwr := { s.pwr with pfOff := s.pwr.pfOff ||| off } }
  let req := s.reg (aSysOpp 0) &&& 0x1FF
  let s : State := { s with pwr := { s.pwr with pfOpp := if s.pwr.pfOpp = 0 then req else s.pwr.pfOpp, pfLate := false } }
  let s := oppStep 0 (s.setF (aSysOpp 0) 0 9 (min 100 (fld req 0 8)))
  if s.pwr.inService && domOn .hwd s then pfSave m s else s

/-- READY sets: CRST clears, CWDCNT returns to 0 (R523), what waited for firmware is done (R77, R78, R302, R506), and
channels and fans are released. -/
def becomeReady (s : State) : State :=
  let s := ((s.setB aHpStat 31 true).setB aHpStat 30 false).setF aSysBootstat 16 8 0
  let back := s.hp.backDue
  let s := if s.hp.lossDue then enterHostLoss s else s
  let s := if back then leaveHostLoss s else s
  let s := applyWaitingTime s
  let evs := s.fw.events
  let s : State := forEach evs ringEvent { s with fw := { s.fw with events := [] } }
  let s := if s.b aSysPfstat 30 then (if s.pwr.pfLate then pfAct saveOk s else s) else pfRestore s
  { releaseUnclaimed s with pwr := { s.pwr with kickAt := s.now, crownAt := none } }

/-! ### What Heartwood gives back -/

/-- R450: the shadows of the user areas, from the copies in use. -/
def loadShadows (s : State) : State :=
  let l := (List.range 4).flatMap (fun a => match recordInUse (5 + a) s with
    | some f => (match f.payload with | .user w => (w.filter (fun e => e.1 < 2048)).map (fun e => (2048 * a + e.1, e.2)) | _ => [])
    | none => [])
  { s with heart := { s.heart with shadow := l } }

/-- The parameters record in use (R441: none when absent). -/
def paramsInUse (s : State) : Option ParamRec :=
  (recordInUse 1 s).bind (fun f => match f.payload with | .params p => some p | _ => none)

/-- R449, R459: the trend cursor and the bad sectors; without a record the oldest record kept. -/
def restoreCursor (p : Option ParamRec) (s : State) : State :=
  let c := match p with | some p => p.cursor | none => oldestPos s
  { s with trend := { s.trend with c := c, r := c, e := c, bad := match p with | some p => p.bad | none => s.trend.bad } }

/-- R308, R309: command triggers and overrides of the parameters record. -/
def restoreOverrides (p : Option ParamRec) (s : State) : State :=
  let f := match p with
    | some p => { s.fw with cmdTrig := p.cmdTrig, modeOvr := p.modeOvr, spOvr := p.spOvr }
    | none => { s.fw with cmdTrig := [], modeOvr := [], spOvr := [] }
  { s with fw := f }

/-- R449, R420: schedule and calendar words that the record keeps; at a device start-up only the grove-fed ones of a
member. -/
def restoreSched (boot : Bool) (im : Image) (p : Option ParamRec) (s : State) : State :=
  let member := decide (grRole s = 1 ∨ grRole s = 2)
  let keep := fun (k : Nat) => !boot || (member && bit im.groveSched (k / 128))
  let sch := match p with | some p => withChanges im.sched (p.sched.filter (fun e => keep e.1)) | none => im.sched
  let cal := match p with | some p => if !boot || (member && im.groveCal) then withChanges im.cal p.cal else im.cal | none => im.cal
  { s with fw := { s.fw with sched := sch, cal := cal } }

/-- R266: θ, ρ and NUPD from the parameters, P from MODELS; without a saved P the model starts again with θ kept. The
registers show what is restored; ρ of a model that had no update starts at CREF (R260). -/
def restoreModels (p : Option ParamRec) (s : State) : State :=
  match p with
  | none => s
  | some p =>
    let saved := (recordInUse 3 s).bind (fun f => match f.payload with | .models m => some m | _ => none)
    forRange 48 (fun z s =>
      match tblFind p.models z with
      | none => s
      | some (theta, rho, n) =>
        let r := match saved.bind (fun m => tblFind m z) with | some q => (q, n.toNat) | none => (modSt0.p, 0)
        let s := setMod z { modSt z s with theta := theta, rho2 := rho, p := r.1, fresh := decide (n = 0) } s
        let s := forRange 7 (fun k s => s.setReg (aModelTh z k) (shown (nth theta k 0))) s
        let s := forRange 28 (fun k s => s.setReg (aModelP z k) (shown (nth r.1 k 0))) s
        (s.setReg (aModelRms z) (shown (f64Sqrt rho))).setF (aModelCnt z) 16 16 r.2) s

/-- CONTROL in use. -/
def controlInUse (s : State) : Option ControlRec :=
  (recordInUse 2 s).bind (fun f => match f.payload with | .control c => some c | _ => none)

/-- R448, R239: the slots take CONTROL when its image is the one being activated. -/
def restoreSlots (s : State) : State :=
  match controlInUse s with
  | some c =>
    if c.imgCrc = s.fw.imgCrc ∧ domOn .cmb s = true then
      forEach c.slots (fun e s =>
        let s := (s.setReg (aCambInt e.1) e.2.1).setReg (aCambOut e.1) e.2.2.1
        setSlot e.1 { slotSt e.1 s with pvf := e.2.2.2.1 } s) s
    else s
  | none => s

/-- R448, R320: positions and current models are restored in either case; POSUNK sets where none is saved. -/
def restoreChans (s : State) : State :=
  match controlInUse s with
  | some c => forEach c.chans (fun e s =>
      let s := (s.setReg (aDrvPos e.1) e.2.1).setB (aDrvDiag e.1) 9 e.2.2.1
      (s.setF (aEschMod e.1) 0 12 e.2.2.2.1).setF (aEschMod e.1) 28 3 e.2.2.2.2) s
  | none => forRange 48 (fun n s => s.setB (aDrvDiag n) 9 true) s

/-- R447: MIXED and PFLAST, by the saves that wrote the sections in use. -/
def showSaves (s : State) : State :=
  let l := [2, 3, 4].filterMap (fun r => (recordInUse r s).map (·.save))
  let s := s.setB aHwdStat 27 (l.any (fun n => decide (n ≠ l.headD 0)))
  s.setB aHwdStat 25 (!l.isEmpty && l.all (fun n => decide (s.heart.pfSave = some n)))

/-! ### Start-up (R530) -/

/-- R511, R530: domains come on, requested and in force. -/
def powerUp (ds : List Dom) (s : State) : State :=
  forEach ds (fun d s => match domBit d with
    | some b => domainOn d (s.setB aSysPwrctl b true)
    | none => s) s

/-- Step 3: straps; step 4: the flash, and the image chosen. -/
def startStraps (boot : BootPins) (recovery : Bool) (s : State) : State :=
  let odd := decide (2 ≤ boot.bootSel.val)
  let s := (s.setF aSysStrap 4 2 boot.role.val).setF aSysStrap 0 2 boot.bootSel.val
  let s := s.setB aSysBootstat 26 odd
  let s := powerUp [.bus] { s with pwr := { s.pwr with flashMbit := boot.flashMbit, sfdp := boot.sfdp, heartOk := boot.heartwood } }
  let s := (s.setB aQspiStat 31 (!boot.sfdp)).setF aQspiStat 0 16 (if boot.sfdp then boot.flashMbit else 0)
  let s := s.setB aQspiStat 28 (boot.sfdp && decide (128 < boot.flashMbit))
  let d := s.draw
  let s := if boot.sfdp then d.2.setF aQspiStat 29 2 (d.1.toNat % 3) else s
  if recovery then { (putBoot 0 false s).setB aSysBootstat 28 true with fw := { s.fw with recovery := true } }
  else chooseBoot s

/-- Step 5: Heartwood is recovered and its records chosen. -/
def startHeart (s : State) : State :=
  let s := powerUp [.hwd] s
  if heartOn s then
    let s := showSaves (chooseRecords (recoverJournal true s))
    s.setB aHwdStat 26 (keysMissing s)
  else forRange 10 (fun r s => s.setB aHwdSel (16 + r) true) (s.setB aHwdStat 26 true)

/-- R515: VIN measured, the threshold set. -/
def startVwarn (mv : Nat) (im : Option Image) (s : State) : State :=
  let s := (s.setF aSysPfstat 0 16 (min mv 65535)).setB aSysPfstat 28 (decide (mv < 2700))
  let s := pfcfgWrite (setFld (s.reg aSysPfcfg) 0 16 (max (9 * mv / 10) 2550)) s
  match im.bind (·.vwarn) with
  | some v => pfcfgWrite (setFld (s.reg aSysPfcfg) 0 16 v) s
  | none => s

/-- R512: the domains that stay on at step 6. -/
def usedDomains (im : Option Image) (s : State) : List Dom :=
  switchable.filter (fun d => match domBit d with
    | some b => (decide (d = .hwd) || decide (d = .rta) || (match im with | some i => bit (usedMask i) b | none => true))
        && (decide (d ≠ .gft) || decide (grRole s ≠ 0))
    | none => false)

/-- Steps 6 to 8: the configuration activated, saved state restored, slots started. -/
def startConfig (vinMv : Nat) (s : State) : State :=
  let bytes := if heartOn s then imageBytes s else []
  let im := if (recordInUse 0 s).isSome && heartOn s then Config.parseImage bytes else none
  let keep := usedDomains im s
  let s := forEach switchable (fun d s => match domBit d with
    | some b => if d ∈ keep then s else domainOff d (s.setB aSysPwrctl b false)
    | none => s) (powerUp keep s)
  let s := startVwarn vinMv im s
  let p := paramsInUse s
  let s := restoreCursor p (loadShadows s)
  let s := match im with
    | none => restoreChans s
    | some i =>
      let s := match i.cwdMs with | some n => cwdWrite (BitVec.ofNat 32 (n % 2048)) s | none => s
      let s := restoreSched true i p (restoreOverrides p s)
      let s := activate i (crc32c bytes) ((chooseCopy 0 s).1.getD false) true s
      judgeExpiries (restoreSlots (restoreChans (barkSafe 1 s)))
  let s := restoreModels p s
  let s := initPasswords s
  let s := if (timeNow s).isNone then ringEvent 7 s else s
  let s : State := { s with pwr := { s.pwr with inService := true }, heart := { s.heart with saveAt := s.now, parAt := s.now, scrubAt := s.now } }
  if domOn .cmb s then gctlWrite 0x80000000 s else s

/-- R530, R533, R536: the sequence from step 1 to step 11. -/
def startUp (boot : BootPins) (s : State) : State :=
  let recovery := decide (boot.bootSel = 1) || s.pwr.recNext
  let s := s.advTo (s.pwr.t0 + msT (if recovery then 300 else 380))
  let s := startHeart (startStraps boot recovery s)
  let s := if recovery then s else startConfig boot.vinMv s
  let s := becomeReady { s with pwr := { s.pwr with startDue := false, recNext := false } }
  let s := if !recovery && decide (grRole s ≠ 0) && domOn .gft s then graftCtlWrite (s.reg aGraftCtl ||| 0x80000000) s else s
  ringBit 0 s

/-- START_UP (R530): once the cause of the reset has ended; a warning in force holds it (R531). -/
def execStartUp (boot : BootPins) (s : State) : Host.Outcome State Fault Refusal :=
  .next (if s.pwr.held.isSome || !s.pwr.startDue || s.b aSysPfstat 30 then s else startUp boot s)

/-! ### Crown restart (R75, R79, R522, R523, R532) -/

/-- R75 step 1: READY clears, CRST sets. -/
def crownHold (s : State) : State := (s.setB aHpStat 31 false).setB aHpStat 30 true

/-- CROWN_WATCHDOG_EXPIRY (R79, R522, R523, R531): no kick for INTERVAL ms. An expiry before READY follows a choice of the
boot ROM, and counts. -/
def execCrownWatchdogExpiry (s : State) : Host.Outcome State Fault Refusal :=
  .next (if s.pwr.held.isSome then s
    else
      let s := s.advTo (s.pwr.kickAt + msT (cwdInterval s))
      let s := if ready s then s else (if s.fw.recovery then s else chooseBoot s).bump aSysBootstat 16 8
      let s := crownHold ((resetCause 2 s).setB aHpIrq 3 true)
      let s := barkSafe 2 s
      let at_ := if s.pwr.startDue then none else some s.now
      { s with pwr := { s.pwr with kickAt := s.now, crownAt := at_ } })

/-- R75 step 2, R96, R423: a command taken and without final reply ends with ABORTED and RESTARTED. A LOOP.TUNE run is
stopped and reported with reason RESTART (R257): READY waits for every such reply, and the slot leaves TUNE at its next
evaluation. -/
def restartCmd (c : Cmd) (s : State) : State :=
  if c.reply.isSome then s
  else
    let s := updCmd c.id (fun c => { c with restarted := true }) s
    match c.fwdTo with
    | some n =>
      let s := if acting s then sendReliable 0x44 n [BitVec.ofNat 8 (msgTag c.words), 0, 0, 0] none s else s
      finishCmd c.id stAborted [] s
    | none =>
      match s.fw.services.find? (fun v => v.cmd = some c.id) with
      | some v =>
        let s := stopService v 3 stAborted s
        (match s.camb.runs.find? (fun r => some r.cmd = v.cmd) with
         | some r => if v.svc = 1 then finishTune r s else finishCmd c.id stAborted [] s
         | none => finishCmd c.id stAborted [] s)
      | none => finishCmd c.id stAborted [] s

/-- R532 steps 4 and 5: the configuration in use is read again, overrides and entries come back from the parameters
record, and every schedule, mode and trigger is evaluated; only what changed is written. -/
def reloadConfig (s : State) : State :=
  let before := s
  let oldItems := match s.fw.image with | some o => imageItems o | none => []
  let bytes := imageBytes s
  let read := if heartOn s && (recordInUse 0 s).isSome then Config.parseImage bytes else none
  match read with
  | none => s
  | some im =>
    let p := paramsInUse s
    let old := s.fw.image
    let s : State := { s with fw := { s.fw with image := some im, imgCrc := crc32c bytes, copyB := (chooseCopy 0 s).1.getD s.fw.copyB,
                                                trig := keepTrigs old im s.fw.trig } }
    let s := restoreSched false im p (restoreOverrides p (restoreCursor p s))
    let refs := ((imageRefs s) ++ oldItems.map (·.ref)).dedup
    let s := forEach allZones recomputeZone s
    let s := forRange 16 (fun k s => forRange 2 (evalTrig k) s) s
    let conds := triggeredConds s
    let s : State := { s with fw := { s.fw with active := triggeredSafety s ++ conds.take 3, pendingOv := conds.drop 3 } }
    let s : State := if s.fw.active = before.fw.active ∧ s.fw.pendingOv = before.fw.pendingOv then s else ringEvent 5 s
    let s := if allZones.all (fun z => decide ((zoneSt z s).mode = (zoneSt z before).mode)) then s else ringEvent 4 s
    judgeExpiries (evalSchedules (applyRefs oldItems refs s))

/-- R532: the Crown die restarts in service; in recovery mode it runs the ROM firmware again (R536). What Crown SRAM held alone is lost: the load session, the dump, the clear
token, the trend buffer, words of the user areas not committed. -/
def crownRestart (s : State) : State :=
  let s := crownHold (resetFabric .crn s)
  let s := if heartOn s then recoverJournal true s else s
  let s := if s.fw.recovery then s else chooseBoot s
  let s := loadShadows (loseBuffer s)
  let lost := { s.fw with load := none, dump := [], clearToken := none, crownPts := [],
                          pendReset := s.fw.pendReset.filter (fun r => decide (r.scope ≠ 0)) }
  let s : State := { s with fw := lost }
  let s := if s.fw.recovery then s else reloadConfig s
  let s := handBackAll (forEach s.fw.cmds restartCmd (freshLine s))
  let full := (List.range 16).filter (fun ch => inFull ch s)
  let s : State := { s with hp := { s.hp with restarted := forEach full (fun ch t => tblSet false t ch true) s.hp.restarted } }
  ringBit 0 (ringBit 2 (becomeReady (forRange 16 (fun ch s => postNext ch (postForwarded ch s)) s)))

/-- CROWN_RESTART (R532, R75, R524): after a watchdog expiry, or 10 ms after the reply to a SYS.RESET of scope 0; READY is
back 300 ms later. -/
def execCrownRestart (s : State) : Host.Outcome State Fault Refusal :=
  .next (if s.pwr.held.isSome || s.pwr.startDue then s
    else
      match s.pwr.crownAt, s.fw.pendReset with
      | some t, _ => crownRestart (s.advTo (t + msT 300))
      | none, some ⟨0, _, _, some t⟩ => crownRestart (resetCause 3 (s.advTo (t + msT 300)))
      | none, _ => s)

/-! ### Resets (R513, R519 to R521, R524, R525) -/

/-- R513, R520, R528: the power-on reset: every domain but BKP, the comparator, and every cause but POR. -/
def porReset (s : State) : State :=
  let s := enterReset false s
  let drop := fun (a : Nat) => decide (a = aThermSafestat) || decide (a = aThermSafeval) || decide (a = aThermCnt) || decide (a = aSysStrap)
  let s : State := { s with regs := tblDrop drop s.regs, ther := therReset, pwr := { s.pwr with held := some .por } }
  s.setReg aSysRstcause 1

/-- POWER_ON_RESET (R513): VIN falls through 2.30 V. -/
def execPowerOnReset (s : State) : Host.Outcome State Fault Refusal :=
  .next (if s.pwr.held = some .por then s else porReset s)

/-- POWER_ON_RESET_RELEASE (R513, R529, R564): at least 100 µs after the fall; SAFE_SEL and TEN are sampled. RESET_N that
is low then holds the part on (R520). -/
def execPowerOnResetRelease (safeSel : Fin 8) (ten : Bool) (s : State) : Host.Outcome State Fault Refusal :=
  .next (if s.pwr.held ≠ some .por then s
    else
      let s := releaseHold (s.advTo (s.pwr.t0 + usT 100))
      let s : State := { s with ther := { s.ther with safeSel := safeSel.val, porAt := s.now }, pwr := { s.pwr with tenHi := ten, startDue := true } }
      let s := s.setF aSysStrap 8 3 safeSel.val
      if s.pwr.pinLow then resetCause 1 s else s)

/-- RESET_PIN (R519 to R521): RESET_N has been low for 10 µs, or is high again. -/
def execResetPin (low : Bool) (s : State) : Host.Outcome State Fault Refusal :=
  .next (
    if low then
      let s : State := { s with pwr := { s.pwr with pinLow := true } }
      match s.pwr.held with
      | some .por => s
      | some _ => resetCause 1 s
      | none => (fun (s : State) => { s with pwr := { s.pwr with held := some .pin } }) (enterReset false (resetCause 1 s))
    else
      let s : State := { s with pwr := { s.pwr with pinLow := false } }
      if s.pwr.held = some .pin then releaseHold s else s)

/-- DEVICE_RESET (R524, R525): a SYS.RESET of scope 1 or 2, saved when it was taken, or a grove RESET, which saves
first. -/
def execDeviceReset (s : State) : Host.Outcome State Fault Refusal :=
  .next (if s.pwr.held.isSome then s
    else
      match s.fw.pendReset with
      | some ⟨sc, _, _, some t⟩ =>
        if sc = 0 then s
        else
          let s := s.advTo t
          let s := if sc = 4 ∧ s.pwr.inService ∧ domOn .hwd s then (saveSections saveOk s).2 else s
          let s := enterReset false (resetCause (if sc = 4 then 4 else 3) s)
          { s with pwr := { s.pwr with recNext := decide (sc = 2) } }
      | _ => s)

/-! ### The power-fail warning (R514 to R517, R447) -/

/-- R514, R515: PFAIL_N or the comparator raises the warning; before step 6 only PFAIL_N. -/
def warningOn (pin : Bool) (vinMv : Nat) (s : State) : Bool :=
  (pin && s.b aSysPfcfg 31) ||
  (decide (vinMv < s.f aSysPfcfg 0 16) && s.b aSysPfcfg 30 && !s.b aSysPfstat 28 && s.pwr.inService)

/-- R514: a reading of the supply starts or ends the time for which it has been good. -/
def noteSupply (r : SupplyReading) (s : State) : State :=
  let good := !r.pin && decide (s.f aSysPfcfg 0 16 + 100 < r.vinMv)
  { s with pwr := { s.pwr with vinGood := if good then some (s.pwr.vinGood.getD s.now) else none } }

/-- POWER_FAIL_WARNING (R514, R516, R531): a reading of the supply; with PFAIL_N low, or VIN found below VWARN, the warning
rises. A warning that rises during a Crown restart finds firmware at READY. A reading during a warning says whether it
can clear (log entry 132). -/
def execPowerFailWarning (r : SupplyReading) (s : State) : Host.Outcome State Fault Refusal :=
  let s := noteSupply r s
  .next (if s.pwr.held.isSome || s.b aSysPfstat 30 || !warningOn r.pin r.vinMv s then s
    else
      let s := ((s.setB aSysPfstat 30 true).setB aSysPfstat 31 true).setB aSysPfstat 29 false
      let s : State := { s with pwr := { s.pwr with pfLate := s.pwr.inService } }
      if ready s then pfAct r.medium s else s)

/-- POWER_FAIL_CLEAR (R514, R517, R442): PFAIL_N has been high and VIN above VWARN + 100 mV for 10 ms; a record write that the
warning stopped is rolled back. -/
def execPowerFailClear (s : State) : Host.Outcome State Fault Refusal :=
  .next (if s.pwr.held.isSome || !s.b aSysPfstat 30 then s
    else
      match s.pwr.vinGood with
      | none => s
      | some t =>
        let s := (s.advTo (t + msT 10)).setB aSysPfstat 30 false
        let s : State := { s with pwr := { s.pwr with pfLate := false } }
        if ready s then pfRestore (rollBackStopped s) else s)

/-! ### A domain powers up (R511) -/

/-- R511: firmware rewrites the registers of a domain from the active layers. -/
def rewriteDomain (d : Dom) (s : State) : State :=
  match s.fw.image with
  | none => s
  | some im =>
    let refs := ((imageItems im).filter (fun i => decide (i.addr < 0x1000000) && decide (addrDom i.addr = d))).map (·.ref)
    let s := rewriteRefs [] (refs.dedup.filter (fun r => decide (ownerKind (ownerOf r s) ≤ 4))) s
    let s := match d with
      | .bus => forEach im.portTmo (fun p s => if p.1 < 6 then setPort p.1 { busPort p.1 s with tmo := p.2 } s else s) s
      | .cmb => if claimed (mkRef 0x1F 0x050) s then s else gctlWrite 0x80000000 (writeOrder s)
      | .gft => if grRole s = 0 ∨ claimed (mkRef 0x1F 0x0B0) s then s else graftCtlWrite (s.reg aGraftCtl ||| 0x80000000) s
      | .brk => applyFans (forRange 48 (fun n s => applyDemand n s) (setMotors s))
      | _ => s
    refreshDblk s

/-- DOMAIN_POWER_UP (R511): at most 2 ms after the request. -/
def execDomainPowerUp (d : Fin 9) (s : State) : Host.Outcome State Fault Refusal :=
  .next (
    let dm := domOf d
    match tblGet none s.pwr.upAt d.val with
    | none => s
    | some t =>
      let s := s.advTo t
      let s := domainOn dm { s with pwr := { s.pwr with upAt := tblSet none s.pwr.upAt d.val none } }
      if ready s && !s.fw.recovery then rewriteDomain dm s else s)

/-- R483: the entry of the clear history that the next clear writes: the first never written, else the oldest. -/
def nextHistory (s : State) : Nat :=
  let free := (List.range 16).find? (fun k => fld (recWord (histBase + 4 * k + 3) s) 0 8 ≠ 0xA5)
  let age := fun (k : Nat) => (recWord (histBase + 4 * k) s).toNat
  free.getD ((List.range 16).foldl (fun a k => if age k < age a then k else a) 0)

/-- R474: the RECORDER section in use goes into the groups; G starts above the largest SEQ written, and the health record
counts the restore. -/
def restoreRecorder (s : State) : State :=
  match (if heartOn s then recordInUse 4 s else none) with
  | some f =>
    (match f.payload with
     | .recorder m =>
       let mem := m.filter (fun e => decide (e.1 < 49152) && !groupStopped (e.1 / 12288) s)
       let s : State := { s with grr := { s.grr with mem := mem } }
       let bases := (List.range 256).map chanBase ++ (List.range 48).map presBase ++ [healthBase]
       let g := bases.foldl (fun g b => max g (recWord b s).toNat) 0
       let s : State := { s with grr := { s.grr with clears := nextHistory s } }
       healthCount 12 1 (s.setReg aGrrGseq (BitVec.ofNat 32 ((g + 2) / 2 * 2)))
     | _ => s)
  | none => s

/-- GRR_POWER_UP (R481, R474): the banks are tested once after the domain powers up; `failed` names those that fail. -/
def execGrrPowerUp (failed : BitVec 5) (s : State) : Host.Outcome State Fault Refusal :=
  .next (if !domOn .grr s || s.grr.up then s
    else
      let s := restoreRecorder (mapBanks failed s)
      { s with grr := { s.grr with up := true } })

end Sys2Proof.Machine
end

