-- ==== Sys2Proof/Machine/Dispatch.lean ====
section
/-! DEFINITION. Sys2Proof/Machine/Dispatch.lean: the effect of each command, one arm per row of the opcode table. -/

namespace Sys2Proof.Machine

open Sys2Proof

/-- The effect of a command or event on everything but the queue. -/
def exec (i : Instr) (s : State) : Host.Outcome State Fault Refusal :=
  match i with
  | .flitCrcFail x1 => Sys2Proof.Machine.execFlitCrcFail x1 s
  | .bridgeLinkTimeout x1 => Sys2Proof.Machine.execBridgeLinkTimeout x1 s
  | .linkValidWordsReturn x1 => Sys2Proof.Machine.execLinkValidWordsReturn x1 s
  | .idleWord x1 x2 => Sys2Proof.Machine.execIdleWord x1 x2 s
  | .barkLinkLoss => Sys2Proof.Machine.execBarkLinkLoss s
  | .sysOppWrite x1 x2 => Sys2Proof.Machine.execSysOppWrite x1 x2 s
  | .oppStepComplete x1 => Sys2Proof.Machine.execOppStepComplete x1 s
  | .routerReceive x1 x2 => Sys2Proof.Machine.execRouterReceive x1 x2 s
  | .creditReturn x1 x2 => Sys2Proof.Machine.execCreditReturn x1 x2 s
  | .fabricResponse x1 x2 => Sys2Proof.Machine.execFabricResponse x1 x2 s
  | .registerWrite x1 x2 x3 x4 => Sys2Proof.Machine.execRegisterWrite x1 x2 x3 x4 s
  | .statusFrame x1 x2 x3 x4 => Sys2Proof.Machine.execStatusFrame x1 x2 x3 x4 s
  | .readFrame x1 x2 x3 x4 => Sys2Proof.Machine.execReadFrame x1 x2 x3 x4 s
  | .writeFrame x1 x2 x3 x4 => Sys2Proof.Machine.execWriteFrame x1 x2 x3 x4 s
  | .bothcs => Sys2Proof.Machine.execBothcs s
  | .go x1 => Sys2Proof.Machine.execGo x1 s
  | .abort x1 => Sys2Proof.Machine.execAbort x1 s
  | .replyRelease x1 => Sys2Proof.Machine.execReplyRelease x1 s
  | .nepochWrite x1 x2 => Sys2Proof.Machine.execNepochWrite x1 x2 s
  | .sepochWrite x1 => Sys2Proof.Machine.execSepochWrite x1 s
  | .epochChange x1 => Sys2Proof.Machine.execEpochChange x1 s
  | .hostwdWrite x1 x2 => Sys2Proof.Machine.execHostwdWrite x1 x2 s
  | .dbinWrite x1 x2 => Sys2Proof.Machine.execDbinWrite x1 x2 s
  | .doorbellAction x1 => Sys2Proof.Machine.execDoorbellAction x1 s
  | .messageTake => Sys2Proof.Machine.execMessageTake s
  | .inboundTimeout x1 => Sys2Proof.Machine.execInboundTimeout x1 s
  | .replyPost x1 => Sys2Proof.Machine.execReplyPost x1 s
  | .replyTimeout x1 => Sys2Proof.Machine.execReplyTimeout x1 s
  | .hostWatchdogExpiry => Sys2Proof.Machine.execHostWatchdogExpiry s
  | .crownWatchdogExpiry => Sys2Proof.Machine.execCrownWatchdogExpiry s
  | .watchdogKick x1 => Sys2Proof.Machine.execWatchdogKick x1 s
  | .crownRestart => Sys2Proof.Machine.execCrownRestart s
  | .sysInfo x1 => Sys2Proof.Machine.execSysInfo x1 s
  | .sysStatus x1 => Sys2Proof.Machine.execSysStatus x1 s
  | .sysAbort x1 => Sys2Proof.Machine.execSysAbort x1 s
  | .sysOwner x1 => Sys2Proof.Machine.execSysOwner x1 s
  | .sysReset x1 => Sys2Proof.Machine.execSysReset x1 s
  | .diagDumpCollect x1 => Sys2Proof.Machine.execDiagDumpCollect x1 s
  | .diagDumpRead x1 => Sys2Proof.Machine.execDiagDumpRead x1 s
  | .fwUpdateErase x1 => Sys2Proof.Machine.execFwUpdateErase x1 s
  | .fwUpdateWrite x1 => Sys2Proof.Machine.execFwUpdateWrite x1 s
  | .fwUpdateVerify x1 => Sys2Proof.Machine.execFwUpdateVerify x1 s
  | .fwUpdateConfirm x1 => Sys2Proof.Machine.execFwUpdateConfirm x1 s
  | .fwUpdateStatus x1 => Sys2Proof.Machine.execFwUpdateStatus x1 s
  | .cfgLoadBegin x1 => Sys2Proof.Machine.execCfgLoadBegin x1 s
  | .cfgLoadData x1 => Sys2Proof.Machine.execCfgLoadData x1 s
  | .cfgLoadEnd x1 x2 => Sys2Proof.Machine.execCfgLoadEnd x1 x2 s
  | .cfgMode x1 => Sys2Proof.Machine.execCfgMode x1 s
  | .cfgCondition x1 => Sys2Proof.Machine.execCfgCondition x1 s
  | .cfgQuery x1 => Sys2Proof.Machine.execCfgQuery x1 s
  | .pointRead x1 => Sys2Proof.Machine.execPointRead x1 s
  | .pointWrite x1 => Sys2Proof.Machine.execPointWrite x1 s
  | .pointStreamDrain x1 => Sys2Proof.Machine.execPointStreamDrain x1 s
  | .pointStreamAdd x1 => Sys2Proof.Machine.execPointStreamAdd x1 s
  | .pointStreamRemove x1 => Sys2Proof.Machine.execPointStreamRemove x1 s
  | .pointInfo x1 => Sys2Proof.Machine.execPointInfo x1 s
  | .loopRead x1 => Sys2Proof.Machine.execLoopRead x1 s
  | .loopSet x1 => Sys2Proof.Machine.execLoopSet x1 s
  | .loopMode x1 => Sys2Proof.Machine.execLoopMode x1 s
  | .loopTune x1 => Sys2Proof.Machine.execLoopTune x1 s
  | .zoneRead x1 => Sys2Proof.Machine.execZoneRead x1 s
  | .zoneSetpoint x1 => Sys2Proof.Machine.execZoneSetpoint x1 s
  | .zoneModel x1 => Sys2Proof.Machine.execZoneModel x1 s
  | .zoneModelReset x1 => Sys2Proof.Machine.execZoneModelReset x1 s
  | .schedRead x1 => Sys2Proof.Machine.execSchedRead x1 s
  | .schedWrite x1 => Sys2Proof.Machine.execSchedWrite x1 s
  | .schedCalendar x1 => Sys2Proof.Machine.execSchedCalendar x1 s
  | .schedOccupancy x1 => Sys2Proof.Machine.execSchedOccupancy x1 s
  | .driveRead x1 => Sys2Proof.Machine.execDriveRead x1 s
  | .driveCommand x1 => Sys2Proof.Machine.execDriveCommand x1 s
  | .driveDiag x1 => Sys2Proof.Machine.execDriveDiag x1 s
  | .driveSafeval x1 => Sys2Proof.Machine.execDriveSafeval x1 s
  | .driveCalibrate x1 => Sys2Proof.Machine.execDriveCalibrate x1 s
  | .driveBudget x1 => Sys2Proof.Machine.execDriveBudget x1 s
  | .fanRead x1 => Sys2Proof.Machine.execFanRead x1 s
  | .fanCommand x1 => Sys2Proof.Machine.execFanCommand x1 s
  | .fanFailsafe x1 => Sys2Proof.Machine.execFanFailsafe x1 s
  | .fanClearFail x1 => Sys2Proof.Machine.execFanClearFail x1 s
  | .busPort x1 => Sys2Proof.Machine.execBusPort x1 s
  | .busStatus x1 => Sys2Proof.Machine.execBusStatus x1 s
  | .busRaw x1 => Sys2Proof.Machine.execBusRaw x1 s
  | .busTwigDiscover x1 => Sys2Proof.Machine.execBusTwigDiscover x1 s
  | .busI2cScript x1 => Sys2Proof.Machine.execBusI2cScript x1 s
  | .groveStatus x1 => Sys2Proof.Machine.execGroveStatus x1 s
  | .groveResetNode x1 => Sys2Proof.Machine.execGroveResetNode x1 s
  | .groveAllotment x1 => Sys2Proof.Machine.execGroveAllotment x1 s
  | .groveSchedPush x1 => Sys2Proof.Machine.execGroveSchedPush x1 s
  | .storeRead x1 x2 => Sys2Proof.Machine.execStoreRead x1 x2 s
  | .storeWrite x1 => Sys2Proof.Machine.execStoreWrite x1 s
  | .storeCommit x1 x2 => Sys2Proof.Machine.execStoreCommit x1 x2 s
  | .storePassword x1 x2 => Sys2Proof.Machine.execStorePassword x1 x2 s
  | .storeStatus x1 => Sys2Proof.Machine.execStoreStatus x1 s
  | .recRead x1 => Sys2Proof.Machine.execRecRead x1 s
  | .recConfig x1 => Sys2Proof.Machine.execRecConfig x1 s
  | .recClearToken x1 => Sys2Proof.Machine.execRecClearToken x1 s
  | .recClear x1 => Sys2Proof.Machine.execRecClear x1 s
  | .recHealth x1 => Sys2Proof.Machine.execRecHealth x1 s
  | .clockGet x1 => Sys2Proof.Machine.execClockGet x1 s
  | .clockSet x1 => Sys2Proof.Machine.execClockSet x1 s
  | .clockAlarm x1 => Sys2Proof.Machine.execClockAlarm x1 s
  | .clockCalibrate x1 => Sys2Proof.Machine.execClockCalibrate x1 s
  | .expertRead x1 => Sys2Proof.Machine.execExpertRead x1 s
  | .expertWrite x1 => Sys2Proof.Machine.execExpertWrite x1 s
  | .expertClaim x1 => Sys2Proof.Machine.execExpertClaim x1 s
  | .expertRelease x1 => Sys2Proof.Machine.execExpertRelease x1 s
  | .expertClaims x1 => Sys2Proof.Machine.execExpertClaims x1 s
  | .safeStatus x1 => Sys2Proof.Machine.execSafeStatus x1 s
  | .safeForce x1 => Sys2Proof.Machine.execSafeForce x1 s
  | .safeRelease x1 => Sys2Proof.Machine.execSafeRelease x1 s
  | .trendStatus x1 => Sys2Proof.Machine.execTrendStatus x1 s
  | .trendSnapshot x1 => Sys2Proof.Machine.execTrendSnapshot x1 s
  | .trendDrain x1 => Sys2Proof.Machine.execTrendDrain x1 s
  | .trendAdvance x1 => Sys2Proof.Machine.execTrendAdvance x1 s
  | .overrideExpiry => Sys2Proof.Machine.execOverrideExpiry s
  | .inputTrip x1 => Sys2Proof.Machine.execInputTrip x1 s
  | .currLimitTrip x1 => Sys2Proof.Machine.execCurrLimitTrip x1 s
  | .isolRetest x1 x2 => Sys2Proof.Machine.execIsolRetest x1 x2 s
  | .ovrClear x1 => Sys2Proof.Machine.execOvrClear x1 s
  | .aincfgWrite x1 x2 => Sys2Proof.Machine.execAincfgWrite x1 x2 s
  | .dryRead x1 x2 => Sys2Proof.Machine.execDryRead x1 x2 s
  | .pulseEdge x1 x2 => Sys2Proof.Machine.execPulseEdge x1 x2 s
  | .stageReport x1 => Sys2Proof.Machine.execStageReport x1 s
  | .pirExcursion x1 x2 x3 => Sys2Proof.Machine.execPirExcursion x1 x2 x3 s
  | .pirHoldExpiry x1 => Sys2Proof.Machine.execPirHoldExpiry x1 s
  | .pirWarmupEnd x1 => Sys2Proof.Machine.execPirWarmupEnd x1 s
  | .pirSatResume x1 => Sys2Proof.Machine.execPirSatResume x1 s
  | .passStart x1 => Sys2Proof.Machine.execPassStart x1 s
  | .entryResult x1 x2 => Sys2Proof.Machine.execEntryResult x1 x2 s
  | .seqEntryWrite x1 x2 x3 => Sys2Proof.Machine.execSeqEntryWrite x1 x2 x3 s
  | .cnvctlWrite x1 x2 => Sys2Proof.Machine.execCnvctlWrite x1 x2 s
  | .urgentRequest x1 x2 => Sys2Proof.Machine.execUrgentRequest x1 x2 s
  | .urgentRun x1 x2 => Sys2Proof.Machine.execUrgentRun x1 x2 s
  | .resultArrival x1 => Sys2Proof.Machine.execResultArrival x1 s
  | .agedSweep => Sys2Proof.Machine.execAgedSweep s
  | .lvtLowRead x1 x2 => Sys2Proof.Machine.execLvtLowRead x1 x2 s
  | .i2cPassStart x1 => Sys2Proof.Machine.execI2cPassStart x1 s
  | .i2cTransactionEnd x1 x2 => Sys2Proof.Machine.execI2cTransactionEnd x1 x2 s
  | .i2cDelayEnd x1 => Sys2Proof.Machine.execI2cDelayEnd x1 s
  | .i2cBusRecovery x1 x2 => Sys2Proof.Machine.execI2cBusRecovery x1 x2 s
  | .i2cOvervoltage x1 => Sys2Proof.Machine.execI2cOvervoltage x1 s
  | .i2cOvvRetest x1 x2 => Sys2Proof.Machine.execI2cOvvRetest x1 x2 s
  | .twigRound x1 => Sys2Proof.Machine.execTwigRound x1 s
  | .twigPollReply x1 x2 => Sys2Proof.Machine.execTwigPollReply x1 x2 s
  | .twigReplyTimeout x1 => Sys2Proof.Machine.execTwigReplyTimeout x1 s
  | .twigReply x1 x2 => Sys2Proof.Machine.execTwigReply x1 x2 s
  | .twigShort x1 => Sys2Proof.Machine.execTwigShort x1 s
  | .twigPowerRetry x1 => Sys2Proof.Machine.execTwigPowerRetry x1 s
  | .twigPowerUpWait x1 => Sys2Proof.Machine.execTwigPowerUpWait x1 s
  | .twigSearchStep x1 x2 => Sys2Proof.Machine.execTwigSearchStep x1 x2 s
  | .twigAutoSearch x1 x2 => Sys2Proof.Machine.execTwigAutoSearch x1 x2 s
  | .display x1 x2 x3 => Sys2Proof.Machine.execDisplay x1 x2 x3 s
  | .cambEnable => Sys2Proof.Machine.execCambEnable s
  | .cambTick => Sys2Proof.Machine.execCambTick s
  | .cambSlotWrite x1 x2 x3 => Sys2Proof.Machine.execCambSlotWrite x1 x2 x3 s
  | .cambLock x1 x2 => Sys2Proof.Machine.execCambLock x1 x2 s
  | .cambStateWrite x1 x2 x3 => Sys2Proof.Machine.execCambStateWrite x1 x2 x3 s
  | .cambPointArrival => Sys2Proof.Machine.execCambPointArrival s
  | .staleLimit x1 => Sys2Proof.Machine.execStaleLimit x1 s
  | .ffStale x1 => Sys2Proof.Machine.execFfStale x1 s
  | .substExpiry x1 => Sys2Proof.Machine.execSubstExpiry x1 s
  | .substCountReset x1 => Sys2Proof.Machine.execSubstCountReset x1 s
  | .tunerArm x1 x2 => Sys2Proof.Machine.execTunerArm x1 x2 s
  | .tunerStop x1 => Sys2Proof.Machine.execTunerStop x1 s
  | .tuneTimeLimit x1 => Sys2Proof.Machine.execTuneTimeLimit x1 s
  | .tuneCycleLimit x1 => Sys2Proof.Machine.execTuneCycleLimit x1 s
  | .tuneRunEnd x1 => Sys2Proof.Machine.execTuneRunEnd x1 s
  | .modelUpdate x1 => Sys2Proof.Machine.execModelUpdate x1 s
  | .modelCtlWrite x1 x2 x3 => Sys2Proof.Machine.execModelCtlWrite x1 x2 x3 s
  | .modelSave x1 => Sys2Proof.Machine.execModelSave x1 s
  | .scheduleEvaluation => Sys2Proof.Machine.execScheduleEvaluation s
  | .clockChange => Sys2Proof.Machine.execClockChange s
  | .presenceBinEnd x1 => Sys2Proof.Machine.execPresenceBinEnd x1 s
  | .triggerEvaluation => Sys2Proof.Machine.execTriggerEvaluation s
  | .triggerDelayExpiry x1 x2 => Sys2Proof.Machine.execTriggerDelayExpiry x1 x2 s
  | .triggerStartupTimeout x1 x2 => Sys2Proof.Machine.execTriggerStartupTimeout x1 x2 s
  | .demandArrival => Sys2Proof.Machine.execDemandArrival s
  | .schedulerCycle x1 => Sys2Proof.Machine.execSchedulerCycle x1 s
  | .requestDurationEnd x1 => Sys2Proof.Machine.execRequestDurationEnd x1 s
  | .requestAged x1 => Sys2Proof.Machine.execRequestAged x1 s
  | .leaseEnd x1 => Sys2Proof.Machine.execLeaseEnd x1 s
  | .pdclassChange x1 => Sys2Proof.Machine.execPdclassChange x1 s
  | .allotmentTimeout => Sys2Proof.Machine.execAllotmentTimeout s
  | .ambientEstimate => Sys2Proof.Machine.execAmbientEstimate s
  | .actuatorRequest => Sys2Proof.Machine.execActuatorRequest s
  | .moveDeadTimeEnd x1 => Sys2Proof.Machine.execMoveDeadTimeEnd x1 s
  | .endStop x1 => Sys2Proof.Machine.execEndStop x1 s
  | .currentLimitTrip x1 x2 => Sys2Proof.Machine.execCurrentLimitTrip x1 x2 s
  | .openLoad x1 => Sys2Proof.Machine.execOpenLoad x1 s
  | .offStateTest x1 x2 => Sys2Proof.Machine.execOffStateTest x1 x2 s
  | .stageOvertemp x1 => Sys2Proof.Machine.execStageOvertemp x1 s
  | .stageCooled x1 => Sys2Proof.Machine.execStageCooled x1 s
  | .vfieldReverse => Sys2Proof.Machine.execVfieldReverse s
  | .vfieldRestore => Sys2Proof.Machine.execVfieldRestore s
  | .drvCtlWrite x1 x2 => Sys2Proof.Machine.execDrvCtlWrite x1 x2 s
  | .modeChangeDelayEnd x1 => Sys2Proof.Machine.execModeChangeDelayEnd x1 s
  | .dinRead x1 x2 => Sys2Proof.Machine.execDinRead x1 x2 s
  | .driveReport x1 x2 => Sys2Proof.Machine.execDriveReport x1 x2 s
  | .safeRun => Sys2Proof.Machine.execSafeRun s
  | .drvSafeclrWrite x1 x2 => Sys2Proof.Machine.execDrvSafeclrWrite x1 x2 s
  | .drvManWrite x1 x2 => Sys2Proof.Machine.execDrvManWrite x1 x2 s
  | .tachEdge x1 => Sys2Proof.Machine.execTachEdge x1 s
  | .fanSpeedLoop x1 => Sys2Proof.Machine.execFanSpeedLoop x1 s
  | .stall x1 x2 => Sys2Proof.Machine.execStall x1 x2 s
  | .tachLostTimeout x1 => Sys2Proof.Machine.execTachLostTimeout x1 s
  | .kick x1 => Sys2Proof.Machine.execKick x1 s
  | .kickEnd x1 => Sys2Proof.Machine.execKickEnd x1 s
  | .retryCountReset x1 => Sys2Proof.Machine.execRetryCountReset x1 s
  | .fanDutyArrival => Sys2Proof.Machine.execFanDutyArrival s
  | .fanSafeclrWrite x1 => Sys2Proof.Machine.execFanSafeclrWrite x1 s
  | .portConfigWrite x1 x2 => Sys2Proof.Machine.execPortConfigWrite x1 x2 s
  | .mstpFrameReceive x1 x2 => Sys2Proof.Machine.execMstpFrameReceive x1 x2 s
  | .readProperty x1 x2 => Sys2Proof.Machine.execReadProperty x1 x2 s
  | .readPropertyMultiple x1 x2 => Sys2Proof.Machine.execReadPropertyMultiple x1 x2 s
  | .writeProperty x1 x2 => Sys2Proof.Machine.execWriteProperty x1 x2 s
  | .writePropertyMultiple x1 x2 => Sys2Proof.Machine.execWritePropertyMultiple x1 x2 s
  | .readRange x1 x2 => Sys2Proof.Machine.execReadRange x1 x2 s
  | .subscribeCov x1 x2 => Sys2Proof.Machine.execSubscribeCov x1 x2 s
  | .covNotification x1 => Sys2Proof.Machine.execCovNotification x1 s
  | .covSubscriptionExpiry x1 => Sys2Proof.Machine.execCovSubscriptionExpiry x1 s
  | .whoIs x1 => Sys2Proof.Machine.execWhoIs x1 s
  | .whoHas x1 x2 x3 => Sys2Proof.Machine.execWhoHas x1 x2 x3 s
  | .timeSynchronization x1 => Sys2Proof.Machine.execTimeSynchronization x1 s
  | .utcTimeSynchronization x1 => Sys2Proof.Machine.execUtcTimeSynchronization x1 s
  | .deviceCommunicationControl x1 x2 x3 x4 => Sys2Proof.Machine.execDeviceCommunicationControl x1 x2 x3 x4 s
  | .reinitializeDevice x1 x2 x3 => Sys2Proof.Machine.execReinitializeDevice x1 x2 x3 s
  | .modbusFunction01 x1 x2 => Sys2Proof.Machine.execModbusFunction01 x1 x2 s
  | .modbusFunction02 x1 x2 => Sys2Proof.Machine.execModbusFunction02 x1 x2 s
  | .modbusFunction03 x1 x2 => Sys2Proof.Machine.execModbusFunction03 x1 x2 s
  | .modbusFunction04 x1 x2 => Sys2Proof.Machine.execModbusFunction04 x1 x2 s
  | .modbusFunction05 x1 x2 => Sys2Proof.Machine.execModbusFunction05 x1 x2 s
  | .modbusFunction06 x1 x2 => Sys2Proof.Machine.execModbusFunction06 x1 x2 s
  | .modbusFunction15 x1 x2 => Sys2Proof.Machine.execModbusFunction15 x1 x2 s
  | .modbusFunction16 x1 x2 => Sys2Proof.Machine.execModbusFunction16 x1 x2 s
  | .modbusPollRound x1 => Sys2Proof.Machine.execModbusPollRound x1 s
  | .modbusMasterReply x1 x2 => Sys2Proof.Machine.execModbusMasterReply x1 x2 s
  | .modbusMasterTimeout x1 => Sys2Proof.Machine.execModbusMasterTimeout x1 s
  | .rawByteReceive x1 x2 x3 => Sys2Proof.Machine.execRawByteReceive x1 x2 x3 s
  | .serviceFrame x1 => Sys2Proof.Machine.execServiceFrame x1 s
  | .linkUp x1 => Sys2Proof.Machine.execLinkUp x1 s
  | .linkDown x1 x2 => Sys2Proof.Machine.execLinkDown x1 x2 s
  | .ping x1 x2 => Sys2Proof.Machine.execPing x1 x2 s
  | .echo x1 x2 x3 => Sys2Proof.Machine.execEcho x1 x2 x3 s
  | .credit x1 x2 => Sys2Proof.Machine.execCredit x1 x2 s
  | .hopCreditTimeout x1 x2 => Sys2Proof.Machine.execHopCreditTimeout x1 x2 s
  | .graftFrameForward x1 x2 => Sys2Proof.Machine.execGraftFrameForward x1 x2 s
  | .ackTimeout x1 x2 => Sys2Proof.Machine.execAckTimeout x1 x2 s
  | .tick x1 x2 x3 => Sys2Proof.Machine.execTick x1 x2 x3 s
  | .tickSend => Sys2Proof.Machine.execTickSend s
  | .tickLoss => Sys2Proof.Machine.execTickLoss s
  | .hello x1 x2 => Sys2Proof.Machine.execHello x1 x2 s
  | .helloSend => Sys2Proof.Machine.execHelloSend s
  | .nodeAbsence x1 => Sys2Proof.Machine.execNodeAbsence x1 s
  | .graftCtlWrite x1 => Sys2Proof.Machine.execGraftCtlWrite x1 s
  | .listenEnd => Sys2Proof.Machine.execListenEnd s
  | .roleconfRelisten => Sys2Proof.Machine.execRoleconfRelisten s
  | .time x1 x2 => Sys2Proof.Machine.execTime x1 x2 s
  | .timeSend => Sys2Proof.Machine.execTimeSend s
  | .allot x1 x2 => Sys2Proof.Machine.execAllot x1 x2 s
  | .allocationCycle => Sys2Proof.Machine.execAllocationCycle s
  | .allotRepeat x1 => Sys2Proof.Machine.execAllotRepeat x1 s
  | .demand x1 x2 => Sys2Proof.Machine.execDemand x1 x2 s
  | .demandSend => Sys2Proof.Machine.execDemandSend s
  | .takeback x1 x2 => Sys2Proof.Machine.execTakeback x1 x2 s
  | .masterLoss => Sys2Proof.Machine.execMasterLoss s
  | .mbox x1 x2 => Sys2Proof.Machine.execMbox x1 x2 s
  | .mboxReply x1 x2 => Sys2Proof.Machine.execMboxReply x1 x2 s
  | .ack x1 x2 => Sys2Proof.Machine.execAck x1 x2 s
  | .forwardNodeAbsent x1 => Sys2Proof.Machine.execForwardNodeAbsent x1 s
  | .abortFrame x1 x2 => Sys2Proof.Machine.execAbortFrame x1 x2 s
  | .reset x1 x2 => Sys2Proof.Machine.execReset x1 x2 s
  | .sched x1 x2 => Sys2Proof.Machine.execSched x1 x2 s
  | .cal x1 x2 => Sys2Proof.Machine.execCal x1 x2 s
  | .point x1 x2 => Sys2Proof.Machine.execPoint x1 x2 s
  | .exportDue x1 => Sys2Proof.Machine.execExportDue x1 s
  | .importTimeout x1 => Sys2Proof.Machine.execImportTimeout x1 s
  | .zone x1 x2 => Sys2Proof.Machine.execZone x1 x2 s
  | .zoneEntrySend x1 => Sys2Proof.Machine.execZoneEntrySend x1 s
  | .zoneLinkTimeout x1 => Sys2Proof.Machine.execZoneLinkTimeout x1 s
  | .heartwoodScrub x1 x2 x3 x4 => Sys2Proof.Machine.execHeartwoodScrub x1 x2 x3 x4 s
  | .counterEvent x1 => Sys2Proof.Machine.execCounterEvent x1 s
  | .counterSlotWrite => Sys2Proof.Machine.execCounterSlotWrite s
  | .periodicSave x1 => Sys2Proof.Machine.execPeriodicSave x1 s
  | .parametersSave x1 => Sys2Proof.Machine.execParametersSave x1 s
  | .lockoutEnd x1 => Sys2Proof.Machine.execLockoutEnd x1 s
  | .trendRecord x1 => Sys2Proof.Machine.execTrendRecord x1 s
  | .trendProgram x1 => Sys2Proof.Machine.execTrendProgram x1 s
  | .trendOpen => Sys2Proof.Machine.execTrendOpen s
  | .recorderSecond => Sys2Proof.Machine.execRecorderSecond s
  | .recorderSample x1 => Sys2Proof.Machine.execRecorderSample x1 s
  | .grrCursorWrite x1 x2 => Sys2Proof.Machine.execGrrCursorWrite x1 x2 s
  | .grrPreswrWrite x1 => Sys2Proof.Machine.execGrrPreswrWrite x1 s
  | .saveDeferralTimeout => Sys2Proof.Machine.execSaveDeferralTimeout s
  | .recorderScrub x1 => Sys2Proof.Machine.execRecorderScrub x1 s
  | .bankFailure x1 x2 => Sys2Proof.Machine.execBankFailure x1 x2 s
  | .grrPowerUp x1 => Sys2Proof.Machine.execGrrPowerUp x1 s
  | .clearTokenExpiry => Sys2Proof.Machine.execClearTokenExpiry s
  | .rtcSecond => Sys2Proof.Machine.execRtcSecond s
  | .rtcCapture x1 => Sys2Proof.Machine.execRtcCapture x1 s
  | .rtcTimeWrite x1 x2 => Sys2Proof.Machine.execRtcTimeWrite x1 x2 s
  | .rtcHalt => Sys2Proof.Machine.execRtcHalt s
  | .rtcRun => Sys2Proof.Machine.execRtcRun s
  | .rtcCalWrite x1 => Sys2Proof.Machine.execRtcCalWrite x1 s
  | .calWindow => Sys2Proof.Machine.execCalWindow s
  | .powerPathSwitch x1 => Sys2Proof.Machine.execPowerPathSwitch x1 s
  | .fsoarmWrite x1 => Sys2Proof.Machine.execFsoarmWrite x1 s
  | .brownout => Sys2Proof.Machine.execBrownout s
  | .bkpreset => Sys2Proof.Machine.execBkpreset s
  | .oscstop => Sys2Proof.Machine.execOscstop s
  | .vblowSample x1 => Sys2Proof.Machine.execVblowSample x1 s
  | .trickleWrite x1 x2 => Sys2Proof.Machine.execTrickleWrite x1 x2 s
  | .vflow => Sys2Proof.Machine.execVflow s
  | .vflowClear => Sys2Proof.Machine.execVflowClear s
  | .sysPwrctlWrite x1 => Sys2Proof.Machine.execSysPwrctlWrite x1 s
  | .domainPowerUp x1 => Sys2Proof.Machine.execDomainPowerUp x1 s
  | .powerOnReset => Sys2Proof.Machine.execPowerOnReset s
  | .powerOnResetRelease x1 x2 => Sys2Proof.Machine.execPowerOnResetRelease x1 x2 s
  | .resetPin x1 => Sys2Proof.Machine.execResetPin x1 s
  | .startUp x1 => Sys2Proof.Machine.execStartUp x1 s
  | .powerFailWarning x1 => Sys2Proof.Machine.execPowerFailWarning x1 s
  | .powerFailClear => Sys2Proof.Machine.execPowerFailClear s
  | .thermalSample x1 => Sys2Proof.Machine.execThermalSample x1 s
  | .shutdownHoldEnd x1 => Sys2Proof.Machine.execShutdownHoldEnd x1 s
  | .safetyInputFault x1 x2 => Sys2Proof.Machine.execSafetyInputFault x1 x2 s
  | .safetyFaultEnd x1 x2 => Sys2Proof.Machine.execSafetyFaultEnd x1 x2 s
  | .safeStopHoldEnd => Sys2Proof.Machine.execSafeStopHoldEnd s
  | .fb x1 => Sys2Proof.Machine.execFb x1 s
  | .safectlWrite x1 x2 => Sys2Proof.Machine.execSafectlWrite x1 x2 s
  | .deviceReset => Sys2Proof.Machine.execDeviceReset s
  | .twigLimiting x1 x2 x3 x4 => Sys2Proof.Machine.execTwigLimiting x1 x2 x3 x4 s
  | .safedurEnd x1 => Sys2Proof.Machine.execSafedurEnd x1 s
  | .fanSpeedReport x1 => Sys2Proof.Machine.execFanSpeedReport x1 s
  | .modbusOtherFunction x1 x2 => Sys2Proof.Machine.execModbusOtherFunction x1 x2 s
  | .unrecognizedService x1 x2 => Sys2Proof.Machine.execUnrecognizedService x1 x2 s
  | .linkTraining x1 => Sys2Proof.Machine.execLinkTraining x1 s
  | .oscillatorRestart => Sys2Proof.Machine.execOscillatorRestart s
  | .bkpResetRelease => Sys2Proof.Machine.execBkpResetRelease s
  | .presenceChange x1 => Sys2Proof.Machine.execPresenceChange x1 s

end Sys2Proof.Machine
end

