-- ==== Sys2Proof/Safety.lean ====
section
/-! DEFINITION. Sys2Proof/Safety.lean: what the claims say of a command and of a run: the next state a command answers, a
host command in its turn, the parts of the state that each command can change, the invariant that every step keeps, and
a safe run. -/

namespace Sys2Proof.Machine

open Sys2Proof

/-- Command `c` in state `s` answers the next state `t`. -/
def Runs (c : Instr) (s t : State) : Prop := exec c s = .next t

/-- R85, R86: command `c`, taken under number `id`, has this CLASS and CODE and is next to start: firmware is ready, the
command is neither begun, nor answered, nor forwarded, nor kept for a former epoch alone, and none taken before it
waits to start. -/
abbrev CmdTurn (id code : Nat) (c : Cmd) (s : State) : Prop :=
  cmdById id s = some c ∧ ready s = true ∧ msgCode c.words = code ∧ c.reply = none ∧ c.ghost = false ∧ c.started = false ∧
    c.fwdTo = none ∧ cmdTurn id s = true

/-- R84, R86: command `c`, taken under number `id`, has this CLASS and CODE, its interim reply is queued, and its final status
and words stand. -/
abbrev CmdEnding (id code : Nat) (c : Cmd) (e : Nat × List Word) (s : State) : Prop :=
  cmdById id s = some c ∧ ready s = true ∧ msgCode c.words = code ∧ c.started = true ∧ c.ending = some e

/-- R91: no check of the list fails. -/
abbrev Passes (l : List (Bool × Nat)) : Prop := firstFail l = none

/-! ### Packets of Sapflow -/

/-- R19, R33: `hdr` and `payload` are a packet of class `k` that no router rejects: its LEN is its length and lies within
32, its DST names an island. -/
abbrev PacketOf (k : Nat) (hdr : Flit) (payload : List Flit) : Prop :=
  hfld hdr 54 2 = k ∧ hfld hdr 42 6 ≤ 32 ∧ islandOk (hfld hdr 60 4) = true ∧ hfld hdr 42 6 = payload.length

/-- The packet as it leaves in state `s`: with its time and the sequence entry that a converter result names. -/
def packetAt (hdr : Flit) (payload : List Flit) (s : State) : Packet :=
  ⟨hdr, payload, s.now, s.reg (aRootSeqlo (32 * resConv (payload.headD 0) + hfld (payload.headD 0) 49 5))⟩

/-! ### Frames that a command brings -/

/-- R397, R400: the state in which grove frame `g`, whose bytes are `f`, is taken at port `p`: one for all has gone on
round the grove, the credit of one for this node alone has gone back. -/
def frameSeen (p : Nat) (g : GrParsed) (f : List Byte) (s : State) : State :=
  if g.dst = 0xFF then forward p g f (freshLine s) else sendSet p (.credit (grCls g.ty) 1) (freshLine s)

/-- R402, R404: frame `f` of type `ty`, well formed as `g`, is heard at port `p` for the first time, and is for this node
alone or for all. -/
abbrev FrameNew (ty p : Nat) (f : List Byte) (g : GrParsed) (s : State) : Prop :=
  domOn .gft s = true ∧ onLine p s = true ∧ grParse f = some g ∧ g.ty = ty ∧ g.src ≠ myNode (freshLine s) ∧
    (g.dst = 0xFF ∨ g.dst = myNode (freshLine s)) ∧ duplicate g (frameSeen p g f s) = none

/-- R402, R404: what a heard frame is taken with (`h`): the frame is noted as seen, and one that asks for it is
acknowledged. -/
def takeFrame (ty p : Nat) (f : List Byte) (g : GrParsed) (h : State → Nat × State) (s : State) : State :=
  let r := h (frameSeen p g f s)
  let t := noteSeq g r.1 r.2
  if grCls ty = 1 ∨ ty = 0x81 ∨ ty = 0x04 then sendAck g r.1 t else t

/-- R382, R370: `f` arrives as a well-formed request `bs` for a Modbus slave port that firmware serves, with a function that
`mine` names; a broadcast counts where `bcast` allows it. -/
abbrev MbRequest (p : Nat) (mine : Nat → Bool) (bcast : Bool) (f : SerialFrame) (bs : List Byte) (s : State) : Prop :=
  domOn .bus s = true ∧ portMode p s = 3 ∧ mbBody p f (countErrs p f s) = some bs ∧ mine (bs.getD 1 0).toNat = true ∧
    ((bs.headD 0).toNat = portAddr p (countErrs p f s) ∨ ((bs.headD 0).toNat = 0 ∧ bcast = true)) ∧ ready (countErrs p f s) = true

/-! ### What a command can change -/

/-- The parts of the state: what each block of the spec holds, and the two counts of the model. -/
inductive Part where
  /-- The registers. -/
  | regs
  /-- Sapflow. -/
  | fab
  /-- The host port. -/
  | hp
  /-- What firmware keeps. -/
  | fw
  /-- The input stages. -/
  | inp
  /-- The converters. -/
  | cnv
  /-- The result queue. -/
  | rq
  /-- The sensor ports and Twig segments. -/
  | field
  /-- The loop engine. -/
  | camb
  /-- The drive channels and the energy scheduler. -/
  | drv
  /-- The fan ports. -/
  | fan
  /-- The building buses. -/
  | bus
  /-- The grove link and its services. -/
  | gft
  /-- The Heartwood die. -/
  | heart
  /-- The trend store. -/
  | trend
  /-- The recorder. -/
  | grr
  /-- The clock and the backup domain. -/
  | rtc
  /-- Power, resets and start-up. -/
  | pwr
  /-- The thermal monitor and the safety stop. -/
  | ther
  /-- Model time. -/
  | now
  /-- The count of free values. -/
  | free
deriving DecidableEq, Repr

/-- Part `p` is the same in both states. -/
def Part.Same (p : Part) (s t : State) : Prop :=
  match p with
  | .regs => t.regs = s.regs
  | .fab => t.fab = s.fab
  | .hp => t.hp = s.hp
  | .fw => t.fw = s.fw
  | .inp => t.inp = s.inp
  | .cnv => t.cnv = s.cnv
  | .rq => t.rq = s.rq
  | .field => t.field = s.field
  | .camb => t.camb = s.camb
  | .drv => t.drv = s.drv
  | .fan => t.fan = s.fan
  | .bus => t.bus = s.bus
  | .gft => t.gft = s.gft
  | .heart => t.heart = s.heart
  | .trend => t.trend = s.trend
  | .grr => t.grr = s.grr
  | .rtc => t.rtc = s.rtc
  | .pwr => t.pwr = s.pwr
  | .ther => t.ther = s.ther
  | .now => t.now = s.now
  | .free => t.free = s.free

/-- The parts that a write through the expert block space, or a change of layers, can reach. -/
def expertParts : List Part :=
  [.regs, .fab, .fw, .inp, .cnv, .rq, .field, .camb, .drv, .fan, .bus, .gft, .trend, .grr, .rtc, .pwr, .ther]

/-- The parts of the state that a command can change; every other part it leaves as it was. -/
def changes : Instr → List Part
  | .flitCrcFail .. =>
    [.regs, .fab]
  | .bridgeLinkTimeout .. =>
    [.regs, .fab, .now]
  | .linkValidWordsReturn .. | .stageCooled .. | .vfieldRestore | .drvSafeclrWrite .. | .drvManWrite .. =>
    [.regs, .fab, .drv, .fan, .free]
  | .idleWord .. | .fabricResponse .. =>
    [.fab]
  | .barkLinkLoss | .schedulerCycle .. | .modeChangeDelayEnd .. =>
    [.regs, .fab, .fw, .drv, .fan, .now, .free]
  | .sysOppWrite .. | .oppStepComplete .. | .abort .. | .nepochWrite .. | .sepochWrite .. | .dbinWrite ..
  | .agedSweep | .cambLock .. | .cambStateWrite .. | .pdclassChange .. | .offStateTest .. | .rtcCalWrite ..
  | .powerPathSwitch .. | .fsoarmWrite .. | .trickleWrite .. | .linkTraining .. =>
    [.regs]
  | .routerReceive .. | .creditReturn .. | .registerWrite .. | .doorbellAction .. | .sysAbort ..
  | .cfgLoadEnd .. | .cfgMode .. | .cfgCondition .. | .schedWrite .. | .schedCalendar .. | .expertWrite ..
  | .expertRelease .. | .safeForce .. | .safeRelease .. | .overrideExpiry | .tuneRunEnd ..
  | .scheduleEvaluation | .clockChange | .triggerEvaluation | .writeProperty .. | .writePropertyMultiple ..
  | .ack .. | .abortFrame .. | .sched .. | .cal .. | .zone .. | .safectlWrite .. | .presenceChange .. =>
    expertParts ++ [.heart, .free]
  | .statusFrame .. | .readFrame .. | .writeFrame .. | .hostWatchdogExpiry | .crownRestart | .startUp .. =>
    expertParts ++ [.hp, .heart, .now, .free]
  | .bothcs | .go .. | .hostwdWrite .. =>
    [.regs, .hp]
  | .replyRelease .. | .pointStreamAdd .. | .pointStreamRemove .. | .groveAllotment .. | .recConfig ..
  | .clockAlarm .. | .clockCalibrate .. | .brownout =>
    [.regs, .fw]
  | .epochChange .. | .replyPost .. =>
    expertParts ++ [.hp, .heart, .free]
  | .messageTake =>
    [.regs, .hp, .fw, .gft]
  | .inboundTimeout .. | .replyTimeout .. | .allotmentTimeout | .openLoad .. | .fb .. =>
    [.regs, .now]
  | .crownWatchdogExpiry =>
    [.regs, .fab, .fw, .drv, .fan, .pwr, .now, .free]
  | .watchdogKick .. =>
    [.regs, .pwr]
  | .sysInfo .. | .sysOwner .. | .diagDumpCollect .. | .diagDumpRead .. | .fwUpdateStatus .. | .cfgLoadBegin ..
  | .cfgLoadData .. | .pointRead .. | .pointInfo .. | .loopRead .. | .zoneRead .. | .zoneSetpoint ..
  | .zoneModel .. | .schedRead .. | .schedOccupancy .. | .busStatus .. | .groveStatus .. | .storeStatus ..
  | .recRead .. | .recHealth .. | .expertClaims .. | .safeStatus .. | .trendStatus .. =>
    [.fw]
  | .sysStatus .. | .clearTokenExpiry =>
    [.fw, .now]
  | .sysReset .. =>
    [.regs, .fw, .heart, .grr, .free]
  | .fwUpdateErase .. | .fwUpdateWrite .. | .fwUpdateVerify .. =>
    [.fw, .pwr]
  | .fwUpdateConfirm .. =>
    [.regs, .fw, .pwr]
  | .cfgQuery .. | .recClearToken .. =>
    [.fw, .free]
  | .pointWrite .. | .pointStreamDrain .. =>
    [.regs, .fw, .rq]
  | .loopSet .. | .loopMode .. =>
    [.regs, .fw, .camb]
  | .loopTune .. =>
    [.regs, .fw, .camb, .drv, .fan]
  | .zoneModelReset .. =>
    [.regs, .fw, .camb, .heart]
  | .driveRead .. | .driveDiag .. | .driveSafeval .. | .fanRead .. =>
    [.regs, .fab, .fw, .free]
  | .driveCommand .. | .driveCalibrate .. | .fanCommand .. | .expertClaim .. =>
    [.regs, .fw, .drv, .fan]
  | .driveBudget .. =>
    [.fw, .drv, .free]
  | .fanFailsafe .. | .fanClearFail .. | .drvCtlWrite .. =>
    [.regs, .fab, .fw, .drv, .fan, .free]
  | .busPort .. | .busRaw .. =>
    [.regs, .fw, .bus]
  | .busTwigDiscover .. | .busI2cScript .. | .vflow =>
    [.regs, .fw, .field]
  | .groveResetNode .. =>
    [.fw, .gft]
  | .groveSchedPush .. =>
    [.regs, .fw, .drv, .fan, .gft]
  | .storeRead .. | .storeWrite .. | .storeCommit .. | .storePassword .. =>
    [.regs, .fw, .heart, .free]
  | .recClear .. | .presenceBinEnd .. =>
    [.regs, .fw, .grr]
  | .clockGet .. | .rtcCapture .. | .rtcHalt =>
    [.regs, .fab, .fw, .rq, .gft, .rtc]
  | .clockSet .. | .timeSynchronization .. | .utcTimeSynchronization .. | .tick .. | .time .. =>
    [.regs, .fab, .fw, .rq, .gft, .grr, .rtc]
  | .expertRead .. =>
    [.regs, .fab, .fw, .inp, .cnv, .rq, .gft, .rtc, .free]
  | .trendSnapshot .. | .trendDrain .. | .trendAdvance .. =>
    [.fw, .trend]
  | .inputTrip .. | .currLimitTrip .. | .aincfgWrite .. | .pulseEdge .. | .pirExcursion .. =>
    [.regs, .inp]
  | .isolRetest .. | .ovrClear .. | .dryRead .. | .pirHoldExpiry .. | .pirWarmupEnd .. =>
    [.regs, .inp, .now]
  | .stageReport .. =>
    [.regs, .fab, .inp, .now]
  | .pirSatResume .. =>
    [.inp, .now]
  | .passStart .. =>
    [.regs, .cnv, .now]
  | .entryResult .. | .urgentRun .. =>
    [.regs, .fab, .inp, .cnv, .now, .free]
  | .seqEntryWrite .. | .cnvctlWrite .. | .urgentRequest .. =>
    [.regs, .cnv]
  | .resultArrival .. =>
    [.regs, .fab, .fw, .rq]
  | .lvtLowRead .. =>
    [.rq]
  | .i2cPassStart .. | .i2cTransactionEnd .. | .twigRound .. | .twigReplyTimeout .. =>
    [.regs, .fab, .field, .now]
  | .i2cDelayEnd .. | .twigPowerUpWait .. | .display .. =>
    [.field, .now]
  | .i2cBusRecovery .. | .i2cOvvRetest .. | .twigPowerRetry .. =>
    [.regs, .field, .now]
  | .i2cOvervoltage .. | .vflowClear | .twigLimiting .. =>
    [.regs, .field]
  | .twigPollReply .. | .twigSearchStep .. =>
    [.regs, .fab, .fw, .field, .now]
  | .twigReply .. =>
    [.regs, .fab, .fw, .field, .now, .free]
  | .twigShort .. | .twigAutoSearch .. =>
    [.regs, .fw, .field, .now]
  | .cambEnable | .cambSlotWrite .. | .ffStale .. | .substCountReset .. | .tunerArm .. | .tunerStop ..
  | .modelCtlWrite .. =>
    [.regs, .camb]
  | .cambTick =>
    [.regs, .fab, .cnv, .camb, .now, .free]
  | .cambPointArrival =>
    [.regs, .fab, .rq, .camb]
  | .staleLimit .. | .substExpiry .. | .tuneCycleLimit .. =>
    [.regs, .fab, .camb, .free]
  | .tuneTimeLimit .. =>
    [.regs, .fab, .camb, .now, .free]
  | .modelUpdate .. | .triggerDelayExpiry .. | .triggerStartupTimeout .. | .ackTimeout .. | .zoneLinkTimeout ..
  | .domainPowerUp .. | .safetyInputFault .. | .safetyFaultEnd .. | .safeStopHoldEnd =>
    expertParts ++ [.heart, .now, .free]
  | .modelSave .. | .parametersSave .. =>
    [.regs, .heart, .now, .free]
  | .demandArrival =>
    [.regs, .fab, .drv]
  | .requestDurationEnd .. | .endStop .. =>
    [.regs, .fab, .fw, .drv, .now, .free]
  | .requestAged .. | .ambientEstimate | .moveDeadTimeEnd .. =>
    [.regs, .drv, .now]
  | .leaseEnd .. | .safedurEnd .. =>
    [.regs, .fab, .drv, .now, .free]
  | .actuatorRequest | .fanDutyArrival =>
    [.regs, .fab, .drv, .fan]
  | .currentLimitTrip .. | .stageOvertemp .. =>
    [.regs, .fab, .fw, .drv, .free]
  | .vfieldReverse =>
    [.regs, .fab, .fw, .field, .drv, .free]
  | .dinRead .. | .driveReport .. =>
    [.regs, .fab, .drv, .now]
  | .safeRun | .stall .. | .tachLostTimeout .. | .kick .. | .kickEnd .. =>
    [.regs, .drv, .fan, .now]
  | .tachEdge .. =>
    [.regs, .inp, .drv, .fan]
  | .fanSpeedLoop .. =>
    [.regs, .fan, .now]
  | .retryCountReset .. =>
    [.fan, .now]
  | .fanSafeclrWrite .. =>
    [.regs, .drv, .fan]
  | .portConfigWrite .. | .modbusFunction01 .. | .modbusFunction02 .. | .modbusFunction03 ..
  | .modbusFunction04 .. | .modbusFunction06 .. | .rawByteReceive .. | .modbusOtherFunction .. =>
    [.regs, .bus]
  | .mstpFrameReceive .. =>
    [.regs, .fw, .bus, .now]
  | .readProperty .. | .readPropertyMultiple .. =>
    [.regs, .fw, .rq, .bus, .free]
  | .readRange .. | .subscribeCov .. | .covNotification .. | .unrecognizedService .. =>
    [.regs, .fw, .rq, .bus]
  | .covSubscriptionExpiry .. | .modbusPollRound .. =>
    [.bus, .now]
  | .whoIs .. | .whoHas .. =>
    [.bus]
  | .deviceCommunicationControl .. | .reinitializeDevice .. =>
    [.regs, .fw, .rq, .bus, .heart, .free]
  | .modbusFunction05 .. | .modbusFunction15 .. =>
    [.regs, .fw, .drv, .fan, .bus]
  | .modbusFunction16 .. =>
    [.regs, .fw, .rq, .drv, .fan, .bus]
  | .modbusMasterReply .. | .modbusMasterTimeout .. =>
    [.regs, .fab, .bus, .now]
  | .serviceFrame .. =>
    [.regs, .hp, .bus]
  | .linkUp .. | .linkDown .. | .echo .. | .graftFrameForward .. | .hello .. | .graftCtlWrite .. =>
    [.regs, .gft]
  | .ping .. =>
    [.gft, .now, .free]
  | .credit .. =>
    [.gft]
  | .hopCreditTimeout .. | .tickSend | .nodeAbsence .. | .listenEnd | .roleconfRelisten | .demandSend
  | .takeback .. | .masterLoss =>
    [.regs, .gft, .now]
  | .tickLoss =>
    [.regs, .fab, .fw, .rq, .gft, .grr, .rtc, .now]
  | .helloSend | .exportDue .. | .zoneEntrySend .. =>
    [.gft, .now]
  | .timeSend =>
    [.gft, .free]
  | .allot .. | .demand .. =>
    [.regs, .drv, .gft]
  | .allocationCycle | .allotRepeat .. =>
    [.regs, .drv, .gft, .now]
  | .mbox .. | .mboxReply .. | .reset .. =>
    [.regs, .fw, .gft]
  | .forwardNodeAbsent .. =>
    [.fw, .gft, .now]
  | .point .. =>
    [.regs, .fw, .rq, .gft]
  | .importTimeout .. =>
    [.regs, .fw, .rq, .gft, .now]
  | .heartwoodScrub .. =>
    [.regs, .heart, .now]
  | .counterEvent .. | .lockoutEnd .. =>
    [.heart, .now]
  | .counterSlotWrite =>
    [.regs, .heart, .free]
  | .periodicSave .. =>
    [.regs, .heart, .grr, .now, .free]
  | .trendRecord .. =>
    [.regs, .fw, .rq, .trend]
  | .trendProgram .. =>
    [.trend, .now]
  | .trendOpen =>
    [.trend]
  | .recorderSecond | .grrPreswrWrite .. | .bankFailure .. | .grrPowerUp .. =>
    [.regs, .grr]
  | .recorderSample .. =>
    [.regs, .fab, .grr]
  | .grrCursorWrite .. =>
    [.grr]
  | .saveDeferralTimeout | .recorderScrub .. =>
    [.regs, .grr, .now]
  | .rtcSecond =>
    [.regs, .fab, .fw, .rq, .gft, .rtc, .now]
  | .rtcTimeWrite .. | .vblowSample .. =>
    [.regs, .rtc]
  | .rtcRun =>
    [.regs, .grr, .rtc]
  | .calWindow =>
    [.rtc, .now]
  | .bkpreset =>
    [.regs, .heart, .rtc]
  | .oscstop =>
    [.regs, .fw, .rtc]
  | .sysPwrctlWrite .. =>
    [.regs, .fab, .fw, .inp, .cnv, .rq, .field, .camb, .drv, .fan, .bus, .gft, .trend, .grr, .pwr, .free]
  | .powerOnReset | .resetPin .. =>
    [.regs, .fab, .hp, .fw, .inp, .cnv, .rq, .field, .camb, .drv, .fan, .bus, .gft, .heart, .trend, .grr, .pwr, .ther]
  | .powerOnResetRelease .. =>
    [.regs, .pwr, .ther, .now]
  | .powerFailWarning .. =>
    [.regs, .fab, .fw, .inp, .cnv, .rq, .field, .camb, .drv, .fan, .bus, .gft, .heart, .trend, .grr, .pwr, .free]
  | .powerFailClear =>
    [.regs, .fab, .fw, .inp, .cnv, .rq, .field, .camb, .drv, .fan, .bus, .gft, .heart, .trend, .grr, .pwr, .now, .free]
  | .thermalSample .. =>
    [.regs, .fab, .hp, .fw, .inp, .cnv, .rq, .field, .camb, .drv, .fan, .bus, .gft, .heart, .trend, .grr, .pwr, .ther, .now]
  | .shutdownHoldEnd .. =>
    [.regs, .fw, .pwr, .ther, .now]
  | .deviceReset =>
    [.regs, .fab, .hp, .fw, .inp, .cnv, .rq, .field, .camb, .drv, .fan, .bus, .gft, .heart, .trend, .grr, .pwr, .ther, .now, .free]
  | .fanSpeedReport .. =>
    [.regs, .fab, .fan, .now]
  | .oscillatorRestart | .bkpResetRelease =>
    [.rtc]

/-- The invariant of the register space (R34): the table is in its canonical form, addresses strictly rising and no
entry equal to the reset value that an unlisted address reads as, so that equal register spaces are equal data. -/
def State.Canonical (s : State) : Prop := tblWf regReset s.regs = true

/-- `n` steps from `s`: the state they lead to, none when one of them stops. -/
def runSteps : Nat → State → Option State
  | 0, s => some s
  | n + 1, s => match step s with | .next t => runSteps n t | _ => none

/-- A run of `n` steps from `s` is safe: no step faults or refuses, and the register space ends canonical. -/
def SafeRun (n : Nat) (s : State) : Prop := ∃ t, runSteps n s = some t ∧ t.Canonical

end Sys2Proof.Machine
end

