-- ==== Sys2Proof/Certificates/Slice0/Obligations.lean ====
section
/-! DEFINITION. Sys2Proof/Certificates/Slice0/Obligations.lean: the statements for the provers. -/

open Sys2Proof Sys2Proof.Machine

/-- Results, ageing and the readers of the latest-value table (R161, R173, R174).
Where the rules leave a reading open, the effects named are the model's choice: log entries 5, 44, 45, 54, 154, 156. -/
def Obligations.ResultQueueCommands : Prop :=
  (∀ (src : Producer) (p : Packet) (t : State) (s : State), takePacket (fromProducer src) s = some (p, t) → domOn .rta s = true →
      Runs (.resultArrival src) s (queueArrival p (forRange (arrivalRank p) (fun r u => takeRank p r t.fab.flight.length u) t))) ∧
  (∀ (src : Producer) (s : State), takePacket (fromProducer src) s = none →
      Runs (.resultArrival src) s s) ∧
  (∀ (s : State), domOn .rta s = true →
      Runs (.agedSweep) s (forRange 256 ageEntry s)) ∧
  (∀ (s : State), ¬ (domOn .rta s = true) → Runs (.agedSweep) s s) ∧
  (∀ (r : Reader) (p : Fin 256) (s : State), domOn .rta s = true →
      Runs (.lvtLowRead r p) s ({ s with rq := { s.rq with shadow := tblSet 0 s.rq.shadow (readerNo r) (s.reg (aRqLvthi p)) } })) ∧
  (∀ (r : Reader) (p : Fin 256) (s : State), ¬ (domOn .rta s = true) → Runs (.lvtLowRead r p) s s)

/-- Trips, re-tests, contact and pulse readings and reports of an input stage (R121, R122, R130, R132, R137, R142).
Where the rules leave a reading open, the effects named are the model's choice: log entries 38, 39, 155, 156. -/
def Obligations.InputStageCommands : Prop :=
  (∀ (n : Fin 96) (mv : Int) (s : State), stageJoined n (settleMode n s) = true → stageMode n (settleMode n s) ≠ 8 → inWindow (stageMode n (settleMode n s)) mv = false →
      Runs (.inputTrip ⟨n, mv⟩) s (tripInput n false (settleMode n s))) ∧
  (∀ (n : Fin 96) (mv : Int) (s : State), ¬ (stageJoined n (settleMode n s) = true ∧ stageMode n (settleMode n s) ≠ 8 ∧ inWindow (stageMode n (settleMode n s)) mv = false) → Runs (.inputTrip ⟨n, mv⟩) s (settleMode n s)) ∧
  (∀ (n : Fin 96) (heldUs : Nat) (s : State), stageJoined n (settleMode n s) = true → stageMode n (settleMode n s) = 8 → 5000 ≤ heldUs →
      Runs (.currLimitTrip ⟨n, heldUs⟩) s (tripInput n true (settleMode n s))) ∧
  (∀ (n : Fin 96) (heldUs : Nat) (s : State), ¬ (stageJoined n (settleMode n s) = true ∧ stageMode n (settleMode n s) = 8 ∧ 5000 ≤ heldUs) → Runs (.currLimitTrip ⟨n, heldUs⟩) s (settleMode n s)) ∧
  (∀ (n : Fin 96) (reading : Int) (s : State), domOn (ainDom n) (settleMode n s) = true → (settleMode n s).b (aRootAinstat n) 3 = true →
      Runs (.isolRetest n reading) s (if stageMode n (settleMode n s) = 8 then retestCurrent n reading (settleMode n s) else retestPin n reading (settleMode n s))) ∧
  (∀ (n : Fin 96) (reading : Int) (s : State), domOn (ainDom n) (settleMode n s) = true → (settleMode n s).b (aRootAinstat n) 3 = false → (inputSt n (settleMode n s)).joining = true →
      Runs (.isolRetest n reading) s (firstCheck n reading (settleMode n s))) ∧
  (∀ (n : Fin 96) (reading : Int) (s : State), domOn (ainDom n) (settleMode n s) = false →
      Runs (.isolRetest n reading) s (settleMode n s)) ∧
  (∀ (n : Fin 96) (reading : Int) (s : State), (settleMode n s).b (aRootAinstat n) 3 = false → (inputSt n (settleMode n s)).joining = false →
      Runs (.isolRetest n reading) s (settleMode n s)) ∧
  (∀ (n : Fin 96) (t : Nat) (s : State), (inputSt n s).closedAt = some t → s.b (aRootAinstat n) 3 = false →
      Runs (.ovrClear n) s (setInput n { inputSt n s with closedAt := none, ovrEnd := t + msT 1 } ((s.advTo (t + msT 1)).setB (aRootAinstat n) 2 false))) ∧
  (∀ (n : Fin 96) (s : State), ((inputSt n s).closedAt = none ∨ s.b (aRootAinstat n) 3 = true) →
      Runs (.ovrClear n) s s) ∧
  (∀ (n : Fin 96) (v : Word) (s : State), domOn (ainDom n) s = true →
      Runs (.aincfgWrite n v) s (aincfgWrite n v s)) ∧
  (∀ (n : Fin 96) (v : Word) (s : State), ¬ (domOn (ainDom n) s = true) → Runs (.aincfgWrite n v) s s) ∧
  (∀ (n : Fin 96) (mv : Int) (s : State), stageJoined n (settleMode n s) = true → stageMode n (settleMode n s) = 9 →
      Runs (.dryRead n mv) s (dryReading n mv ((settleMode n s).advTo (dryGrid n (settleMode n s))))) ∧
  (∀ (n : Fin 96) (mv : Int) (s : State), ¬ (stageJoined n (settleMode n s) = true ∧ stageMode n (settleMode n s) = 9) → Runs (.dryRead n mv) s (settleMode n s)) ∧
  (∀ (n : Fin 96) (mv : Int) (s : State), stageJoined n (settleMode n s) = true → stageMode n (settleMode n s) = 10 →
      Runs (.pulseEdge n mv) s (pulseLevel n mv (settleMode n s))) ∧
  (∀ (n : Fin 96) (mv : Int) (s : State), ¬ (stageJoined n (settleMode n s) = true ∧ stageMode n (settleMode n s) = 10) → Runs (.pulseEdge n mv) s (settleMode n s)) ∧
  (∀ (n : Fin 96) (s : State), domOn (ainDom n) (settleMode n s) = true → (settleMode n s).b (aRootAincfg n) 30 = true → (stageMode n (settleMode n s) = 9 ∨ stageMode n (settleMode n s) = 10 ∨ stageMode n (settleMode n s) = 11) → ¬ (stageMode n (settleMode n s) = 9 ∧ (inputSt n (settleMode n s)).state = none) →
      Runs (.stageReport n) s (if (inputSt n (settleMode n s)).changed = true ∧ stageMode n (settleMode n s) ≠ 10 then sendReport n (settleMode n s) else sendReport n ((settleMode n s).advTo (nextSecond n (settleMode n s))))) ∧
  (∀ (n : Fin 96) (s : State), ¬ (domOn (ainDom n) (settleMode n s) = true ∧ (settleMode n s).b (aRootAincfg n) 30 = true ∧ (stageMode n (settleMode n s) = 9 ∨ stageMode n (settleMode n s) = 10 ∨ stageMode n (settleMode n s) = 11) ∧ ¬ (stageMode n (settleMode n s) = 9 ∧ (inputSt n (settleMode n s)).state = none)) → Runs (.stageReport n) s (settleMode n s))

/-- Excursions, hold, warm-up and saturation of a presence detector (R134, R135, R136).
Where the rules leave a reading open, the effects named are the model's choice: log entries 40, 156. -/
def Obligations.PresenceDetectorCommands : Prop :=
  (∀ (k : Fin 12) (outMv srcMv : Nat) (s : State), pyro k (settleMode (84 + k) s) = true →
      Runs (.pirExcursion k outMv srcMv) s (if (biasSeen k srcMv (settleMode (84 + k) s)).b (aRootPircfg k) 31 = true then pirObserve k outMv (biasSeen k srcMv (settleMode (84 + k) s)) else biasSeen k srcMv (settleMode (84 + k) s))) ∧
  (∀ (k : Fin 12) (outMv srcMv : Nat) (s : State), ¬ (pyro k (settleMode (84 + k) s) = true) → Runs (.pirExcursion k outMv srcMv) s (settleMode (84 + k) s)) ∧
  (∀ (k : Fin 12) (t : _) (s : State), (pirSt k s).holdEnd = some t →
      Runs (.pirHoldExpiry k) s (let s := (setPir k { pirSt k s with holdEnd := none } (s.advTo t)).setB (aRootPirstat k) 0 false; setInput (84 + k) { inputSt (84 + k) s with changed := noteChange (84 + k) true s } s)) ∧
  (∀ (k : Fin 12) (s : State), (pirSt k s).holdEnd = none →
      Runs (.pirHoldExpiry k) s s) ∧
  (∀ (k : Fin 12) (t : Nat) (s : State), (pirSt k s).warmEnd = some t →
      Runs (.pirWarmupEnd k) s ((setPir k { pirSt k s with warmEnd := none } (s.advTo t)).setB (aRootPirstat k) 1 false)) ∧
  (∀ (k : Fin 12) (s : State), (pirSt k s).warmEnd = none →
      Runs (.pirWarmupEnd k) s s) ∧
  (∀ (k : Fin 12) (t : Nat) (s : State), (pirSt k s).satEnd = some t →
      Runs (.pirSatResume k) s (setPir k { pirSt k s with satEnd := none } (s.advTo t))) ∧
  (∀ (k : Fin 12) (s : State), (pirSt k s).satEnd = none →
      Runs (.pirSatResume k) s s)

/-- Passes, entries, urgent requests and register writes of the converters (R148, R149, R150, R151, R152, R153, R155).
Where the rules leave a reading open, the effects named are the model's choice: log entries 41, 42, 43, 156. -/
def Obligations.ConverterCommands : Prop :=
  (∀ (c : Fin 6) (s : State), domOn (cnvDom c) (catchUp c s) = true → cnvEn c (catchUp c s) = true → (cnvSt c (catchUp c s)).cur.isNone = true → (cnvSt c (catchUp c s)).urg.isNone = true → (cnvSt c (catchUp c s)).stopping = false →
      Runs (.passStart c) s ((let s := catchUp c s
        let st := cnvSt c s
        let per := if st.fresh then s.f (aRootCnvctl c) 0 20 else st.period
        if per = 0 then
          (if (nextEntry c 0 (s.f (aRootCnvctl c) 20 5) s).isSome then startPass c s.now s else s)
        else if st.fresh then startPass c s.now s
        else
          let due := st.nominal + usT (100 * per)
          let s := if due < st.finished then (s.setB (aRootCnvstat c) 30 true).bump (aRootCnvcnt c) 0 16 else s
          startPass c due (s.advTo due)))) ∧
  (∀ (c : Fin 6) (s : State), ¬ (domOn (cnvDom c) (catchUp c s) = true ∧ cnvEn c (catchUp c s) = true ∧ (cnvSt c (catchUp c s)).cur.isNone = true ∧ (cnvSt c (catchUp c s)).urg.isNone = true ∧ (cnvSt c (catchUp c s)).stopping = false) → Runs (.passStart c) s (catchUp c s)) ∧
  (∀ (c : Fin 6) (samples : List Sample) (e : EntryRun) (s : State), (cnvSt c s).cur = some e → (cnvSt c s).urg = none → domOn (cnvDom c) s = true →
      Runs (.entryResult c samples) s (match urgentTurn c s with
        | some (n, t) => startUrgent c n t (s.advTo t)
        | none => endEntry c e samples s)) ∧
  (∀ (c : Fin 6) (samples : List Sample) (s : State), ((cnvSt c s).cur = none ∨ (cnvSt c s).urg ≠ none) →
      Runs (.entryResult c samples) s s) ∧
  (∀ (c : Fin 6) (samples : List Sample) (s : State), domOn (cnvDom c) s = true → (cnvEn c s || (cnvSt c s).stopping) = true →
      Runs (.urgentRun c samples) s ((let s := match urgentTurn c s with
          | some (n, t) => startUrgent c n t (s.advTo t)
          | none => s
        match (cnvSt c s).urg with
        | some u => endUrgent c u samples s
        | none => s))) ∧
  (∀ (c : Fin 6) (samples : List Sample) (s : State), ¬ (domOn (cnvDom c) s = true ∧ (cnvEn c s || (cnvSt c s).stopping) = true) → Runs (.urgentRun c samples) s s) ∧
  (∀ (c : Fin 6) (v : Word) (s : State), domOn (cnvDom c) s = true →
      Runs (.urgentRequest c v) s (urgentRequest c (fld v 0 5) s)) ∧
  (∀ (c : Fin 6) (v : Word) (s : State), ¬ (domOn (cnvDom c) s = true) → Runs (.urgentRequest c v) s s) ∧
  (∀ (n : Fin 192) (hi : Bool) (v : Word) (s : State), domOn (cnvDom (n / 32)) s = true →
      Runs (.seqEntryWrite n hi v) s (seqWrite n hi v s)) ∧
  (∀ (n : Fin 192) (hi : Bool) (v : Word) (s : State), ¬ (domOn (cnvDom (n / 32)) s = true) → Runs (.seqEntryWrite n hi v) s s) ∧
  (∀ (c : Fin 6) (v : Word) (s : State), domOn (cnvDom c) s = true →
      Runs (.cnvctlWrite c v) s (cnvctlWrite c v s)) ∧
  (∀ (c : Fin 6) (v : Word) (s : State), ¬ (domOn (cnvDom c) s = true) → Runs (.cnvctlWrite c v) s s)

/-- Passes, transactions, recovery and overvoltage of the sensor ports (R180, R181, R182, R183, R184, R185, R186, R188).
Where the rules leave a reading open, the effects named are the model's choice: log entries 47, 48, 160. -/
def Obligations.SensorPortCommands : Prop :=
  (∀ (p : Fin 8) (s : State), domOn .bus s = true → s.b (aBusI2cctl p) 31 = true → s.b (aBusI2cstat p) 0 = false → (i2cSt p s).cur.isNone = true → (i2cSt p s).stuckDue = false →
      Runs (.i2cPassStart p) s (let st := i2cSt p s; (let due := if st.fresh then s.now else st.nominal + msT (10 * max 1 (s.f (aBusI2cctl p) 0 16))
        let s := if !st.fresh && decide (due < st.finished) then s.setB (aBusI2cstat p) 3 true else s
        let s := s.advTo due
        let st := { st with fresh := false, nominal := due, script := s.regs.filter (fun e => scriptAddr p e.1),
                            ntr := s.f (aBusI2cctl p) 24 4, line := s.f (aBusI2cctl p) 28 3 }
        let s := setI2c p st s
        if s.b (aBusI2cstat p) 1 then sendOpens p (fun _ => true) (setI2c p { st with finished := s.now } s) else takeTrans p 0 s))) ∧
  (∀ (p : Fin 8) (s : State), ¬ (domOn .bus s = true ∧ s.b (aBusI2cctl p) 31 = true ∧ s.b (aBusI2cstat p) 0 = false ∧ (i2cSt p s).cur.isNone = true ∧ (i2cSt p s).stuckDue = false) → Runs (.i2cPassStart p) s s) ∧
  (∀ (p : Fin 8) (out : I2cOutcome) (t : Nat) (s : State), (i2cSt p s).cur = some t → domOn .bus s = true → s.b (aBusI2cstat p) 0 = false → (i2cSt p s).delayEnd.isNone = true → (i2cSt p s).stuckDue = false →
      Runs (.i2cTransactionEnd p out) s ((let st := i2cSt p s
        let d := descOf p t s
        let s := setI2c p { st with out := writtenBytes p t d s } s
        let s := { s with now := s.now + busTime (decide (4 ≤ st.line)) d }
        match out with
        | .done read =>
          let bs := read.take (if trKind d = 1 ∨ trKind d = 2 then trRlen d else 0)
          (match (if trCrc d then crcGroups bs else some bs) with
           | some stored => transNext p t d (transGood p t stored s)
           | none => transFail p t d 16 8 s)
        | .nack => transFail p t d 24 8 s
        | .timeout => let s := transFail p t d 12 4 s; setI2c p { i2cSt p s with stuckDue := true } s))) ∧
  (∀ (p : Fin 8) (out : I2cOutcome) (s : State), (i2cSt p s).cur = none →
      Runs (.i2cTransactionEnd p out) s s) ∧
  (∀ (p : Fin 8) (t : Nat) (e : Nat) (s : State), (i2cSt p s).cur = some t → (i2cSt p s).delayEnd = some e →
      Runs (.i2cDelayEnd p) s (takeTrans p (t + 1) (s.advTo e))) ∧
  (∀ (p : Fin 8) (s : State), (i2cSt p s).delayEnd = none →
      Runs (.i2cDelayEnd p) s s) ∧
  (∀ (p : Fin 8) (pulses : Nat) (s : State), domOn .bus s = true → s.b (aBusI2cctl p) 31 = true → s.b (aBusI2cstat p) 0 = false → stuckCause p s = true →
      Runs (.i2cBusRecovery p pulses) s (let st := i2cSt p s; let bitT := if 4 ≤ st.line then 50 else 200; (let s := if s.b (aBusI2cstat p) 1 then s.advTo (st.recAt + secT 1) else s
        let s := setI2c p { st with recAt := s.now, stuckDue := false } (s.bump (aBusI2cstat p) 8 4)
        if pulses ≤ 9 then { s with now := s.now + (pulses + 1) * bitT }.setB (aBusI2cstat p) 1 false
        else closeScript p ({ s with now := s.now + 9 * bitT }.setB (aBusI2cstat p) 1 true)))) ∧
  (∀ (p : Fin 8) (pulses : Nat) (s : State), ¬ (domOn .bus s = true ∧ s.b (aBusI2cctl p) 31 = true ∧ s.b (aBusI2cstat p) 0 = false ∧ stuckCause p s = true) → Runs (.i2cBusRecovery p pulses) s s) ∧
  (∀ (r : PortVolts) (s : State), domOn .bus s = true → s.b (aBusI2cstat r.port) 0 = false → lineHigh r.mv.scl r.mv.sda = true →
      Runs (.i2cOvervoltage r) s (closeScript r.port (setI2c r.port { i2cSt r.port s with good := 0, ovvAt := s.now, stuckDue := false } (s.setB (aBusI2cstat r.port) 0 true)))) ∧
  (∀ (r : PortVolts) (s : State), ¬ (domOn .bus s = true ∧ s.b (aBusI2cstat r.port) 0 = false ∧ lineHigh r.mv.scl r.mv.sda = true) → Runs (.i2cOvervoltage r) s s) ∧
  (∀ (p : Fin 8) (v : LineVolts) (s : State), domOn .bus s = true → s.b (aBusI2cstat p) 0 = true →
      Runs (.i2cOvvRetest p v) s ((let due := (i2cSt p s).ovvAt + msT 100
        let s := setI2c p { i2cSt p s with ovvAt := due } (s.advTo due)
        let st := i2cSt p s
        if v.scl < 6000 ∧ v.sda < 6000 then
         (if 1 ≤ st.good then setI2c p { st with good := 0, nominal := lastDue p s } (s.setB (aBusI2cstat p) 0 false)
          else setI2c p { st with good := st.good + 1 } s)
        else setI2c p { st with good := 0 } s))) ∧
  (∀ (p : Fin 8) (v : LineVolts) (s : State), ¬ (domOn .bus s = true ∧ s.b (aBusI2cstat p) 0 = true) → Runs (.i2cOvvRetest p v) s s)

/-- Search, rounds, polls, replies and supply of a Twig segment (R191, R192, R198, R199, R200, R203, R204, R205, R208, R210, R211, R212).
Where the rules leave a reading open, the effects named are the model's choice: log entries 14, 49, 50, 51, 52, 134, 161. -/
def Obligations.TwigSegmentCommands : Prop :=
  (∀ (g : Fin 5) (seen : Bool) (s : State), twReady g s = true → (twSt g s).await.isNone = true → (twSt g s).toPoll = [] →
      Runs (.twigSearchStep g seen) s ((if fullRun g s then searchStep g seen (twReleases g s)
        else if (twSt g s).queue ≠ [] then twNext g s
        else if twFits g searchTime s then searchStep g seen s
        else s))) ∧
  (∀ (g : Fin 5) (seen : Bool) (s : State), ¬ (twReady g s = true ∧ (twSt g s).await.isNone = true ∧ (twSt g s).toPoll = []) → Runs (.twigSearchStep g seen) s s) ∧
  (∀ (g : Fin 5) (seen : Bool) (s : State), twReady g s = true → s.b (aTwigSegctl g) 30 = true → (twSt g s).run.isNone = true → (twSt g s).await.isNone = true → (twSt g s).toPoll = [] → (twSt g s).queue = [] → twFits g searchTime s = true →
      Runs (.twigAutoSearch g seen) s ((let s := frameOut g (twFrame 0 false false 0x10 (searchPayload 0 0)) s
        let s := (setTw g { twSt g s with autoAt := s.now } s).advTo ((twSt g s).frameEnd + usT 1000)
        if seen then startAdd g (ringEvent 3 (s.setB (aTwigSegstat g) 30 true)) else s))) ∧
  (∀ (g : Fin 5) (seen : Bool) (s : State), ¬ (twReady g s = true ∧ s.b (aTwigSegctl g) 30 = true ∧ (twSt g s).run.isNone = true ∧ (twSt g s).await.isNone = true ∧ (twSt g s).toPoll = [] ∧ (twSt g s).queue = [] ∧ twFits g searchTime s = true) → Runs (.twigAutoSearch g seen) s s) ∧
  (∀ (g : Fin 5) (s : State), domOn .bus s = true → s.b (aTwigSegctl g) 31 = true → fullRun g s = false → (twSt g s).toPoll = [] → (twSt g s).await.isNone = true →
      Runs (.twigRound g) s ((let st := twSt g s
        let due := if st.fresh then s.now else st.nominal + msT (10 * max 10 (s.f (aTwigSegctl g) 0 8))
        let s := if !st.fresh && decide (due < st.finished) then s.setB (aTwigSegstat g) 29 true else s
        let s := s.advTo due
        let addrs := ((List.range 16).map (· + 1)).filter (hasAddr (twAssigned g s))
        let s := setTw g { st with fresh := false, nominal := due } s
        if twReady g s then twNext g (setTw g { twSt g s with toPoll := addrs } s)
        else if twPwr g s ≠ 1 then forEach addrs (fun a s => pollMiss g (unitNo g a) s) s else s))) ∧
  (∀ (g : Fin 5) (s : State), ¬ (domOn .bus s = true ∧ s.b (aTwigSegctl g) 31 = true ∧ fullRun g s = false ∧ (twSt g s).toPoll = [] ∧ (twSt g s).await.isNone = true) → Runs (.twigRound g) s s) ∧
  (∀ (g : Fin 5) (frame : List Byte) (r : TwReq) (d : Bool) (a : Nat) (tgl : Bool) (payload : List Byte) (s : State), (twSt g s).await = some r → r.cmd = 1 → twParse frame = some (a, d, tgl, 1, payload) → a = r.addr → d = true → tgl = tblGet false (replyCame g frame.length s).field.tgl (unitNo g r.addr) → payload.length = pollSize (unitNo g r.addr) (replyCame g frame.length s) →
      Runs (.twigPollReply g frame) s (twNext g (pollGood g (unitNo g r.addr) payload (setTw g { twSt g (replyCame g frame.length s) with await := none } (replyCame g frame.length s))))) ∧
  (∀ (g : Fin 5) (frame : List Byte) (r : TwReq) (s : State), (twSt g s).await = some r → r.cmd = 1 → twParse frame = none →
      Runs (.twigPollReply g frame) s ((let u := unitNo g r.addr
        let s := replyCame g frame.length s
        let s := if twCrcBad frame then s.bump (aTwigSegcnt g) 16 16 else s
        let k := if twCrcBad frame then tblGet 0 s.field.crcRun u + 1 else 0
        let s := setCrcRun u (if k = 3 then 0 else k) s
        let s := pollMiss g u (setTw g { twSt g s with await := none } s)
        if k = 3 then startAdd g (twNext g (releaseUnit g r.addr s)) else twNext g s))) ∧
  (∀ (g : Fin 5) (frame : List Byte) (s : State), (twSt g s).await = none →
      Runs (.twigPollReply g frame) s s) ∧
  (∀ (g : Fin 5) (s : State), (twSt g s).await.isSome = true →
      Runs (.twigReplyTimeout g) s (replyMissing g ((s.advTo ((twSt g s).frameEnd + usT 1000)).bump (aTwigSegcnt g) 0 16))) ∧
  (∀ (g : Fin 5) (s : State), ¬ ((twSt g s).await.isSome = true) → Runs (.twigReplyTimeout g) s s) ∧
  (∀ (g : Fin 5) (frame : List Byte) (r : TwReq) (a : Nat) (tgl : Bool) (payload : List Byte) (s : State), (twSt g s).await = some r → r.cmd = 2 → twParse frame = some (a, true, tgl, 2, payload) → a = r.addr → tgl = tblGet false (replyCame g frame.length s).field.tgl (if r.addr = 0 then 80 + g.val else unitNo g r.addr) → payload.length = 12 →
      Runs (.twigReply g frame) s (twNext g (identDone g a payload (setTw g { twSt g (replyCame g frame.length s) with await := none } (replyCame g frame.length s))))) ∧
  (∀ (g : Fin 5) (frame : List Byte) (s : State), (twSt g s).await = none →
      Runs (.twigReply g frame) s s) ∧
  (∀ (g : Fin 5) (t : _) (s : State), (twSt g s).limitAt = some t → domOn .bus s = true → s.b (aTwigSegctl g) 31 = true → twPwr g s = 2 →
      Runs (.twigShort g) s ((let s := ((s.advTo (t + msT 20)).setF (aTwigSegstat g) 24 3 3).setB (aTwigSegstat g) 27 true
        let s := if (twSt g s).retrying then s else s.bump (aTwigSegstat g) 16 8
        let s := endRun g stAborted (twIdle g s)
        setTw g { twSt g s with retryAt := some (s.now + secT 5) } s))) ∧
  (∀ (g : Fin 5) (s : State), (twSt g s).limitAt = none →
      Runs (.twigShort g) s s) ∧
  (∀ (g : Fin 5) (t : _) (s : State), (twSt g s).retryAt = some t →
      Runs (.twigPowerRetry g) s (let s := s.advTo t; twOn g (setTw g { twSt g s with retrying := true } s))) ∧
  (∀ (g : Fin 5) (s : State), (twSt g s).retryAt = none →
      Runs (.twigPowerRetry g) s s) ∧
  (∀ (g : Fin 5) (t : _) (s : State), (twSt g s).waitEnd = some t →
      Runs (.twigPowerUpWait g) s (let s := setTw g { twSt g s with waitEnd := none, retrying := false } (s.advTo t); if (twSt g s).await.isNone && fullRun g s && twReady g s then twReleases g s else s)) ∧
  (∀ (g : Fin 5) (s : State), (twSt g s).waitEnd = none →
      Runs (.twigPowerUpWait g) s s) ∧
  (∀ (g : Fin 5) (limiting : Bool) (deciV ma : Nat) (s : State), domOn .bus s = true → (twPwr g s = 1 ∨ twPwr g s = 2) →
      Runs (.twigLimiting g limiting deciV ma) s ((let st := twSt g s
        let s := setTw g { st with limitAt := if limiting then some (st.limitAt.getD s.now) else none } s
        (s.setF (aTwigSegstat g) 24 3 (if limiting then 2 else 1)).setReg (aTwigSegmon g) (halves deciV ma)))) ∧
  (∀ (g : Fin 5) (limiting : Bool) (deciV ma : Nat) (s : State), ¬ (domOn .bus s = true ∧ (twPwr g s = 1 ∨ twPwr g s = 2)) → Runs (.twigLimiting g limiting deciV ma) s s) ∧
  (∀ (u : Fin 80) (field : Fin 8) (data : List Byte) (s : State), domOn .bus s = true → s.b (aTwigUstat u) 6 = true → hasAddr (twAssigned (u.val / 16) s) (u % 16 + 1) = true → displayOk field (displayData u field data s) = true → tblFind s.field.disp (8 * u.val + field.val) ≠ some (displayData u field data s) →
      Runs (.display u field data) s (let g := u.val / 16; let k := 8 * u.val + field.val; let data := displayData u field data s; (let s := match tblGet none s.field.dispAt k with | some t => s.advTo (t + secT 1) | none => s
        let s := { s with field := { s.field with disp := tblSet [] s.field.disp k data, dispAt := tblSet none s.field.dispAt k (some s.now) } }
        twQueue g ⟨u % 16 + 1, 0x03, BitVec.ofNat 8 field.val :: data, 0⟩ s))) ∧
  (∀ (u : Fin 80) (field : Fin 8) (data : List Byte) (s : State), ¬ (domOn .bus s = true ∧ s.b (aTwigUstat u) 6 = true ∧ hasAddr (twAssigned (u.val / 16) s) (u % 16 + 1) = true ∧ displayOk field (displayData u field data s) = true ∧ tblFind s.field.disp (8 * u.val + field.val) ≠ some (displayData u field data s)) → Runs (.display u field data) s s)

/-- Slot registers, ticks, arrivals and time limits of Cambium (R162, R215, R217, R218, R223, R226, R227, R239, R247, R271).
Where the rules leave a reading open, the effects named are the model's choice: log entries 53, 54, 55, 56, 57, 58, 59, 60, 162. -/
def Obligations.CambiumCommands : Prop :=
  (∀ (n : Fin 96) (off : Byte) (v : Word) (s : State), domOn .cmb s = true → off.toNat % 4 = 0 →
      Runs (.cambSlotWrite n off v) s (slotWrite n off.toNat v s)) ∧
  (∀ (n : Fin 96) (off : Byte) (v : Word) (s : State), ¬ (domOn .cmb s = true ∧ off.toNat % 4 = 0) → Runs (.cambSlotWrite n off v) s s) ∧
  (∀ (n : Fin 96) (lock : Bool) (s : State), domOn .cmb s = true →
      Runs (.cambLock n lock) s (s.setB (aCambCtl n) 31 lock)) ∧
  (∀ (n : Fin 96) (lock : Bool) (s : State), ¬ (domOn .cmb s = true) → Runs (.cambLock n lock) s s) ∧
  (∀ (n : Fin 96) (out : Bool) (v : Word) (s : State), domOn .cmb s = true →
      Runs (.cambStateWrite n out v) s (stateWrite n out v s)) ∧
  (∀ (n : Fin 96) (out : Bool) (v : Word) (s : State), ¬ (domOn .cmb s = true) → Runs (.cambStateWrite n out v) s s) ∧
  (∀ (p : Packet) (t : State) (s : State), takePacket pointPacket (if s.fab.flight.any pointPacket then s else sendPoint s) = some (p, t) →
      Runs (.cambPointArrival) s (storePoint ⟨hfld p.hdr 32 8, flitVal (p.payload.headD 0), flitLow (p.payload.headD 0)⟩ (catchU1 t))) ∧
  (∀ (s : State), takePacket pointPacket (if s.fab.flight.any pointPacket then s else sendPoint s) = none →
      Runs (.cambPointArrival) s ((if s.fab.flight.any pointPacket then s else sendPoint s))) ∧
  (∀ (s : State), domOn .cmb s = true → s.b aCambGctl 31 = true →
      Runs (.cambTick) s (tickStep (catchU1 (s.advTo (s.camb.t0 + 5000 * s.camb.tick))))) ∧
  (∀ (s : State), ¬ (domOn .cmb s = true ∧ s.b aCambGctl 31 = true) → Runs (.cambTick) s s) ∧
  (∀ (s : State), domOn .cmb s = true →
      Runs (.cambEnable) s (gctlWrite 0x80000000 s)) ∧
  (∀ (s : State), ¬ (domOn .cmb s = true) → Runs (.cambEnable) s s) ∧
  (∀ (n : Fin 96) (s : State), domOn .cmb s = true → (emode n s = 1 ∨ emode n s = 4) → s.b (aCambStat n) 24 = false →
      Runs (.staleLimit n) s (let st := slotSt n s; let kp := fld (inF (aCambSrcpv n) s) 29 3; let ks := fld (inF (aCambSrcsp n) s) 29 3; (if kp = 1 ∨ kp = 2 ∨ kp = 4 then
         (let s := setSlot n { st with pvCnt := max st.pvCnt (staleOf (inF (aCambSrcpv n) s)), goodTicks := 0 } s
          evalLast n ((s.setF (aCambStat n) 0 8 (max (slotSt n s).pvCnt (slotSt n s).spCnt)).setB (aCambStat n) 29 true))
        else if ks = 1 ∨ ks = 2 then
         (let s := setSlot n { st with spCnt := max st.spCnt (staleOf (inF (aCambSrcsp n) s)) } s
          evalLast n ((s.setF (aCambStat n) 0 8 (max (slotSt n s).pvCnt (slotSt n s).spCnt)).setB (aCambStat n) 29 true))
        else s))) ∧
  (∀ (n : Fin 96) (s : State), ¬ (domOn .cmb s = true ∧ (emode n s = 1 ∨ emode n s = 4) ∧ s.b (aCambStat n) 24 = false) → Runs (.staleLimit n) s s) ∧
  (∀ (n : Fin 96) (s : State), domOn .cmb s = true → emode n s ≠ 0 → ((fld (inF (aCambSrcff n) s) 29 3) = 1 ∨ (fld (inF (aCambSrcff n) s) 29 3) = 2 ∨ (fld (inF (aCambSrcff n) s) 29 3) = 4) →
      Runs (.ffStale n) s (let st := slotSt n s; let w := inF (aCambSrcff n) s; setSlot n { st with ffCnt := max st.ffCnt (staleOf w) } (s.setB (aCambStat n) 21 true))) ∧
  (∀ (n : Fin 96) (s : State), ¬ (domOn .cmb s = true ∧ emode n s ≠ 0 ∧ ((fld (inF (aCambSrcff n) s) 29 3) = 1 ∨ (fld (inF (aCambSrcff n) s) 29 3) = 2 ∨ (fld (inF (aCambSrcff n) s) 29 3) = 4)) → Runs (.ffStale n) s s) ∧
  (∀ (n : Fin 96) (s : State), domOn .cmb s = true → s.b (aCambStat n) 24 = true →
      Runs (.substExpiry n) s (let z := fld (inF (aCambCtl n) s) 18 6; (let st := slotSt n s
        let lim := s.f (aModelSubmax z) 0 11 * 60
        let s := setSlot n { st with substTicks := max st.substTicks (lim * 4000) } s
        let s := s.setReg (aCambSubt n) (BitVec.ofNat 32 (min (2 ^ 24 - 1) ((slotSt n s).substTicks / 4000)))
        evalLast n s))) ∧
  (∀ (n : Fin 96) (s : State), ¬ (domOn .cmb s = true ∧ s.b (aCambStat n) 24 = true) → Runs (.substExpiry n) s s) ∧
  (∀ (n : Fin 96) (s : State), domOn .cmb s = true → s.b (aCambStat n) 24 = false → goodTime ≤ (slotSt n s).goodTicks →
      Runs (.substCountReset n) s ((setSlot n { slotSt n s with substTicks := 0 } s).setReg (aCambSubt n) 0)) ∧
  (∀ (n : Fin 96) (s : State), ¬ (domOn .cmb s = true ∧ s.b (aCambStat n) 24 = false ∧ goodTime ≤ (slotSt n s).goodTicks) → Runs (.substCountReset n) s s)

/-- Relay tuners and zone model registers (R249, R253, R265, R273, R274, R275).
Where the rules leave a reading open, the effects named are the model's choice: log entries 61, 62, 163. -/
def Obligations.TunerAndModelCommands : Prop :=
  (∀ (k : Fin 8) (v : Word) (s : State), domOn .cmb s = true →
      Runs (.tunerArm k v) s (tctlWrite k v s)) ∧
  (∀ (k : Fin 8) (v : Word) (s : State), ¬ (domOn .cmb s = true) → Runs (.tunerArm k v) s s) ∧
  (∀ (k : Fin 8) (s : State), domOn .cmb s = true → s.b (aCambTctl k) 31 = true →
      Runs (.tunerStop k) s (stopTuner k s)) ∧
  (∀ (k : Fin 8) (s : State), ¬ (domOn .cmb s = true ∧ s.b (aCambTctl k) 31 = true) → Runs (.tunerStop k) s s) ∧
  (∀ (k : Fin 8) (s : State), domOn .cmb s = true → tunerRuns k s = true →
      Runs (.tuneTimeLimit k) s (let tmax := max 60 (s.f (aCambTmax k) 0 17); forceTuneEnd k 7 ((s.setF (aCambTstat k) 0 17 tmax).advTo (s.camb.t0 + 5000 * (tunSt k s).startTick + secT tmax)))) ∧
  (∀ (k : Fin 8) (s : State), ¬ (domOn .cmb s = true ∧ tunerRuns k s = true) → Runs (.tuneTimeLimit k) s s) ∧
  (∀ (k : Fin 8) (s : State), domOn .cmb s = true → tunerRuns k s = true → 20 ≤ s.f (aCambTstat k) 20 5 →
      Runs (.tuneCycleLimit k) s (forceTuneEnd k 6 s)) ∧
  (∀ (k : Fin 8) (s : State), ¬ (domOn .cmb s = true ∧ tunerRuns k s = true ∧ 20 ≤ s.f (aCambTstat k) 20 5) → Runs (.tuneCycleLimit k) s s) ∧
  (∀ (z : Fin 48) (off : Byte) (v : Word) (s : State), domOn .cmb s = true → off.toNat % 4 = 0 →
      Runs (.modelCtlWrite z off v) s (modelWrite z off.toNat v s)) ∧
  (∀ (z : Fin 48) (off : Byte) (v : Word) (s : State), ¬ (domOn .cmb s = true ∧ off.toNat % 4 = 0) → Runs (.modelCtlWrite z off v) s s)

/-- Demands, requests, stops, faults and reports of the drive channels (R22, R24, R233, R314, R318, R322, R323, R325, R326, R327, R328, R347).
Where the rules leave a reading open, the effects named are the model's choice: log entries 73, 74, 75, 76, 77, 78, 87, 88, 149, 150, 152. -/
def Obligations.DriveChannelCommands : Prop :=
  (∀ (p : Packet) (t : State) (s : State), takePacket (fun p => decide (hfld p.hdr 60 4 = 9) && decide (hfld p.hdr 54 2 = 2) && decide (hfld p.hdr 40 2 = 2)) s = some (p, t) → pairOf (hfld p.hdr 32 8) t < 48 →
      Runs (.demandArrival) s (applyDemand (pairOf (hfld p.hdr 32 8) t) (setChan (pairOf (hfld p.hdr 32 8) t) { chanSt (pairOf (hfld p.hdr 32 8) t) t with slotDem := some (flitVal (p.payload.headD 0)) } t))) ∧
  (∀ (s : State), takePacket (fun p => decide (hfld p.hdr 60 4 = 9) && decide (hfld p.hdr 54 2 = 2) && decide (hfld p.hdr 40 2 = 2)) s = none →
      Runs (.demandArrival) s s) ∧
  (∀ (p : Packet) (t : State) (s : State), takePacket (fun p => decide (hfld p.hdr 60 4 = 10) && decide (hfld p.hdr 54 2 = 2) && decide (hfld p.hdr 40 2 = 2)) s = some (p, t) → hfld p.hdr 32 8 < 48 → stageReady (hfld p.hdr 32 8) t = false →
      Runs (.actuatorRequest) s (setChan (hfld p.hdr 32 8) { chanSt (hfld p.hdr 32 8) t with run := none } t)) ∧
  (∀ (p : Packet) (t : State) (n : Nat) (s : State), takePacket (fun p => decide (hfld p.hdr 60 4 = 10) && decide (hfld p.hdr 54 2 = 2) && decide (hfld p.hdr 40 2 = 2)) s = some (p, t) → n = hfld p.hdr 32 8 → n < 48 → stageReady n t = true → ((drvMode n t = 1 ∧ (hfld p.hdr 30 2 = 1 ∨ hfld p.hdr 30 2 = 2)) ∨ (drvMode n t = 2 ∧ hfld p.hdr 30 2 = 0)) →
      Runs (.actuatorRequest) s ((let s := t.bump (aDrvCnt n) 16 16
        let s := if stageOn n s then s else stageStart n (p.hdr.getLsbD 27) s
        let s := setChan n { chanSt n s with stageDur := hfld p.hdr 0 17 } s
        match (chanSt n s).run with
        | some r => if drvMode n s = 1 ∧ drvLsub n s = 1 then showDuty n (setDuty n r.target s) else s
        | none => s))) ∧
  (∀ (ch : Fin 48) (t : Nat) (s : State), drvMode (pairOf ch s) s = 2 → (chanSt (pairOf ch s) s).startAt = some t →
      Runs (.endStop ch) s (endStop (pairOf ch s) (s.advTo (t + msT 400)))) ∧
  (∀ (ch : Fin 48) (t : Nat) (d toEnd : Bool) (s : State), drvMode (pairOf ch s) s = 2 → (chanSt (pairOf ch s) s).startAt = none → (chanSt (pairOf ch s) s).doneAt = some (t, d, toEnd) → s.now / msT 1 = t / msT 1 → (calOf (pairOf ch s) s).isNone = true →
      Runs (.endStop ch) s (lateEnd (pairOf ch s) d toEnd s)) ∧
  (∀ (ch : Fin 48) (s : State), drvMode (pairOf ch s) s ≠ 2 →
      Runs (.endStop ch) s s) ∧
  (∀ (ch : Fin 48) (t : Nat) (s : State), (chanSt (pairOf ch s) s).startAt = some t → (drvMode (pairOf ch s) s = 1 ∨ drvMode (pairOf ch s) s = 2) → s.b aSysPfstat 27 = false →
      Runs (.openLoad ch) s (setOpen (pairOf ch s) (s.advTo (t + msT (if drvMode (pairOf ch s) s = 2 then 500 else 200))))) ∧
  (∀ (ch : Fin 48) (s : State), (chanSt (pairOf ch s) s).startAt = none →
      Runs (.openLoad ch) s s) ∧
  (∀ (n : Fin 48) (mv : Int) (s : State), domOn .brk s = true → drvMode n s = 1 → stageOn n s = false →
      Runs (.offStateTest n mv) s ((let s := s.setF (aDrvMeas n) 8 6 (min 63 (mv.toNat / 500))
        if 3000 ≤ mv ∧ mv ≤ 7000 then (if s.b aSysPfstat 27 then s else setOpen n s)
        else if mv < 1000 then (if s.b aSysPfstat 27 then s else (s.setB (aDrvDiag n) 1 true).setB (aDrvDiag n) 29 true)
        else if 12000 < mv then (s.setB (aDrvDiag n) 0 false).setB (aDrvDiag n) 1 false
        else s))) ∧
  (∀ (n : Fin 48) (mv : Int) (s : State), ¬ (domOn .brk s = true ∧ drvMode n s = 1 ∧ stageOn n s = false) → Runs (.offStateTest n mv) s s) ∧
  (∀ (n : Fin 48) (s : State), domOn .brk s = true →
      Runs (.stageOvertemp n) s ((let k := pairOf n s
        let s := ((s.setB (aDrvDiag n) 3 true).setB (aDrvDiag n) 27 true).bump (aDrvCnt n) 0 8
        aoStop k (if stageOn k s then stageFault k false s else s)))) ∧
  (∀ (n : Fin 48) (s : State), ¬ (domOn .brk s = true) → Runs (.stageOvertemp n) s s) ∧
  (∀ (n : Fin 48) (s : State), s.b (aDrvDiag n) 3 = true →
      Runs (.stageCooled n) s (stageBack (pairOf n s) (s.setB (aDrvDiag n) 3 false))) ∧
  (∀ (n : Fin 48) (s : State), ¬ (s.b (aDrvDiag n) 3 = true) → Runs (.stageCooled n) s s) ∧
  (∀ (s : State), vfrev s = false →
      Runs (.vfieldReverse) s ((let s := fieldOff s
        let s := ((s.setB aDrvGstat 31 true).setB aDrvGstat 30 true).bump aDrvGstat 0 8
        s.setB aSysPfstat 27 true))) ∧
  (∀ (s : State), ¬ (vfrev s = false) → Runs (.vfieldReverse) s s) ∧
  (∀ (s : State), vfrev s = true →
      Runs (.vfieldRestore) s (forRange 48 stageBack (s.setB aDrvGstat 31 false))) ∧
  (∀ (s : State), ¬ (vfrev s = true) → Runs (.vfieldRestore) s s) ∧
  (∀ (n : Fin 48) (mv : Int) (s : State), domOn .brk s = true → drvMode n s = 5 →
      Runs (.dinRead n mv) s ((let s := s.advTo (gridFrom 0 (msT 10) (afterLast (chanSt n s).readAt s))
        let s := s.setF (aDrvMeas n) 8 6 (min 63 (mv.toNat / 500))
        let c : ChanSt := { chanSt n s with readAt := some s.now }
        let r := if mv < 3000 then true else if 6000 < mv then false else c.dinLast
        let k := if r = c.dinLast then c.dinEqual + 1 else 1
        let s := setChan n { c with dinLast := r, dinEqual := k } s
        if s.f (aDrvCtl n) 8 4 ≤ k ∧ c.din ≠ some r then
          (let s := (setChan n { chanSt n s with din := some r } s).setB (aDrvMeas n) 3 r
           drvReport n r.toNat s)
        else s))) ∧
  (∀ (n : Fin 48) (mv : Int) (s : State), ¬ (domOn .brk s = true ∧ drvMode n s = 5) → Runs (.dinRead n mv) s s) ∧
  (∀ (n : Fin 48) (ma : List Int) (s : State), domOn .brk s = true →
      Runs (.driveReport n ma) s ((let s := s.advTo (gridFrom s.rq.origin (secT 1) (afterLast (chanSt n s).reportAt s))
        let s := lateReadings n ma s
        let c : ChanSt := { chanSt n s with reportAt := some s.now }
        let s := setChan n c s
        drvReport n (if drvMode n s = 5 then ((c.din.getD false).toNat : Int) else signed 16 (s.f (aDrvMeas n) 16 16)) s))) ∧
  (∀ (n : Fin 48) (ma : List Int) (s : State), ¬ (domOn .brk s = true) → Runs (.driveReport n ma) s s) ∧
  (∀ (n : Fin 48) (v : Word) (s : State), domOn .brk s = true →
      Runs (.drvManWrite n v) s (manWrite n v s)) ∧
  (∀ (n : Fin 48) (v : Word) (s : State), ¬ (domOn .brk s = true) → Runs (.drvManWrite n v) s s) ∧
  (∀ (ch : Fin 48) (high : Bool) (n : Nat) (s : State), n = pairOf ch s → drvMode n s = 4 → domOn .brk s = true →
      Runs (.currentLimitTrip ch high) s ((if high = true then (s.setB (aDrvDiag n) 1 true).setB (aDrvDiag n) 29 true else (s.setB (aDrvDiag n) 2 true).setB (aDrvDiag n) 28 true).bump (aDrvCnt n) 8 8)) ∧
  (∀ (ch : Fin 48) (high : Bool) (n : Nat) (s : State), n = pairOf ch s → (drvMode n s = 1 ∨ drvMode n s = 2) → stageOn n s = true →
      Runs (.currentLimitTrip ch high) s ((let flagUp := fun (hi : Bool) (s : State) => if hi then (s.setB (aDrvDiag n) 1 true).setB (aDrvDiag n) 29 true else (s.setB (aDrvDiag n) 2 true).setB (aDrvDiag n) 28 true
        let long := decide (1000 ≤ ranMs n s)
        let s' := (stageFault n true (flagUp (high && decide (drvMode n s = 2)) s)).bump (aDrvCnt n) 8 8
        let k := (if long then 0 else (chanSt n s').shorts) + 1
        let s' := setChan n { chanSt n s' with shorts := k, retryAt := s'.now + secT 1 } s'
        applyDemand n (if 8 ≤ k then s'.setB (aDrvDiag n) 31 true else s'))))

/-- Drive control writes, mode changes and H-bridge safe runs (R11, R311, R313, R329, R330, R331, R347).
Where the rules leave a reading open, the effects named are the model's choice: log entries 79, 82, 83. -/
def Obligations.DriveWriteAndSafeCommands : Prop :=
  (∀ (n : Fin 48) (v : Word) (s : State), drvBad n 0 v s = true →
      Runs (.drvCtlWrite n v) s (s.setB (aDrvCtl n) 31 true)) ∧
  (∀ (n : Fin 48) (v : Word) (s : State), drvBad n 0 v s = false → fld v 0 4 = s.f (aDrvCtl n) 0 4 →
      Runs (.drvCtlWrite n v) s ((let s' := plainWrite (aDrvCtl n) (setFld v 0 4 (s.f (aDrvCtl n) 0 4)) s
        applyDemand n (if fld v 0 4 = 1 ∧ fld v 12 2 ≠ drvLsub n s then setChan n { chanSt n (dropRequests n s') with tpmAt := none } (dropRequests n s') else s')))) ∧
  (∀ (n : Fin 48) (v : Word) (s : State), drvBad n 0 v s = false → fld v 0 4 ≠ s.f (aDrvCtl n) 0 4 →
      Runs (.drvCtlWrite n v) s ((let old := s.f (aDrvCtl n) 0 4
        let m := fld v 0 4
        let s' := plainWrite (aDrvCtl n) (setFld v 0 4 old) s
        let one := modeWait n s
        let both := match one, modeWait (n + 1) s with | some a, some b => some (max a b) | some a, none => some a | none, b => b
        newMode n (if m = 2 then ((changeMode (n + 1) 3 both (changeMode n m both s')).setB (aDrvDiag n) 9 true)
          else if old = 2 then changeMode (n + 1) 0 both (changeMode n m both s')
          else changeMode n m one s')))) ∧
  (∀ (n : Fin 48) (t : _) (s : State), (chanSt n s).modeDue = some t →
      Runs (.modeChangeDelayEnd n) s (let s := s.advTo t; let m := s.f (aDrvCtl n) 0 4; let k := if m = 3 then n.val - 1 else n.val; let clear := fun (n : Nat) (s : State) => setChan n { chanSt n s with modeDue := none } s; newMode k (clear k (if m = 2 ∨ m = 3 then clear (k + 1) s else s)))) ∧
  (∀ (n : Fin 48) (s : State), (chanSt n s).modeDue = none →
      Runs (.modeChangeDelayEnd n) s s) ∧
  (∀ (s : State), s.drv.safeQ = [] →
      Runs (.safeRun) s s) ∧
  (∀ (n : _) (up : _) (rest : _) (s : State), s.drv.safeQ = (n, up) :: rest →
      Runs (.safeRun) s (let s := s.advTo (max s.drv.safeAt (chanSt n s).retryAt); let s := { s with drv := { s.drv with safeQ := rest, safeAt := s.now + msT 20 } }; if isSafe n s && safeReady n s then
        (let s := setChan n { chanSt n s with safeRun := some up, safeOn := true } s
         stageStart n (decide (up = s.b (aDrvCtl n) 15)) s)
        else s)) ∧
  (∀ (n : Fin 48) (t : _) (s : State), (chanSt n s).startAt = some t → (chanSt n s).safeOn = true →
      Runs (.safedurEnd n) s ((let ms := safeMs n s
        let s := stageStop n ms false (s.advTo (t + msT ms))
        setChan n { chanSt n s with safeOn := false } s))) ∧
  (∀ (n : Fin 48) (s : State), (chanSt n s).startAt = none →
      Runs (.safedurEnd n) s s) ∧
  (∀ (hi : Bool) (v : Word) (s : State), 
      Runs (.drvSafeclrWrite hi v) s (forRange 32 (fun i s => if bit v i ∧ 32 * hi.toNat + i < 48 then releaseSafe (32 * hi.toNat + i) s else s) s))

/-- Tachometers, speed loop, stalls, kicks and release of the fans (R11, R233, R332, R333, R334, R336, R337, R338, R339, R340, R342).
Where the rules leave a reading open, the effects named are the model's choice: log entries 84, 85. -/
def Obligations.FanCommands : Prop :=
  (∀ (p : Packet) (t : State) (s : State), takePacket (fun p => decide (hfld p.hdr 60 4 = 10) && decide (hfld p.hdr 54 2 = 2) && decide (hfld p.hdr 40 2 = 3)) s = some (p, t) → hfld p.hdr 32 8 < 16 → domOn .brk t = true →
      Runs (.fanDutyArrival) s (applyFan (hfld p.hdr 32 8) (setFan (hfld p.hdr 32 8) { fanSt (hfld p.hdr 32 8) t with slotDem := some (flitVal (p.payload.headD 0)) } t))) ∧
  (∀ (f : Fin 16) (s : State), domOn .brk s = true → s.b (aFanCfg f) 31 = true →
      Runs (.tachEdge f) s ((let u := s.f (aFanCfg f) 16 5
        let s := { s with inp := { s.inp with cap := tblSet 0 s.inp.cap u (tblGet 0 s.inp.cap u + 1) } }
        let st := fanSt f s
        let edges := (s.now :: st.edges).take 5
        let s := setFan f { st with edges := edges, winAt := s.now,
                                    kickEdges := if fanState f s = 3 then s.now :: st.kickEdges else st.kickEdges } s
        let s := s.setF (aFanSpd f) 16 16 (speedOf f edges s)
        if fanState f s = 4 then fanRun f (setFan f { fanSt f s with runAt := s.now } (putFanState f 1 s)) else s))) ∧
  (∀ (f : Fin 16) (s : State), ¬ (domOn .brk s = true ∧ s.b (aFanCfg f) 31 = true) → Runs (.tachEdge f) s s) ∧
  (∀ (f : Fin 16) (s : State), domOn .brk s = true → s.b (aFanCfg f) 31 = true → s.b (aFanCfg f) 30 = true → fanState f s = 1 → s.b (aFanStat f) 11 = false →
      Runs (.fanSpeedLoop f) s ((let s := s.advTo ((fanSt f s).loopAt + msT 100)
        let st := fanSt f s
        let d := s.reg (aFanDem f)
        let ff := dutyFf f d s
        let speed := f32OfNat (fanSpeed f s)
        let e := f32Sub d (f32Div (f32Mul 0x42C80000 speed) (f32OfNat (s.f (aFanLim f) 0 16)))
        let kf := f32Div (f32OfNat (s.f (aFanLoop f) 24 8)) 0x42C80000
        let i := f32Add st.integ (f32Div (f32Mul e (f32OfRat (mkRat 1 10))) (f32OfNat (s.f (aFanLoop f) 16 8)))
        let raw := f32Add ff (f32Mul kf (f32Add e i))
        let hi := f32Lt 0x42C80000 raw && f32Lt st.integ i
        let lo := f32Lt raw (f32OfNat (minDuty f s)) && f32Lt i st.integ
        let i' := if hi || lo then st.integ else i
        let s := setFan f { st with integ := i', loopAt := s.now } s
        putDuty f (limitDuty f (f32Add ff (f32Mul kf (f32Add e i'))) s) s))) ∧
  (∀ (f : Fin 16) (s : State), ¬ (domOn .brk s = true ∧ s.b (aFanCfg f) 31 = true ∧ s.b (aFanCfg f) 30 = true ∧ fanState f s = 1 ∧ s.b (aFanStat f) 11 = false) → Runs (.fanSpeedLoop f) s s) ∧
  (∀ (f : Fin 16) (ma : List Int) (s : State), domOn .brk s = true → s.b (aFanCfg f) 31 = true → fanState f s = 1 → f32Le (f32OfNat (minDuty f s)) (fanSt f s).duty = true → supplyOn f s = true →
      Runs (.stall f ma) s ((let s := s.advTo ((fanSt f s).winAt + stallWin f s)
        let s := match fanChan f s with | some c => lateReadings c ma s | none => s
        if inBand f s then
          (let s := ((putFanState f 4 s).setB (aFanStat f) 29 true).setF (aFanSpd f) 16 16 0
           putDuty f (demandDuty f s) (setFan f { fanSt f s with outAt := none } s))
        else stallStart f s))) ∧
  (∀ (f : Fin 16) (ma : List Int) (s : State), ¬ (domOn .brk s = true ∧ s.b (aFanCfg f) 31 = true ∧ fanState f s = 1 ∧ f32Le (f32OfNat (minDuty f s)) (fanSt f s).duty = true ∧ supplyOn f s = true) → Runs (.stall f ma) s s) ∧
  (∀ (f : Fin 16) (s : State), domOn .brk s = true → fanState f s = 4 → inBand f s = false →
      Runs (.tachLostTimeout f) s (stallStart f (s.advTo ((fanSt f s).outAt.getD s.now + secT 1)))) ∧
  (∀ (f : Fin 16) (s : State), ¬ (domOn .brk s = true ∧ fanState f s = 4 ∧ inBand f s = false) → Runs (.tachLostTimeout f) s s) ∧
  (∀ (f : Fin 16) (t : _) (s : State), (fanSt f s).waitEnd = some t → domOn .brk s = true → fanState f s = 2 →
      Runs (.kick f) s ((let s := s.advTo t
        let s := setFan f { fanSt f s with kickDue := true } s
        kickIfReady f (wantSupply f true s)))) ∧
  (∀ (f : Fin 16) (s : State), (fanSt f s).waitEnd = none →
      Runs (.kick f) s s) ∧
  (∀ (f : Fin 16) (t : _) (s : State), (fanSt f s).kickAt = some t → domOn .brk s = true → fanState f s = 3 →
      Runs (.kickEnd f) s ((let s := s.advTo (t + secT 3)
        let n := ((fanSt f s).kickEdges.filter (fun x => decide (t + secT 2 < x ∧ x ≤ t + secT 3))).length
        if 2 * fanPpr f s ≤ n then fanRun f (s.setB (aFanStat f) 12 false)
        else
          (let s := s.bump (aFanSpd f) 8 8
           let s := if 5 ≤ s.f (aFanSpd f) 8 8 then (s.setB (aFanStat f) 12 true).setB (aFanStat f) 31 true else s
           nextWait f s)))) ∧
  (∀ (f : Fin 16) (s : State), (fanSt f s).kickAt = none →
      Runs (.kickEnd f) s s) ∧
  (∀ (f : Fin 16) (s : State), domOn .brk s = true → fanState f s = 1 →
      Runs (.retryCountReset f) s ((let s := s.advTo ((fanSt f s).runAt + secT 60)
        setFan f { fanSt f s with waits := 0 } s))) ∧
  (∀ (f : Fin 16) (s : State), ¬ (domOn .brk s = true ∧ fanState f s = 1) → Runs (.retryCountReset f) s s) ∧
  (∀ (f : Fin 16) (s : State), domOn .brk s = true → s.b (aFanCfg f) 31 = true → s.b (aFanCfg f) 15 = true →
      Runs (.fanSpeedReport f) s ((let s := s.advTo (gridFrom s.rq.origin (secT 1) (afterLast (fanSt f s).reportAt s))
        let s := setFan f { fanSt f s with reportAt := some s.now } s
        let st := fanState f s
        let flags := if st = 2 ∨ st = 3 ∨ st = 4 ∨ s.b (aFanStat f) 12 then 128 else 0
        sendStream 10 3 (s.f (aFanCfg f) 0 8) 0 [BitVec.ofNat 64 (fanSpeed f s * 2 ^ 32 + flags)] s))) ∧
  (∀ (f : Fin 16) (s : State), ¬ (domOn .brk s = true ∧ s.b (aFanCfg f) 31 = true ∧ s.b (aFanCfg f) 15 = true) → Runs (.fanSpeedReport f) s s) ∧
  (∀ (v : Word) (s : State), 
      Runs (.fanSafeclrWrite v) s (forRange 16 (fun f s => if bit v f then fanRelease f s else s) s))

/-- The cycle, ends, ages and leases of the energy scheduler (R319, R324, R353, R356, R358, R362, R363, R366, R368).
Where the rules leave a reading open, the effects named are the model's choice: log entries 89, 90, 103, 151. -/
def Obligations.EnergySchedulerCommands : Prop :=
  (∀ (vf : Int) (ma : List (Nat × Int)) (s : State), 
      Runs (.schedulerCycle ⟨vf, ma⟩) s (cycle (forRange 48 safeLswStart (forRange 16 noteBand (readStages ma (let s := s.advTo (s.drv.cycleAt + msT 1); { s with drv := { s.drv with cycleAt := s.now, vf := (vf :: s.drv.vf).take 100 } })))))) ∧
  (∀ (n : Fin 48) (t : _) (s : State), durationDue n s = some t →
      Runs (.requestDurationEnd n) s (showRequests (durationEnd n (s.advTo t)))) ∧
  (∀ (n : Fin 48) (s : State), durationDue n s = none →
      Runs (.requestDurationEnd n) s s) ∧
  (∀ (n : Fin 48) (r : _) (s : State), (chanSt n s).pend = some r → (chanSt n s).rejected = false → (chanSt n s).aged.isSome = false → ¬ (r.cls = 0) →
      Runs (.requestAged n) s (let c := chanSt n s; showRequests (markAged n (s.advTo (c.joined + ageLimit r))))) ∧
  (∀ (n : Fin 48) (s : State), (chanSt n s).pend = none →
      Runs (.requestAged n) s s) ∧
  (∀ (n : Fin 48) (r : _) (s : State), (chanSt n s).run = some r → r.kind = 1 → r.dur = 0 →
      Runs (.leaseEnd n) s (let c := chanSt n s; showRequests (let s := s.advTo c.leaseEnd; leaseEnds (expiring s) s))) ∧
  (∀ (n : Fin 48) (s : State), (chanSt n s).run = none →
      Runs (.leaseEnd n) s s) ∧
  (∀ (n : Fin 48) (t : Nat) (s : State), (chanSt n s).deadEnd = some t →
      Runs (.moveDeadTimeEnd n) s (let u := setChan n { chanSt n (s.advTo t) with deadEnd := none } (s.advTo t); match calOf n u with | some r => calRequest r u | none => if (chanSt n (applyDemand n u)).fresh.isSome then applyDemand n u else setChan n { chanSt n (applyDemand n u) with keepJoin := none } (applyDemand n u))) ∧
  (∀ (n : Fin 48) (s : State), (chanSt n s).deadEnd = none →
      Runs (.moveDeadTimeEnd n) s s) ∧
  (∀ (cls : Fin 8) (s : State), s.f aEschStat 17 3 ≠ cls.val →
      Runs (.pdclassChange cls) s ((s.setF aEschStat 17 3 cls.val).setB aEschStat 27 true)) ∧
  (∀ (cls : Fin 8) (s : State), ¬ (s.f aEschStat 17 3 ≠ cls.val) → Runs (.pdclassChange cls) s s) ∧
  (∀ (t : _) (s : State), s.drv.allotAt = some t →
      Runs (.allotmentTimeout) s ((s.advTo (t + secT 5)).setB aEschStat 26 true)) ∧
  (∀ (s : State), s.drv.allotAt = none →
      Runs (.allotmentTimeout) s s) ∧
  (∀ (v : _) (s : State), ambientNow (ambientTick s) = some v →
      Runs (.ambientEstimate) s (let s := ambientTick s
        ({ s with drv := { s.drv with ta := some v } }).setF aEschMeas 8 8 (lowBits 8 (max (-128) (min 127 (f32Round v)))))) ∧
  (∀ (s : State), ambientNow (ambientTick s) = none →
      Runs (.ambientEstimate) s (ambientTick s))

/-- Port configuration, received frames and Modbus polling on the building buses (R374, R375, R376, R377, R381, R384, R385, R386, R392).
Where the rules leave a reading open, the effects named are the model's choice: log entries 15, 92, 93, 95. -/
def Obligations.BuildingBusPortCommands : Prop :=
  (∀ (p : Fin 6) (v : Word) (s : State), domOn .bus s = true →
      Runs (.portConfigWrite p v) s (pcfgWrite p v s)) ∧
  (∀ (p : Fin 6) (v : Word) (s : State), ¬ (domOn .bus s = true) → Runs (.portConfigWrite p v) s s) ∧
  (∀ (p : Fin 6) (r : MstpFrame) (s : State), domOn .bus s = true → portMode p s = 1 →
      Runs (.mstpFrameReceive p r) s ((let s := busSend p [] (s.advTo (s.now + msT r.quietMs))
        let s := if s.b (aBusPstat p) 30 then s else mstpQuiet p r.quietMs s
        if r.frame.bytes = [] then s else mstpReceive p r.frame s))) ∧
  (∀ (p : Fin 6) (r : MstpFrame) (s : State), ¬ (domOn .bus s = true ∧ portMode p s = 1) → Runs (.mstpFrameReceive p r) s s) ∧
  (∀ (p : Fin 6) (byte : Byte) (err : Bool) (s : State), domOn .bus s = true → portMode p s = 4 →
      Runs (.rawByteReceive p byte err) s ((let b := busPort p s
        if 256 ≤ b.rx.length then s.bump (aBusPcnt p) 0 4
        else
          (let s := showFill p (setPort p { b with rx := b.rx ++ [byte] } s)
           if err then s.bump (aBusPcnt p) 24 8 else s)))) ∧
  (∀ (p : Fin 6) (byte : Byte) (err : Bool) (s : State), ¬ (domOn .bus s = true ∧ portMode p s = 4) → Runs (.rawByteReceive p byte err) s s) ∧
  (∀ (p : Fin 6) (s : State), domOn .bus s = true → portMode p s = 2 → (busPort p s).await.isNone = true →
      Runs (.modbusPollRound p) s ((let mine := (List.range 32).filter (fun k => s.b (aBusMbp0 k) 31 && decide (s.f (aBusMbp0 k) 28 3 = p.val) && decide (mbpFmt k s ≤ 5))
        match mine with
        | [] => s
        | k0 :: t =>
          let due := t.foldl (fun m k => min m (entryDue k s)) (entryDue k0 s)
          let s := s.advTo due
          let l := mine.filter (fun k => decide (entryDue k s ≤ s.now))
          let s := forEach l (fun k s => { s with bus := { s.bus with polled := tblSet none s.bus.polled k (some s.now) } }) s
          pollNext p 0 (setPort p { busPort p s with todo := l } s)))) ∧
  (∀ (p : Fin 6) (s : State), ¬ (domOn .bus s = true ∧ portMode p s = 2 ∧ (busPort p s).await.isNone = true) → Runs (.modbusPollRound p) s s) ∧
  (∀ (p : Fin 6) (frame : SerialFrame) (s : State), domOn .bus s = true → portMode p s = 2 →
      Runs (.modbusMasterReply p frame) s ((match (busPort p s).await with
        | none => s
        | some (k, _, t) =>
          let s := countErrs p frame (s.advTo (t + frame.bytes.length * charT p s + frameGap p s))
          if t + msT (busPort p s).tmo + frameGap p s < s.now then s
          else match mbBody p frame s with
            | none => badFrame p s
            | some bs => masterTake p k bs s))) ∧
  (∀ (p : Fin 6) (frame : SerialFrame) (s : State), ¬ (domOn .bus s = true ∧ portMode p s = 2) → Runs (.modbusMasterReply p frame) s s) ∧
  (∀ (p : Fin 6) (s : State), domOn .bus s = true → portMode p s = 2 →
      Runs (.modbusMasterTimeout p) s ((match (busPort p s).await with
        | none => s
        | some (k, again, t) =>
          let s := s.advTo (t + msT (busPort p s).tmo)
          if again then pollFail p k (frameGap p s) (s.bump (aBusPcnt p) 8 8) else pollSend p k true (frameGap p s) s))) ∧
  (∀ (p : Fin 6) (s : State), ¬ (domOn .bus s = true ∧ portMode p s = 2) → Runs (.modbusMasterTimeout p) s s)

/-- Frames, credits, links, PING and the grove state of a node (R394, R395, R396, R397, R398, R400, R401, R402, R403, R408, R409, R422).
Where the rules leave a reading open, the effects named are the model's choice: log entries 98, 99, 101. -/
def Obligations.GraftLinkCommands : Prop :=
  (∀ (p : Fin 2) (frame : List Byte) (s : State), domOn .gft s = true → onLine p s = true →
      Runs (.graftFrameForward p frame) s ((let s := freshLine s
        match grParse frame with
        | none => dropBad p frame s
        | some g =>
          if g.src = myNode s ∨ g.dst = myNode s then sendSet p (.credit (grCls g.ty) 1) s else forward p g frame s))) ∧
  (∀ (p : Fin 2) (frame : List Byte) (s : State), ¬ (domOn .gft s = true ∧ onLine p s = true) → Runs (.graftFrameForward p frame) s s) ∧
  (∀ (p : Fin 2) (d : Byte) (s : State), domOn .gft s = true → onLine p s = true →
      Runs (.credit p d) s ((if 1 ≤ d.toNat % 16 ∧ d.toNat % 16 ≤ 8 then creditBack p (d.toNat / 64) (d.toNat % 16) (freshLine s) else s))) ∧
  (∀ (p : Fin 2) (d : Byte) (s : State), ¬ (domOn .gft s = true ∧ onLine p s = true) → Runs (.credit p d) s s) ∧
  (∀ (p : Fin 2) (cls : Fin 4) (s : State), domOn .gft s = true → (cls.val = 0 ∨ cls.val = 3) →
      Runs (.hopCreditTimeout p cls) s ((match takeFirst (fun (h : GrHeld) => decide (h.port = p.val ∧ h.cls = cls.val)) s.gft.held with
        | some (h, rest) =>
          freeBuffer p cls h.fwd ((({ (freshLine s) with gft := { (freshLine s).gft with held := rest } }).advTo (h.at_ + msT 1)).bump (aGraftPcnt p) 0 8)
        | none => s))) ∧
  (∀ (p : Fin 2) (s : State), domOn .gft s = true → grState s = 2 → grLink p s = 0 →
      Runs (.linkTraining p) s (s.setF (aGraftPort p) 30 2 1)) ∧
  (∀ (p : Fin 2) (s : State), ¬ (domOn .gft s = true ∧ grState s = 2 ∧ grLink p s = 0) → Runs (.linkTraining p) s s) ∧
  (∀ (p : Fin 2) (s : State), domOn .gft s = true → grState s = 2 → grLink p s ≠ 2 →
      Runs (.linkUp p) s ((let s := (freshLine s).setF (aGraftPort p) 30 2 2
        let s := forRange 4 (fun c s => { s with gft := { s.gft with used := tblSet 0 s.gft.used (4 * p + c) 0 } }) s
        let s := routeBits s
        let q := takeSeq 0 s
        let s := putFrame p 0 (grFrame 0x01 (myNode q.2) 0xFF 15 q.1 (helloPayload q.2)) q.2
        forRange 3 pump s))) ∧
  (∀ (p : Fin 2) (s : State), ¬ (domOn .gft s = true ∧ grState s = 2 ∧ grLink p s ≠ 2) → Runs (.linkUp p) s s) ∧
  (∀ (p : Fin 2) (v : LineFault) (s : State), domOn .gft s = true → grLink p s ≠ 0 →
      Runs (.linkDown p v) s ((let s := s.setF (aGraftPcnt p) 16 8 (satAdd 8 (s.f (aGraftPcnt p) 16 8) v.violations)
        if v.silent = false ∧ v.violations < 16 then s
        else
        let s := (s.setF (aGraftPort p) 30 2 0).setB aGraftStat 28 true
        let s := s.bump (aGraftPcnt p) 8 8
        let gone := s.gft.held.filter (fun h => h.port = p.val)
        let s := { (freshLine s) with gft := { (freshLine s).gft with held := s.gft.held.filter (fun h => h.port ≠ p.val) } }
        routeBits (forEach gone (fun h s => freeBuffer p h.cls h.fwd s) s)))) ∧
  (∀ (p : Fin 2) (v : LineFault) (s : State), ¬ (domOn .gft s = true ∧ grLink p s ≠ 0) → Runs (.linkDown p v) s s) ∧
  (∀ (p : Fin 2) (rx : Option Byte) (s : State), domOn .gft s = true → onLine p s = true →
      Runs (.ping p rx) s ((let s := freshLine s
        match rx with
        | some n =>
          let w := s.draw
          sendSet p (.echo n (BitVec.ofNat 8 (w.1.toNat % 101))) w.2
        | none =>
          let s := s.advTo (tblGet 0 s.gft.pingAt p + msT 10)
          let n := s.gft.pingNo % 256
          let g := { s.gft with ping := tblSet none s.gft.ping p (some (n, s.now)), pingNo := (n + 1) % 256, pingAt := tblSet 0 s.gft.pingAt p s.now }
          sendSet p (.ping (BitVec.ofNat 8 n)) { s with gft := g }))) ∧
  (∀ (p : Fin 2) (rx : Option Byte) (s : State), ¬ (domOn .gft s = true ∧ onLine p s = true) → Runs (.ping p rx) s s) ∧
  (∀ (p : Fin 2) (n turnaround : Byte) (s : State), domOn .gft s = true → onLine p s = true →
      Runs (.echo p n turnaround) s ((match tblGet none s.gft.ping p with
        | some (k, t) =>
          if k = n.toNat then
            (let d := ((s.now - t) * 5 - turnaround.toNat) / 2
             let l := (d :: tblGet [] s.gft.delays p).take 16
             let s := { s with gft := { s.gft with ping := tblSet none s.gft.ping p none, delays := tblSet [] s.gft.delays p l } }
             s.setF (aGraftPort p) 0 16 (min 65535 (l.foldl (· + ·) 0 / l.length)))
          else s
        | none => s))) ∧
  (∀ (p : Fin 2) (n turnaround : Byte) (s : State), ¬ (domOn .gft s = true ∧ onLine p s = true) → Runs (.echo p n turnaround) s s) ∧
  (∀ (v : Word) (s : State), domOn .gft s = true →
      Runs (.graftCtlWrite v) s (graftCtlWrite v s)) ∧
  (∀ (v : Word) (s : State), ¬ (domOn .gft s = true) → Runs (.graftCtlWrite v) s s) ∧
  (∀ (s : State), domOn .gft s = true → grState s = 1 →
      Runs (.listenEnd) s (judgeListen (s.advTo (s.gft.listenAt + msT 20)))) ∧
  (∀ (s : State), ¬ (domOn .gft s = true ∧ grState s = 1) → Runs (.listenEnd) s s) ∧
  (∀ (s : State), domOn .gft s = true → grState s = 3 → s.b aGraftStat 30 = true →
      Runs (.roleconfRelisten) s (startListen (s.advTo (s.gft.outAt + secT 10)))) ∧
  (∀ (s : State), ¬ (domOn .gft s = true ∧ grState s = 3 ∧ s.b aGraftStat 30 = true) → Runs (.roleconfRelisten) s s) ∧
  (∀ (s : State), domOn .gft s = true → grState s = 2 →
      Runs (.helloSend) s ((let s := freshLine (s.advTo (s.gft.helloAt + msT 100))
        let s := { s with gft := { s.gft with helloAt := s.now } }
        sendFrame 0x01 0xFF (helloPayload s) s))) ∧
  (∀ (s : State), ¬ (domOn .gft s = true ∧ grState s = 2) → Runs (.helloSend) s s) ∧
  (∀ (node : Fin 16) (g : _) (s : State), grNode node s = some g → domOn .gft s = true →
      Runs (.nodeAbsence node) s ((let s := s.advTo (g.lastHello + msT 500)
        let s := { s with gft := { s.gft with nodes := tblSet none s.gft.nodes node none, absentAt := tblSet none s.gft.absentAt node (some g.lastHello) } }
        let s := routeBits s
        if s.f aGraftStat 20 4 = node.val ∧ !acting s then s.setB aGraftStat 19 false else s))) ∧
  (∀ (node : Fin 16) (s : State), grNode node s = none →
      Runs (.nodeAbsence node) s s)

/-- Seconds, calibration, supply and oscillator of the clock (R5, R487, R491, R496, R499, R500, R501, R502).
Where the rules leave a reading open, the effects named are the model's choice: log entries 121, 122, 168. -/
def Obligations.ClockEvents : Prop :=
  (∀ (reader : Reader) (s : State), s.rtc.held = false →
      Runs (.rtcCapture reader) s (rtcCapture (match reader with | .core0 => 0 | .core1 => 1 | .host => 2) s)) ∧
  (∀ (reader : Reader) (s : State), ¬ (s.rtc.held = false) → Runs (.rtcCapture reader) s s) ∧
  (∀ (s : State), clockRuns s = true →
      Runs (.rtcSecond) s (secondBoundary (s.advTo (s.rtc.phase + secLen s)))) ∧
  (∀ (s : State), ¬ (clockRuns s = true) → Runs (.rtcSecond) s s) ∧
  (∀ (s : State), s.rtc.held = false → s.rtc.oscStop = false →
      Runs (.calWindow) s (let s := s.advTo (s.rtc.winAt + secT 32)
        let x := subsecNow s
        let s := { s with rtc := { s.rtc with cal := s.f aRtcCal 0 9, winAt := s.now - (s.now - s.rtc.winAt) % secT 32 } }
        if clockRuns s then { s with rtc := { s.rtc with phase := s.now - x * secLen s / 32768 } } else s)) ∧
  (∀ (s : State), ¬ (s.rtc.held = false ∧ s.rtc.oscStop = false) → Runs (.calWindow) s s) ∧
  (∀ (vinMv : Nat) (s : State), s.rtc.held = false → s.b aRtcStat 22 = false → vinMv < 2300 →
      Runs (.powerPathSwitch vinMv) s (judgeCharge (firstSwitchOver ((s.setB aRtcStat 22 true).bump aRtcSwcnt 0 16)))) ∧
  (∀ (vinMv : Nat) (s : State), s.rtc.held = false → s.b aRtcStat 22 = true → 2450 < vinMv →
      Runs (.powerPathSwitch vinMv) s (judgeCharge (s.setB aRtcStat 22 false))) ∧
  (∀ (s : State), s.rtc.held = false →
      Runs (.brownout) s (loseTime 1 s)) ∧
  (∀ (s : State), ¬ (s.rtc.held = false) → Runs (.brownout) s s) ∧
  (∀ (s : State), s.rtc.held = false →
      Runs (.bkpreset) s (let s := resetDomRegs .bkp s
        let r := { s.rtc with held := true, sub := 0, secWritten := false, cal := 0, oscStop := false, vbat := 0 }
        { s with rtc := r, heart := { s.heart with bramLost := true, fails := [], lockEnd := [] } })) ∧
  (∀ (s : State), ¬ (s.rtc.held = false) → Runs (.bkpreset) s s) ∧
  (∀ (s : State), s.rtc.held = true →
      Runs (.bkpResetRelease) s ({ s with rtc := { s.rtc with held := false, winAt := s.now, phase := s.now } })) ∧
  (∀ (s : State), ¬ (s.rtc.held = true) → Runs (.bkpResetRelease) s s) ∧
  (∀ (s : State), s.rtc.held = false → s.rtc.oscStop = false →
      Runs (.oscstop) s (let s := loseTime 2 (freeze s)
        { s with rtc := { s.rtc with oscStop := true, winCnt := (s.now - s.rtc.winAt) % secT 32 } })) ∧
  (∀ (s : State), ¬ (s.rtc.held = false ∧ s.rtc.oscStop = false) → Runs (.oscstop) s s) ∧
  (∀ (s : State), s.rtc.held = false → s.rtc.oscStop = true →
      Runs (.oscillatorRestart) s (let s := { s with rtc := { s.rtc with oscStop := false, winAt := s.now - s.rtc.winCnt } }
        if halted s then s else thaw s)) ∧
  (∀ (s : State), ¬ (s.rtc.held = false ∧ s.rtc.oscStop = true) → Runs (.oscillatorRestart) s s) ∧
  (∀ (vbatMv : Nat) (s : State), s.rtc.held = false →
      Runs (.vblowSample vbatMv) s (judgeCharge (({ s with rtc := { s.rtc with vbat := vbatMv } }).setB aRtcStat 21 (decide (vbatMv < 2000))))) ∧
  (∀ (vbatMv : Nat) (s : State), ¬ (s.rtc.held = false) → Runs (.vblowSample vbatMv) s s)

/-- Clock register writes and the CLOCK commands (R493, R494, R495, R496, R503, R504, R506, R507).
Where the rules leave a reading open, the effects named are the model's choice: log entry 123. -/
def Obligations.ClockWritesAndCommands : Prop :=
  (∀ (i : Fin 9) (v : Word) (s : State), s.rtc.held = false → i.val ≠ 3 → i.val ≠ 8 → halted s = true → timeFieldOk i (fld v 0 (timeFieldBits i)) = true →
      Runs (.rtcTimeWrite i v) s (let t := s.setReg (aRtcSec + 4 * i.val) (BitVec.ofNat 32 (fld v 0 (timeFieldBits i))); if i.val = 0 then { t with rtc := { t.rtc with sub := 0, secWritten := true } } else t)) ∧
  (∀ (s : State), s.rtc.held = false → halted s = false →
      Runs (.rtcHalt) s ((let t := (freeze (boundaryNow s)).setB aRtcCtl 31 true; { t with rtc := { t.rtc with secWritten := false } }))) ∧
  (∀ (s : State), s.rtc.held = false → halted s = true → dateOk s = true →
      Runs (.rtcRun) s ((let t := s.setF aRtcWday 0 3 (weekday (clockDay s))
        let t := if t.rtc.secWritten then t.setB aRtcStat 31 false else t
        let t := thaw (t.setB aRtcCtl 31 false)
        { t with rtc := { t.rtc with change := true }, grr := { t.grr with changed := true } }))) ∧
  (∀ (v : Word) (s : State), s.rtc.held = false → fld v 0 9 ≠ 0x100 →
      Runs (.rtcCalWrite v) s (s.setReg aRtcCal (BitVec.ofNat 32 (fld v 0 9)))) ∧
  (∀ (v : Word) (s : State), s.rtc.held = false →
      Runs (.fsoarmWrite v) s (plainWrite aRtcFsoarm v s)) ∧
  (∀ (sec : Bool) (v : Word) (s : State), s.rtc.held = false → sec = true → (bit v 31 = false ∨ s.b aRtcTrkl 31 = true ∨ fld v 8 8 = 0x5A) →
      Runs (.trickleWrite sec v) s (judgeCharge (plainWrite aRtcTrkl v s))) ∧
  (∀ (id : Nat) (c : Cmd) (s : State), CmdTurn id 0x0D01 c s →
      Runs (.clockGet id) s (settle id (.done stOk [match timeNow (rtcCapture 0 s) with | some t => BitVec.ofNat 32 t | none => 0xFFFFFFFF, (rtcCapture 0 s).reg aRtcStat, rtcShadow 0 8 (rtcCapture 0 s), (rtcCapture 0 s).reg aRtcSwcnt]) (rtcCapture 0 s))) ∧
  (∀ (id : Nat) (c : Cmd) (s : State), CmdTurn id 0x0D02 c s → ownerBase rtcRef s = true →
      Runs (.clockSet id) s (settle id (.st stOk) (setClock (mw c.words 1).toNat s))) ∧
  (∀ (id : Nat) (c : Cmd) (s : State), CmdTurn id 0x0D03 c s → onlyBits (mw c.words 1) 0x101 = true → ownerBase rtcRef s = true → alarmOk (mw c.words 2) (mw c.words 3) = true →
      Runs (.clockAlarm id) s (settle id (.st stOk) (let a := fld (mw c.words 1) 0 1
        let t := plainWrite (aRtcAlmd a) (mw c.words 3) (plainWrite (aRtcAlmt a) (mw c.words 2) s)
        if bit (mw c.words 1) 8 then t.setB aRtcStat (23 + a) false else t))) ∧
  (∀ (id : Nat) (c : Cmd) (s : State), CmdTurn id 0x0D04 c s → ownerBase rtcRef s = true → -255 ≤ (mw c.words 1).toInt → (mw c.words 1).toInt ≤ 255 →
      Runs (.clockCalibrate id) s (settle id (.done stOk [BitVec.ofInt 32 (signed 9 (s.f aRtcCal 0 9))]) (rtcCalWrite (BitVec.ofInt 32 (mw c.words 1).toInt) s)))

/-- Seconds, samples, deferral, banks and writes of the growth-ring recorder (R463, R466, R472, R473, R475, R477, R478, R479, R482).
Where the rules leave a reading open, the effects named are the model's choice: log entries 114, 115, 116, 118, 119. -/
def Obligations.RecorderEvents : Prop :=
  (∀ (v : Word) (s : State), domOn .grr s = true →
      Runs (.grrPreswrWrite v) s (preswr v s)) ∧
  (∀ (v : Word) (s : State), ¬ (domOn .grr s = true) → Runs (.grrPreswrWrite v) s s) ∧
  (∀ (s : State), recOn s = true → s.grr.defer.isNone = true → s.grr.doneSec < s.rtc.secs →
      Runs (.recorderSecond) s (recorderSecond s)) ∧
  (∀ (s : State), ¬ (recOn s = true ∧ s.grr.defer.isNone = true ∧ s.grr.doneSec < s.rtc.secs) → Runs (.recorderSecond) s s) ∧
  (∀ (c : Fin 256) (p : Packet) (t : State) (s : State), takePacket (sampleFor c s) (dropStray s) = some (p, t) → recOn t = true → t.b (aGrrChcfg c) 31 = true → groupStopped (c / 64) t = false → t.now ≤ t.rtc.phase + msT 500 → t.rtc.phase ≤ p.sentAt → tblGet 0 t.grr.took c ≠ t.rtc.secs + 1 →
      Runs (.recorderSample c) s ((let t := { t with grr := { t.grr with took := tblSet 0 t.grr.took c (t.rtc.secs + 1) } }
        let low := flitLow (p.payload.headD 0)
        let x : RecSample := ⟨c, t.rtc.secs, recTime t, flitVal (p.payload.headD 0), fld low 0 8⟩
        let mine := (t.grr.samples.filter (fun y => y.chan = x.chan)).length
        if t.grr.defer.isNone && decide (t.grr.doneSec = t.rtc.secs) then applySample x t
        else if t.grr.defer.isSome && decide (2 ≤ mine) then t
        else { t with grr := { t.grr with samples := t.grr.samples ++ [x] } }))) ∧
  (∀ (c : Fin 256) (p : Packet) (t : State) (s : State), takePacket (sampleFor c s) (dropStray s) = some (p, t) → (recOn t = false ∨ t.b (aGrrChcfg c) 31 = false ∨ groupStopped (c / 64) t = true ∨ t.rtc.phase + msT 500 < t.now ∨ p.sentAt < t.rtc.phase ∨ tblGet 0 t.grr.took c = t.rtc.secs + 1) →
      Runs (.recorderSample c) s (t)) ∧
  (∀ (c : Fin 256) (s : State), takePacket (sampleFor c s) (dropStray s) = none →
      Runs (.recorderSample c) s s) ∧
  (∀ (s : State), s.grr.defer = none →
      Runs (.saveDeferralTimeout) s s) ∧
  (∀ (t : _) (s : State), s.grr.defer = some t →
      Runs (.saveDeferralTimeout) s (healthCount 11 1 (endDeferral (s.advTo (t + secT 2))))) ∧
  (∀ (reader : Reader) (v : Word) (s : State), domOn .grr s = true →
      Runs (.grrCursorWrite reader v) s (cursorWrite (readerNo reader) v s)) ∧
  (∀ (reader : Reader) (v : Word) (s : State), ¬ (domOn .grr s = true) → Runs (.grrCursorWrite reader v) s s) ∧
  (∀ (bank : Fin 5) (words : List Nat) (s : State), domOn .grr s = true → s.grr.up = true → words.isEmpty = false →
      Runs (.bankFailure bank words) s (let s := s.setReg aGrrEcc (setFld (s.reg aGrrEcc) 0 16 (satAdd 16 (s.f aGrrEcc 0 16) words.length))
        match (List.range 4).find? (fun g => bankOf g s = bank) with
        | some g => bankFails g bank words s
        | none =>
          if s.b aGrrBanks 31 && decide (s.f aGrrBanks 28 3 = bank) then
            let s := addScar 3 bank 0 (s.setB aGrrStat 31 true)
            let s := (s.setB aGrrBanks 31 false).setB aGrrStat 28 true
            healthCount 6 words.length (healthCount 4 1 s)
          else s)) ∧
  (∀ (bank : Fin 5) (words : List Nat) (s : State), ¬ (domOn .grr s = true ∧ s.grr.up = true ∧ words.isEmpty = false) → Runs (.bankFailure bank words) s s) ∧
  (∀ (corrected : Nat) (s : State), domOn .grr s = true → s.grr.up = true →
      Runs (.recorderScrub corrected) s (let s := s.advTo (s.grr.scrubAt + secT 60)
        let s := { s with grr := { s.grr with scrubAt := s.now } }
        let s := s.setF aGrrEcc 16 16 (satAdd 16 (s.f aGrrEcc 16 16) corrected)
        healthCount 5 corrected s)) ∧
  (∀ (corrected : Nat) (s : State), ¬ (domOn .grr s = true ∧ s.grr.up = true) → Runs (.recorderScrub corrected) s s) ∧
  (∀ (t : _) (s : State), s.fw.clearToken = some t →
      Runs (.clearTokenExpiry) s ((fun s => { s with fw := { s.fw with clearToken := none } }) (s.advTo t.until_))) ∧
  (∀ (s : State), s.fw.clearToken = none →
      Runs (.clearTokenExpiry) s s)

/-- The REC commands (R472, R482, R483, R484, R485).
Where the rules leave a reading open, the effects named are the model's choice: log entries 5, 117, 118, 120. -/
def Obligations.RecorderCommands : Prop :=
  (∀ (id : Nat) (c : Cmd) (s : State), CmdTurn id 0x0C01 c s → Passes ([(!onlyBits (mw c.words 2) 0x30F3F, stBadArg), (decide (12 < fld (mw c.words 2) 8 4 + 1), stBadArg)] ++ refFails 0x0D (mw c.words 1) ++ [(!domOn .grr s || !s.grr.up || groupStopped (refInst (mw c.words 1) / 64) s, stNoResource), (decide ((if fld (mw c.words 2) 16 2 = 3 then 24 else 40) < fld (mw c.words 2) 0 6 + (fld (mw c.words 2) 8 4 + 1)), stRange)]) →
      Runs (.recRead id) s (settle id (.done stOk (recWord (chanBase (refInst (mw c.words 1))) s :: (List.range (fld (mw c.words 2) 8 4 + 1)).map (fun i => recPartWord (refInst (mw c.words 1)) (fld (mw c.words 2) 16 2) (fld (mw c.words 2) 0 6 + i) s))) (s))) ∧
  (∀ (id : Nat) (c : Cmd) (s : State), CmdTurn id 0x0C02 c s → Passes (refFails 0x0D (mw c.words 1) ++ [(!domOn .grr s, stNoResource)]) → ownerBase (mw c.words 1) s = true → claimed grrRef s = false → chcfgBad (mw c.words 2) s = false →
      Runs (.recConfig id) s (settle id (.st stOk) (chcfgWrite (refInst (mw c.words 1)) (mw c.words 2) s))) ∧
  (∀ (id : Nat) (c : Cmd) (s : State), CmdTurn id 0x0C04 c s → onlyBits (mw c.words 1) 7 = true → fld (mw c.words 1) 0 3 ≠ 7 → (domOn .grr s = true ∨ fld (mw c.words 1) 0 3 = 1 ∨ fld (mw c.words 1) 0 3 = 2) →
      Runs (.recHealth id) s (settle id (.done stOk (
        if fld (mw c.words 1) 0 3 = 0 then [s.reg aGrrStat, s.reg aGrrBanks] ++ (List.range 12).map (fun k => recWord (healthBase + 2 + k) s)
        else if fld (mw c.words 1) 0 3 < 3 then (List.range 8).map (fun k => s.reg (aRtcScar (8 * (fld (mw c.words 1) 0 3 - 1) + k)))
        else (List.range 4).flatMap (fun e => (List.range 3).map (fun w => recWord (histBase + 4 * (4 * (fld (mw c.words 1) 0 3 - 3) + e) + w) s)))) (s))) ∧
  (∀ (id : Nat) (c : Cmd) (s : State), CmdTurn id 0x0C03 c s → fld (mw c.words 1) 24 8 = 0 → Passes ([(!onlyBits (mw c.words 1) 0xFFFF0000, stBadArg), (decide (7 < fld (mw c.words 1) 16 8), stBadArg), (decide (mw c.words 3 ≠ 0), stBadArg)] ++ clearChecks (fld (mw c.words 1) 16 8) (mw c.words 2) s) →
      Runs (.recClearToken id) s (settle id (.done stOk [s.draw.1]) ({ s.draw.2 with fw := { s.draw.2.fw with clearToken := some ⟨s.draw.1, s.now + secT 60, fld (mw c.words 1) 16 8, mw c.words 2, s.draw.2.reg aHpEpoch >>> 16⟩ } }))) ∧
  (∀ (id : Nat) (c : Cmd) (s : State), CmdTurn id 0x0C03 c s → fld (mw c.words 1) 24 8 ≠ 0 → Passes ([(!onlyBits (mw c.words 1) 0xFFFF0000, stBadArg), (decide (fld (mw c.words 1) 24 8 ≠ 1), stBadArg), (decide (7 < fld (mw c.words 1) 16 8), stBadArg)] ++ clearChecks (fld (mw c.words 1) 16 8) (mw c.words 2) s) → tokenOk (fld (mw c.words 1) 16 8) (mw c.words 2) (mw c.words 3) s = true →
      Runs (.recClear id) s (settle id (.st stOk) (healthCount 13 1 (clearEntry (fld (mw c.words 1) 16 8) (mw c.words 2) c.seq (clearScope (fld (mw c.words 1) 16 8) (refInst (mw c.words 2)) { s with fw := { s.fw with clearToken := none } }))))) ∧
  (∀ (id : Nat) (c : Cmd) (s : State), CmdTurn id 0x0C03 c s → fld (mw c.words 1) 24 8 ≠ 0 → Passes ([(!onlyBits (mw c.words 1) 0xFFFF0000, stBadArg), (decide (fld (mw c.words 1) 24 8 ≠ 1), stBadArg), (decide (7 < fld (mw c.words 1) 16 8), stBadArg)] ++ clearChecks (fld (mw c.words 1) 16 8) (mw c.words 2) s) → tokenOk (fld (mw c.words 1) 16 8) (mw c.words 2) (mw c.words 3) s = false →
      Runs (.recClear id) s (settle id (.st stAuthFail) ({ s with fw := { s.fw with clearToken := none } })))

/-- Scrubs, counters, saves and lock-outs of Heartwood (R266, R433, R435, R444, R445, R447, R449, R452, R473).
Where the rules leave a reading open, the effects named are the model's choice: log entries 108, 109, 110, 165, 166. -/
def Obligations.HeartwoodEvents : Prop :=
  (∀ (corr1 corr2 unver uncorr : Nat) (s : State), heartOn s = true →
      Runs (.heartwoodScrub corr1 corr2 unver uncorr) s (let s := s.advTo (s.heart.scrubAt + secT 86400)
        let s := { s with heart := { s.heart with scrubAt := s.now } }
        let s := s.setF aHwdEcc 16 16 (satAdd 16 (s.f aHwdEcc 16 16) corr1)
        let s := s.setF aHwdEcc 8 8 (satAdd 8 (s.f aHwdEcc 8 8) corr2)
        let s := s.setF aHwdEcc 4 4 (satAdd 4 (s.f aHwdEcc 4 4) unver)
        let s := s.setF aHwdEcc 0 4 (satAdd 4 (s.f aHwdEcc 0 4) uncorr)
        if uncorr = 0 then s else s.setB aHwdStat 31 true)) ∧
  (∀ (corr1 corr2 unver uncorr : Nat) (s : State), ¬ (heartOn s = true) → Runs (.heartwoodScrub corr1 corr2 unver uncorr) s s) ∧
  (∀ (s : State), heartOn s = true →
      Runs (.counterSlotWrite) s (flushOne (slotOutcome s.draw.1) s.draw.2)) ∧
  (∀ (s : State), ¬ (heartOn s = true) → Runs (.counterSlotWrite) s s) ∧
  (∀ (k : Fin 128) (s : State), domOn .hwd s = true → sourceLive k s = true →
      Runs (.counterEvent k) s (let mark := tblGet 0 s.heart.cntMark k
        let src := s.f (aHwdCntcfg k) 28 3
        if src ≤ 2 then
          let tot := sourceTotal k s
          if mark < tot then countSource k (setMark k (mark + 1) s)
          else if src = 2 ∧ tot = 65535 then countSource k s
          else setMark k tot s
        else
          let began := if src = 3 then ((chanSt (s.f (aHwdCntcfg k) 16 6) s).startAt).getD 0 else 0
          let t := max mark began + secT 1
          countSource k (setMark k t (s.advTo t)))) ∧
  (∀ (k : Fin 128) (s : State), ¬ (domOn .hwd s = true ∧ sourceLive k s = true) → Runs (.counterEvent k) s s) ∧
  (∀ (medium : SaveMedium) (s : State), mayWrite s = true → s.pwr.inService = true → domOn .hwd s = true →
      Runs (.periodicSave medium) s (let s := s.advTo (s.heart.saveAt + secT (60 * s.f aHwdSave 26 6))
        let s := { s with heart := { s.heart with saveAt := s.now } }
        let r := saveSections medium s
        match r.1 with
        | none => r.2
        | some _ =>
          if medium.recorder = .silent ∧ domOn .grr r.2 then
            (if r.2.grr.defer.isSome then r.2 else { r.2 with grr := { r.2.grr with defer := some r.2.now } })
          else showDuration r.2)) ∧
  (∀ (medium : SaveMedium) (s : State), ¬ (mayWrite s = true ∧ s.pwr.inService = true ∧ domOn .hwd s = true) → Runs (.periodicSave medium) s s) ∧
  (∀ (medium : Medium) (s : State), mayWrite s = true → domOn .hwd s = true → s.fw.recovery = false →
      Runs (.parametersSave medium) s (saveParams medium (s.advTo (s.heart.parAt + (if paramsChanged s then secT 1 else secT 21600))))) ∧
  (∀ (medium : Medium) (s : State), ¬ (mayWrite s = true ∧ domOn .hwd s = true ∧ s.fw.recovery = false) → Runs (.parametersSave medium) s s) ∧
  (∀ (medium : Medium) (s : State), mayWrite s = true → domOn .hwd s = true → s.fw.recovery = false →
      Runs (.modelSave medium) s (saveParams medium (s.advTo (s.heart.parAt + secT 21600)))) ∧
  (∀ (medium : Medium) (s : State), ¬ (mayWrite s = true ∧ domOn .hwd s = true ∧ s.fw.recovery = false) → Runs (.modelSave medium) s s) ∧
  (∀ (a : Fin 4) (t : _) (s : State), tblGet none s.heart.lockEnd a = some t →
      Runs (.lockoutEnd a) s ((fun s => { s with heart := { s.heart with lockEnd := tblSet none s.heart.lockEnd a none } }) (s.advTo t))) ∧
  (∀ (a : Fin 4) (s : State), tblGet none s.heart.lockEnd a = none →
      Runs (.lockoutEnd a) s s)

/-- The STORE commands (R434, R438, R441, R445, R450, R451, R452, R460).
Where the rules leave a reading open, the effects named are the model's choice: log entries 111, 112. -/
def Obligations.StoreCommands : Prop :=
  (∀ (id : Nat) (medium : Medium) (c : Cmd) (n : Nat) (s : State), CmdTurn id 0x0B01 c s → storeTarget (mw c.words 1) = .ok (.counter n) → mw c.words 2 = 0 → domOn .hwd s = true → s.pwr.heartOk = true → medium ≠ .silent → medium ≠ .bad →
      Runs (.storeRead id medium) s (settle id (.done stOk [BitVec.ofNat 32 ((counterNow n s).2 / 2 ^ 32), BitVec.ofNat 32 (counterNow n s).2, BitVec.ofNat 32 (counterNow n s).1]) (s))) ∧
  (∀ (id : Nat) (medium : Medium) (c : Cmd) (a : Nat) (off : Nat) (s : State), CmdTurn id 0x0B01 c s → storeTarget (mw c.words 1) = .ok (.area a off) → Passes [(!onlyBits (mw c.words 2) 0xF, stBadArg), (decide (14 < fld (mw c.words 2) 0 4 + 1), stBadArg), (!domOn .hwd s, stNoResource), (decide (2048 < off + (fld (mw c.words 2) 0 4 + 1)), stRange)] → (keysMissing s && !c.secure) = false → (checkPassword a false (pwOf (mw c.words 3) (mw c.words 4)) s).1 = 0 →
      Runs (.storeRead id medium) s (settle id (.done stOk ((List.range (fld (mw c.words 2) 0 4 + 1)).map (fun i => tblGet 0 (checkPassword a false (pwOf (mw c.words 3) (mw c.words 4)) s).2.heart.shadow (2048 * a + off + i)))) ((checkPassword a false (pwOf (mw c.words 3) (mw c.words 4)) s).2))) ∧
  (∀ (id : Nat) (medium : Medium) (c : Cmd) (n : Nat) (s : State), CmdTurn id 0x0B02 c s → storeTarget (mw c.words 1) = .ok (.counter n) → Passes [(!onlyBits (mw c.words 2) 0xF, stBadArg), (decide (fld (mw c.words 2) 0 4 + 1 ≠ 2), stBadArg), (!c.secure, stDenied), (!domOn .hwd s, stNoResource)] → s.pwr.heartOk = true →
      Runs (.storeWrite ⟨id, medium⟩) s (settle id (if medium = .ok then .st stOk else if medium = .bad ∨ medium = .silent then .st stStoreFail else .running) (slotWriteBy n ((mw c.words 5).toNat * 2 ^ 32 + (mw c.words 6).toNat) medium s))) ∧
  (∀ (id : Nat) (medium : Medium) (c : Cmd) (a : Nat) (off : Nat) (s : State), CmdTurn id 0x0B02 c s → storeTarget (mw c.words 1) = .ok (.area a off) → Passes [(!onlyBits (mw c.words 2) 0xF, stBadArg), (decide (11 < fld (mw c.words 2) 0 4 + 1), stBadArg), (!domOn .hwd s, stNoResource), (decide (2048 < off + (fld (mw c.words 2) 0 4 + 1)), stRange)] → (keysMissing s && !c.secure) = false → (checkPassword a true (pwOf (mw c.words 3) (mw c.words 4)) s).1 = 0 →
      Runs (.storeWrite ⟨id, medium⟩) s (settle id (.st stOk) (forRange (fld (mw c.words 2) 0 4 + 1) (fun i s => { s with heart := { s.heart with shadow := tblSet 0 s.heart.shadow (2048 * a + off + i) (mw c.words (5 + i)) } }) (checkPassword a true (pwOf (mw c.words 3) (mw c.words 4)) s).2))) ∧
  (∀ (id : Nat) (medium : Medium) (c : Cmd) (a : Nat) (off : Nat) (s : State), CmdTurn id 0x0B03 c s → storeTarget (mw c.words 1) = .ok (.area a off) → off = 0 → mayWrite s = true → domOn .hwd s = true → (keysMissing s && !c.secure) = false → (checkPassword a true (pwOf (mw c.words 2) (mw c.words 3)) s).1 = 0 → (writeRecord (5 + a) (.user (shadowOf a (checkPassword a true (pwOf (mw c.words 2) (mw c.words 3)) s).2)) 0 (some c.id) medium (checkPassword a true (pwOf (mw c.words 2) (mw c.words 3)) s).2).1 = .done →
      Runs (.storeCommit id medium) s (settle id (.ends stOk []) ((writeRecord (5 + a) (.user (shadowOf a (checkPassword a true (pwOf (mw c.words 2) (mw c.words 3)) s).2)) 0 (some c.id) medium (checkPassword a true (pwOf (mw c.words 2) (mw c.words 3)) s).2).2))) ∧
  (∀ (id : Nat) (medium : Medium) (c : Cmd) (e : Nat × List Word) (s : State), CmdEnding id 0x0B03 c e s →
      Runs (.storeCommit id medium) s (finishCmd id e.1 e.2 s)) ∧
  (∀ (id : Nat) (medium : Medium) (c : Cmd) (s : State), CmdTurn id 0x0B04 c s → mayWrite s = true → onlyBits (mw c.words 1) 0x30001 = true → domOn .hwd s = true → (writeRecord 9 (.keys (tblSet 0 ((keysNow s).getD []) (2 * fld (mw c.words 1) 16 2 + fld (mw c.words 1) 0 1) (pwOf (mw c.words 2) (mw c.words 3)))) 0 (some c.id) medium s).1 = .done →
      Runs (.storePassword id medium) s (settle id (.st stOk) (setFails (fld (mw c.words 1) 16 2) 0 none ((writeRecord 9 (.keys (tblSet 0 ((keysNow s).getD []) (2 * fld (mw c.words 1) 16 2 + fld (mw c.words 1) 0 1) (pwOf (mw c.words 2) (mw c.words 3)))) 0 (some c.id) medium s).2.setB aHwdStat 26 false)))) ∧
  (∀ (id : Nat) (c : Cmd) (s : State), CmdTurn id 0x0B05 c s → domOn .hwd s = true →
      Runs (.storeStatus id) s (settle id ((let bitsOf := fun (p : Nat → Bool) => ((List.range 4).map (fun a => (p a).toNat * 2 ^ a)).foldl (· + ·) 0
        Reply.done stOk [s.reg aHwdStat, s.reg aHwdEcc, s.reg aHwdSel, s.reg aHwdSave,
          BitVec.ofNat 32 (bitsOf (fun a => decide (password a true s ≠ 0)) * 256 + bitsOf (fun a => decide (password a false s ≠ 0)) * 16
            + bitsOf (fun a => lockedOut a s))])) (s)))

/-- Records, pages and the TREND commands of the trend store (R455, R456, R457, R458, R459, R461).
Where the rules leave a reading open, the effects named are the model's choice: log entries 113, 167. -/
def Obligations.TrendStoreCommands : Prop :=
  (∀ (l : Fin 128) (s : State), ready s = true →
      Runs (.trendRecord l) s (trendRecord l (crownDrain s))) ∧
  (∀ (l : Fin 128) (s : State), ¬ (ready s = true) → Runs (.trendRecord l) s s) ∧
  (∀ (ok : Bool) (erased : Bool) (x : TrendRec × Nat) (xs : List (TrendRec × Nat)) (s : State), trendUp s = true → s.trend.buf = x :: xs →
      Runs (.trendProgram ⟨ok, erased⟩) s (programPage ok erased (if s.trend.buf.length < 16 then s.advTo (x.2 + secT 10) else s))) ∧
  (∀ (ok : Bool) (erased : Bool) (s : State), (trendUp s = false ∨ s.trend.buf = []) →
      Runs (.trendProgram ⟨ok, erased⟩) s s) ∧
  (∀ (s : State), ready s = true → domOn .bus s = true → s.pwr.sfdp = true → 0 < storeSectors s.pwr.flashMbit → s.trend.open_ = false → s.trend.closed = false → s.fw.recovery = false →
      Runs (.trendOpen) s (openStore s)) ∧
  (∀ (s : State), ¬ (ready s = true ∧ domOn .bus s = true ∧ s.pwr.sfdp = true ∧ 0 < storeSectors s.pwr.flashMbit ∧ s.trend.open_ = false ∧ s.trend.closed = false ∧ s.fw.recovery = false) → Runs (.trendOpen) s s) ∧
  (∀ (id : Nat) (c : Cmd) (s : State), CmdTurn id 0x1001 c s → trendStatus s = 0 →
      Runs (.trendStatus id) s (settle id (.done stOk [BitVec.ofNat 32 (2 ^ 31 + s.trend.bad.length % 65536), BitVec.ofNat 32 s.trend.nsec, posWord (headPos s), posWord (oldestPos s), posWord s.trend.c, halves s.trend.tlost s.trend.badrec]) (s))) ∧
  (∀ (id : Nat) (c : Cmd) (s : State), CmdTurn id 0x1002 c s → trendStatus s = 0 →
      Runs (.trendSnapshot id) s (settle id (.done stOk [posWord (bufPos s s.trend.buf.length), posWord s.trend.c, BitVec.ofNat 32 (trendFrom s.trend.c (bufPos s s.trend.buf.length) { s with trend := { s.trend with e := bufPos s s.trend.buf.length, r := s.trend.c, lostc := 0 } }).length, BitVec.ofNat 32 s.trend.lostc]) ({ s with trend := { s.trend with e := bufPos s s.trend.buf.length, r := s.trend.c, lostc := 0 } }))) ∧
  (∀ (id : Nat) (bad : Word) (c : Cmd) (s : State), CmdTurn id 0x1003 c s → endingOf id s = false → trendStatus s = 0 → onlyBits (mw c.words 1) 7 = true → 1 ≤ fld (mw c.words 1) 0 3 → fld (mw c.words 1) 0 3 ≤ 4 →
      Runs (.trendDrain ⟨id, bad⟩) s (settle id (.ends stOk []) (s))) ∧
  (∀ (id : Nat) (bad : Word) (c : Cmd) (e : Nat × List Word) (s : State), endingOf id s = true → CmdEnding id 0x1003 c e (trendReady id bad s) →
      Runs (.trendDrain ⟨id, bad⟩) s (finishCmd id e.1 e.2 (trendReady id bad s))) ∧
  (∀ (id : Nat) (c : Cmd) (p : Nat × Nat) (s : State), CmdTurn id 0x1004 c s → trendStatus s = 0 → p = (s.trend.c.1 + (fld (mw c.words 1) 8 24 + 2 ^ 24 - s.trend.c.1 % 2 ^ 24) % 2 ^ 24, fld (mw c.words 1) 0 8) → posLe s.trend.c p = true → posLe p s.trend.r = true → p.2 < 255 →
      Runs (.trendAdvance id) s (settle id (.st stOk) ({ s with trend := { s.trend with c := p } })))

/-- Domain power, operating points, watchdog kick, field loss, temperatures and the safe-stop feedback (R14, R16, R31, R510, R511, R522, R526, R539, R540, R541, R542, R543).
Where the rules leave a reading open, the effects named are the model's choice: log entries 131, 134, 135, 140, 141, 142. -/
def Obligations.DomainOperatingPointAndThermalCommands : Prop :=
  (∀ (v : Word) (s : State), 
      Runs (.sysPwrctlWrite v) s (pwrctlWrite v s)) ∧
  (∀ (n : Fin 2) (s : State), ((oppTarget n s).1 = s.f (aSysOpp n) 16 8 ∧ (oppTarget n s).2 = s.b (aSysOpp n) 24) →
      Runs (.oppStepComplete n) s s) ∧
  (∀ (n : Fin 2) (s : State), (oppTarget n s).2 = true → s.b (aSysOpp n) 24 = false →
      Runs (.oppStepComplete n) s (s.setB (aSysOpp n) 24 true)) ∧
  (∀ (n : Fin 2) (s : State), ((oppTarget n s).2 = false ∨ s.b (aSysOpp n) 24 = true) → s.f (aSysOpp n) 16 8 ≠ (oppTarget n s).1 →
      Runs (.oppStepComplete n) s (s.setF (aSysOpp n) 16 8 (oppTarget n s).1)) ∧
  (∀ (n : Fin 2) (s : State), (oppTarget n s).2 = false → s.b (aSysOpp n) 24 = true → s.f (aSysOpp n) 16 8 = (oppTarget n s).1 →
      Runs (.oppStepComplete n) s (s.setB (aSysOpp n) 24 false)) ∧
  (∀ (n : Fin 2) (v : Word) (s : State), oppOk n (fld v 0 8) (bit v 8) = true →
      Runs (.sysOppWrite n v) s (oppStep n (plainWrite (aSysOpp n) v s))) ∧
  (∀ (n : Fin 2) (v : Word) (s : State), oppOk n (fld v 0 8) (bit v 8) = false →
      Runs (.sysOppWrite n v) s ((plainWrite (aSysOpp n) ((s.reg (aSysOpp n) &&& 0x1FF) ||| (v &&& 0x80000000)) s).setB (aSysOpp n) 31 true)) ∧
  (∀ (v : Word) (s : State), s.pwr.held.isSome = false →
      Runs (.watchdogKick v) s (cwdWrite v s)) ∧
  (∀ (v : Word) (s : State), ¬ (s.pwr.held.isSome = false) → Runs (.watchdogKick v) s s) ∧
  (∀ (s : State), s.b aSysPfstat 27 = false → s.pwr.held.isSome = false →
      Runs (.vflow) s (forRange 5 (fun g s => if domOn .bus s && s.b (aTwigSegctl g) 31 then endRun g stAborted (twIdle g (s.setF (aTwigSegstat g) 24 3 0)) else s)
        (s.setB aSysPfstat 27 true))) ∧
  (∀ (s : State), ¬ (s.b aSysPfstat 27 = false ∧ s.pwr.held.isSome = false) → Runs (.vflow) s s) ∧
  (∀ (s : State), s.b aSysPfstat 27 = true → s.b aDrvGstat 31 = false →
      Runs (.vflowClear) s (forRange 5 (fun g s => if domOn .bus s && s.b (aTwigSegctl g) 31 then twOn g s else s) (s.setB aSysPfstat 27 false))) ∧
  (∀ (s : State), ¬ (s.b aSysPfstat 27 = true ∧ s.b aDrvGstat 31 = false) → Runs (.vflowClear) s s) ∧
  (∀ (readings : List (Option Int)) (s : State), s.pwr.held = none →
      Runs (.thermalSample readings) s ((let s := thermSample readings (s.advTo (s.ther.sampleAt + msT (if s.b aThermCfg 31 then 10 else 100)))
        if s.f (aThermDie 0) 29 3 = 3 then thermalShutdown 0 s
        else if s.f (aThermDie 1) 29 3 = 3 then thermalShutdown 1 s
        else s))) ∧
  (∀ (readings : List (Option Int)) (d : Nat) (at_ : Nat) (s : State), s.pwr.held = some (.therm d at_) →
      Runs (.thermalSample readings) s (holdSample d readings (s.advTo (s.ther.sampleAt + msT 10)))) ∧
  (∀ (readings : List (Option Int)) (d : Nat) (at_ : Nat) (s : State), s.pwr.held = some (.therm d at_) →
      Runs (.shutdownHoldEnd readings) s ((let s := forRange 10 (fun _ s => holdSample d readings (s.advTo (s.ther.sampleAt + msT 10))) s
        match dieCool readings d s with
        | some _ => if 10 ≤ s.ther.cool then releaseHold (s.advTo (at_ + secT 1)) else s
        | none => releaseHold (s.advTo (at_ + secT 60))))) ∧
  (∀ (high : Bool) (s : State), comparatorOn s = true →
      Runs (.fb high) s ((s.advTo (s.ther.porAt + msT 2)).setB aThermSafestat 29 (high == s.b aThermSafestat 31))) ∧
  (∀ (high : Bool) (s : State), ¬ (comparatorOn s = true) → Runs (.fb high) s s)

/-- Packets, credits, responses, link failures and register writes of Sapflow (R3, R4, R5, R6, R7, R10, R11, R18, R19, R20, R24, R25).
Where the rules leave a reading open, the effects named are the model's choice: log entries 6, 22, 23, 24, 25, 26, 27, 169. -/
def Obligations.FabricCommands : Prop :=
  (∀ (sec : Bool) (addr : Nat) (v hw : Word) (s : State), addr % 4 = 0 → wordStatus sec true addr s = 0 → s.pwr.held.isSome = false →
      Runs (.registerWrite sec addr v hw) s ((let t := hwFlags addr hw (regWrite sec 2 addr v s); if aRqPcfg 0 ≤ addr ∧ addr < aRqPcfg 256 then settlePoint ((addr - aRqPcfg 0) / 64) s t else t))) ∧
  (∀ (hdr : Flit) (payload : List Flit) (s : State), hfld hdr 54 2 = 3 →
      Runs (.routerReceive hdr payload) s (fabricError 1 hdr s)) ∧
  (∀ (hdr : Flit) (payload : List Flit) (s : State), hfld hdr 54 2 ≠ 3 → 32 < hfld hdr 42 6 →
      Runs (.routerReceive hdr payload) s (fabricError 2 hdr s)) ∧
  (∀ (hdr : Flit) (payload : List Flit) (s : State), hfld hdr 54 2 ≠ 3 → hfld hdr 42 6 ≤ 32 → islandOk (hfld hdr 60 4) = false →
      Runs (.routerReceive hdr payload) s (fabricError 3 hdr s)) ∧
  (∀ (hdr : Flit) (payload : List Flit) (s : State), PacketOf 1 hdr payload →
      Runs (.routerReceive hdr payload) s (respond (hfld hdr 56 4) (hfld hdr 60 4) (hfld hdr 48 6) (hfld hdr 24 8) (hfld hdr 0 24) (payloadWords (2 * payload.length) payload) s)) ∧
  (∀ (hdr : Flit) (payload : List Flit) (d : Dom) (p : Packet) (s : State), PacketOf 2 hdr payload → islandDom (hfld hdr 60 4) = some d → domOn d s = true → p = packetAt hdr payload s →
      Runs (.routerReceive hdr payload) s (if streamHeld p then { s with fab := { s.fab with flight := s.fab.flight ++ [p] } } else sinkTag hdr s)) ∧
  (∀ (hdr : Flit) (payload : List Flit) (d : Dom) (s : State), PacketOf 2 hdr payload → islandDom (hfld hdr 60 4) = some d → domOn d s = false →
      Runs (.routerReceive hdr payload) s (streamDrop hdr s)) ∧
  (∀ (hdr : Flit) (payload : List Flit) (t : State) (s : State), PacketOf 0 hdr payload → recordRequest (packetAt hdr payload s) s = some t →
      Runs (.routerReceive hdr payload) s (forwardRequest (packetAt hdr payload s) t)) ∧
  (∀ (hdr : Flit) (payload : List Flit) (s : State), PacketOf 0 hdr payload → recordRequest (packetAt hdr payload s) s = none →
      Runs (.routerReceive hdr payload) s s) ∧
  (∀ (link : Fin 14) (rev : Bool) (cls : Fin 3) (x : Nat × Nat × Nat) (far : Nat) (s : State), fabLinks[link.val]? = some x → far = (if rev then x.1 else x.2.1) → cls.val = 0 → 0 < creditsUsed link far s → takeFirst (fun (w : FabWait) => decide (w.link = link.val) && decide (w.far = far)) s.fab.waiting = none →
      Runs (.creditReturn ⟨link, rev⟩ cls) s ({ s with fab := { s.fab with used := tblSet 0 s.fab.used (creditKey link far) (creditsUsed link far s - 1) } })) ∧
  (∀ (link : Fin 14) (rev : Bool) (cls : Fin 3) (x : Nat × Nat × Nat) (far : Nat) (w : FabWait) (rest : List FabWait) (s : State), fabLinks[link.val]? = some x → far = (if rev then x.1 else x.2.1) → cls.val = 0 → 0 < creditsUsed link far s → takeFirst (fun (w : FabWait) => decide (w.link = link.val) && decide (w.far = far)) s.fab.waiting = some (w, rest) →
      Runs (.creditReturn ⟨link, rev⟩ cls) s (if w.left ≤ 1 then forwardFrom 5 far w.pkt { s with fab := { s.fab with waiting := rest } } else { s with fab := { s.fab with waiting := s.fab.waiting.map (fun x => if x = w then { x with left := x.left - 1 } else x) } })) ∧
  (∀ (link : Fin 14) (rev : Bool) (cls : Fin 3) (s : State), cls.val ≠ 0 →
      Runs (.creditReturn ⟨link, rev⟩ cls) s s) ∧
  (∀ (src : Fin 16) (tag : Fin 64) (r : FabResp) (rest : List FabResp) (s : State), takeFirst (fun (r : FabResp) => decide (r.src = src.val) && decide (r.tag = tag.val)) s.fab.answers = some (r, rest) → (s.fab.answers.takeWhile (fun q => decide (q ≠ r))).any (fun q => decide (q.src = r.src) && decide (q.from_ = r.from_)) = false →
      Runs (.fabricResponse src tag) s ({ s with fab := { s.fab with
        answers := rest
        outstanding := s.fab.outstanding.filter (fun q => !(decide (q.src = src.val) && decide (q.tag = tag.val)))
        arrived := r :: s.fab.arrived.filter (fun q => !(decide (q.src = src.val) && decide (q.tag = tag.val))) } })) ∧
  (∀ (link : DieLink) (flit : Nat) (n : Nat) (s : State), n = (if tblGet 0 s.fab.crcFlit (linkKey link) = flit + 1 then tblGet 0 s.fab.crcFails (linkKey link) else 0) + 1 → n < 4 →
      Runs (.flitCrcFail ⟨link, flit⟩) s ({ s with fab := { s.fab with crcFails := tblSet 0 s.fab.crcFails (linkKey link) n, crcFlit := tblSet 0 s.fab.crcFlit (linkKey link) (flit + 1) } })) ∧
  (∀ (link : DieLink) (flit : Nat) (t : State) (q : FabReq) (rest : List FabReq) (s : State), tblGet 0 s.fab.crcFlit (linkKey link) = flit + 1 → 3 ≤ tblGet 0 s.fab.crcFails (linkKey link) → t = { s with fab := { s.fab with crcFails := tblSet 0 s.fab.crcFails (linkKey link) 0, crcFlit := tblSet 0 s.fab.crcFlit (linkKey link) 0 } } → linkPending link t = q :: rest →
      Runs (.flitCrcFail ⟨link, flit⟩) s (failRequest q (fabricError 5 (requestHdr q) t))) ∧
  (∀ (link : DieLink) (flit : Nat) (t : State) (s : State), tblGet 0 s.fab.crcFlit (linkKey link) = flit + 1 → 3 ≤ tblGet 0 s.fab.crcFails (linkKey link) → t = { s with fab := { s.fab with crcFails := tblSet 0 s.fab.crcFails (linkKey link) 0, crcFlit := tblSet 0 s.fab.crcFlit (linkKey link) 0 } } → linkPending link t = [] →
      Runs (.flitCrcFail ⟨link, flit⟩) s (fabricError 5 (mkHdr (bridgeOf link) 9 2 0 0 0 0) t)) ∧
  (∀ (link : DieLink) (s : State), linkDown link s = false →
      Runs (.bridgeLinkTimeout link) s ((let t := failRequests link (s.advTo (bridgeDeadline link s)); { t with fab := { t.fab with down := tblSet false t.fab.down (linkKey link) true } }))) ∧
  (∀ (link : DieLink) (s : State), (link ≠ .bark ∨ s.fab.barkSafe = false) →
      Runs (.linkValidWordsReturn link) s ({ s with fab := { s.fab with down := tblSet false s.fab.down (linkKey link) false, crcFails := tblSet 0 s.fab.crcFails (linkKey link) 0, lastWord := tblSet 0 s.fab.lastWord (2 * linkKey link) s.now, barkSafe := s.fab.barkSafe && !decide (link = .bark), failSeen := tblSet false s.fab.failSeen (linkKey link) false } })) ∧
  (∀ (link : DieLink) (s : State), link = .bark → s.fab.barkSafe = true → ready s = true →
      Runs (.linkValidWordsReturn link) s ((let t := { s with fab := { s.fab with down := tblSet false s.fab.down (linkKey link) false, crcFails := tblSet 0 s.fab.crcFails (linkKey link) 0, lastWord := tblSet 0 s.fab.lastWord (2 * linkKey link) s.now, barkSafe := false, failSeen := tblSet false s.fab.failSeen (linkKey link) false } }; releaseAllFans (releaseAllSafe t)))) ∧
  (∀ (link : DieLink) (far : Bool) (s : State), 
      Runs (.idleWord link far) s ({ s with fab := { s.fab with lastWord := tblSet 0 s.fab.lastWord (2 * linkKey link + (!far).toNat) s.now } })) ∧
  (∀ (s : State), s.fab.barkSafe = false → s.pwr.held.isSome = false →
      Runs (.barkLinkLoss) s (let s := { s with fab := { s.fab with barkSafe := true } }
        barkSafe 3 (s.advTo (lastWordAt .bark true s + msT 2)))) ∧
  (∀ (s : State), ¬ (s.fab.barkSafe = false ∧ s.pwr.held.isSome = false) → Runs (.barkLinkLoss) s s)

/-- Evaluation of triggers, schedules, presence and models (R258, R259, R260, R261, R262, R263, R264, R268, R269, R285, R289, R290).
Where the rules leave a reading open, the effects named are the model's choice: log entries 62, 63, 64, 65, 66, 67. -/
def Obligations.TriggerAndScheduleEvents : Prop :=
  (∀ (s : State), ready s = true →
      Runs (.triggerEvaluation) s (refreshLayers (forRange 16 (fun k s => forRange 2 (evalTrig k) s) s))) ∧
  (∀ (s : State), ¬ (ready s = true) → Runs (.triggerEvaluation) s s) ∧
  (∀ (ov : Fin 16) (pt : Fin 2) (x : Bool) (t : Nat) (s : State), ready s = true → (trigSt ov pt s).due = some (x, t) →
      Runs (.triggerDelayExpiry ov pt) s (refreshLayers (evalTrig ov pt (s.advTo t)))) ∧
  (∀ (ov : Fin 16) (pt : Fin 2) (s : State), (trigSt ov pt s).due = none →
      Runs (.triggerDelayExpiry ov pt) s s) ∧
  (∀ (ov : Fin 16) (pt : Fin 2) (t : Nat) (s : State), ready s = true → (trigSt ov pt s).startEnd = some t →
      Runs (.triggerStartupTimeout ov pt) s (refreshLayers (evalTrig ov pt (setTrig ov pt { trigSt ov pt (s.advTo t) with startEnd := none } (s.advTo t))))) ∧
  (∀ (s : State), ready s = true →
      Runs (.scheduleEvaluation) s (evalSchedules s)) ∧
  (∀ (s : State), ¬ (ready s = true) → Runs (.scheduleEvaluation) s s) ∧
  (∀ (z : Fin 48) (s : State), ready s = true →
      Runs (.presenceChange z) s (recomputeModes [z.val] (notePresence z s))) ∧
  (∀ (z : Fin 48) (s : State), ¬ (ready s = true) → Runs (.presenceChange z) s s) ∧
  (∀ (z : Fin 48) (t : Nat) (s : State), ready s = true → timeNow s = some t → t % 900 = 0 → 0 < t →
      Runs (.presenceBinEnd z) s (endBin z t s)) ∧
  (∀ (z : Fin 48) (s : State), timeNow s = none →
      Runs (.presenceBinEnd z) s s) ∧
  (∀ (z : Fin 48) (s : State), domOn .cmb s = true → s.b (aModelCtl z) 31 = true →
      Runs (.modelUpdate z) s ((let s := s.advTo ((modSt z s).last + secT (modSt z s).tm)
        let s := modelBoundary z s
        if ready s then recomputeModes [z.val] (judgeLeads z s) else s))) ∧
  (∀ (z : Fin 48) (s : State), ¬ (domOn .cmb s = true ∧ s.b (aModelCtl z) 31 = true) → Runs (.modelUpdate z) s s)

/-- The ZONE and SCHED commands (R265, R267, R283, R285, R287, R288, R290, R292, R309, R419, R606).
Where the rules leave a reading open, the effects named are the model's choice: log entries 63, 64, 65. -/
def Obligations.ZoneAndScheduleCommands : Prop :=
  (∀ (id : Nat) (c : Cmd) (s : State), CmdTurn id 0x0501 c s → Passes (zoneChecks (mw c.words 1) s) →
      Runs (.zoneRead id) s (settle id (.done stOk [setBit (setBit (setBit (setBit 0 31 (modelValid (refInst (mw c.words 1)) s)) 30 (s.b (aModelStat (refInst (mw c.words 1))) 1)) 29 (zoneSt (refInst (mw c.words 1)) s).precond) 28 (zoneSt (refInst (mw c.words 1)) s).optstop,
        (zoneSt (refInst (mw c.words 1)) s).sp, f32OfF64 (modSt (refInst (mw c.words 1)) s).yNow, s.reg (aModelPred (refInst (mw c.words 1))), s.reg (aModelConf (refInst (mw c.words 1))), s.reg (aModelTau (refInst (mw c.words 1))),
        BitVec.ofNat 32 (modSt (refInst (mw c.words 1)) s).leads.1, BitVec.ofNat 32 (modSt (refInst (mw c.words 1)) s).leads.2]) (s))) ∧
  (∀ (id : Nat) (c : Cmd) (s : State), CmdTurn id 0x0502 c s → Passes ((!f32Ok (mw c.words 2), stBadArg) :: refFails 0x03 (mw c.words 1)) → ownerBase (mw c.words 1) s = true → Passes [(decide ((mw c.words 3).toNat ≠ 0) && (f32Lt (mw c.words 2) (zrec (refInst (mw c.words 1)) 6 s) || f32Lt (zrec (refInst (mw c.words 1)) 7 s) (mw c.words 2)), stRange), (!expiryOk (mw c.words 3).toNat (timeNow s), stRange)] →
      Runs (.zoneSetpoint id) s (settle id (.st stOk) (refreshSp (refInst (mw c.words 1)) { s with fw := { s.fw with spOvr := tblSet none s.fw.spOvr (refInst (mw c.words 1)) (if (mw c.words 3).toNat = 0 then none else some (mw c.words 2, (mw c.words 3).toNat)) } }))) ∧
  (∀ (id : Nat) (c : Cmd) (s : State), CmdTurn id 0x0503 c s → Passes (zoneChecks (mw c.words 1) s) →
      Runs (.zoneModel id) s (settle id (.done stOk ((List.range 7).map (fun k => s.reg (aModelTh (refInst (mw c.words 1)) k)) ++ [s.reg (aModelConf (refInst (mw c.words 1))), s.reg (aModelTau (refInst (mw c.words 1))), s.reg (aModelGain (refInst (mw c.words 1))), s.reg (aModelRms (refInst (mw c.words 1))), s.reg (aModelCnt (refInst (mw c.words 1))), s.reg (aModelStat (refInst (mw c.words 1)))])) (s))) ∧
  (∀ (id : Nat) (c : Cmd) (s : State), CmdTurn id 0x0504 c s → Passes (zoneChecks (mw c.words 1) s) → ownerBase (mw c.words 1) s = true →
      Runs (.zoneModelReset id) s (settle id (.st stOk) ((let t := showLeads (refInst (mw c.words 1)) (0, 0) (resetModel (refInst (mw c.words 1)) s); { t with heart := { t.heart with modelDue := true } })))) ∧
  (∀ (id : Nat) (c : Cmd) (s : State), CmdTurn id 0x0601 c s → Passes ((decide ((mw c.words 2).toNat < 1 ∨ 7 < (mw c.words 2).toNat), stBadArg) :: refFails 0x04 (mw c.words 1)) →
      Runs (.schedRead id) s (settle id (.done stOk ([schedHead (refInst (mw c.words 1)) s, BitVec.ofNat 32 (fld (schedHead (refInst (mw c.words 1)) s) 0 16)] ++ (List.range 8).map (fun i => schedPoint (refInst (mw c.words 1)) (mw c.words 2).toNat (i + 1) s))) (s))) ∧
  (∀ (id : Nat) (c : Cmd) (s : State), CmdTurn id 0x0602 c s → Passes ((decide ((mw c.words 2).toNat < 1 ∨ 7 < (mw c.words 2).toNat), stBadArg) :: refFails 0x04 (mw c.words 1)) → ownerBase (mw c.words 1) s = true → Passes [(!schedOk (refInst (mw c.words 1)) (mw c.words 2).toNat (mw c.words 3) ((c.words.drop 4).take 8) s, stRange)] →
      Runs (.schedWrite id) s (settle id (.st stOk) (evalSchedules (distributeSched (refInst (mw c.words 1)) (ringEvent 6 (putSched (refInst (mw c.words 1)) (mw c.words 2).toNat (mw c.words 3) ((c.words.drop 4).take 8) s)))))) ∧
  (∀ (id : Nat) (c : Cmd) (s : State), CmdTurn id 0x0603 c s → Passes ((!onlyBits (mw c.words 2) 0x8000003F, stBadArg) :: (bit (mw c.words 2) 31 && !calForm (mw ((c.words.drop 3).take 3) 0), stBadArg) :: refFails 0x05 (mw c.words 1)) → bit (mw c.words 2) 31 = false →
      Runs (.schedCalendar id) s (settle id (.done stOk ((List.range 3).map (fun w => calWord (fld (mw c.words 2) 0 6) w s))) (s))) ∧
  (∀ (id : Nat) (c : Cmd) (s : State), CmdTurn id 0x0603 c s → Passes ((!onlyBits (mw c.words 2) 0x8000003F, stBadArg) :: (bit (mw c.words 2) 31 && !calForm (mw ((c.words.drop 3).take 3) 0), stBadArg) :: refFails 0x05 (mw c.words 1)) → bit (mw c.words 2) 31 = true → ownerBase (mw c.words 1) s = true → Passes [(!calOk (mw ((c.words.drop 3).take 3) 0) (mw ((c.words.drop 3).take 3) 1), stRange)] →
      Runs (.schedCalendar id) s (settle id ((.done stOk ((List.range 3).map (fun w => calWord (fld (mw c.words 2) 0 6) w (evalSchedules (distributeCal (ringEvent 6 (putCal (fld (mw c.words 2) 0 6) ((c.words.drop 3).take 3) s)))))))) (evalSchedules (distributeCal (ringEvent 6 (putCal (fld (mw c.words 2) 0 6) ((c.words.drop 3).take 3) s)))))) ∧
  (∀ (id : Nat) (c : Cmd) (s : State), CmdTurn id 0x0604 c s → Passes ((decide (672 ≤ (mw c.words 2).toNat), stBadArg) :: refFails 0x03 (mw c.words 1) ++ [(!domOn .grr s, stNoResource)]) →
      Runs (.schedOccupancy id) s (settle id ((let b := (mw c.words 2).toNat
        let n := min 52 (672 - b)
        let h := fun i => if i < n then BitVec.ofNat 8 (presBin (refInst (mw c.words 1)) (b + i) s) else 0
        Reply.done stOk (halves b n :: (List.range ((n + 3) / 4)).map (fun w => bytesToWord (h (4 * w)) (h (4 * w + 1)) (h (4 * w + 2)) (h (4 * w + 3)))))) (s)))

/-- The CFG commands and the events of the configuration (R69, R285, R289, R295, R296, R302, R303, R304, R305, R306, R309, R310).
Where the rules leave a reading open, the effects named are the model's choice: log entries 10, 68, 69, 70, 71, 147, 148. -/
def Obligations.ConfigurationCommands : Prop :=
  (∀ (id : Nat) (c : Cmd) (s : State), CmdTurn id 0x0201 c s → Passes [(decide (1 < fld (mw c.words 1) 24 8), stBadArg), (!onlyBits (mw c.words 1) (if fld (mw c.words 1) 24 8 = 1 then 0x0100000F else 0), stBadArg), (decide ((mw c.words 2).toNat % 4 ≠ 0), stBadArg), (decide ((mw c.words 2).toNat < 4 ∨ (if fld (mw c.words 1) 24 8 = 0 then 131072 else 4096) < (mw c.words 2).toNat), stRange)] →
      Runs (.cfgLoadBegin id) s (settle id (.st stOk) ({ s with fw := { s.fw with load := some ⟨fld (mw c.words 1) 24 8, fld (mw c.words 1) 0 4, (mw c.words 2).toNat, mw c.words 3, []⟩ } }))) ∧
  (∀ (id : Nat) (c : Cmd) (l : LoadSession) (s : State), CmdTurn id 0x0202 c s → s.fw.load = some l → Passes [(decide ((mw c.words 1).toNat % 4 ≠ 0), stBadArg), (decide (l.len < (mw c.words 1).toNat + (bytesOfWords ((c.words.drop 2).take (msgLen c.words - 1))).length), stRange)] →
      Runs (.cfgLoadData id) s (settle id (.st stOk) ({ s with fw := { s.fw with load := some { l with data := forRange (bytesOfWords ((c.words.drop 2).take (msgLen c.words - 1))).length (fun i t => tblSet 0 t ((mw c.words 1).toNat + i) (nth (bytesOfWords ((c.words.drop 2).take (msgLen c.words - 1))) i 0)) l.data } } }))) ∧
  (∀ (id : Nat) (medium : Medium) (c : Cmd) (l : LoadSession) (s : State), CmdTurn id 0x0203 c s → mayWrite s = true → onlyBits (mw c.words 1) 1 = true → s.fw.load = some l →
      Runs (.cfgLoadEnd id medium) s (settle id ((loadEnd l (bit (mw c.words 1) 0) c.id medium s).1) ({ (loadEnd l (bit (mw c.words 1) 0) c.id medium s).2 with fw := { (loadEnd l (bit (mw c.words 1) 0) c.id medium s).2.fw with load := none } }))) ∧
  (∀ (id : Nat) (c : Cmd) (s : State), CmdTurn id 0x0204 c s → Passes ((!onlyBits (mw c.words 2) 0x80000007, stBadArg) :: (decide (fld (mw c.words 2) 0 3 = 5 ∨ fld (mw c.words 2) 0 3 = 6), stBadArg) :: (bit (mw c.words 2) 31 && decide (mw c.words 1 ≠ 0), stBadArg) :: (if bit (mw c.words 2) 31 then [] else refFails 0x03 (mw c.words 1))) → (bit (mw c.words 2) 31 = true ∨ ownerBase (mw c.words 1) s = true) → expiryOk (mw c.words 3).toNat (timeNow s) = true →
      Runs (.cfgMode id) s (settle id (.st stOk) (setModeOvr (if bit (mw c.words 2) 31 then 48 else refInst (mw c.words 1)) (if fld (mw c.words 2) 0 3 = 7 then none else some (fld (mw c.words 2) 0 3, (mw c.words 3).toNat)) s))) ∧
  (∀ (id : Nat) (c : Cmd) (s : State), CmdTurn id 0x0205 c s → Passes ((!onlyBits (mw c.words 2) 1, stBadArg) :: refFails 0x0E (mw c.words 1) ++ [((overlayOf (refInst (mw c.words 1)) s).isNone, stNotFound), (!isCond (refInst (mw c.words 1)) s, stRange), (!expiryOk (mw c.words 3).toNat (timeNow s), stRange)]) →
      Runs (.cfgCondition id) s (settle id (.st stOk) (setCmdTrig (refInst (mw c.words 1)) (if bit (mw c.words 2) 0 then some (mw c.words 3).toNat else none) s))) ∧
  (∀ (id : Nat) (medium : Medium) (c : Cmd) (e : Nat × List Word) (s : State), CmdEnding id 0x0203 c e s →
      Runs (.cfgLoadEnd id medium) s (finishCmd id e.1 e.2 s)) ∧
  (∀ (s : State), ready s = true →
      Runs (.overrideExpiry) s (judgeExpiries s)) ∧
  (∀ (s : State), ¬ (ready s = true) → Runs (.overrideExpiry) s s) ∧
  (∀ (s : State), ready s = true → s.rtc.change = true →
      Runs (.clockChange) s (judgeExpiries (timeWanted (evalSchedules (recorderChange { s with rtc := { s.rtc with change := false } }))))) ∧
  (∀ (s : State), ¬ (ready s = true ∧ s.rtc.change = true) → Runs (.clockChange) s s) ∧
  (∀ (id : Nat) (c : Cmd) (im : Image) (s : State), CmdTurn id 0x0206 c s → mw c.words 1 = 0 → s.fw.image = some im →
      Runs (.cfgQuery id) s (settle id (.done stOk [im.ident, s.fw.imgCrc, setBit (setBit (setBit (bitsWord (activeOverlays s)) 31 s.fw.copyB) 30 s.fw.image.isNone) 29 s.fw.load.isSome, s.fw.actTime]) (s))) ∧
  (∀ (id : Nat) (c : Cmd) (s : State), CmdTurn id 0x0206 c s → mw c.words 1 = 0 → s.fw.image = none →
      Runs (.cfgQuery id) s (settle id (.done stOk [s.draw.1, s.draw.2.draw.1, setBit (setBit (setBit (bitsWord (activeOverlays s)) 31 s.fw.copyB) 30 s.fw.image.isNone) 29 s.fw.load.isSome, s.draw.2.draw.2.draw.1]) (s.draw.2.draw.2.draw.2))) ∧
  (∀ (id : Nat) (c : Cmd) (s : State), CmdTurn id 0x0206 c s → mw c.words 1 ≠ 0 → refType (mw c.words 1) = 0x03 → Passes (refFails 0x03 (mw c.words 1)) →
      Runs (.cfgQuery id) s (settle id (.done stOk (queryZone (refInst (mw c.words 1)) s).1) ((queryZone (refInst (mw c.words 1)) s).2))) ∧
  (∀ (bit : Fin 32) (s : State), ready s = true → s.b aHpDbin bit = true →
      Runs (.doorbellAction bit) s ((let s := s.setB aHpDbin bit false
        match s.fw.image.bind (fun im => im.dbin.find? (fun p => p.1 = bit.val)) with
        | some p => doAction p.2 s
        | none => s))) ∧
  (∀ (bit : Fin 32) (s : State), ¬ (ready s = true ∧ s.b aHpDbin bit = true) → Runs (.doorbellAction bit) s s)

/-- Safety inputs, the safe stop and the SAFE commands (R528, R548, R549, R553, R554, R555, R606).
Where the rules leave a reading open, the effects named are the model's choice: log entries 142, 143. -/
def Obligations.SafetyCommands : Prop :=
  (∀ (i : Fin 2) (mv : Nat) (k : Nat) (t : State) (s : State), comparatorOn s = true → t = s.advTo (s.ther.porAt + msT 101) → k = (if mv < 25 then 3 else if 2400 < mv then 2 else if mv < tripMv t.ther.safeSel then 1 else 0) →
      Runs (.safetyInputFault i mv) s (if k = 0 then t else followSafe (showPin i mv (t.setF aThermSafestat (stateBit i) 2 k)))) ∧
  (∀ (i : Fin 2) (mv : Nat) (t : State) (u : State) (s : State), comparatorOn s = true → t = s.advTo (s.ther.porAt + msT 101) → u = showPin i mv t → t.f aThermSafestat (stateBit i) 2 ≠ 0 → 25 ≤ mv → mv ≤ 2400 →
      Runs (.safetyFaultEnd i mv) s (if t.f aThermSafestat (stateBit i) 2 = 1 then (if tripEndMv u.ther.safeSel < mv then followSafe (u.setF aThermSafestat (stateBit i) 2 0) else u)
        else if mv < tripMv u.ther.safeSel then followSafe (u.setF aThermSafestat (stateBit i) 2 1)
        else followSafe (u.setF aThermSafestat (stateBit i) 2 0))) ∧
  (∀ (t : _) (s : State), s.ther.assertEnd = some t →
      Runs (.safeStopHoldEnd) s (let s := s.advTo t
        if safeWanted s then s
        else followSafe { (s.setB aThermSafestat 31 false).setB aThermSafestat 29 false with ther := { s.ther with assertEnd := none } })) ∧
  (∀ (s : State), s.ther.assertEnd = none →
      Runs (.safeStopHoldEnd) s s) ∧
  (∀ (sec : Bool) (v : Word) (s : State), s.pwr.held.isSome = false →
      Runs (.safectlWrite sec v) s (followSafe (safectlWrite sec v s))) ∧
  (∀ (sec : Bool) (v : Word) (s : State), ¬ (s.pwr.held.isSome = false) → Runs (.safectlWrite sec v) s s) ∧
  (∀ (id : Nat) (c : Cmd) (s : State), CmdTurn id 0x0F01 c s →
      Runs (.safeStatus id) s (settle id (.done stOk [asRead aThermSafestat s, s.reg aThermSafeval, s.reg (aThermDie 0), s.reg (aThermDie 1), s.reg (aThermDie 2), s.reg aThermCnt]) (s))) ∧
  (∀ (id : Nat) (c : Cmd) (s : State), CmdTurn id 0x0F02 c s → Passes [(!onlyBits (mw c.words 1) 3, stBadArg), (decide (mw c.words 1 = 0), stBadArg), (!expiryOk (mw c.words 2).toNat (timeNow s), stRange)] →
      Runs (.safeForce id) s (settle id (.st stOk) ((let t := if bit (mw c.words 1) 0 then { s with fw := { s.fw with safeForce := some (mw c.words 2).toNat } } else s
        followSafe (if bit (mw c.words 1) 1 then judgeSafe ({ t with ther := { t.ther with pinForce := some (mw c.words 2).toNat } }.setB aThermSafectl 31 true) else t))))) ∧
  (∀ (id : Nat) (c : Cmd) (s : State), CmdTurn id 0x0F03 c s → Passes [(!onlyBits (mw c.words 1) 3, stBadArg), (decide (mw c.words 1 = 0), stBadArg), (!(bit (mw c.words 1) 1 && s.b aThermSafectl 31) && !(bit (mw c.words 1) 0 && s.fw.safeForce.isSome), stNotFound)] →
      Runs (.safeRelease id) s (settle id (.st stOk) ((let t := if bit (mw c.words 1) 0 && s.fw.safeForce.isSome then { s with fw := { s.fw with safeForce := none } } else s
        followSafe (if bit (mw c.words 1) 1 && s.b aThermSafectl 31 then endPinForce t else t)))))

/-- The EXPERT commands: read, write, claim, release, claims (R99, R100, R101, R102, R104, R105, R110, R115).
Where the rules leave a reading open, the effects named are the model's choice: log entries 36, 37, 146, 164. -/
def Obligations.ExpertCommands : Prop :=
  (∀ (id : Nat) (c : Cmd) (s : State), CmdTurn id 0x0E01 c s → Passes [(decide (fld (mw c.words 1) 28 4 ≠ 0), stBadArg), (decide (14 < (fld (mw c.words 1) 24 4 + 1)), stBadArg), (decide ((fld (mw c.words 1) 0 24) % 4 ≠ 0), stBadArg), (rangeOutside (fld (mw c.words 1) 0 24) (fld (mw c.words 1) 24 4 + 1), stNotFound)] → (readWords c.secure 2 (fld (mw c.words 1) 0 24) (fld (mw c.words 1) 24 4 + 1) s).1 = 0 →
      Runs (.expertRead id) s (settle id (.done stOk (readWords c.secure 2 (fld (mw c.words 1) 0 24) (fld (mw c.words 1) 24 4 + 1) s).2.1) ((readWords c.secure 2 (fld (mw c.words 1) 0 24) (fld (mw c.words 1) 24 4 + 1) s).2.2))) ∧
  (∀ (id : Nat) (c : Cmd) (s : State), CmdTurn id 0x0E02 c s → Passes [(decide (fld (mw c.words 1) 24 8 ≠ 0), stBadArg), (decide ((fld (mw c.words 1) 0 24) % 4 ≠ 0), stBadArg), (rangeOutside (fld (mw c.words 1) 0 24) ((c.words.drop 2).take (msgLen c.words - 1)).length, stNotFound)] → unclaimedIn c.secure (fld (mw c.words 1) 0 24) ((c.words.drop 2).take (msgLen c.words - 1)) s = none → (writeRequest c.secure 2 (fld (mw c.words 1) 0 24) ((c.words.drop 2).take (msgLen c.words - 1)) (noteWrites (fld (mw c.words 1) 0 24) ((c.words.drop 2).take (msgLen c.words - 1)).length s)).1 = 0 →
      Runs (.expertWrite id) s (settle id (.st stOk) (if (fld (mw c.words 1) 0 24) ≤ aThermSafectl ∧ aThermSafectl < (fld (mw c.words 1) 0 24) + 4 * ((c.words.drop 2).take (msgLen c.words - 1)).length then refreshLayers (writeRequest c.secure 2 (fld (mw c.words 1) 0 24) ((c.words.drop 2).take (msgLen c.words - 1)) (noteWrites (fld (mw c.words 1) 0 24) ((c.words.drop 2).take (msgLen c.words - 1)).length s)).2.2 else if (fld (mw c.words 1) 0 24) < aCambCtl 96 ∧ aCambCtl 0 < (fld (mw c.words 1) 0 24) + 4 * ((c.words.drop 2).take (msgLen c.words - 1)).length then refreshDblk (writeRequest c.secure 2 (fld (mw c.words 1) 0 24) ((c.words.drop 2).take (msgLen c.words - 1)) (noteWrites (fld (mw c.words 1) 0 24) ((c.words.drop 2).take (msgLen c.words - 1)).length s)).2.2 else (writeRequest c.secure 2 (fld (mw c.words 1) 0 24) ((c.words.drop 2).take (msgLen c.words - 1)) (noteWrites (fld (mw c.words 1) 0 24) ((c.words.drop 2).take (msgLen c.words - 1)).length s)).2.2))) ∧
  (∀ (id : Nat) (c : Cmd) (r : Word) (s : State), CmdTurn id 0x0E02 c s → Passes [(decide (fld (mw c.words 1) 24 8 ≠ 0), stBadArg), (decide ((fld (mw c.words 1) 0 24) % 4 ≠ 0), stBadArg), (rangeOutside (fld (mw c.words 1) 0 24) ((c.words.drop 2).take (msgLen c.words - 1)).length, stNotFound)] → unclaimedIn c.secure (fld (mw c.words 1) 0 24) ((c.words.drop 2).take (msgLen c.words - 1)) s = some r →
      Runs (.expertWrite id) s (settle id (conflictOn r s) (s))) ∧
  (∀ (id : Nat) (c : Cmd) (s : State), CmdTurn id 0x0E03 c s → Passes (refsFail (claimRefs c) ++ [(decide (64 < s.fw.claims.length + ((claimRefs c).filter (fun r => !claimedBy c.secure r s)).dedup.length), stNoResource)]) → (((claimRefs c).filter (fun r => !claimedBy c.secure r s)).dedup).find? (fun r => !ownerFree r s) = none →
      Runs (.expertClaim id) s (settle id (.st stOk) (refreshDblk (forEach ((claimRefs c).filter (fun r => !claimedBy c.secure r s)).dedup (fun r s => grantClaim r c.secure (msgTag c.words) s) s)))) ∧
  (∀ (id : Nat) (c : Cmd) (s : State), CmdTurn id 0x0E04 c s → Passes (refsFail (claimRefs c) ++ [((claimRefs c).any (fun r => !(if c.secure then claimed r s else claimedBy false r s)), stNotFound)]) →
      Runs (.expertRelease id) s (settle id (.st stOk) (forEach (claimRefs c).dedup endClaim s))) ∧
  (∀ (id : Nat) (c : Cmd) (s : State), CmdTurn id 0x0E05 c s →
      Runs (.expertClaims id) s (settle id (.done stOk (((s.fw.claims.drop (mw c.words 1).toNat).take 7).flatMap (fun x => [x.ref, ownerWord 6 x.secure.toNat 0 x.tag]))) (s)))

/-- The POINT commands: read, write, stream and info (R166, R176, R177).
Where the rules leave a reading open, the effects named are the model's choice: log entries 45, 46. -/
def Obligations.PointCommands : Prop :=
  (∀ (id : Nat) (c : Cmd) (s : State), CmdTurn id 0x0301 c s → Passes (refsOfType 1 (argWords c 1) ++ [(!domOn .rta s, stNoResource)]) →
      Runs (.pointRead id) s (settle id (.done (if (argWords c 1).any (fun r => bit (s.reg (aRqLvthi (refInst r))) 0) then stStale else stOk) ((argWords c 1).flatMap (fun r => [s.reg (aRqLvtlo (refInst r)), s.reg (aRqLvthi (refInst r))]))) (s))) ∧
  (∀ (id : Nat) (c : Cmd) (s : State), CmdTurn id 0x0302 c s → Passes ([(!f32Ok (mw c.words 2), stBadArg)] ++ refFails 1 (mw c.words 1) ++ [(!domOn .rta s, stNoResource)]) → s.f (aRqPcfg (refInst (mw c.words 1))) 29 3 = 4 → Passes [(f32Lt (mw c.words 2) (s.reg (aRqLo (refInst (mw c.words 1)))) || f32Lt (s.reg (aRqHi (refInst (mw c.words 1)))) (mw c.words 2), stRange)] →
      Runs (.pointWrite id) s (settle id (.st stOk) (publishVirtual (refInst (mw c.words 1)) (mw c.words 2) s))) ∧
  (∀ (id : Nat) (c : Cmd) (s : State), CmdTurn id 0x0302 c s → Passes ([(!f32Ok (mw c.words 2), stBadArg)] ++ refFails 1 (mw c.words 1) ++ [(!domOn .rta s, stNoResource)]) → s.f (aRqPcfg (refInst (mw c.words 1))) 29 3 ≠ 4 →
      Runs (.pointWrite id) s (settle id (conflictOn (mw c.words 1) s) (s))) ∧
  (∀ (id : Nat) (c : Cmd) (s : State), CmdTurn id 0x0303 c s → streamOp c = 0 → Passes [(decide (fld (mw c.words 1) 3 21 ≠ 0), stBadArg), (decide (fld (mw c.words 1) 0 3 = 0) || decide (4 < fld (mw c.words 1) 0 3), stBadArg), (!domOn .rta s, stNoResource)] →
      Runs (.pointStreamDrain id) s (settle id (.done stOk (halves (partOf 2 (popMany 2 (fld (mw c.words 1) 0 3) s).2).length (popMany 2 (fld (mw c.words 1) 0 3) s).2.fw.streamLost ::
        (popMany 2 (fld (mw c.words 1) 0 3) s).1.flatMap (fun e => [mkRef 1 e.point, e.val, e.hi]))) ({ (popMany 2 (fld (mw c.words 1) 0 3) s).2 with fw := { (popMany 2 (fld (mw c.words 1) 0 3) s).2.fw with streamLost := 0 } }))) ∧
  (∀ (id : Nat) (c : Cmd) (s : State), CmdTurn id 0x0303 c s → streamOp c = 1 → Passes ([(decide (fld (mw c.words 1) 0 24 ≠ 0), stBadArg)] ++ refsOfType 1 (argWords c 2) ++ [(!domOn .rta s, stNoResource)]) →
      Runs (.pointStreamAdd id) s (settle id (.st stOk) (forEach (argWords c 2) (fun r s => s.setB (aRqPcfg (refInst r)) 19 true) s))) ∧
  (∀ (id : Nat) (c : Cmd) (s : State), CmdTurn id 0x0303 c s → streamOp c = 2 → Passes ([(decide (fld (mw c.words 1) 0 24 ≠ 0), stBadArg)] ++ refsOfType 1 (argWords c 2) ++ [(!domOn .rta s, stNoResource)]) →
      Runs (.pointStreamRemove id) s (settle id (.st stOk) (forEach (argWords c 2) (fun r s => s.setB (aRqPcfg (refInst r)) 19 false) s))) ∧
  (∀ (id : Nat) (c : Cmd) (s : State), CmdTurn id 0x0304 c s → Passes (refFails 1 (mw c.words 1) ++ [(!domOn .rta s, stNoResource)]) →
      Runs (.pointInfo id) s (settle id (.done stOk [s.reg (aRqPcfg (refInst (mw c.words 1))), s.reg (aRqLo (refInst (mw c.words 1))), s.reg (aRqHi (refInst (mw c.words 1))), s.reg (aRqPlim (refInst (mw c.words 1))), sourceWord (refInst (mw c.words 1)) s]) (s)))

/-- The LOOP commands and the end of a tuning run (R242, R243, R244, R245, R249, R255, R257, R274).
Where the rules leave a reading open, the effects named are the model's choice: log entry 61. -/
def Obligations.LoopCommands : Prop :=
  (∀ (id : Nat) (c : Cmd) (s : State), CmdTurn id 0x0401 c s → Passes (refFails 2 (mw c.words 1) ++ [(!domOn .cmb s, stNoResource)]) →
      Runs (.loopRead id) s (settle id (.done stOk ([aCambStat (refInst (mw c.words 1)), aCambPv (refInst (mw c.words 1)), aCambSp (refInst (mw c.words 1)), aCambOut (refInst (mw c.words 1)), aCambInt (refInst (mw c.words 1)), aCambErr (refInst (mw c.words 1))].map s.reg)) (s))) ∧
  (∀ (id : Nat) (c : Cmd) (s : State), CmdTurn id 0x0402 c s → Passes ([(decide (fld (mw c.words 2) 13 19 ≠ 0) || decide (mw c.words 2 = 0), stBadArg), (!(argWords c 3).all f32Ok, stBadArg)] ++ refFails 2 (mw c.words 1) ++ [(!domOn .cmb s, stNoResource)]) → ownerBase (mw c.words 1) s = true → setBreaks (refInst (mw c.words 1)) (forEach (setPairs (refInst (mw c.words 1)) (mw c.words 2) (argWords c 3)) (fun p s => s.setReg p.1 p.2) s) = false →
      Runs (.loopSet id) s (settle id (.st stOk) (stageAll (refInst (mw c.words 1)) (setPairs (refInst (mw c.words 1)) (mw c.words 2) (argWords c 3)) s))) ∧
  (∀ (id : Nat) (c : Cmd) (s : State), CmdTurn id 0x0403 c s → Passes ([(!onlyBits (mw c.words 2) 0x103, stBadArg)] ++ refFails 2 (mw c.words 1) ++ [(!domOn .cmb s, stNoResource)]) → ownerBase (mw c.words 1) s = true →
      Runs (.loopMode id) s (settle id (.st stOk) (stageAll (refInst (mw c.words 1)) ((aCambCtl (refInst (mw c.words 1)), setFld (s.reg (aCambCtl (refInst (mw c.words 1)))) 27 3 (fld (mw c.words 2) 0 2)) ::
        (if bit (mw c.words 2) 8 ∧ fld (mw c.words 2) 0 2 = 2 then [(aCambManval (refInst (mw c.words 1)), s.reg (aCambOut (refInst (mw c.words 1))))] else [])) s))) ∧
  (∀ (id : Nat) (c : Cmd) (k : Nat) (s : State), CmdTurn id 0x0404 c s → Passes ([(!onlyBits (mw c.words 2) 7, stBadArg), (!([mw c.words 3, mw c.words 4, mw c.words 5].all f32Ok), stBadArg), (decide (tmaxOf (mw c.words 6) < 60) || decide (86400 < tmaxOf (mw c.words 6)), stBadArg)] ++ refFails 2 (mw c.words 1) ++ [(!domOn .cmb s, stNoResource)]) → freeTuner s = some k → (tuneRefs (refInst (mw c.words 1)) s).find? (fun r => !ownerFree r s) = none → tuneOk (refInst (mw c.words 1)) (mw c.words 3) (mw c.words 4) (mw c.words 5) s = true → (tunerOf (refInst (mw c.words 1)) s).isSome = false →
      Runs (.loopTune id) s (settle id (.running) (startTune k (refInst (mw c.words 1)) c s))) ∧
  (∀ (k : Fin 8) (r : TuneRun) (s : State), s.camb.runs.find? (fun r => r.tuner = k.val) = some r → ready s = true → tunerBusy k s = false →
      Runs (.tuneRunEnd k) s (finishTune r s))

/-- The DRIVE and FAN commands (R103, R338, R343, R344, R345, R346, R347, R369).
Where the rules leave a reading open, the effects named are the model's choice: log entries 80, 81, 82, 86, 153. -/
def Obligations.DriveAndFanCommands : Prop :=
  (∀ (id : Nat) (c : Cmd) (s : State), CmdTurn id 0x0701 c s → Passes (refFails 6 (mw c.words 1)) → bridgeFails .bark s = false →
      Runs (.driveRead id) s (settle id (.done stOk [s.reg (aDrvDiag (refInst (mw c.words 1))), s.reg (aDrvDem (pairOf (refInst (mw c.words 1)) s)), s.reg (aDrvPos (refInst (mw c.words 1))), (if domOn .brk s then f32OfInt (signed 16 (s.f (aDrvMeas (refInst (mw c.words 1))) 16 16)) else 0), s.reg (aDrvCnt (refInst (mw c.words 1)))]) (s))) ∧
  (∀ (id : Nat) (c : Cmd) (s : State), CmdTurn id 0x0702 c s → Passes (commandFails 6 c) → ownerBase (drvRef (pairOf (refInst (mw c.words 1)) s)) s = true → bit (mw c.words 2) 0 = false → commandRange c s = false → drvMode (pairOf (refInst (mw c.words 1)) s) s ≠ 0 → drvMode (pairOf (refInst (mw c.words 1)) s) s ≠ 5 →
      Runs (.driveCommand id) s (settle id (.st stOk) (refreshDblk (refreshDemand (drvRef (pairOf (refInst (mw c.words 1)) s)) { s with fw := { s.fw with driveOvr := tblSet none s.fw.driveOvr (pairOf (refInst (mw c.words 1)) s) (some (mw c.words 3, (mw c.words 4).toNat)) } })))) ∧
  (∀ (id : Nat) (c : Cmd) (s : State), CmdTurn id 0x0702 c s → Passes (commandFails 6 c) → ownerBase (drvRef (pairOf (refInst (mw c.words 1)) s)) s = true → bit (mw c.words 2) 0 = true →
      Runs (.driveCommand id) s (settle id (.st stOk) (refreshDblk (refreshDemand (drvRef (pairOf (refInst (mw c.words 1)) s)) (endOverride (drvRef (pairOf (refInst (mw c.words 1)) s)) s))))) ∧
  (∀ (id : Nat) (c : Cmd) (s : State), CmdTurn id 0x0702 c s → Passes (commandFails 6 c) → ownerBase (drvRef (pairOf (refInst (mw c.words 1)) s)) s = false →
      Runs (.driveCommand id) s (settle id (conflictOn (drvRef (pairOf (refInst (mw c.words 1)) s)) s) (s))) ∧
  (∀ (id : Nat) (c : Cmd) (s : State), CmdTurn id 0x0703 c s → Passes ([(!onlyBits (mw c.words 2) 1, stBadArg)] ++ refFails 6 (mw c.words 1)) → (bit (mw c.words 2) 0 = false ∨ claimed (drvRef (refInst (mw c.words 1))) s = false) → bridgeFails .bark s = false →
      Runs (.driveDiag id) s (settle id (.done stOk [s.reg (aDrvDiag (refInst (mw c.words 1))), (if domOn .brk s then s.reg (aDrvMeas (refInst (mw c.words 1))) else 0), s.reg (aDrvStroke (refInst (mw c.words 1))), BitVec.ofNat 32 (s.f (aEschMod (refInst (mw c.words 1))) 0 12)]) (if bit (mw c.words 2) 0 then drvWrite (refInst (mw c.words 1)) 0x14 0xFC000000 s else s))) ∧
  (∀ (id : Nat) (c : Cmd) (s : State), CmdTurn id 0x0704 c s → Passes ([(decide (fld (mw c.words 2) 24 5 ≠ 0), stBadArg)] ++ refFails 6 (mw c.words 1) ++ [(decide (5 < fld (mw c.words 2) 29 3), stRange)]) → claimed (drvRef (refInst (mw c.words 1))) s = false → bridgeFails .bark s = false →
      Runs (.driveSafeval id) s (settle id (.st stOk) (s.setReg (aDrvSafe (refInst (mw c.words 1))) (mw c.words 2)))) ∧
  (∀ (id : Nat) (c : Cmd) (s : State), CmdTurn id 0x0705 c s → Passes (refFails 6 (mw c.words 1) ++ [(!domOn .brk s, stNoResource)]) → (if drvMode (pairOf (refInst (mw c.words 1)) s) s = 2 then [drvRef (pairOf (refInst (mw c.words 1)) s), drvRef ((pairOf (refInst (mw c.words 1)) s) + 1)] else [drvRef (pairOf (refInst (mw c.words 1)) s)]).find? (fun r => !ownerFree r s) = none → (drvMode (pairOf (refInst (mw c.words 1)) s) s = 1 ∨ drvMode (pairOf (refInst (mw c.words 1)) s) s = 2) →
      Runs (.driveCalibrate id) s (settle id (.running) ((let run : CalRun := ⟨c.id, (pairOf (refInst (mw c.words 1)) s), if drvMode (pairOf (refInst (mw c.words 1)) s) s = 2 then 0 else 3, 0, 0, 0, 0⟩
        let t := grantService (if drvMode (pairOf (refInst (mw c.words 1)) s) s = 2 then [drvRef (pairOf (refInst (mw c.words 1)) s), drvRef ((pairOf (refInst (mw c.words 1)) s) + 1)] else [drvRef (pairOf (refInst (mw c.words 1)) s)]) 2 (msgTag c.words) c.id s
        let u := cancel (pairOf (refInst (mw c.words 1)) s) true { t with drv := { t.drv with cal := t.drv.cal ++ [run] } }
        if (match (chanSt (pairOf (refInst (mw c.words 1)) s) u).run with | some r => decide (r.kind = 0) | none => false) then u else calRequest run u)))) ∧
  (∀ (id : Nat) (c : Cmd) (s : State), CmdTurn id 0x0706 c s →
      Runs (.driveBudget id) s (settle id (let u := settleTa s; .done stOk [ampsOf (u.f aEschBud2 16 16), termAmps (u.f aEschBud0 16 16), termAmps (u.f aEschBud0 0 16), termAmps (u.f aEschBud1 16 16), termAmps (u.f aEschBud1 0 16), ampsOf (u.f aEschBud2 0 16), ampsOf (u.f aEschBud3 16 16),
        f32OfRat (vfMean u / 1000), u.drv.ta.getD 0,
        BitVec.ofNat 32 (((u.f aEschStat 20 4 * 16 + (if u.b aEschCtl 31 then u.f aEschStat 17 3 + 1 else 0)) * 256 + u.f aEschStat 8 7) * 65536 + u.f aEschStat 0 7 * 256)]) (settleTa s))) ∧
  (∀ (id : Nat) (c : Cmd) (s : State), CmdTurn id 0x0801 c s → Passes (refFails 7 (mw c.words 1) ++ [(!domOn .brk s, stNoResource)]) → bridgeFails .bark s = false →
      Runs (.fanRead id) s (settle id (.done stOk [s.reg (aFanStat (refInst (mw c.words 1))), s.reg (aFanDem (refInst (mw c.words 1))), (fanSt (refInst (mw c.words 1)) s).duty, f32OfNat (fanSpeed (refInst (mw c.words 1)) s), s.reg (aFanCnt (refInst (mw c.words 1)))]) (s))) ∧
  (∀ (id : Nat) (c : Cmd) (s : State), CmdTurn id 0x0802 c s → Passes (commandFails 7 c ++ [(!domOn .brk s, stNoResource)]) → ownerBase (mw c.words 1) s = true → bit (mw c.words 2) 0 = false → commandRange c s = false → s.b (aFanCfg (refInst (mw c.words 1))) 31 = true →
      Runs (.fanCommand id) s (settle id (.st stOk) (refreshDblk (refreshDemand (mw c.words 1) { s with fw := { s.fw with fanOvr := tblSet none s.fw.fanOvr (refInst (mw c.words 1)) (some (mw c.words 3, (mw c.words 4).toNat)) } })))) ∧
  (∀ (id : Nat) (c : Cmd) (s : State), CmdTurn id 0x0802 c s → Passes (commandFails 7 c ++ [(!domOn .brk s, stNoResource)]) → ownerBase (mw c.words 1) s = true → bit (mw c.words 2) 0 = true →
      Runs (.fanCommand id) s (settle id (.st stOk) (refreshDblk (refreshDemand (mw c.words 1) (endOverride (mw c.words 1) s))))) ∧
  (∀ (id : Nat) (c : Cmd) (s : State), CmdTurn id 0x0803 c s → Passes ([(!onlyBits (mw c.words 2) 0x7F, stBadArg)] ++ refFails 7 (mw c.words 1) ++ [(decide (100 < (mw c.words 2).toNat), stRange)]) → claimed (fanRef (refInst (mw c.words 1))) s = false → bridgeFails .bark s = false →
      Runs (.fanFailsafe id) s (settle id (.st stOk) (refreshDemand (mw c.words 1) (s.setReg (aFanFail (refInst (mw c.words 1))) (mw c.words 2))))) ∧
  (∀ (id : Nat) (c : Cmd) (s : State), CmdTurn id 0x0804 c s → Passes (refFails 7 (mw c.words 1) ++ [(!domOn .brk s, stNoResource)]) → claimed (fanRef (refInst (mw c.words 1))) s = false → bridgeFails .bark s = false →
      Runs (.fanClearFail id) s (settle id (.st stOk) (clearFail (refInst (mw c.words 1)) s)))

/-- The BUS commands: port, status, raw, discover and script (R108, R110, R187, R188, R189, R210, R374, R386, R387, R392).
Where the rules leave a reading open, the effects named are the model's choice: log entries 48, 95. -/
def Obligations.BusCommands : Prop :=
  (∀ (id : Nat) (c : Cmd) (s : State), CmdTurn id 0x0901 c s → Passes ([(decide (65535 < (mw c.words 3).toNat) || decide (fld (mw c.words 2) 8 2 ≠ 0), stBadArg), (!(decide (fld (mw c.words 2) 29 3 = 2)) && decide ((mw c.words 3).toNat ≠ 0), stBadArg)] ++ refFails 8 (mw c.words 1) ++ [(!domOn .bus s, stNoResource)]) → ownerBase (mw c.words 1) s = true → (pcfgBad (refInst (mw c.words 1)) (mw c.words 2) s || (decide (fld (mw c.words 2) 29 3 = 2) && (decide ((mw c.words 3).toNat < 10) || decide (2000 < (mw c.words 3).toNat)))) = false →
      Runs (.busPort id) s (settle id (.st stOk) ((let t := pcfgWrite (refInst (mw c.words 1)) (mw c.words 2) s; if decide (fld (mw c.words 2) 29 3 = 2) then setPort (refInst (mw c.words 1)) { busPort (refInst (mw c.words 1)) t with tmo := (mw c.words 3).toNat } t else t)))) ∧
  (∀ (id : Nat) (c : Cmd) (s : State), CmdTurn id 0x0902 c s → Passes ([(decide ((refType (mw c.words 1)) ≠ 8 ∧ (refType (mw c.words 1)) ≠ 9 ∧ (refType (mw c.words 1)) ≠ 10), stBadArg)] ++ refFails (refType (mw c.words 1)) (mw c.words 1) ++ [(!domOn .bus s, stNoResource)]) →
      Runs (.busStatus id) s (settle id (.done stOk (if (refType (mw c.words 1)) = 8 then [s.reg (aBusPstat (refInst (mw c.words 1))), s.reg (aBusPcnt (refInst (mw c.words 1)))] else if (refType (mw c.words 1)) = 9 then [s.reg (aBusI2cstat (refInst (mw c.words 1)))] else [s.reg (aTwigSegstat (refInst (mw c.words 1))), s.reg (aTwigSegmon (refInst (mw c.words 1))), s.reg (aTwigSegcnt (refInst (mw c.words 1)))])) (s))) ∧
  (∀ (id : Nat) (c : Cmd) (s : State), CmdTurn id 0x0903 c s → Passes ([(!onlyBits (if msgLen c.words = 1 then 0 else mw c.words 2) 0x800000FF || decide (52 < fld (if msgLen c.words = 1 then 0 else mw c.words 2) 0 8), stBadArg)] ++ refFails 8 (mw c.words 1) ++ [(decide (domOn .bus s = true ∧ portMode (refInst (mw c.words 1)) s ≠ 4), stBadArg), (!domOn .bus s, stNoResource)]) → (bit (if msgLen c.words = 1 then 0 else mw c.words 2) 31 = false ∨ (busPort (refInst (mw c.words 1)) (drainTx (refInst (mw c.words 1)) s)).tx.length + fld (if msgLen c.words = 1 then 0 else mw c.words 2) 0 8 ≤ 256) → ownerBase (mw c.words 1) s = true →
      Runs (.busRaw id) s (settle id (.done stOk (BitVec.ofNat 32 ((busPort (refInst (mw c.words 1)) (drainTx (refInst (mw c.words 1)) s)).rx.take 52).length :: packBytes ((busPort (refInst (mw c.words 1)) (drainTx (refInst (mw c.words 1)) s)).rx.take 52))) ((let b := busPort (refInst (mw c.words 1)) (drainTx (refInst (mw c.words 1)) s)
        let b : BusPort := { b with rx := b.rx.drop 52 }
        let n := fld (if msgLen c.words = 1 then 0 else mw c.words 2) 0 8
        let b := if bit (if msgLen c.words = 1 then 0 else mw c.words 2) 31 ∧ n ≠ 0 then { b with tx := b.tx ++ (bytesOfWords (argWords c 3)).take n, out := [(bytesOfWords (argWords c 3)).take n] } else b
        showFill (refInst (mw c.words 1)) (setPort (refInst (mw c.words 1)) b (drainTx (refInst (mw c.words 1)) s)))))) ∧
  (∀ (id : Nat) (c : Cmd) (s : State), CmdTurn id 0x0904 c s → Passes ([(!onlyBits (mw c.words 2) 1, stBadArg)] ++ refFails 0x0A (mw c.words 1) ++ [(!domOn .bus s || !s.b (aTwigSegctl (refInst (mw c.words 1))) 31, stNoResource)]) → (segRef (refInst (mw c.words 1)) :: (List.range 16).map (fun k => mkRef 0x0B (16 * refInst (mw c.words 1) + k))).find? (fun r => !ownerFree r s) = none →
      Runs (.busTwigDiscover id) s (settle id (.running) (startRun (refInst (mw c.words 1)) (bit (mw c.words 2) 0) (some c.id) (msgTag c.words) s))) ∧
  (∀ (id : Nat) (c : Cmd) (s : State), CmdTurn id 0x0905 c s → Passes ([(!onlyBits (mw c.words 2) 0xF8F00000, stBadArg)] ++ refFails 9 (mw c.words 1) ++ [(!domOn .bus s, stNoResource)]) → ownerBase (mw c.words 1) s = true → scriptBad (refInst (mw c.words 1)) (fld (mw c.words 2) 28 4) (mw c.words 3) s = false →
      Runs (.busI2cScript id) s (settle id (.st stOk) ((let t := stageTrans (refInst (mw c.words 1)) (fld (mw c.words 2) 28 4) c s; if bit (mw c.words 2) 27 then commitScript (refInst (mw c.words 1)) (fld (mw c.words 2) 20 4) t else t))))

/-- Requests to a Modbus slave port and to the service UART (R382, R383, R388, R389).
Where the rules leave a reading open, the effects named are the model's choice: log entries 94, 97. -/
def Obligations.ModbusAndServiceRequests : Prop :=
  (∀ (p : Fin 6) (frame : SerialFrame) (bs : List Byte) (s : State), MbRequest p (· = 1) false frame bs s →
      Runs (.modbusFunction01 p frame) s ((let r := (fun bs s => readBits (fun a => coilBit a s) bs s) bs (countErrs p frame s); mbAnswer p bs r.1 r.2))) ∧
  (∀ (p : Fin 6) (frame : SerialFrame) (bs : List Byte) (s : State), MbRequest p (· = 2) false frame bs s →
      Runs (.modbusFunction02 p frame) s ((let r := (fun bs s => readBits (fun a => inputBit a s) bs s) bs (countErrs p frame s); mbAnswer p bs r.1 r.2))) ∧
  (∀ (p : Fin 6) (frame : SerialFrame) (bs : List Byte) (s : State), MbRequest p (· = 3) false frame bs s →
      Runs (.modbusFunction03 p frame) s ((let r := (fun bs s => readRegs (fun a => holdReg a s) bs s) bs (countErrs p frame s); mbAnswer p bs r.1 r.2))) ∧
  (∀ (p : Fin 6) (frame : SerialFrame) (bs : List Byte) (s : State), MbRequest p (· = 4) false frame bs s →
      Runs (.modbusFunction04 p frame) s ((let r := (fun bs s => readRegs (fun a => inputReg a s) bs s) bs (countErrs p frame s); mbAnswer p bs r.1 r.2))) ∧
  (∀ (p : Fin 6) (frame : SerialFrame) (bs : List Byte) (s : State), MbRequest p (· = 5) false frame bs s →
      Runs (.modbusFunction05 p frame) s ((let r := mbWriteCoil bs (countErrs p frame s); mbAnswer p bs r.1 r.2))) ∧
  (∀ (p : Fin 6) (frame : SerialFrame) (bs : List Byte) (s : State), MbRequest p (· = 6) true frame bs s →
      Runs (.modbusFunction06 p frame) s ((let r := mbWriteReg bs (countErrs p frame s); mbAnswer p bs r.1 r.2))) ∧
  (∀ (p : Fin 6) (frame : SerialFrame) (bs : List Byte) (s : State), MbRequest p (· = 15) false frame bs s →
      Runs (.modbusFunction15 p frame) s ((let r := mbWriteCoils bs (countErrs p frame s); mbAnswer p bs r.1 r.2))) ∧
  (∀ (p : Fin 6) (frame : SerialFrame) (bs : List Byte) (s : State), MbRequest p (· = 16) true frame bs s →
      Runs (.modbusFunction16 p frame) s ((let r := mbWriteRegs bs (countErrs p frame s); mbAnswer p bs r.1 r.2))) ∧
  (∀ (p : Fin 6) (frame : SerialFrame) (bs : List Byte) (s : State), MbRequest p (fun f => !decide (f ∈ [1, 2, 3, 4, 5, 6, 15, 16])) false frame bs s →
      Runs (.modbusOtherFunction p frame) s ((let r := (fun _ s => (.exc 1, s)) bs (countErrs p frame s); mbAnswer p bs r.1 r.2))) ∧
  (∀ (wire : List Byte) (seq : Nat) (ws : List Word) (s : State), s.pwr.held.isSome = false → domOn .bus s = true → svcParse wire = some (seq, ws) → inFull 15 s = false →
      Runs (.serviceFrame wire) s ((let t := forEach ws.zipIdx (fun p t => storeWord (0x100 + 0x80 * 15 + 4 * p.2) p.1 t) s
        let t := goSend 15 (storeWord (0x100 + 0x80 * 15 + 0x4C) (BitVec.ofNat 32 seq) t)
        { t with hp := { t.hp with svcMsg := true } }))) ∧
  (∀ (wire : List Byte) (seq : Nat) (ws : List Word) (s : State), s.pwr.held.isSome = false → domOn .bus s = true → svcParse wire = some (seq, ws) → inFull 15 s = true →
      Runs (.serviceFrame wire) s (svcBusy seq ws s))

/-- The BACnet services (R378, R379, R380, R453).
Where the rules leave a reading open, the effects named are the model's choice: log entries 15, 19, 20, 96. -/
def Obligations.BacnetServices : Prop :=
  (∀ (req : BacReq) (obj : BacRef) (s : State), bacUp req.port false s = true →
      Runs (.readProperty req obj) s ((let t := crownDrain s; let r : BacBody × State := (match (readProp obj t).1 with | .words ws => BacBody.values [(obj, ws)] | .refused b => b, (readProp obj t).2); answer req r.1 r.2))) ∧
  (∀ (req : BacReq) (objs : List BacRef) (s : State), bacUp req.port false s = true →
      Runs (.readPropertyMultiple req objs) s ((let t := crownDrain s; let r : BacBody × State := if 480 < 3 + ((readProps objs t).1.map (fun p => bacOctets p.2)).foldl (· + ·) 0 then (.abort, t) else (.values (readProps objs t).1, (readProps objs t).2); answer req r.1 r.2))) ∧
  (∀ (req : BacReq) (w : BacWrite) (s : State), bacUp req.port false s = true →
      Runs (.writeProperty req w) s ((let t := crownDrain s; let r : BacBody × State := writeProps [w] t; answer req r.1 r.2))) ∧
  (∀ (req : BacReq) (ws : List BacWrite) (s : State), bacUp req.port false s = true →
      Runs (.writePropertyMultiple req ws) s ((let t := crownDrain s; let r : BacBody × State := writeProps ws t; answer req r.1 r.2))) ∧
  (∀ (req : BacReq) (range : BacRange) (t : State) (s : State), bacUp req.port false s = true → t = crownDrain s → bacObject 20 range.log t = true → trendUp t = true →
      Runs (.readRange req range) s (answer req (.range (match rangeRecords range t with | x :: _ => seqOf x.1 | [] => 0) ((rangeRecords range t).map (fun x => recWords x.2))) t)) ∧
  (∀ (req : BacReq) (sub : BacSub) (i : Nat) (t : State) (s : State), bacUp req.port false s = true → t = crownDrain s → sub.cancel = false → bacObject sub.obj sub.inst t = true → hasPresent sub.obj = true → sub.lifetime ≤ 28800 → (∀ (k : Nat) (o : CovSub), covSub k t = some o → ¬ (o.port = req.port.val ∧ o.source = req.source ∧ o.process = sub.process ∧ o.obj = sub.obj ∧ o.inst = sub.inst)) → (List.range 32).find? (fun k => (covSub k t).isNone) = some i →
      Runs (.subscribeCov req sub) s (answer req .simpleAck (setCov i (some ⟨req.port, req.source, sub.process, sub.obj, sub.inst, sub.confirmed, if sub.lifetime = 0 then none else some (t.now + secT sub.lifetime), none⟩) t))) ∧
  (∀ (req : BacReq) (sub : BacSub) (i : Nat) (t : State) (s : State), bacUp req.port false s = true → t = crownDrain s → (List.range 32).find? (fun (k : Nat) => match covSub k t with | some c => decide (c.port = req.port.val ∧ c.source = req.source ∧ c.process = sub.process ∧ c.obj = sub.obj ∧ c.inst = sub.inst) | none => false) = some i → sub.cancel = true →
      Runs (.subscribeCov req sub) s (answer req .simpleAck (setCov i none t))) ∧
  (∀ (req : BacReq) (sub : BacSub) (i : Nat) (t : State) (s : State), bacUp req.port false s = true → t = crownDrain s → (List.range 32).find? (fun (k : Nat) => match covSub k t with | some c => decide (c.port = req.port.val ∧ c.source = req.source ∧ c.process = sub.process ∧ c.obj = sub.obj ∧ c.inst = sub.inst) | none => false) = some i → sub.cancel = false → bacObject sub.obj sub.inst t = true → hasPresent sub.obj = true → sub.lifetime ≤ 28800 →
      Runs (.subscribeCov req sub) s (answer req .simpleAck (setCov i (some ⟨req.port, req.source, sub.process, sub.obj, sub.inst, sub.confirmed, if sub.lifetime = 0 then none else some (t.now + secT sub.lifetime), none⟩) t))) ∧
  (∀ (i : Fin 32) (c : CovSub) (v : Word × Word) (t : State) (s : State), covSub i s = some c → ready s = true → t = crownDrain s → covNow c t = some v → bacUp c.port false t = true → commNow t = 0 → c.last ≠ some v →
      Runs (.covNotification i) s (bacQueue ⟨c.port, some c.source, none, .cov c.confirmed c.process c.obj c.inst v.1 v.2 (match c.until_ with | some e => (e - t.now) / secT 1 | none => 0)⟩ (setCov i (some { c with last := some v }) t))) ∧
  (∀ (i : Fin 32) (t : _) (s : State), (covSub i s).bind (·.until_) = some t →
      Runs (.covSubscriptionExpiry i) s (setCov i none (s.advTo t))) ∧
  (∀ (i : Fin 32) (s : State), (covSub i s).bind (·.until_) = none →
      Runs (.covSubscriptionExpiry i) s s) ∧
  (∀ (limits : Option (Nat × Nat)) (s : State), inLimits limits (bacDevice s) = true →
      Runs (.whoIs limits) s (broadcastReply (.iAm (bacDevice s)) s)) ∧
  (∀ (limits : Option (Nat × Nat)) (s : State), ¬ (inLimits limits (bacDevice s) = true) → Runs (.whoIs limits) s s) ∧
  (∀ (limits : Option (Nat × Nat)) (obj inst : Nat) (s : State), inLimits limits (bacDevice s) = true → bacObject obj inst s = true →
      Runs (.whoHas limits obj inst) s (broadcastReply (.iHave (bacDevice s) obj inst) s)) ∧
  (∀ (t : Word) (p : Nat) (s : State), mstpPort s = some p → bacUp p false s = true → grRole s ≠ 1 → ownerBase rtcRef s = true →
      Runs (.timeSynchronization t) s (setClock t.toNat s)) ∧
  (∀ (t : Word) (p : Nat) (s : State), mstpPort s = some p → bacUp p false s = true → grRole s ≠ 1 → ownerBase rtcRef s = true →
      Runs (.utcTimeSynchronization t) s (setClock (t + BitVec.ofInt 32 (60 * (match s.fw.image with | some im => im.utcOffset | none => 0))).toNat s)) ∧
  (∀ (req : BacReq) (mode : BacComm) (minutes : Nat) (pw : List Byte) (s : State), bacUp req.port true s = true → (checkPassword 0 true (bacPassword pw) (crownDrain s)).1 = 0 →
      Runs (.deviceCommunicationControl req mode minutes pw) s ((let t := (checkPassword 0 true (bacPassword pw) (crownDrain s)).2
        let m := match mode with | .enable => 0 | .disable => 1 | .disableInitiation => 2
        answer req .simpleAck { t with bus := { t.bus with comm := m, commEnd := if m = 0 ∨ minutes = 0 then none else some (t.now + secT (60 * minutes)) } }))) ∧
  (∀ (req : BacReq) (mode : BacComm) (minutes : Nat) (pw : List Byte) (s : State), bacUp req.port true s = true → (checkPassword 0 true (bacPassword pw) (crownDrain s)).1 ≠ 0 →
      Runs (.deviceCommunicationControl req mode minutes pw) s (answer req .passwordFailure (checkPassword 0 true (bacPassword pw) (crownDrain s)).2)) ∧
  (∀ (req : BacReq) (warm : Bool) (pw : List Byte) (s : State), bacUp req.port true s = true → (checkPassword 0 true (bacPassword pw) (crownDrain s)).1 = 0 → warm = true → (checkPassword 0 true (bacPassword pw) (crownDrain s)).2.fw.pendReset = none →
      Runs (.reinitializeDevice req warm pw) s ((let t := (checkPassword 0 true (bacPassword pw) (crownDrain s)).2; answer req .simpleAck { t with fw := { t.fw with pendReset := some ⟨0, t.fw.nextId, 16, some (t.now + msT 10)⟩ } }))) ∧
  (∀ (req : BacReq) (confirmed : Bool) (s : State), confirmed = true → bacUp req.port false s = true →
      Runs (.unrecognizedService req confirmed) s (answer req .reject (crownDrain s)))

/-- The frames of the grove that a node takes (R368, R402, R403, R404, R408, R409, R411, R412, R413, R415, R418, R420).
Where the rules leave a reading open, the effects named are the model's choice: log entries 99, 100, 101, 102. -/
def Obligations.GroveFrames : Prop :=
  (∀ (p : Fin 2) (frame : List Byte) (g : GrParsed) (s : State), FrameNew 0x82 p frame g s →
      Runs (.ack p frame) s (takeFrame 0x82 p frame g (fun s => (0,
        if g.payload.length ≠ 4 then s
        else
          match s.gft.unacked.find? (fun x => decide (x.dst = g.src) && decide (x.seq = beNat (g.payload.take 2))) with
          | some x => frameAnswered x (min 1 (beNat ((g.payload.drop 2).take 1))) s
          | none => s)) s)) ∧
  (∀ (p : Fin 2) (frame : List Byte) (g : GrParsed) (s : State), FrameNew 0x02 p frame g s →
      Runs (.time p frame) s (takeFrame 0x02 p frame g (fun s => (0,
        if g.payload.length ≠ 8 ∨ acting s then s
        else
          let due := (BitVec.ofNat 32 (beNat (g.payload.take 4)), beNat ((g.payload.drop 4).take 1))
          judgeTime { s with gft := { s.gft with timeDue := some due } })) s)) ∧
  (∀ (p : Fin 2) (frame : List Byte) (g : GrParsed) (s : State), FrameNew 0x03 p frame g s →
      Runs (.allot p frame) s (takeFrame 0x03 p frame g (fun s => (0,
        let b := fun i => ((g.payload.drop i).headD 0).toNat
        let n := b 2
        if g.payload.length ≠ 4 + 4 * n ∨ 4 ≤ b 0 ∨ g.payload.length = 0 then s
        else
          let l := (List.range n).map (fun i => (b (4 + 4 * i), 256 * b (6 + 4 * i) + b (7 + 4 * i)))
          let heard := l.foldl (fun t e => tblSet 0 t e.1 e.2) s.gft.heard
          let s := { s with gft := { s.gft with applied := tblSet 0 s.gft.applied (4 + b 0) (b 1 + 1), heard := heard } }
          match l.find? (fun e => e.1 = myNode s) with
          | some e => takeAllot (b 0) (b 1) e.2 s
          | none => s)) s)) ∧
  (∀ (p : Fin 2) (frame : List Byte) (g : GrParsed) (s : State), FrameNew 0xC3 p frame g s →
      Runs (.demand p frame) s (takeFrame 0xC3 p frame g (fun s => (0,
        let v := fun i => beNat ((g.payload.drop i).take 2)
        let k := beNat (g.payload.take 1)
        let d : GrDemand := ⟨beNat ((g.payload.drop 1).take 1), v 2, v 4, v 6, v 8⟩
        if g.payload.length ≠ 10 ∨ 4 ≤ k ∨ !acting s ∨ 16 ≤ g.src then s
        else
          let s := { s with gft := { s.gft with demand := tblSet none s.gft.demand g.src (some d) } }
          let s := s.setF (aGraftAllot g.src) 0 16 d.need
          let r := grRoundOf k s
          if g.src ∈ r.waiting ∧ d.round = r.round then
            let w := r.waiting.filter (fun n => n ≠ g.src)
            let s := setRound k { r with waiting := w } (putAllots (r.low.filter (fun e => e.1 = g.src)) s)
            if w = [] ∧ r.high ≠ [] then sendRaise k s else s
          else s)) s)) ∧
  (∀ (p : Fin 2) (frame : List Byte) (g : GrParsed) (s : State), FrameNew 0x04 p frame g s →
      Runs (.takeback p frame) s (takeFrame 0x04 p frame g (fun s => (0,
        if acting s && decide (grRole s = 2) then
            (let s := s.advTo (s.gft.tickAt + msT 1)
             let s := groveTicks 1 s.now (s.gft.tickMod + 1) s
             let s := forRange 2 (fun p s => if onLine p s then sendSet p (.tick (BitVec.ofNat 8 s.gft.tickMod) 0) s else s) s
             let s := ((s.setB aGraftStat 17 false).setF aGraftStat 20 4 g.src).setB aGraftStat 19 true
             { s with gft := { s.gft with masterAt := s.now, timeAt := 0 } })
          else s)) s)) ∧
  (∀ (p : Fin 2) (frame : List Byte) (g : GrParsed) (s : State), FrameNew 0xC1 p frame g s →
      Runs (.point p frame) s (takeFrame 0xC1 p frame g (fun s => (0, forEach (frameEntries g.payload) (fun e s =>
        let n := beNat (e.take 1)
        if s.f (aRqPcfg n) 29 3 = 4 then
          let s := { s with gft := { s.gft with imports := tblSet none s.gft.imports n (some ⟨s.now, beNat ((e.drop 2).take 1)⟩) } }
          importValue n (BitVec.ofNat 32 (beNat (e.drop 4))) (beNat ((e.drop 1).take 1)) s
        else s.bump aGraftStat 8 8) s)) s)) ∧
  (∀ (p : Fin 2) (frame : List Byte) (g : GrParsed) (s : State), FrameNew 0x45 p frame g s → ready s = true →
      Runs (.reset p frame) s (takeFrame 0x45 p frame g (fun s =>
        (0, if (match s.fw.pendReset with | some r => decide (1 ≤ r.scope) | none => false) then s
          else { s with fw := { s.fw with pendReset := some ⟨4, 0, 16, some (s.now + msT 10)⟩ } })) s)) ∧
  (∀ (p : Fin 2) (frame : List Byte) (g : GrParsed) (s : State), FrameNew 0x42 p frame g s → ready s = true →
      Runs (.sched p frame) s (takeFrame 0x42 p frame g (fun s =>
        let k := beNat (g.payload.take 1)
        let d := beNat ((g.payload.drop 1).take 1)
        let ws := wordsOfBytes (g.payload.drop 4)
        let h := mw ws 0
        let ps := (ws.drop 1).take 8
        let fed : Bool := match s.fw.image with | some im => decide (k < 32) && bit im.groveSched k | none => false
        if g.payload.length = 40 ∧ fed ∧ 1 ≤ d ∧ d ≤ 7 ∧ ownerBase (mkRef 0x04 k) s ∧ schedOk k d h ps s then
          (0, evalSchedules (ringEvent 6 (putSched k d h ps s)))
        else (1, s)) s)) ∧
  (∀ (p : Fin 2) (frame : List Byte) (g : GrParsed) (s : State), FrameNew 0x43 p frame g s → ready s = true →
      Runs (.cal p frame) s (takeFrame 0x43 p frame g (fun s =>
        let e := beNat (g.payload.take 1)
        let ws := wordsOfBytes (g.payload.drop 4)
        let fed : Bool := match s.fw.image with | some im => im.groveCal | none => false
        if g.payload.length = 16 ∧ e < 64 ∧ fed ∧ ownerBase (mkRef 0x05 0) s ∧ calForm (mw ws 0) ∧ calOk (mw ws 0) (mw ws 1) then
          (0, evalSchedules (ringEvent 6 (putCal e (ws.take 3) s)))
        else (1, s)) s)) ∧
  (∀ (p : Fin 2) (frame : List Byte) (g : GrParsed) (s : State), FrameNew 0xC2 p frame g s → ready s = true →
      Runs (.zone p frame) s (takeFrame 0xC2 p frame g (fun s =>
        let links := match s.fw.image with | some im => im.zoneLinks | none => []
        let es := (frameEntries g.payload).filter (fun e => links.any (fun l => decide (l.zone = beNat ((e.drop 1).take 1))
          && decide (l.node = g.src) && decide (l.remote = beNat (e.take 1))) && decide (beNat ((e.drop 2).take 1) ≤ 4))
        let s := forEach es (fun e s =>
          let z := beNat ((e.drop 1).take 1)
          let s := setZone z { zoneSt z s with linkLost := false } s
          let i : ZoneIn := ⟨s.now, beNat ((e.drop 2).take 1), beNat ((e.drop 3).take 1), BitVec.ofNat 32 (beNat (e.drop 4))⟩
          { s with gft := { s.gft with zoneIn := tblSet none s.gft.zoneIn z (some i) } }) s
        (0, recomputeModes (es.map (fun e => beNat ((e.drop 1).take 1))) s)) s)) ∧
  (∀ (p : Fin 2) (frame : List Byte) (g : GrParsed) (s : State), FrameNew 0x41 p frame g s → ready s = true →
      Runs (.mbox p frame) s (takeFrame 0x41 p frame g (fun s => (0,
        let b := beNat (g.payload.take 1)
        let c := newCmd (b % 16) (beNat ((g.payload.drop 2).take 2)) (wordsOfBytes (g.payload.drop 4)) (decide (b / 16 % 2 = 1)) false (.grove g.src) s
        if g.payload.length < 8 then s
        else if 16 ≤ s.fw.cmds.length - storeUsed s then answerCmd c stNoResource false false s
        else intake c s)) s)) ∧
  (∀ (p : Fin 2) (frame : List Byte) (g : GrParsed) (s : State), FrameNew 0x81 p frame g s → ready s = true →
      Runs (.mboxReply p frame) s (takeFrame 0x81 p frame g (fun s => (0,
        let b := beNat (g.payload.take 1)
        let ws := wordsOfBytes (g.payload.drop 4)
        let mine := fun (c : Cmd) => decide (c.fwdTo = some g.src) && c.reply.isNone && decide (c.chan = b % 16)
          && decide (msgTag c.words = beNat ((g.payload.drop 1).take 1)) && decide (c.seq = beNat ((g.payload.drop 2).take 2))
        match s.fw.cmds.find? mine with
        | none => s
        | some c =>
          if !acting s || decide (g.payload.length < 12) then s
          else if bit (mw ws 0) 2 then queueInterim c.id s
          else if c.discard then dropCmd c.id s
          else
            let s := { s with fw := { s.fw with orderCtr := s.fw.orderCtr + 1 } }
            updCmd c.id (fun c => { c with reply := some ws, order := if c.interim = .queued then c.order else s.fw.orderCtr }) s)) s)) ∧
  (∀ (p : Fin 2) (frame : List Byte) (g : GrParsed) (s : State), FrameNew 0x44 p frame g s → ready s = true →
      Runs (.abortFrame p frame) s (takeFrame 0x44 p frame g (fun s => (0,
        match s.fw.cmds.find? (fun c => decide (c.origin = .grove g.src) && decide (msgTag c.words = beNat (g.payload.take 1)) && !c.ghost) with
        | some c =>
          if c.reply.isNone ∧ (cmdInfo (msgCode c.words)).map (·.1) = some .longAbortable then abortCmd c 1 s else s
        | none => s)) s)) ∧
  (∀ (p : Fin 2) (frame : List Byte) (g : GrParsed) (s : State), FrameNew 0x01 p frame g (noteHello p g s) → domOn .gft s = true → onLine p s = true → g.payload.length = 16 → grState s ≠ 1 → g.src ≠ myNode s →
      Runs (.hello p frame) s (takeFrame 0x01 p frame g (fun t =>
        (0, let u := takeBack g (judgeHello g t); if (grNode g.src s).isNone ∧ grState u = 2 then nodeJoined g.src u else u)) (noteHello p g s))) ∧
  (∀ (p : Fin 2) (count : Byte) (delay : Half) (s : State), domOn .gft s = true → onLine p s = true → acting s = false →
      Runs (.tick p count delay) s (judgeTime (takeTick p count delay (freshLine s))))

/-- What a node sends and judges at its times (R404, R411, R412, R413, R414, R415, R416, R417, R418, R422, R424, R425).
Where the rules leave a reading open, the effects named are the model's choice: log entries 100, 101, 102, 103, 104, 105. -/
def Obligations.GroveEvents : Prop :=
  (∀ (cls : Fin 4) (seq : Half) (s : State), s.gft.unacked.find? (fun x => decide (x.cls = cls.val) && decide (x.seq = seq.toNat)) = none →
      Runs (.ackTimeout cls seq) s s) ∧
  (∀ (cls : Fin 4) (seq : Half) (x : GrSend) (s : State), s.gft.unacked.find? (fun x => decide (x.cls = cls.val) && decide (x.seq = seq.toNat)) = some x → domOn .gft s = true → (x.frame.headD 0).toNat ≠ 0x81 → x.tries < 3 →
      Runs (.ackTimeout cls seq) s ((let t := freshLine (s.advTo (x.sentAt + msT 20))
        let y := { x with sentAt := t.now, tries := x.tries + 1 }
        launch x.dst x.cls x.frame { t with gft := { t.gft with unacked := t.gft.unacked.map (fun z => if z = x then y else z) } }))) ∧
  (∀ (cls : Fin 4) (seq : Half) (x : GrSend) (s : State), s.gft.unacked.find? (fun x => decide (x.cls = cls.val) && decide (x.seq = seq.toNat)) = some x → domOn .gft s = true → (x.frame.headD 0).toNat ≠ 0x81 → 3 ≤ x.tries →
      Runs (.ackTimeout cls seq) s (frameAnswered x 2 (freshLine (s.advTo (x.sentAt + msT 20))))) ∧
  (∀ (s : State), domOn .gft s = true → grState s = 2 → acting s = true →
      Runs (.tickSend) s ((let s := freshLine (s.advTo (s.gft.tickAt + msT 1))
        let s := groveTicks 1 s.now (s.gft.tickMod + 1) s
        forRange 2 (fun p s => if onLine p s then sendSet p (.tick (BitVec.ofNat 8 s.gft.tickMod) 0) s else s) s))) ∧
  (∀ (s : State), ¬ (domOn .gft s = true ∧ grState s = 2 ∧ acting s = true) → Runs (.tickSend) s s) ∧
  (∀ (s : State), domOn .gft s = true → grState s = 2 → acting s = false →
      Runs (.tickLoss) s ((let s := s.advTo (s.gft.tickAt + msT (if s.gft.freeRun then 1 else 3))
        let k := (s.now - s.gft.tickAt) / msT 1
        let s := groveTicks k (s.gft.tickAt + msT k) (s.gft.tickMod + k) s
        judgeTime { s with gft := { s.gft with freeRun := true } }))) ∧
  (∀ (s : State), ¬ (domOn .gft s = true ∧ grState s = 2 ∧ acting s = false) → Runs (.tickLoss) s s) ∧
  (∀ (t : Nat) (s : State), timeNow s = some t → domOn .gft s = true → ready s = true → grState s = 2 → acting s = true → s.gft.timeAt ≠ 0 →
      Runs (.timeSend) s ((let n := s.draw.1.toNat % 201
        let u := freshLine s.draw.2
        let later := t + (if u.rtc.phase + secLen u ≤ u.now + msT n then 1 else 0)
        let u := { u with gft := { u.gft with timeAt := 0 } }
        sendFrame 0x02 0xFF (beBytes 4 later ++ [BitVec.ofNat 8 (u.gft.tickMod + n), 0, 0, 0]) u))) ∧
  (∀ (g : _) (s : State), myGroup s = some g → domOn .gft s = true → grState s = 2 →
      Runs (.demandSend) s (let s := freshLine (s.advTo s.gft.demandAt)
        let s := { s with gft := { s.gft with demandAt := s.now + msT 100 } }
        let d := ownDemand g s
        let s := if acting s then s.setF (aGraftAllot (myNode s)) 0 16 (min 65535 d.need) else s
        sendFrame 0xC3 0xFF ([BitVec.ofNat 8 g, BitVec.ofNat 8 d.round] ++ beBytes 2 (min 65535 d.ifix) ++ beBytes 2 (min 65535 d.safe)
          ++ beBytes 2 (min 65535 d.need) ++ beBytes 2 d.allot) s)) ∧
  (∀ (s : State), myGroup s = none →
      Runs (.demandSend) s s) ∧
  (∀ (s : State), domOn .gft s = true → ready s = true → grState s = 2 → acting s = true →
      Runs (.allocationCycle) s ((let s := freshLine (s.advTo (s.gft.allocAt + msT 100))
        forRange 4 allocate { s with gft := { s.gft with allocAt := s.now } }))) ∧
  (∀ (s : State), ¬ (domOn .gft s = true ∧ ready s = true ∧ grState s = 2 ∧ acting s = true) → Runs (.allocationCycle) s s) ∧
  (∀ (g : Fin 4) (s : State), domOn .gft s = true → ready s = true → grState s = 2 → acting s = true → (grRoundOf g s).waiting ≠ [] →
      Runs (.allotRepeat g) s (sendAllot g (grRoundOf g s).round (grRoundOf g s).low (setRound g { grRoundOf g s with sentAt := (freshLine (s.advTo ((grRoundOf g s).sentAt + msT 20))).now } (freshLine (s.advTo ((grRoundOf g s).sentAt + msT 20)))))) ∧
  (∀ (s : State), domOn .gft s = true → grState s = 2 → acting s = false →
      Runs (.masterLoss) s ((let s := freshLine (s.advTo (s.gft.masterAt + secT 2))
        let s := (s.setB aGraftStat 29 true).setB aGraftStat 19 false
        if grRole s = 2 ∧ !s.b aGraftStat 30 then
          let s := ((s.setB aGraftStat 17 true).setF aGraftStat 20 4 (myNode s)).setB aGraftStat 19 true
          let s := adoptAllots { s with gft := { s.gft with freeRun := false, timeAt := s.now + 1, allocAt := s.now } }
          forEach (membersPresent s) distributeTo (sendFrame 0x01 0xFF (helloPayload s) s)
        else s))) ∧
  (∀ (s : State), ¬ (domOn .gft s = true ∧ grState s = 2 ∧ acting s = false) → Runs (.masterLoss) s s) ∧
  (∀ (k : Fin 64) (s : State), domOn .gft s = true → grState s = 2 → s.b (aGraftExp k) 31 = true →
      Runs (.exportDue k) s ((let s := freshLine (s.advTo (exportDue k s))
        let l := (k.val :: (List.range 64).filter (fun j => decide (j ≠ k.val) && s.b (aGraftExp j) 31 && decide (exportDue j s ≤ s.now)
          && decide (exportDst j s = exportDst k s))).take 32
        let pl := l.flatMap (fun j =>
          let w := s.reg (aGraftExp j)
          [BitVec.ofNat 8 (fld w 8 8), BitVec.ofNat 8 (s.f (aRqLvthi (fld w 0 8)) 0 8), BitVec.ofNat 8 (fld w 16 8), 0]
            ++ wordToBytes (s.reg (aRqLvtlo (fld w 0 8))))
        let s := { s with gft := { s.gft with exportAt := l.foldl (fun t j => tblSet none t j (some s.now)) s.gft.exportAt } }
        sendFrame 0xC1 (exportDst k s) pl s))) ∧
  (∀ (k : Fin 64) (s : State), ¬ (domOn .gft s = true ∧ grState s = 2 ∧ s.b (aGraftExp k) 31 = true) → Runs (.exportDue k) s s) ∧
  (∀ (p : Fin 256) (i : _) (s : State), tblGet none s.gft.imports p = some i → s.f (aRqPcfg p) 29 3 = 4 →
      Runs (.importTimeout p) s (let s := s.advTo (i.at_ + msT (300 * i.period))
        let s := { s with gft := { s.gft with imports := tblSet none s.gft.imports p (some { i with at_ := s.now }) } }
        importValue p (s.reg (aRqLvtlo p)) (s.f (aRqLvthi p) 0 8 ||| 0x80) s)) ∧
  (∀ (p : Fin 256) (s : State), tblGet none s.gft.imports p = none →
      Runs (.importTimeout p) s s) ∧
  (∀ (z : Fin 48) (links : List ZoneLink) (t : Nat) (m : Nat) (q : Nat) (sp : Word) (e : Nat × Nat × Word) (s : State), ready s = true → domOn .gft s = true → grState s = 2 → links = (match s.fw.image with | some im => im.homeLinks.filter (fun l => decide (l.zone = z.val)) | none => []) → links ≠ [] → e = zoneEntry z s → tblGet none s.gft.zoneOut z = some (t, m, q, sp) →
      Runs (.zoneEntrySend z) s ((let u := if m = e.1 ∧ sp = e.2.2 then s.advTo (t + secT 10) else s
        let u := { u with gft := { (freshLine u).gft with zoneOut := tblSet none u.gft.zoneOut z (some (u.now, e.1, e.2.1, e.2.2)) } }
        forEach ((links.map (·.node)).dedup) (fun n u =>
          sendFrame 0xC2 n ((links.filter (fun l => l.node = n)).flatMap (fun l =>
            [BitVec.ofNat 8 z, BitVec.ofNat 8 l.remote, BitVec.ofNat 8 e.1, BitVec.ofNat 8 e.2.1] ++ wordToBytes e.2.2)) u) u))) ∧
  (∀ (z : Fin 48) (im : Image) (s : State), ready s = true → s.fw.image = some im → im.zoneLinks.any (fun l => l.zone = z.val) = true → (zoneSt z s).linkLost = false →
      Runs (.zoneLinkTimeout z) s ((let u := s.advTo ((match tblGet none s.gft.zoneIn z with | some e => e.at_ | none => 0) + secT 30)
        recomputeModes [z.val] (setZone z { zoneSt z u with linkLost := true } u)))) ∧
  (∀ (node : Fin 16) (t : Nat) (mine : List Cmd) (s : State), tblGet none s.gft.absentAt node = some t → mine = s.fw.cmds.filter (fun c => decide (c.fwdTo = some node.val) && c.reply.isNone) → ready s = true → mine ≠ [] →
      Runs (.forwardNodeAbsent node) s ((let u := s.advTo (t + secT 2)
        let ids := mine.map (·.id)
        let live := fun (x : GrSend) => match x.cmd with | some id => !decide (id ∈ ids) | none => true
        let u := { u with gft := { u.gft with unacked := u.gft.unacked.filter live, backlog := u.gft.backlog.filter live } }
        forEach ids (fun id u => finishCmd id stUnreachable [] u) u)))

/-- The GROVE commands (R108, R419, R430, R431).
Where the rules leave a reading open, the effects named are the model's choice: log entry 106. -/
def Obligations.GroveCommands : Prop :=
  (∀ (id : Nat) (c : Cmd) (s : State), CmdTurn id 0x0A01 c s →
      Runs (.groveStatus id) s (settle id (.done stOk [asRead aGraftStat s, s.reg aGraftNodes, s.reg aGraftTick, s.reg (aGraftPort 0), s.reg (aGraftPort 1)]) (s))) ∧
  (∀ (id : Nat) (c : Cmd) (s : State), CmdTurn id 0x0A02 c s → Passes [(!onlyBits (mw c.words 1) 0xF, stBadArg), (!acting s, stNotFound), (decide (fld (mw c.words 1) 0 4 = myNode s), stRange)] →
      Runs (.groveResetNode id) s (settle id (.running) (sendReliable 0x45 (fld (mw c.words 1) 0 4) [] (some id) (freshLine s)))) ∧
  (∀ (id : Nat) (c : Cmd) (s : State), CmdTurn id 0x0A03 c s → Passes [(!onlyBits (mw c.words 1) 0x80000003, stBadArg), (!acting s, stNotFound)] → bit (mw c.words 1) 31 = false →
      Runs (.groveAllotment id) s (settle id ((.done stOk (s.reg (aGraftShare (fld (mw c.words 1) 0 2)) :: (List.range 8).map (fun k =>
        halves (if s.b (aGraftShare (fld (mw c.words 1) 0 2)) (2 * k) then inForce (2 * k) s else 0) (if s.b (aGraftShare (fld (mw c.words 1) 0 2)) (2 * k + 1) then inForce (2 * k + 1) s else 0))))) (s))) ∧
  (∀ (id : Nat) (c : Cmd) (t : State) (s : State), CmdTurn id 0x0A03 c s → Passes [(!onlyBits (mw c.words 1) 0x80000003, stBadArg), (!acting s, stNotFound)] → bit (mw c.words 1) 31 = true → claimed graftRef s = false → graftBad (aGraftShare (fld (mw c.words 1) 0 2)) (mw c.words 2) s = false → t = s.setReg (aGraftShare (fld (mw c.words 1) 0 2)) (mw c.words 2) →
      Runs (.groveAllotment id) s (settle id ((.done stOk (t.reg (aGraftShare (fld (mw c.words 1) 0 2)) :: (List.range 8).map (fun k =>
        halves (if t.b (aGraftShare (fld (mw c.words 1) 0 2)) (2 * k) then inForce (2 * k) t else 0) (if t.b (aGraftShare (fld (mw c.words 1) 0 2)) (2 * k + 1) then inForce (2 * k + 1) t else 0))))) (t))) ∧
  (∀ (id : Nat) (c : Cmd) (here : List Nat) (bad : Nat) (frames : Nat) (s : State), CmdTurn id 0x0A04 c s → Passes [(!onlyBits (mw c.words 2) 0x1FFFF, stBadArg), (!acting s, stNotFound)] → (((List.range 32).filter (fun k => bit (mw c.words 1) k)).map (mkRef 0x04)).find? (fun r => !ownerFree r s) = none → here = ((List.range 16).filter (fun n => bit (mw c.words 2) n)).filter (fun n => nodePresent n s && decide (n ≠ myNode s)) → bad = (((List.range 16).filter (fun n => bit (mw c.words 2) n)).filter (fun n => !decide (n ∈ here))).foldl (fun a n => a + 2 ^ n) 0 → frames = 7 * ((List.range 32).filter (fun k => bit (mw c.words 1) k)).length + (if bit (mw c.words 2) 16 then 64 else 0) → here ≠ [] → frames ≠ 0 →
      Runs (.groveSchedPush id) s (settle id (.running) ((let t := grantService (((List.range 32).filter (fun k => bit (mw c.words 1) k)).map (mkRef 0x04)) 4 (msgTag c.words) id (freshLine s)
        let t := { t with gft := { t.gft with push := t.gft.push ++ [⟨id, fld (mw c.words 2) 0 16, here.map (fun n => (n, frames)), bad⟩] } }
        forEach here (fun n t =>
          let t := forEach ((List.range 32).filter (fun k => bit (mw c.words 1) k)) (fun k t => sendSchedTo n k (some id) t) t
          if bit (mw c.words 2) 16 then sendCalTo n (some id) t else t) t)))) ∧
  (∀ (id : Nat) (c : Cmd) (e : Nat × List Word) (s : State), CmdEnding id 0x0A04 c e s →
      Runs (.groveSchedPush id) s (finishCmd id e.1 e.2 s))

/-- The SYS commands: update, information, abort, reset, dump (R95, R107, R524, R534, R535, R566, R567, R568, R569, R570).
Where the rules leave a reading open, the effects named are the model's choice: log entries 11, 137, 138. -/
def Obligations.SystemCommands : Prop :=
  (∀ (id : Nat) (c : Cmd) (s : State), CmdTurn id 0x0107 c s → fwOp c = 1 → Passes [(!onlyBits (mw c.words 1) 0xFF000001, stBadArg), (decide (1 = 2) && decide ((mw c.words 2).toNat % 4 ≠ 0), stBadArg), (!domOn .bus s, stNoResource)] → bootSrc s ≠ fwSlot c + 1 → s.pwr.sfdp = true →
      Runs (.fwUpdateErase id) s (settle id (.ends stOk []) ({ s with pwr := { s.pwr with flash := tblDrop (fun k => k / 131072 = (fwSlot c)) s.pwr.flash } }))) ∧
  (∀ (id : Nat) (c : Cmd) (s : State), CmdTurn id 0x0107 c s → fwOp c = 2 → Passes [(!onlyBits (mw c.words 1) 0xFF000001, stBadArg), (decide (2 = 2) && decide ((mw c.words 2).toNat % 4 ≠ 0), stBadArg), (!domOn .bus s, stNoResource)] → bootSrc s ≠ fwSlot c + 1 → s.pwr.sfdp = true → Passes [(decide (524288 < (mw c.words 2).toNat + 4 * (argWords c 3).length), stRange), ((List.range (argWords c 3).length).any (fun i => decide (slotImage (fwSlot c) ((mw c.words 2).toNat / 4 + i) s ≠ 0xFFFFFFFF)), stRange)] →
      Runs (.fwUpdateWrite id) s (settle id (.ends stOk []) (forEach (argWords c 3).zipIdx (fun p s => programWord (fwSlot c) ((mw c.words 2).toNat / 4 + p.2) p.1 s) s))) ∧
  (∀ (id : Nat) (c : Cmd) (s : State), CmdTurn id 0x0107 c s → fwOp c = 3 → Passes [(!onlyBits (mw c.words 1) 0xFF000001, stBadArg), (decide (3 = 2) && decide ((mw c.words 2).toNat % 4 ≠ 0), stBadArg), (!domOn .bus s, stNoResource)] → bootSrc s ≠ fwSlot c + 1 → s.pwr.sfdp = true → (!slotForm (fwSlot c) s || !Config.imageSigned (slotWords (fwSlot c) s)) = true →
      Runs (.fwUpdateVerify id) s (settle id (.ends stAuthFail []) (s))) ∧
  (∀ (id : Nat) (c : Cmd) (s : State), CmdTurn id 0x0107 c s → fwOp c = 3 → Passes [(!onlyBits (mw c.words 1) 0xFF000001, stBadArg), (decide (3 = 2) && decide ((mw c.words 2).toNat % 4 ≠ 0), stBadArg), (!domOn .bus s, stNoResource)] → bootSrc s ≠ fwSlot c + 1 → s.pwr.sfdp = true →
      Runs (.fwUpdateVerify id) s (settle id (if !slotForm (fwSlot c) s || !Config.imageSigned (slotWords (fwSlot c) s) then .ends stAuthFail [] else if slotSvn (fwSlot c) s < svnFloorNow s then .ends stRange [] else .ends stOk []) (if (!slotForm (fwSlot c) s || !Config.imageSigned (slotWords (fwSlot c) s)) = true ∨ slotSvn (fwSlot c) s < svnFloorNow s then s else programState (fwSlot c) 0x7F s))) ∧
  (∀ (id : Nat) (c : Cmd) (s : State), CmdTurn id 0x0107 c s → fwOp c = 4 → Passes [(!onlyBits (mw c.words 1) 0xFF000001, stBadArg), (decide (4 = 2) && decide ((mw c.words 2).toNat % 4 ≠ 0), stBadArg), (!domOn .bus s, stNoResource)] → s.pwr.sfdp = true → bootSrc s = (fwSlot c) + 1 → s.b aSysBootstat 29 = true →
      Runs (.fwUpdateConfirm id) s (settle id (.ends stOk []) ((let t := (programState (fwSlot c) 0x3F s).setB aSysBootstat 29 false
        let f := max (svnFloorNow t) (slotSvn (fwSlot c) t % 32)
        { t with pwr := { t.pwr with svnf := some f } })))) ∧
  (∀ (id : Nat) (c : Cmd) (s : State), CmdTurn id 0x0107 c s → fwOp c = 5 → Passes [(!onlyBits (mw c.words 1) 0xFF000001, stBadArg), (decide (5 = 2) && decide ((mw c.words 2).toNat % 4 ≠ 0), stBadArg), (!domOn .bus s, stNoResource)] →
      Runs (.fwUpdateStatus id) s (settle id (.ends stOk [BitVec.ofNat 32 (((slotState 0 s * 256 + slotState 1 s) * 256 + svnFloorNow s) * 256 + bootSrc s), slotVersion 0 s, slotVersion 1 s, romVersion]) (s))) ∧
  (∀ (id : Nat) (c : Cmd) (e : Nat × List Word) (s : State), CmdEnding id 0x0107 c e s → fwOp c = 1 →
      Runs (.fwUpdateErase id) s (finishCmd id e.1 e.2 s)) ∧
  (∀ (id : Nat) (c : Cmd) (e : Nat × List Word) (s : State), CmdEnding id 0x0107 c e s → fwOp c = 2 →
      Runs (.fwUpdateWrite id) s (finishCmd id e.1 e.2 s)) ∧
  (∀ (id : Nat) (c : Cmd) (e : Nat × List Word) (s : State), CmdEnding id 0x0107 c e s → fwOp c = 3 →
      Runs (.fwUpdateVerify id) s (finishCmd id e.1 e.2 s)) ∧
  (∀ (id : Nat) (c : Cmd) (e : Nat × List Word) (s : State), CmdEnding id 0x0107 c e s → fwOp c = 4 →
      Runs (.fwUpdateConfirm id) s (finishCmd id e.1 e.2 s)) ∧
  (∀ (id : Nat) (c : Cmd) (e : Nat × List Word) (s : State), CmdEnding id 0x0107 c e s → fwOp c = 5 →
      Runs (.fwUpdateStatus id) s (finishCmd id e.1 e.2 s)) ∧
  (∀ (id : Nat) (c : Cmd) (s : State), CmdTurn id 0x0101 c s →
      Runs (.sysInfo id) s (settle id (.done stOk (infoWords s)) (s))) ∧
  (∀ (id : Nat) (c : Cmd) (s : State), CmdTurn id 0x0102 c s →
      Runs (.sysStatus id) s (settle id (.done stOk [hpRead c.secure aHpStat s, s.reg aSysRstcause, asRead aSysBootstat s, s.reg aSysPwrstat, s.reg aSysPfstat,
        BitVec.ofNat 32 (s.f (aThermDie 0) 29 3 * 2 ^ 24 + s.f (aThermDie 1) 29 3 * 2 ^ 16 + s.f (aThermDie 2) 29 3 * 2 ^ 8 + s.pwr.tenHi.toNat), BitVec.ofNat 32 (nowSec { s with now := s.now - s.pwr.t0 }),
        s.reg aSysSferr, halves (min 65535 s.fw.internalCount) (s.fw.cmds.filter tagged).length, s.reg aEschStat]) (s))) ∧
  (∀ (id : Nat) (c : Cmd) (s : State), CmdTurn id 0x0104 c s → Passes [(decide (refCheck (mw c.words 1) ≠ 0), refCheck (mw c.words 1))] →
      Runs (.sysOwner id) s (settle id (.done stOk [ownerOf (mw c.words 1) s]) (s))) ∧
  (∀ (id : Nat) (c : Cmd) (x : Cmd) (s : State), CmdTurn id 0x0103 c s → Passes [(!onlyBits (mw c.words 1) 0x3F, stBadArg)] → inFlight (fld (mw c.words 1) 0 6) s = some x → (x.secure = false ∨ c.secure = true) → x.reply = none → (cmdInfo (msgCode x.words)).map (·.1) = some .longAbortable →
      Runs (.sysAbort id) s (settle id (.st stOk) (abortCmd x 1 (freshLine s)))) ∧
  (∀ (id : Nat) (c : Cmd) (s : State), CmdTurn id 0x0105 c s → Passes [(!onlyBits (mw c.words 1) 3, stBadArg), (decide ((fld (mw c.words 1) 0 2) = 3), stBadArg)] → s.fw.pendReset = none →
      Runs (.sysReset id) s (settle id (.st stOk) ({ (if (fld (mw c.words 1) 0 2) ≠ 0 ∧ s.pwr.inService ∧ domOn .hwd s then (saveSections saveOk s).2 else s) with fw := { (if (fld (mw c.words 1) 0 2) ≠ 0 ∧ s.pwr.inService ∧ domOn .hwd s then (saveSections saveOk s).2 else s).fw with pendReset := some ⟨(fld (mw c.words 1) 0 2), c.id, c.chan, none⟩ } }))) ∧
  (∀ (id : Nat) (c : Cmd) (r : PendReset) (s : State), CmdTurn id 0x0105 c s → Passes [(!onlyBits (mw c.words 1) 3, stBadArg), (decide ((fld (mw c.words 1) 0 2) = 3), stBadArg)] → s.fw.pendReset = some r → (fld (mw c.words 1) 0 2) ≤ r.scope →
      Runs (.sysReset id) s (settle id (.st stOk) (s))) ∧
  (∀ (id : Nat) (c : Cmd) (s : State), CmdTurn id 0x0106 c s → dumpOp c = 0 → Passes [(!onlyBits (mw c.words 1) 0, stBadArg)] →
      Runs (.diagDumpCollect id) s (settle id (.ends stOk [BitVec.ofNat 32 ((dumpBody c.secure s).length + 1), crc32c (bytesOfWords (dumpBody c.secure s))]) ({ s with fw := { s.fw with dump := dumpBody c.secure s ++ [crc32c (bytesOfWords (dumpBody c.secure s))] } }))) ∧
  (∀ (id : Nat) (c : Cmd) (s : State), CmdTurn id 0x0106 c s → dumpOp c = 1 → Passes [(!onlyBits (mw c.words 1) 0xFF0003FF, stBadArg), (decide (686 < fld (mw c.words 1) 0 10), stBadArg), (s.fw.dump.isEmpty || s.fw.cmds.any collecting, stNotFound)] →
      Runs (.diagDumpRead id) s (settle id (.ends stOk (halves (fld (mw c.words 1) 0 10) ((s.fw.dump.drop (fld (mw c.words 1) 0 10)).take 13).length :: (s.fw.dump.drop (fld (mw c.words 1) 0 10)).take 13)) (s))) ∧
  (∀ (id : Nat) (c : Cmd) (e : Nat × List Word) (s : State), CmdEnding id 0x0106 c e s → dumpOp c = 0 →
      Runs (.diagDumpCollect id) s (finishCmd id e.1 e.2 s)) ∧
  (∀ (id : Nat) (c : Cmd) (e : Nat × List Word) (s : State), CmdEnding id 0x0106 c e s → dumpOp c = 1 →
      Runs (.diagDumpRead id) s (finishCmd id e.1 e.2 s))

/-- What firmware takes and posts, and power, reset and start-up (R58, R59, R65, R67, R72, R75, R79, R96, R105, R421, R442, R474).
Where the rules leave a reading open, the effects named are the model's choice: log entries 9, 34, 125, 126, 127, 128, 129, 130, 132, 133, 136, 139. -/
def Obligations.FirmwareAndResetEvents : Prop :=
  (∀ (ch : Fin 16) (s : State), ready s = true → storeUsed s < 64 → nextMessage s = some ch.val → parityFails ch s = false →
      Runs (.messageTake) s ((let o : Origin := if ch.val = 15 ∧ s.hp.svcMsg then .service else .mailbox
        let m := newCmd ch (s.f (aHpInSeq ch) 0 16) (inWords ch s) (secureCh ch) (tblGet false s.hp.restarted ch) o s
        let t := setIempty ch (putStat (aHpInStat ch) false true (s.b (aHpInStat ch) 2) (s.b (aHpInStat ch) 3) (s.b (aHpInStat ch) 4) s)
        intake m { t with hp := { t.hp with restarted := tblSet false t.hp.restarted ch false } }))) ∧
  (∀ (ch : Fin 16) (s : State), ready s = true → storeUsed s < 64 → nextMessage s = some ch.val → parityFails ch s = true →
      Runs (.messageTake) s (setIempty ch (putStat (aHpInStat ch) false false false true true s))) ∧
  (∀ (s : State), ready s = true → storeUsed s < 64 → nextMessage s = none →
      Runs (.messageTake) s s) ∧
  (∀ (s : State), (ready s = false ∨ 64 ≤ storeUsed s) →
      Runs (.messageTake) s s) ∧
  (∀ (ch : Fin 16) (s : State), ready s = true →
      Runs (.replyPost ch) s (postNext ch (postForwarded ch (handBackAll s)))) ∧
  (∀ (ch : Fin 16) (s : State), ¬ (ready s = true) → Runs (.replyPost ch) s s) ∧
  (∀ (secure : Bool) (s : State), ready s = true → epochPending secure s = true →
      Runs (.epochChange secure) s (endEpoch secure s)) ∧
  (∀ (secure : Bool) (s : State), ¬ (ready s = true ∧ epochPending secure s = true) → Runs (.epochChange secure) s s) ∧
  (∀ (boot : BootPins) (s : State), s.pwr.held.isSome = false → s.pwr.startDue = true → s.b aSysPfstat 30 = false →
      Runs (.startUp boot) s (startUp boot s)) ∧
  (∀ (boot : BootPins) (s : State), ¬ (s.pwr.held.isSome = false ∧ s.pwr.startDue = true ∧ s.b aSysPfstat 30 = false) → Runs (.startUp boot) s s) ∧
  (∀ (s : State), s.pwr.held.isSome = false →
      Runs (.crownWatchdogExpiry) s ((let t := s.advTo (s.pwr.kickAt + msT (cwdInterval s))
        let t := if ready t then t else (if t.fw.recovery then t else chooseBoot t).bump aSysBootstat 16 8
        let t := barkSafe 2 (crownHold ((resetCause 2 t).setB aHpIrq 3 true))
        { t with pwr := { t.pwr with kickAt := t.now, crownAt := if t.pwr.startDue then none else some t.now } }))) ∧
  (∀ (s : State), ¬ (s.pwr.held.isSome = false) → Runs (.crownWatchdogExpiry) s s) ∧
  (∀ (u : Nat) (s : State), s.pwr.held.isSome = false → s.pwr.startDue = false → s.pwr.crownAt = some u →
      Runs (.crownRestart) s (crownRestart (s.advTo (u + msT 300)))) ∧
  (∀ (u : Nat) (a : Nat) (b : Nat) (s : State), s.pwr.held.isSome = false → s.pwr.startDue = false → s.pwr.crownAt = none → s.fw.pendReset = some ⟨0, a, b, some u⟩ →
      Runs (.crownRestart) s (crownRestart (resetCause 3 (s.advTo (u + msT 300))))) ∧
  (∀ (s : State), s.pwr.held ≠ some .por →
      Runs (.powerOnReset) s (porReset s)) ∧
  (∀ (s : State), ¬ (s.pwr.held ≠ some .por) → Runs (.powerOnReset) s s) ∧
  (∀ (safeSel : Fin 8) (ten : Bool) (s : State), s.pwr.held = some .por →
      Runs (.powerOnResetRelease safeSel ten) s ((let t := releaseHold (s.advTo (s.pwr.t0 + usT 100))
        let t := State.setF { t with ther := { t.ther with safeSel := safeSel.val, porAt := t.now }, pwr := { t.pwr with tenHi := ten, startDue := true } } aSysStrap 8 3 safeSel.val
        if t.pwr.pinLow then resetCause 1 t else t))) ∧
  (∀ (safeSel : Fin 8) (ten : Bool) (s : State), ¬ (s.pwr.held = some .por) → Runs (.powerOnResetRelease safeSel ten) s s) ∧
  (∀ (s : State), s.pwr.held = none →
      Runs (.resetPin true) s ((let t := enterReset false (resetCause 1 { s with pwr := { s.pwr with pinLow := true } }); { t with pwr := { t.pwr with held := some .pin } }))) ∧
  (∀ (s : State), s.pwr.held = some .pin →
      Runs (.resetPin false) s (releaseHold { s with pwr := { s.pwr with pinLow := false } })) ∧
  (∀ (sc : Nat) (t : Nat) (a : Nat) (b : Nat) (s : State), s.pwr.held.isSome = false → s.fw.pendReset = some ⟨sc, a, b, some t⟩ → sc ≠ 0 →
      Runs (.deviceReset) s ((let u := s.advTo t
        let u := if sc = 4 ∧ u.pwr.inService ∧ domOn .hwd u then (saveSections saveOk u).2 else u
        let u := enterReset false (resetCause (if sc = 4 then 4 else 3) u)
        { u with pwr := { u.pwr with recNext := decide (sc = 2) } }))) ∧
  (∀ (r : SupplyReading) (u : State) (s : State), u = noteSupply r s → u.pwr.held.isSome = false → u.b aSysPfstat 30 = false → warningOn r.pin r.vinMv u = true →
      Runs (.powerFailWarning r) s ((let t := ((u.setB aSysPfstat 30 true).setB aSysPfstat 31 true).setB aSysPfstat 29 false
        let t := { t with pwr := { t.pwr with pfLate := t.pwr.inService } }
        if ready t then pfAct r.medium t else t))) ∧
  (∀ (r : SupplyReading) (u : State) (s : State), u = noteSupply r s → (u.pwr.held.isSome = true ∨ u.b aSysPfstat 30 = true ∨ warningOn r.pin r.vinMv u = false) →
      Runs (.powerFailWarning r) s (u)) ∧
  (∀ (t0 : Nat) (s : State), s.pwr.held.isSome = false → s.b aSysPfstat 30 = true → s.pwr.vinGood = some t0 →
      Runs (.powerFailClear) s ((let t := (s.advTo (t0 + msT 10)).setB aSysPfstat 30 false
        let t := { t with pwr := { t.pwr with pfLate := false } }
        if ready t then pfRestore (rollBackStopped t) else t))) ∧
  (∀ (s : State), (s.pwr.held.isSome = true ∨ s.b aSysPfstat 30 = false ∨ s.pwr.vinGood = none) →
      Runs (.powerFailClear) s s) ∧
  (∀ (d : Fin 9) (t : Nat) (s : State), tblGet none s.pwr.upAt d.val = some t →
      Runs (.domainPowerUp d) s ((let u := s.advTo t
        let u := domainOn (domOf d) { u with pwr := { u.pwr with upAt := tblSet none u.pwr.upAt d.val none } }
        if ready u && !u.fw.recovery then rewriteDomain (domOf d) u else u))) ∧
  (∀ (failed : BitVec 5) (s : State), domOn .grr s = true → s.grr.up = false →
      Runs (.grrPowerUp failed) s (let s := restoreRecorder (mapBanks failed s)
        { s with grr := { s.grr with up := true } })) ∧
  (∀ (failed : BitVec 5) (s : State), ¬ (domOn .grr s = true ∧ s.grr.up = false) → Runs (.grrPowerUp failed) s s)

/-- Frames, epochs, mailboxes and watchdogs of the host port (R6, R39, R41, R48, R51, R52, R56, R60, R61, R63, R64, R67).
Where the rules leave a reading open, the effects named are the model's choice: log entries 28, 29, 30, 31, 32, 33, 157, 170. -/
def Obligations.HostPortEvents : Prop :=
  (∀ (sec : Bool) (gap : Nat) (mosi : List Byte) (part : Bool) (s : State), frType mosi ≠ some 1 → frType mosi ≠ some 2 →
      Runs (.statusFrame sec gap mosi part) s (frame sec gap mosi part s)) ∧
  (∀ (sec : Bool) (gap : Nat) (mosi : List Byte) (part : Bool) (upsets : List Nat) (s : State), frType mosi ≠ some 0 → frType mosi ≠ some 2 →
      Runs (.readFrame sec gap mosi ⟨part, upsets⟩) s (frame sec gap mosi part (upsetWords upsets s))) ∧
  (∀ (sec : Bool) (gap : Nat) (mosi : List Byte) (part : Bool) (upsets : List Nat) (hw : List (Nat × Word)) (s : State), frType mosi ≠ some 0 → frType mosi ≠ some 1 →
      Runs (.writeFrame sec gap mosi ⟨part, upsets, hw⟩) s (upsetWords upsets (forEach hw (fun e t => hwFlags (0x20000 + e.1) e.2 t) (frame sec gap mosi part s)))) ∧
  (∀ (s : State), s.pwr.held.isSome = false →
      Runs (.bothcs) s (logFrame 9 true 0 0 { s with hp := { s.hp with hmiso := [] } })) ∧
  (∀ (s : State), ¬ (s.pwr.held.isSome = false) → Runs (.bothcs) s s) ∧
  (∀ (ch : Fin 16) (s : State), s.pwr.held.isSome = false → inFull ch s = false →
      Runs (.go ch) s (goSend ch s)) ∧
  (∀ (ch : Fin 16) (s : State), ¬ (s.pwr.held.isSome = false ∧ inFull ch s = false) → Runs (.go ch) s s) ∧
  (∀ (ch : Fin 16) (s : State), s.pwr.held.isSome = false →
      Runs (.abort ch) s (abortSend ch s)) ∧
  (∀ (ch : Fin 16) (s : State), ¬ (s.pwr.held.isSome = false) → Runs (.abort ch) s s) ∧
  (∀ (ch : Fin 16) (s : State), s.pwr.held.isSome = false →
      Runs (.replyRelease ch) s (releaseReply ch s)) ∧
  (∀ (ch : Fin 16) (s : State), ¬ (s.pwr.held.isSome = false) → Runs (.replyRelease ch) s s) ∧
  (∀ (_secure : Bool) (v : Half) (s : State), s.pwr.held.isSome = false →
      Runs (.nepochWrite _secure v) s (epochWrite false v.toNat s)) ∧
  (∀ (v : Half) (s : State), s.pwr.held.isSome = false →
      Runs (.sepochWrite v) s (epochWrite true v.toNat s)) ∧
  (∀ (v : Half) (s : State), ¬ (s.pwr.held.isSome = false) → Runs (.sepochWrite v) s s) ∧
  (∀ (secure : Bool) (v : Word) (s : State), s.pwr.held.isSome = false →
      Runs (.hostwdWrite secure v) s (hostwdWrite secure v s)) ∧
  (∀ (secure : Bool) (v : Word) (s : State), ¬ (s.pwr.held.isSome = false) → Runs (.hostwdWrite secure v) s s) ∧
  (∀ (secure : Bool) (v : Word) (s : State), s.pwr.held.isSome = false →
      Runs (.dbinWrite secure v) s (dbinWrite secure v s)) ∧
  (∀ (secure : Bool) (v : Word) (s : State), ¬ (s.pwr.held.isSome = false) → Runs (.dbinWrite secure v) s s) ∧
  (∀ (ch : Fin 16) (s : State), s.pwr.held = none → inFull ch s = true → tblGet 0 s.hp.goTmo ch ≠ 0 →
      Runs (.inboundTimeout ch) s (withdraw ch true (s.advTo (tblGet 0 s.hp.goAt ch + msT (tblGet 0 s.hp.goTmo ch))))) ∧
  (∀ (ch : Fin 16) (s : State), s.pwr.held = none → outFull ch s = true → tblGet 0 s.hp.postTmo ch ≠ 0 →
      Runs (.replyTimeout ch) s ((let t := s.advTo (tblGet 0 s.hp.postAt ch + msT (tblGet 0 s.hp.postTmo ch))
        ringBit 5 (putStat (aHpOutStat ch) false (t.b (aHpOutStat ch) 1) true true (t.b (aHpOutStat ch) 4) t)))) ∧
  (∀ (s : State), s.pwr.held = none → s.f aHpHostwd 0 16 ≠ 0 → s.b aHpStat 29 = false →
      Runs (.hostWatchdogExpiry) s ((let t := s.advTo (s.hp.lastGood + secT (s.f aHpHostwd 0 16))
        let t := (t.setB aHpStat 29 true).setB aHpIrq 2 true
        let t := { t with hp := { t.hp with lossDue := true } }
        if ready t then enterHostLoss t else t)))

/-- A step runs the front command of the queue. -/
def Obligations.StepRunsFrontCommand : Prop :=
  ∀ (c : Instr) (q : List Instr) (s : State), s.pending = c :: q → step s = exec c { s with pending := q }

/-- A step on an empty queue moves model time on by one tick: the model's choice, log entry 1. -/
def Obligations.StepOnEmptyQueueTicks : Prop :=
  ∀ s : State, s.pending = [] → step s = .next { s with now := s.now + 1 }

/-- A command leaves the queue alone, and time and the count of free values never fall. -/
def Obligations.CommandLeavesQueueAndTimeForward : Prop :=
  (∀ (c : Instr) (s t : State), Runs c s t → t.pending = s.pending ∧ s.now ≤ t.now ∧ s.free ≤ t.free) ∧
  (∀ s t : State, step s = .next t → t.pending = s.pending.tail ∧ s.now ≤ t.now ∧ s.free ≤ t.free)

/-- No command faults or is refused: every step answers a next state. -/
def Obligations.EveryStepAnswersNextState : Prop :=
  ∀ s : State, ∃ t : State, step s = .next t

/-- Every step keeps the register space in its canonical form. -/
def Obligations.EveryStepKeepsRegistersCanonical : Prop :=
  ∀ s t : State, s.Canonical → step s = .next t → t.Canonical

/-- The register space is canonical at reset. -/
def Obligations.ResetIsCanonical : Prop :=
  State.reset.Canonical

/-- Every run of any length from a canonical state is safe. -/
def Obligations.EveryRunIsSafe : Prop :=
  ∀ (n : Nat) (s : State), s.Canonical → SafeRun n s

/-- Registers at reset hold the values that the register tables give. -/
def Obligations.RegistersAtReset : Prop :=
  ∀ e ∈ [(aSysRstcause, (0x00000001 : Word)), (aSysCwd, (0x000001F4 : Word)), (aSysPfcfg, (0xC00009F6 : Word)), (aSysPwrstat, (0 : Word)), (aHpId, (0x96480102 : Word)), (aHpStat, (0 : Word)), ((aHpInTmo 3), (0x3E8 : Word)), ((aHpOutTmo 3), (0 : Word)), ((aRootSeqhi 0), (3 : Word)), ((aRqLo 7), (0xFF7FFFFF : Word)), ((aRqHi 7), (0x7F7FFFFF : Word)), ((aRqXmax 7), (0x40200000 : Word)), ((aRqLvtlo 9), (0 : Word)), ((aRqLvthi 9), (1 : Word)), (aEschVflim, (0x00000FA0 : Word)), (aEschAllot, (0xFFFFFFFF : Word)), (aEschThcfg, (0x1E8C0000 : Word)), (aEschBud0, (0xFFFFFFFF : Word)), (aEschCtl, (0x00050F00 : Word)), (aEschPoecfg, (0x3225805A : Word))], State.reset.reg e.1 = e.2

/-- A register and a field read back what was written, and everything else is left. -/
def Obligations.RegisterAndFieldReadBack : Prop :=
  (∀ (s : State) (a b : Nat) (v : Word), (s.setReg a v).reg a = v ∧ (b ≠ a → (s.setReg a v).reg b = s.reg b)) ∧
  (∀ (s : State) (a b lo n v : Nat), lo + n ≤ 32 →
    (s.setF a lo n v).f a lo n = v % 2 ^ n ∧ (∀ i, i < lo ∨ lo + n ≤ i → (s.setF a lo n v).b a i = s.b a i) ∧
    (b ≠ a → (s.setF a lo n v).reg b = s.reg b))

/-- An event counter adds one and stops at its largest value. -/
def Obligations.EventCounterSaturates : Prop :=
  ∀ (s : State) (a b lo n : Nat), lo + n ≤ 32 →
    (s.bump a lo n).f a lo n = min (s.f a lo n + 1) (2 ^ n - 1) ∧ (∀ i, i < lo ∨ lo + n ≤ i → (s.bump a lo n).b a i = s.b a i) ∧
    (b ≠ a → (s.bump a lo n).reg b = s.reg b)

/-- Each command leaves every part of the block that is not its concern as it was. -/
def Obligations.EachCommandLeavesOtherParts : Prop :=
  ∀ (c : Instr) (s t : State), Runs c s t → t.pending = s.pending ∧ ∀ p : Part, p ∉ changes c → p.Same s t

/-- Only host-port, firmware and reset commands change the host port's own state. -/
def Obligations.OnlyTheseCommandsChangeHostPort : Prop :=
  ∀ (c : Instr) (s t : State), Runs c s t → t.hp = s.hp ∨
      (∃ x y z w, c = .statusFrame x y z w) ∨
      (∃ x y z w, c = .readFrame x y z w) ∨
      (∃ x y z w, c = .writeFrame x y z w) ∨
      c = .bothcs ∨
      (∃ x, c = .go x) ∨
      (∃ x, c = .epochChange x) ∨
      (∃ x y, c = .hostwdWrite x y) ∨
      c = .messageTake ∨
      (∃ x, c = .replyPost x) ∨
      c = .hostWatchdogExpiry ∨
      c = .crownRestart ∨
      (∃ x, c = .serviceFrame x) ∨
      c = .powerOnReset ∨
      (∃ x, c = .resetPin x) ∨
      (∃ x, c = .startUp x) ∨
      (∃ x, c = .thermalSample x) ∨
      c = .deviceReset

/-- The commands that only read leave every register and every block as it was. -/
def Obligations.ReadingCommandsLeaveTheBlock : Prop :=
  ∀ (id : Nat) (c : Instr), c ∈ [.sysInfo id, .sysOwner id, .fwUpdateStatus id, .diagDumpCollect id, .diagDumpRead id, .storeStatus id, .trendStatus id, .pointRead id, .pointInfo id, .loopRead id, .zoneRead id, .zoneModel id, .schedRead id, .schedOccupancy id, .safeStatus id, .expertClaims id, .busStatus id, .groveStatus id, .recRead id, .recHealth id, .cfgLoadBegin id, .cfgLoadData id] → ∀ s t : State, Runs c s t → t.pending = s.pending ∧ t.regs = s.regs ∧ t.fab = s.fab ∧ t.hp = s.hp ∧ t.inp = s.inp ∧ t.cnv = s.cnv ∧ t.rq = s.rq ∧ t.field = s.field ∧ t.camb = s.camb ∧ t.drv = s.drv ∧ t.fan = s.fan ∧ t.bus = s.bus ∧ t.gft = s.gft ∧ t.heart = s.heart ∧ t.trend = s.trend ∧ t.grr = s.grr ∧ t.rtc = s.rtc ∧ t.pwr = s.pwr ∧ t.ther = s.ther ∧ t.now = s.now ∧ t.free = s.free

/-- A command with a NaN, an infinity or a subnormal is answered BAD_ARG and changes nothing. -/
def Obligations.CommandsRejectBadBinary32 : Prop :=
  (∀ v : F32, f32Ok v = false ↔ fld v 23 8 = 255 ∨ (fld v 23 8 = 0 ∧ fld v 0 23 ≠ 0)) ∧
  (∀ (id : Nat) (c : Cmd) (s : State), CmdTurn id 0x0302 c s → f32Ok (mw c.words 2) = false → Runs (.pointWrite id) s (settle id (.st stBadArg) s)) ∧
  (∀ (id : Nat) (c : Cmd) (s : State), CmdTurn id 0x0402 c s → (∃ v ∈ argWords c 3, f32Ok v = false) → Runs (.loopSet id) s (settle id (.st stBadArg) s)) ∧
  (∀ (id : Nat) (c : Cmd) (s : State), CmdTurn id 0x0404 c s → (f32Ok (mw c.words 3) = false ∨ f32Ok (mw c.words 4) = false ∨ f32Ok (mw c.words 5) = false) → Runs (.loopTune id) s (settle id (.st stBadArg) s)) ∧
  (∀ (id : Nat) (c : Cmd) (s : State), CmdTurn id 0x0502 c s → f32Ok (mw c.words 2) = false → Runs (.zoneSetpoint id) s (settle id (.st stBadArg) s)) ∧
  (∀ (id : Nat) (c : Cmd) (s : State), CmdTurn id 0x0702 c s → f32Ok (mw c.words 3) = false → Runs (.driveCommand id) s (settle id (.st stBadArg) s)) ∧
  (∀ (id : Nat) (c : Cmd) (s : State), CmdTurn id 0x0802 c s → f32Ok (mw c.words 3) = false → Runs (.fanCommand id) s (settle id (.st stBadArg) s))

/-- A router discards, counts and records a packet with a bad header. -/
def Obligations.RouterDiscardsBadHeader : Prop :=
  ∀ (hdr : Flit) (payload : List Flit) (s : State),
    hfld hdr 54 2 = 3 ∨ 32 < hfld hdr 42 6 ∨ islandOk (hfld hdr 60 4) = false →
    ∃ t, Runs (.routerReceive hdr payload) s t ∧ t = { s with regs := t.regs } ∧
      (∀ a, a ≠ aSysSfdrop → a ≠ aSysSferr → t.reg a = s.reg a) ∧
      t.f aSysSfdrop 0 16 = min (s.f aSysSfdrop 0 16 + 1) 65535 ∧ t.f aSysSfdrop 16 16 = s.f aSysSfdrop 16 16 ∧
      (s.b aSysSferr 31 = true → t.reg aSysSferr = s.reg aSysSferr) ∧
      (s.b aSysSferr 31 = false → t.b aSysSferr 31 = true ∧
        t.f aSysSferr 28 3 = (if hfld hdr 54 2 = 3 then 1 else if 32 < hfld hdr 42 6 then 2 else 3) ∧
        t.f aSysSferr 24 4 = hfld hdr 56 4 ∧ t.f aSysSferr 20 4 = hfld hdr 60 4 ∧ t.f aSysSferr 18 2 = hfld hdr 54 2 ∧
        t.f aSysSferr 12 6 = hfld hdr 48 6)

/-- Through HCS_N the error log reads 0 while its CS field is 1. -/
def Obligations.ErrorLogHiddenFromHcs : Prop :=
  ∀ s : State, (s.b aHpErrlog 27 = true → hpRead false aHpErrlog s = 0) ∧
    (s.b aHpErrlog 27 = false → hpRead false aHpErrlog s = s.reg aHpErrlog) ∧ hpRead true aHpErrlog s = s.reg aHpErrlog

/-- ABORT withdraws the message of a full channel, and does nothing on an empty one. -/
def Obligations.AbortWithdrawsMessage : Prop :=
  ∀ (ch : Fin 16) (s : State), s.pwr.held.isSome = false →
    (s.b (aHpInStat ch) 0 = false → Runs (.abort ch) s s) ∧
    (s.b (aHpInStat ch) 0 = true → ∃ t, Runs (.abort ch) s t ∧ t = { s with regs := t.regs } ∧
      t.b (aHpInStat ch) 0 = false ∧ t.b (aHpInStat ch) 3 = true ∧ t.b (aHpInStat ch) 2 = s.b (aHpInStat ch) 2 ∧
      t.b (aHpInStat ch) 1 = s.b (aHpInStat ch) 1 ∧ t.b (aHpInStat ch) 4 = s.b (aHpInStat ch) 4 ∧
      t.b aHpChirq ch = true ∧ (∀ i, i ≠ ch.val → t.b aHpChirq i = s.b aHpChirq i) ∧
      (∀ a, a ≠ aHpInStat ch → a ≠ aHpChirq → t.reg a = s.reg a))

/-- A reference with an unknown type is BAD_ARG, one with an instance out of range NOT_FOUND. -/
def Obligations.ReferencesAreChecked : Prop :=
  let table : List (Nat × Nat) := [(1, 256), (2, 96), (3, 48), (4, 32), (5, 1), (6, 48), (7, 16), (8, 6), (9, 8), (10, 5), (11, 80), (12, 128), (13, 256), (14, 16), (15, 128), (16, 192), (17, 32), (18, 64), (19, 3), (20, 96)]
  let blocks : List Nat := [0x010, 0x020, 0x030, 0x040, 0x050, 0x060, 0x070, 0x080, 0x090, 0x0A0, 0x0A8, 0x0B0, 0x0C0, 0x0D0, 0x0E0, 0x0F0, 0x100]
  let ty := fun (r : Word) => fld r 24 8
  let inst := fun (r : Word) => fld r 0 16
  (∀ r : Word, fld r 16 8 ≠ 0 → refCheck r = 0x10) ∧
  (∀ r : Word, ty r ∉ table.map (·.1) → ty r ≠ 0x1F → refCheck r = 0x10) ∧
  (∀ (r : Word) (e : Nat × Nat), fld r 16 8 = 0 → e ∈ table → ty r = e.1 → refCheck r = if inst r < e.2 then 0 else 0x15) ∧
  (∀ r : Word, fld r 16 8 = 0 → ty r = 0x1F → refCheck r = if inst r ∈ blocks then 0 else 0x15) ∧
  (∀ (id : Nat) (c : Cmd) (s : State), CmdTurn id 0x0104 c s → Runs (.sysOwner id) s
    (if refCheck (mw c.words 1) = 0 then settle id (.done stOk [ownerOf (mw c.words 1) s]) s else settle id (.st (refCheck (mw c.words 1))) s))

/-- The clock registers are written only while the clock is halted, and then stand still. -/
def Obligations.ClockIsWrittenOnlyWhileHalted : Prop :=
  (∀ (k : Fin 9) (v : Word) (s : State), s.rtc.held = false → k ≠ 3 → k ≠ 8 → s.b aRtcCtl 31 = false →
    Runs (.rtcTimeWrite k v) s (s.setB aRtcStat 27 true)) ∧
  (∀ (k : Fin 9) (v : Word) (s : State), s.rtc.held = false → k ≠ 3 → k ≠ 8 → s.b aRtcCtl 31 = true →
    timeFieldOk k (fld v 0 (timeFieldBits k)) = true →
    ∃ t, Runs (.rtcTimeWrite k v) s t ∧ t.reg (aRtcSec + 4 * k) = BitVec.ofNat 32 (fld v 0 (timeFieldBits k)) ∧
      (∀ a, a ≠ aRtcSec + 4 * k.val → t.reg a = s.reg a)) ∧
  (∀ (k : Fin 9) (v : Word) (s : State), k = 3 ∨ k = 8 → Runs (.rtcTimeWrite k v) s s) ∧
  (∀ s : State, s.b aRtcCtl 31 = true → Runs .rtcSecond s s)

/-- A result-queue partition is first in, first out, and drops its oldest entry when full. -/
def Obligations.PartitionsAreFirstInFirstOut : Prop :=
  (∀ (p : Fin 3) (e : PartEntry) (s : State),
    (partCap p ≤ (partOf p s).length →
      partOf p (appendPart p e s) = (partOf p s).drop 1 ++ [e] ∧
      (appendPart p e s).f (aRqPart p) 16 16 = min (s.f (aRqPart p) 16 16 + 1) 65535 ∧
      (appendPart p e s).b (aRqPart p) 15 = true ∧ tblGet false (appendPart p e s).rq.lostNext p = true) ∧
    ((partOf p s).length < partCap p →
      partOf p (appendPart p e s) = partOf p s ++ [e] ∧
      (appendPart p e s).f (aRqPart p) 16 16 = s.f (aRqPart p) 16 16 ∧
      (appendPart p e s).b (aRqPart p) 15 = s.b (aRqPart p) 15 ∧ (appendPart p e s).rq.lostNext = s.rq.lostNext) ∧
    (∀ q : Fin 3, q ≠ p → partOf q (appendPart p e s) = partOf q s) ∧
    (∀ n : Nat, n < 256 → (appendPart p e s).reg (aRqLvtlo n) = s.reg (aRqLvtlo n) ∧ (appendPart p e s).reg (aRqLvthi n) = s.reg (aRqLvthi n))) ∧
  (∀ (p : Fin 3) (e : PartEntry) (l : List PartEntry) (s : State), partOf p s = e :: l →
    ∃ (d : PartEntry) (t : State), popPart p s = some (d, t) ∧ partOf p t = l ∧ d.point = e.point ∧ d.val = e.val ∧
      d.hi = (if tblGet false s.rq.lostNext p then setBit e.hi 1 true else e.hi) ∧ tblGet false t.rq.lostNext p = false ∧
      (∀ q : Fin 3, q ≠ p → partOf q t = partOf q s) ∧
      (∀ n : Nat, n < 256 → t.reg (aRqLvtlo n) = s.reg (aRqLvtlo n) ∧ t.reg (aRqLvthi n) = s.reg (aRqLvthi n)))
end

