-- ==== Sys2Proof/Laws/Bits.lean ====
section
/-! SUPPORT. Sys2Proof/Laws/Bits.lean: the laws of bit fields of words. -/

namespace Sys2Proof.Machine

open Sys2Proof

/-- Every bit of a word with a field set. -/
theorem setFld_bit (w : Word) (lo n v j : Nat) (hj : j < 32) :
    (setFld w lo n v).getLsbD j = if lo ≤ j ∧ j < lo + n then v.testBit (j - lo) else w.getLsbD j := by
  unfold setFld fmask
  simp only [BitVec.getLsbD_or, BitVec.getLsbD_and, BitVec.getLsbD_not, BitVec.getLsbD_ofNat, Nat.testBit_mul_two_pow,
    Nat.testBit_two_pow_sub_one, Nat.testBit_mod_two_pow, hj, decide_true, Bool.true_and]
  by_cases h1 : lo ≤ j
  · by_cases h2 : j < lo + n
    · have h3 : j - lo < n := by omega
      simp [h1, h2, h3]
    · have h3 : ¬ j - lo < n := by omega
      simp [h1, h2, h3]
  · simp [h1]

/-- A bit that was set. -/
@[simp] theorem bit_setBit_same (w : Word) (i : Nat) (b : Bool) (hi : i < 32) : bit (setBit w i b) i = b := by
  unfold bit setBit
  rw [setFld_bit _ _ _ _ _ hi]
  cases b <;> simp

/-- The other bits. -/
theorem bit_setBit_other (w : Word) (i j : Nat) (b : Bool) (h : j ≠ i) : bit (setBit w i b) j = bit w j := by
  unfold bit setBit
  by_cases hj : j < 32
  · rw [setFld_bit _ _ _ _ _ hj, if_neg (by omega)]
  · rw [BitVec.getLsbD_of_ge _ _ (by omega), BitVec.getLsbD_of_ge _ _ (by omega)]

/-- Bit `i` of a field. -/
theorem fld_testBit (w : Word) (lo n i : Nat) : (fld w lo n).testBit i = (decide (i < n) && w.getLsbD (lo + i)) := by
  unfold fld
  rw [Nat.testBit_mod_two_pow, Nat.testBit_div_two_pow, BitVec.getLsbD, Nat.add_comm]

/-- A field that was set. -/
theorem fld_setFld_same (w : Word) (lo n v : Nat) (h : lo + n ≤ 32) : fld (setFld w lo n v) lo n = v % 2 ^ n := by
  apply Nat.eq_of_testBit_eq
  intro i
  rw [fld_testBit, Nat.testBit_mod_two_pow]
  by_cases hi : i < n
  · rw [setFld_bit _ _ _ _ _ (by omega), if_pos (by omega)]
    simp [hi]
  · simp [hi]

/-- A field apart from the one that was set. -/
theorem fld_setFld_other (w : Word) (lo n v lo' n' : Nat) (h : lo' + n' ≤ lo ∨ lo + n ≤ lo') :
    fld (setFld w lo n v) lo' n' = fld w lo' n' := by
  apply Nat.eq_of_testBit_eq
  intro i
  rw [fld_testBit, fld_testBit]
  by_cases hi : i < n'
  · by_cases hj : lo' + i < 32
    · rw [setFld_bit _ _ _ _ _ hj, if_neg (by omega)]
    · rw [BitVec.getLsbD_of_ge _ _ (by omega), BitVec.getLsbD_of_ge _ _ (by omega)]
  · simp [hi]

/-- A bit apart from a field that was set. -/
theorem bit_setFld_other (w : Word) (lo n v i : Nat) (h : i < lo ∨ lo + n ≤ i) : bit (setFld w lo n v) i = bit w i := by
  unfold bit
  by_cases hj : i < 32
  · rw [setFld_bit _ _ _ _ _ hj, if_neg (by omega)]
  · rw [BitVec.getLsbD_of_ge _ _ (by omega), BitVec.getLsbD_of_ge _ _ (by omega)]

/-- A field apart from a bit that was set. -/
theorem fld_setBit_other (w : Word) (i : Nat) (b : Bool) (lo n : Nat) (h : i < lo ∨ lo + n ≤ i) :
    fld (setBit w i b) lo n = fld w lo n := fld_setFld_other w i 1 _ lo n (by omega)

end Sys2Proof.Machine
end

