-- ==== Sys2Proof/Laws/Commands.lean ====
section
/-! SUPPORT. Sys2Proof/Laws/Commands.lean: how a host command in its turn runs (R86, R91). -/

namespace Sys2Proof.Machine

open Sys2Proof

/-- R86: a command in its turn runs and its reply is settled. -/
theorem runCmd_turn {id code : Nat} {c : Cmd} {s : State} (h : CmdTurn id code c s) (body : Cmd → State → Reply × State) :
    runCmd id code body s = settle id (body c s).1 (body c s).2 := by
  obtain ⟨h1, h2, h3, h4, h5, h6, h7, h8⟩ := h
  unfold runCmd
  simp [h1, h2, h3, h4, h5, h6, h7, h8]

/-- R84: a command whose end stands is finished with its status and its words. -/
theorem runCmd_ending {id code : Nat} {c : Cmd} {e : Nat × List Word} {s : State} (h : CmdEnding id code c e s)
    (body : Cmd → State → Reply × State) : runCmd id code body s = finishCmd id e.1 e.2 s := by
  obtain ⟨h1, h2, h3, h4, h5⟩ := h
  unfold runCmd
  simp [h1, h2, h3, h4, h5]

/-- R91: when no check fails the command runs. -/
theorem checked_pass {l : List (Bool × Nat)} {s : State} {run : Reply × State} (h : Passes l) : checked l s run = run := by
  unfold checked
  rw [h]

/-- R91: the first check that fails gives the status, and the state is unchanged. -/
theorem checked_fail {l : List (Bool × Nat)} {e : Nat} {s : State} {run : Reply × State} (h : firstFail l = some e) :
    checked l s run = (.st e, s) := by
  unfold checked
  rw [h]

/-- An operation of a command with several: the one that is named runs it. -/
theorem runOp_turn {id code mine : Nat} {op : Cmd → Nat} {valid : List Nat} {c : Cmd} {s : State} (h : CmdTurn id code c s) (ho : op c = mine)
    (body : Cmd → State → Reply × State) : runOp id code op mine valid body s = settle id (body c s).1 (body c s).2 := by
  unfold runOp
  rw [h.1]
  exact (if_pos ho).trans (runCmd_turn h body)

/-- R84: the same for an operation of a command with several. -/
theorem runOp_ending {id code mine : Nat} {op : Cmd → Nat} {valid : List Nat} {c : Cmd} {e : Nat × List Word} {s : State}
    (h : CmdEnding id code c e s) (ho : op c = mine) (body : Cmd → State → Reply × State) :
    runOp id code op mine valid body s = finishCmd id e.1 e.2 s := by
  unfold runOp
  rw [h.1]
  exact (if_pos ho).trans (runCmd_ending h body)

/-- R402, R404: a frame heard anew is taken. -/
theorem receive_new {ty p : Nat} {f : List Byte} {g : GrParsed} {s : State} (h : FrameNew ty p f g s) (take : GrParsed → State → Nat × State) :
    receive ty p f take s = takeFrame ty p f g (take g) s := by
  obtain ⟨h1, h2, h3, h4, h5, h6, h7⟩ := h
  subst h4
  simp only [frameSeen] at h7
  unfold receive
  rw [if_neg (by simp [h1, h2])]
  dsimp only
  rw [h3]
  dsimp only
  rw [if_neg (by simp)]
  rw [if_neg h5]
  rw [if_neg (by rcases h6 with h | h <;> simp [h])]
  rw [h7]
  simp only [takeFrame, frameSeen, Bool.or_eq_true, decide_eq_true_eq, or_assoc]

/-- R402: likewise for a frame that firmware handles, once it is ready. -/
theorem receiveFw_new {ty p : Nat} {f : List Byte} {g : GrParsed} {s : State} (h : FrameNew ty p f g s) (hr : ready s = true)
    (take : GrParsed → State → Nat × State) : receiveFw ty p f take s = takeFrame ty p f g (take g) s := by
  unfold receiveFw
  rw [h.2.2.1]
  dsimp only
  rw [if_neg (by simp [hr]), if_pos hr]
  exact receive_new h take

/-- R382: a request that firmware serves is run and answered. -/
theorem slaveFrame_run {p : Nat} {mine : Nat → Bool} {bcast : Bool} {f : SerialFrame} {bs : List Byte} {s : State} (h : MbRequest p mine bcast f bs s)
    (run : List Byte → State → MbOut × State) :
    slaveFrame p mine bcast f run s = mbAnswer p bs (run bs (countErrs p f s)).1 (run bs (countErrs p f s)).2 := by
  obtain ⟨h1, h2, h3, h4, h5, h6⟩ := h
  unfold slaveFrame
  rw [if_pos (by simp [h1, h2])]
  dsimp only
  rw [h3]
  dsimp only
  rw [if_neg (by rw [h4]; decide), if_neg, if_neg (by simp [h6])]
  rintro ⟨h7, h8⟩
  rcases h5 with h | h
  · exact h7 h
  · rcases h8 with h8 | h8
    · exact h8 h.1
    · rw [h.2] at h8
      cases h8

/-- R378: a request at the port that serves BACnet is answered. -/
theorem serve_run {r : BacReq} {always : Bool} {s : State} (h : bacUp r.port always s = true) (f : State → BacBody × State) :
    serve r always f s = answer r (f (crownDrain s)).1 (f (crownDrain s)).2 := if_pos h

/-- R535: an FW_UPDATE operation whose checks pass runs. -/
theorem fwUpdate_run {id op : Nat} {free : Bool} {c : Cmd} {s : State} (h : CmdTurn id 0x0107 c s) (ho : fwOp c = op)
    (hp : Passes [(!onlyBits (mw c.words 1) 0xFF000001, stBadArg),
      (decide (op = 2) && decide ((mw c.words 2).toNat % 4 ≠ 0), stBadArg), (!domOn .bus s, stNoResource)])
    (hb : free = true ∨ bootSrc s ≠ fwSlot c + 1) (hs : s.pwr.sfdp = true ∨ op = 5) (body : Cmd → State → Reply × State) :
    fwUpdate id op free body s = settle id (body c s).1 (body c s).2 := by
  unfold fwUpdate
  rw [runOp_turn h ho]
  rw [checked_pass hp, if_neg (by rcases hb with h | h <;> simp [h]), if_neg (by rcases hs with h | h <;> simp [h])]

end Sys2Proof.Machine
end

