-- ==== Sys2Proof/Laws/Tables.lean ====
section
/-! SUPPORT. Sys2Proof/Laws/Tables.lean: the laws of sparse tables: reading after writing, and that every operation keeps
the canonical form. -/

namespace Sys2Proof.Machine

open Sys2Proof

/-- A table that rises above a bound rises above every smaller one. -/
theorem tblRising_mono {α : Type} {lo : Option Nat} {k : Nat} {t : Tbl α} (h : tblRising (some k) t = true)
    (hk : ∀ l, lo = some l → l ≤ k) : tblRising lo t = true := by
  cases t with
  | nil => cases lo <;> rfl
  | cons e t =>
    obtain ⟨a, v⟩ := e
    cases lo with
    | none => simp_all [tblRising]
    | some l =>
      have := hk l rfl
      simp only [tblRising, Bool.and_eq_true, decide_eq_true_eq] at h ⊢
      exact ⟨by omega, h.2⟩

/-- A key below the bound is not listed. -/
theorem tblFind_below {α : Type} {l x : Nat} (hx : x ≤ l) : ∀ {t : Tbl α}, tblRising (some l) t = true → tblFind t x = none
  | [], _ => rfl
  | (k, v) :: t, h => by
    simp only [tblRising, Bool.and_eq_true, decide_eq_true_eq] at h
    have h2 : tblFind t x = none := tblFind_below (by omega) h.2
    simp only [tblFind]
    rw [if_neg (by omega), h2]

/-- Reading a key that was listed anew. -/
@[simp] theorem tblFind_put_same {α : Type} (x : Nat) (w : α) : ∀ t : Tbl α, tblFind (tblPut t x w) x = some w
  | [] => by simp [tblPut, tblFind]
  | (k, v) :: t => by
    unfold tblPut
    split
    · simp [tblFind]
    · split
      · simp [tblFind]
      · next h => simp [tblFind, h, tblFind_put_same x w t]

/-- Listing a key leaves the others. -/
theorem tblFind_put_other {α : Type} {x y : Nat} (w : α) (hxy : y ≠ x) : ∀ t : Tbl α, tblFind (tblPut t x w) y = tblFind t y
  | [] => by simp [tblPut, tblFind, hxy]
  | (k, v) :: t => by
    unfold tblPut
    split
    · simp [tblFind, hxy]
    · split
      · next h => subst h; simp [tblFind, hxy]
      · simp [tblFind, tblFind_put_other w hxy t]

/-- Removing a key leaves the others. -/
theorem tblFind_erase_other {α : Type} {x y : Nat} (hxy : y ≠ x) : ∀ t : Tbl α, tblFind (tblErase t x) y = tblFind t y
  | [] => rfl
  | (k, v) :: t => by
    unfold tblErase
    split
    · next h => subst h; simp [tblFind, hxy, tblFind_erase_other hxy t]
    · simp [tblFind, tblFind_erase_other hxy t]

/-- A removed key is no longer listed. -/
@[simp] theorem tblFind_erase_same {α : Type} (x : Nat) : ∀ t : Tbl α, tblFind (tblErase t x) x = none
  | [] => rfl
  | (k, v) :: t => by
    unfold tblErase
    split
    · exact tblFind_erase_same x t
    · next hk => simp [tblFind, hk, tblFind_erase_same x t]

/-- Listing a key keeps the order. -/
theorem tblRising_put {α : Type} (x : Nat) (w : α) : ∀ {lo : Option Nat} {t : Tbl α}, tblRising lo t = true → (∀ l, lo = some l → l < x) →
    tblRising lo (tblPut t x w) = true
  | lo, [], _, hl => by cases lo <;> simp_all [tblPut, tblRising]
  | lo, (k, v) :: t, h, hl => by
    simp only [tblRising, Bool.and_eq_true] at h
    unfold tblPut
    split
    · next hx =>
      simp only [tblRising, Bool.and_eq_true, decide_eq_true_eq]
      refine ⟨?_, hx, h.2⟩
      cases lo with
      | none => rfl
      | some l => simpa using hl l rfl
    · split
      · next hx hk =>
        subst hk
        simp only [tblRising, Bool.and_eq_true]
        exact h
      · next hx hk =>
        simp only [tblRising, Bool.and_eq_true]
        refine ⟨h.1, tblRising_put x w h.2 ?_⟩
        intro l hl2
        cases hl2
        omega

/-- Removing a key keeps the order. -/
theorem tblRising_erase {α : Type} (x : Nat) : ∀ {lo : Option Nat} {t : Tbl α}, tblRising lo t = true → tblRising lo (tblErase t x) = true
  | _, [], h => h
  | lo, (k, v) :: t, h => by
    simp only [tblRising, Bool.and_eq_true] at h
    unfold tblErase
    split
    · refine tblRising_mono (tblRising_erase x h.2) ?_
      intro l hl
      subst hl
      have := h.1
      simp at this
      omega
    · simp only [tblRising, Bool.and_eq_true]
      exact ⟨h.1, tblRising_erase x h.2⟩

/-- Dropping entries keeps the order. -/
theorem tblRising_filter {α : Type} (p : Nat × α → Bool) : ∀ {lo : Option Nat} {t : Tbl α}, tblRising lo t = true →
    tblRising lo (t.filter p) = true
  | _, [], h => h
  | lo, e :: t, h => by
    obtain ⟨k, v⟩ := e
    simp only [tblRising, Bool.and_eq_true] at h
    have ih := tblRising_filter p h.2
    cases hp : p (k, v) with
    | true =>
      rw [List.filter_cons_of_pos (by simpa using hp)]
      simp only [tblRising, Bool.and_eq_true]
      exact ⟨h.1, ih⟩
    | false =>
      rw [List.filter_cons_of_neg (by simp [hp])]
      refine tblRising_mono ih ?_
      intro l hl
      subst hl
      have := h.1
      simp at this
      omega

/-- Every entry of a table that lists one more key. -/
theorem tblPut_mem {α : Type} {x : Nat} {w : α} {e : Nat × α} : ∀ {t : Tbl α}, e ∈ tblPut t x w → e = (x, w) ∨ e ∈ t
  | [], h => by simp [tblPut] at h; exact .inl h
  | (k, v) :: t, h => by
    unfold tblPut at h
    split at h
    · simp only [List.mem_cons] at h ⊢
      exact h
    · split at h
      · simp only [List.mem_cons] at h ⊢
        rcases h with h | h
        · exact .inl h
        · exact .inr (.inr h)
      · simp only [List.mem_cons] at h ⊢
        rcases h with h | h
        · exact .inr (.inl h)
        · rcases tblPut_mem h with h | h
          · exact .inl h
          · exact .inr (.inr h)

/-- Every entry of a table that lists one key less. -/
theorem tblErase_mem {α : Type} {x : Nat} {e : Nat × α} : ∀ {t : Tbl α}, e ∈ tblErase t x → e ∈ t
  | [], h => h
  | (k, v) :: t, h => by
    unfold tblErase at h
    split at h
    · exact List.mem_cons_of_mem _ (tblErase_mem h)
    · simp only [List.mem_cons] at h ⊢
      rcases h with h | h
      · exact .inl h
      · exact .inr (tblErase_mem h)

/-- The canonical form in words. -/
theorem tblWf_iff {α : Type} [DecidableEq α] (dflt : Nat → α) (t : Tbl α) :
    tblWf dflt t = true ↔ tblRising none t = true ∧ ∀ e ∈ t, e.2 ≠ dflt e.1 := by
  simp [tblWf, List.all_eq_true]

/-- Writing keeps the canonical form. -/
theorem tblWf_set {α : Type} [DecidableEq α] {dflt : Nat → α} {t : Tbl α} (x : Nat) (w : α) (h : tblWf dflt t = true) :
    tblWf dflt (tblSetD dflt t x w) = true := by
  rw [tblWf_iff] at h ⊢
  unfold tblSetD
  split
  · exact ⟨tblRising_erase x h.1, fun e he => h.2 e (tblErase_mem he)⟩
  · next hw =>
    refine ⟨tblRising_put x w h.1 (by simp), fun e he => ?_⟩
    rcases tblPut_mem he with rfl | he
    · exact hw
    · exact h.2 e he

/-- Dropping entries keeps the canonical form. -/
theorem tblWf_filter {α : Type} [DecidableEq α] {dflt : Nat → α} {t : Tbl α} (p : Nat × α → Bool) (h : tblWf dflt t = true) :
    tblWf dflt (t.filter p) = true := by
  rw [tblWf_iff] at h ⊢
  exact ⟨tblRising_filter p h.1, fun e he => h.2 e (List.mem_of_mem_filter he)⟩

/-- Dropping keys keeps the canonical form. -/
theorem tblWf_drop {α : Type} [DecidableEq α] {dflt : Nat → α} {t : Tbl α} (p : Nat → Bool) (h : tblWf dflt t = true) :
    tblWf dflt (tblDrop p t) = true := tblWf_filter _ h

/-- A key reads as written. -/
@[simp] theorem tblGetD_set_same {α : Type} [DecidableEq α] {dflt : Nat → α} (t : Tbl α) (x : Nat) (w : α) :
    tblGetD dflt (tblSetD dflt t x w) x = w := by
  unfold tblGetD tblSetD
  split
  · next hw => simp [hw]
  · simp

/-- Writing a key leaves the others. -/
theorem tblGetD_set_other {α : Type} [DecidableEq α] {dflt : Nat → α} (t : Tbl α) {x y : Nat} (w : α) (hxy : y ≠ x) :
    tblGetD dflt (tblSetD dflt t x w) y = tblGetD dflt t y := by
  unfold tblGetD tblSetD
  split
  · rw [tblFind_erase_other hxy]
  · rw [tblFind_put_other w hxy]

end Sys2Proof.Machine
end

