-- ==== Sys2Proof/Laws/State.lean ====
section
/-! SUPPORT. Sys2Proof/Laws/State.lean: one lemma per field and update, and reading a register, its fields and flags
after writing one. -/

namespace Sys2Proof.Machine

open Sys2Proof

@[simp] theorem State.setReg_now (s : State) (a : Nat) (v : Word) : (s.setReg a v).now = s.now := rfl
@[simp] theorem State.setReg_free (s : State) (a : Nat) (v : Word) : (s.setReg a v).free = s.free := rfl
@[simp] theorem State.setReg_pending (s : State) (a : Nat) (v : Word) : (s.setReg a v).pending = s.pending := rfl
@[simp] theorem State.setReg_fab (s : State) (a : Nat) (v : Word) : (s.setReg a v).fab = s.fab := rfl
@[simp] theorem State.setReg_hp (s : State) (a : Nat) (v : Word) : (s.setReg a v).hp = s.hp := rfl
@[simp] theorem State.setReg_fw (s : State) (a : Nat) (v : Word) : (s.setReg a v).fw = s.fw := rfl
@[simp] theorem State.setReg_inp (s : State) (a : Nat) (v : Word) : (s.setReg a v).inp = s.inp := rfl
@[simp] theorem State.setReg_cnv (s : State) (a : Nat) (v : Word) : (s.setReg a v).cnv = s.cnv := rfl
@[simp] theorem State.setReg_rq (s : State) (a : Nat) (v : Word) : (s.setReg a v).rq = s.rq := rfl
@[simp] theorem State.setReg_field (s : State) (a : Nat) (v : Word) : (s.setReg a v).field = s.field := rfl
@[simp] theorem State.setReg_camb (s : State) (a : Nat) (v : Word) : (s.setReg a v).camb = s.camb := rfl
@[simp] theorem State.setReg_drv (s : State) (a : Nat) (v : Word) : (s.setReg a v).drv = s.drv := rfl
@[simp] theorem State.setReg_fan (s : State) (a : Nat) (v : Word) : (s.setReg a v).fan = s.fan := rfl
@[simp] theorem State.setReg_bus (s : State) (a : Nat) (v : Word) : (s.setReg a v).bus = s.bus := rfl
@[simp] theorem State.setReg_gft (s : State) (a : Nat) (v : Word) : (s.setReg a v).gft = s.gft := rfl
@[simp] theorem State.setReg_heart (s : State) (a : Nat) (v : Word) : (s.setReg a v).heart = s.heart := rfl
@[simp] theorem State.setReg_trend (s : State) (a : Nat) (v : Word) : (s.setReg a v).trend = s.trend := rfl
@[simp] theorem State.setReg_grr (s : State) (a : Nat) (v : Word) : (s.setReg a v).grr = s.grr := rfl
@[simp] theorem State.setReg_rtc (s : State) (a : Nat) (v : Word) : (s.setReg a v).rtc = s.rtc := rfl
@[simp] theorem State.setReg_pwr (s : State) (a : Nat) (v : Word) : (s.setReg a v).pwr = s.pwr := rfl
@[simp] theorem State.setReg_ther (s : State) (a : Nat) (v : Word) : (s.setReg a v).ther = s.ther := rfl
@[simp] theorem State.setF_now (s : State) (a lo n v : Nat) : (s.setF a lo n v).now = s.now := rfl
@[simp] theorem State.setF_free (s : State) (a lo n v : Nat) : (s.setF a lo n v).free = s.free := rfl
@[simp] theorem State.setF_pending (s : State) (a lo n v : Nat) : (s.setF a lo n v).pending = s.pending := rfl
@[simp] theorem State.setF_fab (s : State) (a lo n v : Nat) : (s.setF a lo n v).fab = s.fab := rfl
@[simp] theorem State.setF_hp (s : State) (a lo n v : Nat) : (s.setF a lo n v).hp = s.hp := rfl
@[simp] theorem State.setF_fw (s : State) (a lo n v : Nat) : (s.setF a lo n v).fw = s.fw := rfl
@[simp] theorem State.setF_inp (s : State) (a lo n v : Nat) : (s.setF a lo n v).inp = s.inp := rfl
@[simp] theorem State.setF_cnv (s : State) (a lo n v : Nat) : (s.setF a lo n v).cnv = s.cnv := rfl
@[simp] theorem State.setF_rq (s : State) (a lo n v : Nat) : (s.setF a lo n v).rq = s.rq := rfl
@[simp] theorem State.setF_field (s : State) (a lo n v : Nat) : (s.setF a lo n v).field = s.field := rfl
@[simp] theorem State.setF_camb (s : State) (a lo n v : Nat) : (s.setF a lo n v).camb = s.camb := rfl
@[simp] theorem State.setF_drv (s : State) (a lo n v : Nat) : (s.setF a lo n v).drv = s.drv := rfl
@[simp] theorem State.setF_fan (s : State) (a lo n v : Nat) : (s.setF a lo n v).fan = s.fan := rfl
@[simp] theorem State.setF_bus (s : State) (a lo n v : Nat) : (s.setF a lo n v).bus = s.bus := rfl
@[simp] theorem State.setF_gft (s : State) (a lo n v : Nat) : (s.setF a lo n v).gft = s.gft := rfl
@[simp] theorem State.setF_heart (s : State) (a lo n v : Nat) : (s.setF a lo n v).heart = s.heart := rfl
@[simp] theorem State.setF_trend (s : State) (a lo n v : Nat) : (s.setF a lo n v).trend = s.trend := rfl
@[simp] theorem State.setF_grr (s : State) (a lo n v : Nat) : (s.setF a lo n v).grr = s.grr := rfl
@[simp] theorem State.setF_rtc (s : State) (a lo n v : Nat) : (s.setF a lo n v).rtc = s.rtc := rfl
@[simp] theorem State.setF_pwr (s : State) (a lo n v : Nat) : (s.setF a lo n v).pwr = s.pwr := rfl
@[simp] theorem State.setF_ther (s : State) (a lo n v : Nat) : (s.setF a lo n v).ther = s.ther := rfl
@[simp] theorem State.setB_now (s : State) (a i : Nat) (b : Bool) : (s.setB a i b).now = s.now := rfl
@[simp] theorem State.setB_free (s : State) (a i : Nat) (b : Bool) : (s.setB a i b).free = s.free := rfl
@[simp] theorem State.setB_pending (s : State) (a i : Nat) (b : Bool) : (s.setB a i b).pending = s.pending := rfl
@[simp] theorem State.setB_fab (s : State) (a i : Nat) (b : Bool) : (s.setB a i b).fab = s.fab := rfl
@[simp] theorem State.setB_hp (s : State) (a i : Nat) (b : Bool) : (s.setB a i b).hp = s.hp := rfl
@[simp] theorem State.setB_fw (s : State) (a i : Nat) (b : Bool) : (s.setB a i b).fw = s.fw := rfl
@[simp] theorem State.setB_inp (s : State) (a i : Nat) (b : Bool) : (s.setB a i b).inp = s.inp := rfl
@[simp] theorem State.setB_cnv (s : State) (a i : Nat) (b : Bool) : (s.setB a i b).cnv = s.cnv := rfl
@[simp] theorem State.setB_rq (s : State) (a i : Nat) (b : Bool) : (s.setB a i b).rq = s.rq := rfl
@[simp] theorem State.setB_field (s : State) (a i : Nat) (b : Bool) : (s.setB a i b).field = s.field := rfl
@[simp] theorem State.setB_camb (s : State) (a i : Nat) (b : Bool) : (s.setB a i b).camb = s.camb := rfl
@[simp] theorem State.setB_drv (s : State) (a i : Nat) (b : Bool) : (s.setB a i b).drv = s.drv := rfl
@[simp] theorem State.setB_fan (s : State) (a i : Nat) (b : Bool) : (s.setB a i b).fan = s.fan := rfl
@[simp] theorem State.setB_bus (s : State) (a i : Nat) (b : Bool) : (s.setB a i b).bus = s.bus := rfl
@[simp] theorem State.setB_gft (s : State) (a i : Nat) (b : Bool) : (s.setB a i b).gft = s.gft := rfl
@[simp] theorem State.setB_heart (s : State) (a i : Nat) (b : Bool) : (s.setB a i b).heart = s.heart := rfl
@[simp] theorem State.setB_trend (s : State) (a i : Nat) (b : Bool) : (s.setB a i b).trend = s.trend := rfl
@[simp] theorem State.setB_grr (s : State) (a i : Nat) (b : Bool) : (s.setB a i b).grr = s.grr := rfl
@[simp] theorem State.setB_rtc (s : State) (a i : Nat) (b : Bool) : (s.setB a i b).rtc = s.rtc := rfl
@[simp] theorem State.setB_pwr (s : State) (a i : Nat) (b : Bool) : (s.setB a i b).pwr = s.pwr := rfl
@[simp] theorem State.setB_ther (s : State) (a i : Nat) (b : Bool) : (s.setB a i b).ther = s.ther := rfl
@[simp] theorem State.bump_now (s : State) (a lo n : Nat) : (s.bump a lo n).now = s.now := rfl
@[simp] theorem State.bump_free (s : State) (a lo n : Nat) : (s.bump a lo n).free = s.free := rfl
@[simp] theorem State.bump_pending (s : State) (a lo n : Nat) : (s.bump a lo n).pending = s.pending := rfl
@[simp] theorem State.bump_fab (s : State) (a lo n : Nat) : (s.bump a lo n).fab = s.fab := rfl
@[simp] theorem State.bump_hp (s : State) (a lo n : Nat) : (s.bump a lo n).hp = s.hp := rfl
@[simp] theorem State.bump_fw (s : State) (a lo n : Nat) : (s.bump a lo n).fw = s.fw := rfl
@[simp] theorem State.bump_inp (s : State) (a lo n : Nat) : (s.bump a lo n).inp = s.inp := rfl
@[simp] theorem State.bump_cnv (s : State) (a lo n : Nat) : (s.bump a lo n).cnv = s.cnv := rfl
@[simp] theorem State.bump_rq (s : State) (a lo n : Nat) : (s.bump a lo n).rq = s.rq := rfl
@[simp] theorem State.bump_field (s : State) (a lo n : Nat) : (s.bump a lo n).field = s.field := rfl
@[simp] theorem State.bump_camb (s : State) (a lo n : Nat) : (s.bump a lo n).camb = s.camb := rfl
@[simp] theorem State.bump_drv (s : State) (a lo n : Nat) : (s.bump a lo n).drv = s.drv := rfl
@[simp] theorem State.bump_fan (s : State) (a lo n : Nat) : (s.bump a lo n).fan = s.fan := rfl
@[simp] theorem State.bump_bus (s : State) (a lo n : Nat) : (s.bump a lo n).bus = s.bus := rfl
@[simp] theorem State.bump_gft (s : State) (a lo n : Nat) : (s.bump a lo n).gft = s.gft := rfl
@[simp] theorem State.bump_heart (s : State) (a lo n : Nat) : (s.bump a lo n).heart = s.heart := rfl
@[simp] theorem State.bump_trend (s : State) (a lo n : Nat) : (s.bump a lo n).trend = s.trend := rfl
@[simp] theorem State.bump_grr (s : State) (a lo n : Nat) : (s.bump a lo n).grr = s.grr := rfl
@[simp] theorem State.bump_rtc (s : State) (a lo n : Nat) : (s.bump a lo n).rtc = s.rtc := rfl
@[simp] theorem State.bump_pwr (s : State) (a lo n : Nat) : (s.bump a lo n).pwr = s.pwr := rfl
@[simp] theorem State.bump_ther (s : State) (a lo n : Nat) : (s.bump a lo n).ther = s.ther := rfl
@[simp] theorem State.advTo_regs (s : State) (t : Nat) : (s.advTo t).regs = s.regs := rfl
@[simp] theorem State.advTo_free (s : State) (t : Nat) : (s.advTo t).free = s.free := rfl
@[simp] theorem State.advTo_pending (s : State) (t : Nat) : (s.advTo t).pending = s.pending := rfl
@[simp] theorem State.advTo_fab (s : State) (t : Nat) : (s.advTo t).fab = s.fab := rfl
@[simp] theorem State.advTo_hp (s : State) (t : Nat) : (s.advTo t).hp = s.hp := rfl
@[simp] theorem State.advTo_fw (s : State) (t : Nat) : (s.advTo t).fw = s.fw := rfl
@[simp] theorem State.advTo_inp (s : State) (t : Nat) : (s.advTo t).inp = s.inp := rfl
@[simp] theorem State.advTo_cnv (s : State) (t : Nat) : (s.advTo t).cnv = s.cnv := rfl
@[simp] theorem State.advTo_rq (s : State) (t : Nat) : (s.advTo t).rq = s.rq := rfl
@[simp] theorem State.advTo_field (s : State) (t : Nat) : (s.advTo t).field = s.field := rfl
@[simp] theorem State.advTo_camb (s : State) (t : Nat) : (s.advTo t).camb = s.camb := rfl
@[simp] theorem State.advTo_drv (s : State) (t : Nat) : (s.advTo t).drv = s.drv := rfl
@[simp] theorem State.advTo_fan (s : State) (t : Nat) : (s.advTo t).fan = s.fan := rfl
@[simp] theorem State.advTo_bus (s : State) (t : Nat) : (s.advTo t).bus = s.bus := rfl
@[simp] theorem State.advTo_gft (s : State) (t : Nat) : (s.advTo t).gft = s.gft := rfl
@[simp] theorem State.advTo_heart (s : State) (t : Nat) : (s.advTo t).heart = s.heart := rfl
@[simp] theorem State.advTo_trend (s : State) (t : Nat) : (s.advTo t).trend = s.trend := rfl
@[simp] theorem State.advTo_grr (s : State) (t : Nat) : (s.advTo t).grr = s.grr := rfl
@[simp] theorem State.advTo_rtc (s : State) (t : Nat) : (s.advTo t).rtc = s.rtc := rfl
@[simp] theorem State.advTo_pwr (s : State) (t : Nat) : (s.advTo t).pwr = s.pwr := rfl
@[simp] theorem State.advTo_ther (s : State) (t : Nat) : (s.advTo t).ther = s.ther := rfl
@[simp] theorem State.draw_now (s : State) : (s.draw.2).now = s.now := rfl
@[simp] theorem State.draw_regs (s : State) : (s.draw.2).regs = s.regs := rfl
@[simp] theorem State.draw_pending (s : State) : (s.draw.2).pending = s.pending := rfl
@[simp] theorem State.draw_fab (s : State) : (s.draw.2).fab = s.fab := rfl
@[simp] theorem State.draw_hp (s : State) : (s.draw.2).hp = s.hp := rfl
@[simp] theorem State.draw_fw (s : State) : (s.draw.2).fw = s.fw := rfl
@[simp] theorem State.draw_inp (s : State) : (s.draw.2).inp = s.inp := rfl
@[simp] theorem State.draw_cnv (s : State) : (s.draw.2).cnv = s.cnv := rfl
@[simp] theorem State.draw_rq (s : State) : (s.draw.2).rq = s.rq := rfl
@[simp] theorem State.draw_field (s : State) : (s.draw.2).field = s.field := rfl
@[simp] theorem State.draw_camb (s : State) : (s.draw.2).camb = s.camb := rfl
@[simp] theorem State.draw_drv (s : State) : (s.draw.2).drv = s.drv := rfl
@[simp] theorem State.draw_fan (s : State) : (s.draw.2).fan = s.fan := rfl
@[simp] theorem State.draw_bus (s : State) : (s.draw.2).bus = s.bus := rfl
@[simp] theorem State.draw_gft (s : State) : (s.draw.2).gft = s.gft := rfl
@[simp] theorem State.draw_heart (s : State) : (s.draw.2).heart = s.heart := rfl
@[simp] theorem State.draw_trend (s : State) : (s.draw.2).trend = s.trend := rfl
@[simp] theorem State.draw_grr (s : State) : (s.draw.2).grr = s.grr := rfl
@[simp] theorem State.draw_rtc (s : State) : (s.draw.2).rtc = s.rtc := rfl
@[simp] theorem State.draw_pwr (s : State) : (s.draw.2).pwr = s.pwr := rfl
@[simp] theorem State.draw_ther (s : State) : (s.draw.2).ther = s.ther := rfl
@[simp] theorem State.advTo_now (s : State) (t : Nat) : (s.advTo t).now = max s.now t := rfl
@[simp] theorem State.draw_free (s : State) : s.draw.2.free = s.free + 1 := rfl

/-! ### Registers -/

/-- A register reads as written. -/
@[simp] theorem State.reg_setReg (s : State) (a : Nat) (v : Word) : (s.setReg a v).reg a = v := tblGetD_set_same s.regs a v
/-- The other registers keep their values. -/
theorem State.reg_setReg_other (s : State) (a b : Nat) (v : Word) (h : b ≠ a) : (s.setReg a v).reg b = s.reg b :=
  tblGetD_set_other s.regs v h
@[simp] theorem State.reg_setF (s : State) (a lo n v : Nat) : (s.setF a lo n v).reg a = setFld (s.reg a) lo n v := s.reg_setReg a _
@[simp] theorem State.reg_setB (s : State) (a i : Nat) (b : Bool) : (s.setB a i b).reg a = setBit (s.reg a) i b := s.reg_setReg a _
@[simp] theorem State.reg_bump (s : State) (a lo n : Nat) : (s.bump a lo n).reg a = bumpFld (s.reg a) lo n := s.reg_setReg a _
theorem State.reg_setF_other (s : State) (a b lo n v : Nat) (h : b ≠ a) : (s.setF a lo n v).reg b = s.reg b := s.reg_setReg_other a b _ h
theorem State.reg_setB_other (s : State) (a b i : Nat) (v : Bool) (h : b ≠ a) : (s.setB a i v).reg b = s.reg b := s.reg_setReg_other a b _ h
theorem State.reg_bump_other (s : State) (a b lo n : Nat) (h : b ≠ a) : (s.bump a lo n).reg b = s.reg b := s.reg_setReg_other a b _ h
/-- Registers depend on the register table alone. -/
theorem State.reg_congr {s t : State} (h : s.regs = t.regs) (a : Nat) : s.reg a = t.reg a := by unfold State.reg; rw [h]
@[simp] theorem State.reg_advTo (s : State) (t a : Nat) : (s.advTo t).reg a = s.reg a := rfl
@[simp] theorem State.reg_draw (s : State) (a : Nat) : s.draw.2.reg a = s.reg a := rfl
/-- A flag reads as set. -/
@[simp] theorem State.b_setB (s : State) (a i : Nat) (v : Bool) (h : i < 32) : (s.setB a i v).b a i = v := by
  unfold State.b; rw [State.reg_setB, bit_setBit_same _ _ _ h]
/-- Another flag of the register. -/
theorem State.b_setB_other (s : State) (a i j : Nat) (v : Bool) (h : j ≠ i) : (s.setB a i v).b a j = s.b a j := by
  unfold State.b; rw [State.reg_setB, bit_setBit_other _ _ _ _ h]
/-- A field reads as set. -/
theorem State.f_setF (s : State) (a lo n v : Nat) (h : lo + n ≤ 32) : (s.setF a lo n v).f a lo n = v % 2 ^ n := by
  unfold State.f; rw [State.reg_setF, fld_setFld_same _ _ _ _ h]

end Sys2Proof.Machine
end

