-- ==== Sys2Proof/Laws/Frame.lean ====
section
/-! SUPPORT. Sys2Proof/Laws/Frame.lean: what one operation can do, said once: Keeps m s t says that t comes from s with
the queue untouched, time and the count of free values no smaller, the register table still canonical, and every part
of the state whose bit of m is clear as before. -/

namespace Sys2Proof.Machine

open Sys2Proof

/-- What an operation leaves: bit k of `m` clear says that part k is unchanged. -/
structure Keeps (m : Nat) (s t : State) : Prop where
  pending : t.pending = s.pending
  time : s.now ≤ t.now
  draws : s.free ≤ t.free
  canon : tblWf regReset s.regs = true → tblWf regReset t.regs = true
  regs : m.testBit 0 = false → t.regs = s.regs
  fab : m.testBit 1 = false → t.fab = s.fab
  hp : m.testBit 2 = false → t.hp = s.hp
  fw : m.testBit 3 = false → t.fw = s.fw
  inp : m.testBit 4 = false → t.inp = s.inp
  cnv : m.testBit 5 = false → t.cnv = s.cnv
  rq : m.testBit 6 = false → t.rq = s.rq
  field : m.testBit 7 = false → t.field = s.field
  camb : m.testBit 8 = false → t.camb = s.camb
  drv : m.testBit 9 = false → t.drv = s.drv
  fan : m.testBit 10 = false → t.fan = s.fan
  bus : m.testBit 11 = false → t.bus = s.bus
  gft : m.testBit 12 = false → t.gft = s.gft
  heart : m.testBit 13 = false → t.heart = s.heart
  trend : m.testBit 14 = false → t.trend = s.trend
  grr : m.testBit 15 = false → t.grr = s.grr
  rtc : m.testBit 16 = false → t.rtc = s.rtc
  pwr : m.testBit 17 = false → t.pwr = s.pwr
  ther : m.testBit 18 = false → t.ther = s.ther
  now : m.testBit 19 = false → t.now = s.now
  free : m.testBit 20 = false → t.free = s.free

/-- Nothing done. -/
theorem Keeps.refl (m : Nat) (s : State) : Keeps m s s := by constructor <;> intros <;> first | rfl | exact Nat.le_refl _ | assumption

/-- One after the other. -/
theorem Keeps.tr {m : Nat} {s t u : State} (a : Keeps m s t) (b : Keeps m t u) : Keeps m s u where
  pending := b.pending.trans a.pending
  time := Nat.le_trans a.time b.time
  draws := Nat.le_trans a.draws b.draws
  canon := fun h => b.canon (a.canon h)
  regs := fun h => (b.regs h).trans (a.regs h)
  fab := fun h => (b.fab h).trans (a.fab h)
  hp := fun h => (b.hp h).trans (a.hp h)
  fw := fun h => (b.fw h).trans (a.fw h)
  inp := fun h => (b.inp h).trans (a.inp h)
  cnv := fun h => (b.cnv h).trans (a.cnv h)
  rq := fun h => (b.rq h).trans (a.rq h)
  field := fun h => (b.field h).trans (a.field h)
  camb := fun h => (b.camb h).trans (a.camb h)
  drv := fun h => (b.drv h).trans (a.drv h)
  fan := fun h => (b.fan h).trans (a.fan h)
  bus := fun h => (b.bus h).trans (a.bus h)
  gft := fun h => (b.gft h).trans (a.gft h)
  heart := fun h => (b.heart h).trans (a.heart h)
  trend := fun h => (b.trend h).trans (a.trend h)
  grr := fun h => (b.grr h).trans (a.grr h)
  rtc := fun h => (b.rtc h).trans (a.rtc h)
  pwr := fun h => (b.pwr h).trans (a.pwr h)
  ther := fun h => (b.ther h).trans (a.ther h)
  now := fun h => (b.now h).trans (a.now h)
  free := fun h => (b.free h).trans (a.free h)

/-- A bit clear in a larger mask is clear in the smaller. -/
theorem mask_clear {m n i : Nat} (h : m &&& n = m) (hn : n.testBit i = false) : m.testBit i = false := by
  rw [← h, Nat.testBit_and, hn, Bool.and_false]

/-- A larger mask says less. -/
theorem Keeps.mono {m n : Nat} {s t : State} (h : m &&& n = m) (a : Keeps m s t) : Keeps n s t where
  pending := a.pending
  time := a.time
  draws := a.draws
  canon := a.canon
  regs := fun k => a.regs (mask_clear h k)
  fab := fun k => a.fab (mask_clear h k)
  hp := fun k => a.hp (mask_clear h k)
  fw := fun k => a.fw (mask_clear h k)
  inp := fun k => a.inp (mask_clear h k)
  cnv := fun k => a.cnv (mask_clear h k)
  rq := fun k => a.rq (mask_clear h k)
  field := fun k => a.field (mask_clear h k)
  camb := fun k => a.camb (mask_clear h k)
  drv := fun k => a.drv (mask_clear h k)
  fan := fun k => a.fan (mask_clear h k)
  bus := fun k => a.bus (mask_clear h k)
  gft := fun k => a.gft (mask_clear h k)
  heart := fun k => a.heart (mask_clear h k)
  trend := fun k => a.trend (mask_clear h k)
  grr := fun k => a.grr (mask_clear h k)
  rtc := fun k => a.rtc (mask_clear h k)
  pwr := fun k => a.pwr (mask_clear h k)
  ther := fun k => a.ther (mask_clear h k)
  now := fun k => a.now (mask_clear h k)
  free := fun k => a.free (mask_clear h k)

/-- A mask within a mask within a mask. -/
theorem mask_sub {a b c : Nat} (h : b &&& c = b) (k : a &&& b = a) : a &&& c = a := by
  rw [← k, Nat.land_assoc, h]

theorem Keeps.ite {m : Nat} {s a b : State} {c : Prop} [Decidable c] (ha : Keeps m s a) (hb : Keeps m s b) :
    Keeps m s (if c then a else b) := by split <;> assumption
theorem Keeps.ite2 {α : Type} {m : Nat} {s : State} {a b : α × State} {c : Prop} [Decidable c] (ha : Keeps m s a.2) (hb : Keeps m s b.2) :
    Keeps m s (if c then a else b).2 := by split <;> assumption
theorem Keeps.pair {α : Type} {m : Nat} {s t : State} {a : α} (h : Keeps m s t) : Keeps m s (a, t).2 := h

/-- What an outcome leaves, when it is a next state. -/
def KeepsOut (m : Nat) (s : State) (o : Host.Outcome State Fault Refusal) : Prop := ∀ t, o = .next t → Keeps m s t
theorem KeepsOut.next {m : Nat} {s t : State} (h : Keeps m s t) : KeepsOut m s (.next t) := by
  intro u hu; cases hu; exact h
theorem KeepsOut.ite {m : Nat} {s : State} {a b : Host.Outcome State Fault Refusal} {c : Prop} [Decidable c] (ha : KeepsOut m s a)
    (hb : KeepsOut m s b) : KeepsOut m s (if c then a else b) := by split <;> assumption

/-! ### One part replaced -/

theorem Keeps.put_fab (s : State) (x : FabState) : Keeps 2 s { s with fab := x } := by
  constructor <;> intros <;> first | rfl | exact Nat.le_refl _ | assumption | (rename_i h; exact absurd h (by decide))
theorem Keeps.put_hp (s : State) (x : HpState) : Keeps 4 s { s with hp := x } := by
  constructor <;> intros <;> first | rfl | exact Nat.le_refl _ | assumption | (rename_i h; exact absurd h (by decide))
theorem Keeps.put_fw (s : State) (x : FwState) : Keeps 8 s { s with fw := x } := by
  constructor <;> intros <;> first | rfl | exact Nat.le_refl _ | assumption | (rename_i h; exact absurd h (by decide))
theorem Keeps.put_inp (s : State) (x : InpState) : Keeps 16 s { s with inp := x } := by
  constructor <;> intros <;> first | rfl | exact Nat.le_refl _ | assumption | (rename_i h; exact absurd h (by decide))
theorem Keeps.put_cnv (s : State) (x : Tbl CnvSt) : Keeps 32 s { s with cnv := x } := by
  constructor <;> intros <;> first | rfl | exact Nat.le_refl _ | assumption | (rename_i h; exact absurd h (by decide))
theorem Keeps.put_rq (s : State) (x : RqState) : Keeps 64 s { s with rq := x } := by
  constructor <;> intros <;> first | rfl | exact Nat.le_refl _ | assumption | (rename_i h; exact absurd h (by decide))
theorem Keeps.put_field (s : State) (x : FieldState) : Keeps 128 s { s with field := x } := by
  constructor <;> intros <;> first | rfl | exact Nat.le_refl _ | assumption | (rename_i h; exact absurd h (by decide))
theorem Keeps.put_camb (s : State) (x : CambState) : Keeps 256 s { s with camb := x } := by
  constructor <;> intros <;> first | rfl | exact Nat.le_refl _ | assumption | (rename_i h; exact absurd h (by decide))
theorem Keeps.put_drv (s : State) (x : DrvState) : Keeps 512 s { s with drv := x } := by
  constructor <;> intros <;> first | rfl | exact Nat.le_refl _ | assumption | (rename_i h; exact absurd h (by decide))
theorem Keeps.put_fan (s : State) (x : Tbl FanSt) : Keeps 1024 s { s with fan := x } := by
  constructor <;> intros <;> first | rfl | exact Nat.le_refl _ | assumption | (rename_i h; exact absurd h (by decide))
theorem Keeps.put_bus (s : State) (x : BusState) : Keeps 2048 s { s with bus := x } := by
  constructor <;> intros <;> first | rfl | exact Nat.le_refl _ | assumption | (rename_i h; exact absurd h (by decide))
theorem Keeps.put_gft (s : State) (x : GraftState) : Keeps 4096 s { s with gft := x } := by
  constructor <;> intros <;> first | rfl | exact Nat.le_refl _ | assumption | (rename_i h; exact absurd h (by decide))
theorem Keeps.put_heart (s : State) (x : HeartState) : Keeps 8192 s { s with heart := x } := by
  constructor <;> intros <;> first | rfl | exact Nat.le_refl _ | assumption | (rename_i h; exact absurd h (by decide))
theorem Keeps.put_trend (s : State) (x : TrendState) : Keeps 16384 s { s with trend := x } := by
  constructor <;> intros <;> first | rfl | exact Nat.le_refl _ | assumption | (rename_i h; exact absurd h (by decide))
theorem Keeps.put_grr (s : State) (x : RecorderState) : Keeps 32768 s { s with grr := x } := by
  constructor <;> intros <;> first | rfl | exact Nat.le_refl _ | assumption | (rename_i h; exact absurd h (by decide))
theorem Keeps.put_rtc (s : State) (x : RtcState) : Keeps 65536 s { s with rtc := x } := by
  constructor <;> intros <;> first | rfl | exact Nat.le_refl _ | assumption | (rename_i h; exact absurd h (by decide))
theorem Keeps.put_pwr (s : State) (x : PowerState) : Keeps 131072 s { s with pwr := x } := by
  constructor <;> intros <;> first | rfl | exact Nat.le_refl _ | assumption | (rename_i h; exact absurd h (by decide))
theorem Keeps.put_ther (s : State) (x : ThermState) : Keeps 262144 s { s with ther := x } := by
  constructor <;> intros <;> first | rfl | exact Nat.le_refl _ | assumption | (rename_i h; exact absurd h (by decide))

/-! ### Several parts replaced at once -/

theorem Keeps.put_field_bus_trend (s : State) (x : FieldState) (y : BusState) (z : TrendState) : Keeps 18560 s { s with field := x, bus := y, trend := z } := by
  constructor <;> intros <;> first | rfl | exact Nat.le_refl _ | assumption | (rename_i h; exact absurd h (by decide))
theorem Keeps.put_fw_camb (s : State) (x : FwState) (y : CambState) : Keeps 264 s { s with fw := x, camb := y } := by
  constructor <;> intros <;> first | rfl | exact Nat.le_refl _ | assumption | (rename_i h; exact absurd h (by decide))
theorem Keeps.put_fw_drv (s : State) (x : FwState) (y : DrvState) : Keeps 520 s { s with fw := x, drv := y } := by
  constructor <;> intros <;> first | rfl | exact Nat.le_refl _ | assumption | (rename_i h; exact absurd h (by decide))
theorem Keeps.put_fw_gft (s : State) (x : FwState) (y : GraftState) : Keeps 4104 s { s with fw := x, gft := y } := by
  constructor <;> intros <;> first | rfl | exact Nat.le_refl _ | assumption | (rename_i h; exact absurd h (by decide))
theorem Keeps.put_grr_rtc (s : State) (x : RecorderState) (y : RtcState) : Keeps 98304 s { s with grr := x, rtc := y } := by
  constructor <;> intros <;> first | rfl | exact Nat.le_refl _ | assumption | (rename_i h; exact absurd h (by decide))
theorem Keeps.put_heart_pwr (s : State) (x : HeartState) (y : PowerState) : Keeps 139264 s { s with heart := x, pwr := y } := by
  constructor <;> intros <;> first | rfl | exact Nat.le_refl _ | assumption | (rename_i h; exact absurd h (by decide))
theorem Keeps.put_heart_rtc (s : State) (x : HeartState) (y : RtcState) : Keeps 73728 s { s with heart := x, rtc := y } := by
  constructor <;> intros <;> first | rfl | exact Nat.le_refl _ | assumption | (rename_i h; exact absurd h (by decide))
theorem Keeps.put_inp_cnv (s : State) (x : InpState) (y : Tbl CnvSt) : Keeps 48 s { s with inp := x, cnv := y } := by
  constructor <;> intros <;> first | rfl | exact Nat.le_refl _ | assumption | (rename_i h; exact absurd h (by decide))
theorem Keeps.put_inp_cnv_rq (s : State) (x : InpState) (y : Tbl CnvSt) (z : RqState) : Keeps 112 s { s with inp := x, cnv := y, rq := z } := by
  constructor <;> intros <;> first | rfl | exact Nat.le_refl _ | assumption | (rename_i h; exact absurd h (by decide))
theorem Keeps.put_pwr_ther (s : State) (x : PowerState) (y : ThermState) : Keeps 393216 s { s with pwr := x, ther := y } := by
  constructor <;> intros <;> first | rfl | exact Nat.le_refl _ | assumption | (rename_i h; exact absurd h (by decide))

theorem Keeps.put_regs (s : State) (x : Tbl Word) (h : tblWf regReset s.regs = true → tblWf regReset x = true) :
    Keeps 1 s { s with regs := x } := by
  constructor <;> intros <;> first | rfl | exact Nat.le_refl _ | (apply h; assumption) | (rename_i h; exact absurd h (by decide))
theorem Keeps.put_now (s : State) (n : Nat) (h : s.now ≤ n) : Keeps (2 ^ 19) s { s with now := n } := by
  constructor <;> intros <;> first | rfl | exact Nat.le_refl _ | assumption | (rename_i h; exact absurd h (by decide))
theorem Keeps.put_free (s : State) (n : Nat) (h : s.free ≤ n) : Keeps (2 ^ 20) s { s with free := n } := by
  constructor <;> intros <;> first | rfl | exact Nat.le_refl _ | assumption | (rename_i h; exact absurd h (by decide))

/-! ### The updates of Flags.lean -/

theorem State_setReg_fr (s : State) (a : Nat) (v : Word) : Keeps 1 s (s.setReg a v) := Keeps.put_regs s _ (tblWf_set a v)
theorem State_setF_fr (s : State) (a lo n v : Nat) : Keeps 1 s (s.setF a lo n v) := State_setReg_fr s a _
theorem State_setB_fr (s : State) (a i : Nat) (b : Bool) : Keeps 1 s (s.setB a i b) := State_setReg_fr s a _
theorem State_bump_fr (s : State) (a lo n : Nat) : Keeps 1 s (s.bump a lo n) := State_setReg_fr s a _
theorem State_advTo_fr (s : State) (t : Nat) : Keeps 524288 s (s.advTo t) := Keeps.put_now s _ (Nat.le_max_left _ _)
theorem State_draw_fr (s : State) : Keeps 1048576 s s.draw.2 := Keeps.put_free s _ (Nat.le_succ _)

/-! ### Loops -/

theorem forEach_fr {α : Type} {m : Nat} (l : List α) (f : α → State → State) (h : ∀ x s, Keeps m s (f x s)) (s : State) :
    Keeps m s (forEach l f s) := by
  unfold forEach
  induction l generalizing s with
  | nil => exact Keeps.refl m s
  | cons x t ih => exact Keeps.tr (h x s) (ih (f x s))
theorem forRange_fr {m : Nat} (n : Nat) (f : Nat → State → State) (h : ∀ i s, Keeps m s (f i s)) (s : State) :
    Keeps m s (forRange n f s) := forEach_fr (List.range n) f h s
theorem foldl_fr {α : Type} {m : Nat} (l : List α) (f : State → α → State) (h : ∀ s x, Keeps m s (f s x)) (s : State) :
    Keeps m s (l.foldl f s) := forEach_fr l (fun x s => f s x) (fun x s => h s x) s

end Sys2Proof.Machine
end

