-- ==== Sys2Proof/Laws/FrameOps.lean ====
section
/-! SUPPORT. Sys2Proof/Laws/FrameOps.lean: for each operation of Machine/Ops.lean, what it leaves (Laws/Frame.lean). -/

namespace Sys2Proof.Machine

open Sys2Proof

theorem resetDomRegs_fr (d : Dom) (s : State) : Keeps 1 s (resetDomRegs d s) := Keeps.put_regs s _ (tblWf_drop _)

theorem plainWrite_fr (a0) (a1) (s : State) : Keeps 1 s (plainWrite a0 a1 s) := by
  unfold plainWrite
  split
  · exact Keeps.mono rfl (State_setReg_fr ..)
  · exact Keeps.refl _ _

theorem fabricError_fr (a0) (a1) (s : State) : Keeps 1 s (fabricError a0 a1 s) := by
  unfold fabricError
  extract_lets +onlyGivenNames -merge -useContext x1
  have h2 : Keeps 1 s x1 := by
    unfold x1
    exact Keeps.mono rfl (State_setReg_fr ..)
  try clear_value x1
  refine Keeps.ite ?_ ?_
  · exact h2
  · exact Keeps.tr h2 (Keeps.mono rfl (State_setReg_fr ..))

theorem streamDrop_fr (a0) (s : State) : Keeps 1 s (streamDrop a0 s) := by
  unfold streamDrop
  refine Keeps.tr ?_ (Keeps.mono rfl (fabricError_fr ..))
  exact Keeps.mono rfl (State_setReg_fr ..)

theorem sendResult_fr (a0) (a1) (a2) (a3) (a4) (a5) (s : State) : Keeps 3 s (sendResult a0 a1 a2 a3 a4 a5 s) := by
  unfold sendResult
  extract_lets +onlyGivenNames -merge -useContext x1
  try clear_value x1
  extract_lets +onlyGivenNames -merge -useContext x2
  try clear_value x2
  extract_lets +onlyGivenNames -merge -useContext y3 x4
  have h5 : Keeps 3 s x4 := by
    unfold x4
    exact Keeps.mono rfl (Keeps.put_fab _ _)
  try clear_value x4
  split
  · refine Keeps.ite ?_ ?_
    · exact Keeps.tr h5 (Keeps.mono rfl (Keeps.put_fab _ _))
    · exact Keeps.tr h5 (Keeps.mono rfl (streamDrop_fr ..))
  · exact Keeps.tr h5 (Keeps.mono rfl (fabricError_fr ..))

theorem sendStream_fr (a0) (a1) (a2) (a3) (a4) (s : State) : Keeps 3 s (sendStream a0 a1 a2 a3 a4 s) := by
  unfold sendStream
  exact Keeps.mono rfl (sendResult_fr ..)

theorem sinkTag_fr (a0) (s : State) : Keeps 2 s (sinkTag a0 s) := by
  unfold sinkTag
  extract_lets +onlyGivenNames -merge -useContext x1
  try clear_value x1
  extract_lets +onlyGivenNames -merge -useContext x2
  try clear_value x2
  extract_lets +onlyGivenNames -merge -useContext x3
  try clear_value x3
  extract_lets +onlyGivenNames -merge -useContext x4
  try clear_value x4
  exact Keeps.mono rfl (Keeps.put_fab _ _)

theorem takePacket_fr {p : Packet → Bool} {s : State} {r : Packet × State} (h : takePacket p s = some r) : Keeps 2 s r.2 := by
  unfold takePacket at h
  cases hf : nextPacket p [] s.fab.flight with
  | none => simp [hf] at h
  | some q =>
    simp only [hf, Option.map_some, Option.some.injEq] at h
    cases h
    exact Keeps.tr (Keeps.put_fab s _) (Keeps.mono rfl (sinkTag_fr ..))

theorem ringBit_fr (a0) (s : State) : Keeps 1 s (ringBit a0 s) := by
  unfold ringBit
  exact Keeps.mono rfl (State_setReg_fr ..)

theorem ringEvent_fr (a0) (s : State) : Keeps 9 s (ringEvent a0 s) := by
  unfold ringEvent
  refine Keeps.ite ?_ ?_
  · refine Keeps.tr ?_ (forEach_fr _ _ (fun iz1 sz1 => ?_) _)
    · exact Keeps.refl _ _
    · exact Keeps.mono rfl (ringBit_fr ..)
  · refine Keeps.ite ?_ ?_
    · exact Keeps.refl _ _
    · exact Keeps.mono rfl (Keeps.put_fw _ _)

theorem setZone_fr (a0) (a1) (s : State) : Keeps 8 s (setZone a0 a1 s) := by
  unfold setZone
  exact Keeps.mono rfl (Keeps.put_fw _ _)

end Sys2Proof.Machine
end

