-- ==== Sys2Proof/Laws/FrameOperands.lean ====
section
/-! SUPPORT. Sys2Proof/Laws/FrameOperands.lean: for each operation of Machine/Operands.lean, what it leaves (Laws/Frame.lean). -/

namespace Sys2Proof.Machine

open Sys2Proof

theorem updCmd_fr (a0) (a1) (s : State) : Keeps 8 s (updCmd a0 a1 s) := by
  unfold updCmd
  exact Keeps.mono rfl (Keeps.put_fw _ _)

theorem dropCmd_fr (a0) (s : State) : Keeps 8 s (dropCmd a0 s) := by
  unfold dropCmd
  exact Keeps.mono rfl (Keeps.put_fw _ _)

theorem finishCmd_fr (a0) (a1) (a2) (s : State) : Keeps 8 s (finishCmd a0 a1 a2 s) := by
  unfold finishCmd
  split
  · exact Keeps.refl _ _
  · refine Keeps.ite ?_ ?_
    · exact Keeps.refl _ _
    · refine Keeps.ite ?_ ?_
      · exact Keeps.mono rfl (dropCmd_fr ..)
      · extract_lets +onlyGivenNames -merge -useContext y1 x2
        have h3 : Keeps 8 s x2 := by
          unfold x2
          exact Keeps.mono rfl (Keeps.put_fw _ _)
        try clear_value x2
        exact Keeps.tr h3 (Keeps.mono rfl (updCmd_fr ..))

theorem queueInterim_fr (a0) (s : State) : Keeps 8 s (queueInterim a0 s) := by
  unfold queueInterim
  extract_lets +onlyGivenNames -merge -useContext y1 x2
  have h3 : Keeps 8 s x2 := by
    unfold x2
    exact Keeps.mono rfl (Keeps.put_fw _ _)
  try clear_value x2
  exact Keeps.tr h3 (Keeps.mono rfl (updCmd_fr ..))

theorem settle_fr (a0) (a1) (s : State) : Keeps 8 s (settle a0 a1 s) := by
  unfold settle
  extract_lets +onlyGivenNames -merge -useContext x1
  try clear_value x1
  split
  · exact Keeps.mono rfl (finishCmd_fr ..)
  · refine Keeps.tr ?_ (Keeps.mono rfl (queueInterim_fr ..))
    exact Keeps.mono rfl (updCmd_fr ..)
  · extract_lets +onlyGivenNames -merge -useContext x2
    have h3 : Keeps 8 s x2 := by
      unfold x2
      exact Keeps.mono rfl (updCmd_fr ..)
    try clear_value x2
    refine Keeps.ite ?_ ?_
    · exact Keeps.tr h3 (Keeps.mono rfl (queueInterim_fr ..))
    · exact h3

theorem runCmd_fr {m : Nat} (hm : 8 &&& m = 8) (id code : Nat) (body : Cmd → State → Reply × State)
    (h : ∀ c s, Keeps m s (body c s).2) (s : State) : Keeps m s (runCmd id code body s) := by
  unfold runCmd
  split
  · exact Keeps.refl _ _
  · refine Keeps.ite (Keeps.tr (h _ s) (Keeps.mono (mask_sub hm rfl) (settle_fr ..))) ?_
    split
    · exact Keeps.ite (Keeps.mono (mask_sub hm rfl) (finishCmd_fr ..)) (Keeps.refl _ _)
    · exact Keeps.refl _ _

theorem checked_fr {m : Nat} {s0 s : State} {l : List (Bool × Nat)} {run : Reply × State} (h1 : Keeps m s0 s) (h2 : Keeps m s0 run.2) :
    Keeps m s0 (checked l s run).2 := by
  unfold checked
  split
  · exact h1
  · exact h2

end Sys2Proof.Machine
end

