-- ==== Sys2Proof/Laws/FrameResultQueue.lean ====
section
/-! SUPPORT. Sys2Proof/Laws/FrameResultQueue.lean: for each operation of Machine/ResultQueue.lean, what it leaves (Laws/Frame.lean). -/

namespace Sys2Proof.Machine

open Sys2Proof

theorem setPart_fr (a0) (a1) (s : State) : Keeps 65 s (setPart a0 a1 s) := by
  unfold setPart
  extract_lets +onlyGivenNames -merge -useContext y1 y2 y3 x4
  try clear_value x4
  refine Keeps.tr ?_ (Keeps.mono rfl (State_setF_fr ..))
  exact Keeps.mono rfl (Keeps.put_rq _ _)

theorem popPart_fr {p : Nat} {s : State} {r : PartEntry × State} (h : popPart p s = some r) : Keeps 65 s r.2 := by
  unfold popPart at h
  split at h
  · cases h
  · cases h
    exact Keeps.tr (Keeps.mono rfl (Keeps.put_rq s _)) (Keeps.mono rfl (setPart_fr ..))

theorem appendPart_fr (a0) (a1) (s : State) : Keeps 73 s (appendPart a0 a1 s) := by
  unfold appendPart
  extract_lets +onlyGivenNames -merge -useContext x1
  try clear_value x1
  extract_lets +onlyGivenNames -merge -useContext x2
  try clear_value x2
  extract_lets +onlyGivenNames -merge -useContext x3
  have h4 : Keeps 73 s x3 := by
    unfold x3
    refine Keeps.ite ?_ ?_
    · refine Keeps.tr ?_ (Keeps.mono rfl (State_setB_fr ..))
      exact Keeps.mono rfl (State_bump_fr ..)
    · exact Keeps.refl _ _
  try clear_value x3
  extract_lets +onlyGivenNames -merge -useContext y5 x6
  have h7 : Keeps 73 s x6 := by
    unfold x6
    refine Keeps.ite ?_ ?_
    · exact Keeps.tr h4 (Keeps.mono rfl (Keeps.put_rq _ _))
    · exact h4
  try clear_value x6
  extract_lets +onlyGivenNames -merge -useContext y8 x9
  have h10 : Keeps 73 s x9 := by
    unfold x9
    refine Keeps.ite ?_ ?_
    · exact Keeps.tr h7 (Keeps.mono rfl (Keeps.put_fw _ _))
    · exact h7
  try clear_value x9
  extract_lets +onlyGivenNames -merge -useContext x11
  have h12 : Keeps 73 s x11 := by
    unfold x11
    exact Keeps.tr h10 (Keeps.mono rfl (setPart_fr ..))
  try clear_value x11
  refine Keeps.ite ?_ ?_
  · exact Keeps.tr h12 (Keeps.mono rfl (ringEvent_fr ..))
  · exact h12

theorem crownDrain_fr (s : State) : Keeps 73 s (crownDrain s) := by
  unfold crownDrain
  extract_lets +onlyGivenNames -merge -useContext x1
  try clear_value x1
  extract_lets +onlyGivenNames -merge -useContext x2
  try clear_value x2
  extract_lets +onlyGivenNames -merge -useContext x3
  try clear_value x3
  refine Keeps.ite ?_ ?_
  · exact Keeps.refl _ _
  · extract_lets +onlyGivenNames -merge -useContext y4 x5
    have h6 : Keeps 73 s x5 := by
      unfold x5
      exact Keeps.mono rfl (Keeps.put_fw _ _)
    try clear_value x5
    extract_lets +onlyGivenNames -merge -useContext y7 x8
    have h9 : Keeps 73 s x8 := by
      unfold x8
      exact Keeps.tr h6 (Keeps.mono rfl (Keeps.put_rq _ _))
    try clear_value x8
    exact Keeps.tr h9 (Keeps.mono rfl (State_setF_fr ..))

theorem publish_fr (a0) (a1) (a2) (a3) (s : State) : Keeps 73 s (publish a0 a1 a2 a3 s) := by
  unfold publish
  extract_lets +onlyGivenNames -merge -useContext x1
  try clear_value x1
  extract_lets +onlyGivenNames -merge -useContext x2
  have h3 : Keeps 73 s x2 := by
    unfold x2
    refine Keeps.tr ?_ (Keeps.mono rfl (State_setReg_fr ..))
    exact Keeps.mono rfl (State_setReg_fr ..)
  try clear_value x2
  extract_lets +onlyGivenNames -merge -useContext x4
  have h5 : Keeps 73 s x4 := by
    unfold x4
    exact Keeps.tr h3 (Keeps.mono rfl (State_setB_fr ..))
  try clear_value x4
  extract_lets +onlyGivenNames -merge -useContext x6
  try clear_value x6
  extract_lets +onlyGivenNames -merge -useContext x7
  try clear_value x7
  extract_lets +onlyGivenNames -merge -useContext x8
  have h9 : Keeps 73 s x8 := by
    unfold x8
    refine Keeps.ite ?_ ?_
    · exact Keeps.tr h5 (Keeps.mono rfl (appendPart_fr ..))
    · exact h5
  try clear_value x8
  extract_lets +onlyGivenNames -merge -useContext x10
  have h11 : Keeps 73 s x10 := by
    unfold x10
    refine Keeps.ite ?_ ?_
    · exact Keeps.tr h9 (Keeps.mono rfl (appendPart_fr ..))
    · exact h9
  try clear_value x10
  refine Keeps.ite ?_ ?_
  · exact Keeps.tr h11 (Keeps.mono rfl (appendPart_fr ..))
  · exact h11

theorem publishVirtual_fr (a0) (a1) (s : State) : Keeps 73 s (publishVirtual a0 a1 s) := by
  unfold publishVirtual
  refine Keeps.ite ?_ ?_
  · extract_lets +onlyGivenNames -merge -useContext x1
    try clear_value x1
    extract_lets +onlyGivenNames -merge -useContext x2
    try clear_value x2
    extract_lets +onlyGivenNames -merge -useContext x3
    try clear_value x3
    exact Keeps.mono rfl (publish_fr ..)
  · exact Keeps.refl _ _

theorem judgePlaus_fr (a0) (a1) (s : State) : Keeps 65 s (judgePlaus a0 a1 s) := by
  unfold judgePlaus
  refine Keeps.ite ?_ ?_
  · extract_lets +onlyGivenNames -merge -useContext x1
    have h2 : Keeps 65 s x1 := by
      unfold x1
      refine Keeps.tr ?_ (Keeps.mono rfl (State_bump_fr ..))
      refine Keeps.tr ?_ (Keeps.mono rfl (State_setB_fr ..))
      exact Keeps.mono rfl (State_setB_fr ..)
    try clear_value x1
    exact Keeps.tr h2 (Keeps.mono rfl (Keeps.put_rq _ _))
  · extract_lets +onlyGivenNames -merge -useContext x3
    try clear_value x3
    extract_lets +onlyGivenNames -merge -useContext y4 x5
    have h6 : Keeps 65 s x5 := by
      unfold x5
      exact Keeps.mono rfl (Keeps.put_rq _ _)
    try clear_value x5
    refine Keeps.ite ?_ ?_
    · exact Keeps.tr h6 (Keeps.mono rfl (State_setB_fr ..))
    · exact h6

theorem compareShared_fr (a0) (a1) (a2) (s : State) : Keeps 65 s (compareShared a0 a1 a2 s) := by
  unfold compareShared
  extract_lets +onlyGivenNames -merge -useContext x1
  try clear_value x1
  refine Keeps.ite ?_ ?_
  · exact Keeps.refl _ _
  · split
    · refine Keeps.ite ?_ ?_
      · exact Keeps.mono rfl (judgePlaus_fr ..)
      · exact Keeps.mono rfl (State_bump_fr ..)
    · exact Keeps.mono rfl (State_bump_fr ..)

theorem deliver_fr (a0) (a1) (a2) (a3) (a4) (a5) (s : State) : Keeps 73 s (deliver a0 a1 a2 a3 a4 a5 s) := by
  unfold deliver
  extract_lets +onlyGivenNames -merge -useContext y1 x2
  have h3 : Keeps 73 s x2 := by
    unfold x2
    refine Keeps.ite ?_ ?_
    · exact Keeps.mono rfl (Keeps.put_rq _ _)
    · refine Keeps.ite ?_ ?_
      · exact Keeps.mono rfl (compareShared_fr ..)
      · exact Keeps.refl _ _
  try clear_value x2
  extract_lets +onlyGivenNames -merge -useContext x4
  try clear_value x4
  refine Keeps.ite ?_ ?_
  · extract_lets +onlyGivenNames -merge -useContext x5
    try clear_value x5
    refine Keeps.ite ?_ ?_
    · exact Keeps.tr h3 (Keeps.mono rfl (State_setB_fr ..))
    · exact Keeps.tr h3 (Keeps.mono rfl (publish_fr ..))
  · exact h3

theorem queueArrival_fr (a0) (s : State) : Keeps 73 s (queueArrival a0 s) := by
  unfold queueArrival
  extract_lets +onlyGivenNames -merge -useContext x1
  try clear_value x1
  extract_lets +onlyGivenNames -merge -useContext x2
  try clear_value x2
  refine Keeps.ite ?_ ?_
  · refine Keeps.ite ?_ ?_
    · exact Keeps.mono rfl (publishVirtual_fr ..)
    · exact Keeps.refl _ _
  · refine Keeps.ite ?_ ?_
    · extract_lets +onlyGivenNames -merge -useContext x3
      try clear_value x3
      extract_lets +onlyGivenNames -merge -useContext x4
      try clear_value x4
      extract_lets +onlyGivenNames -merge -useContext x5
      try clear_value x5
      extract_lets +onlyGivenNames -merge -useContext x6
      try clear_value x6
      extract_lets +onlyGivenNames -merge -useContext x7
      try clear_value x7
      extract_lets +onlyGivenNames -merge -useContext x8
      try clear_value x8
      extract_lets +onlyGivenNames -merge -useContext x9
      try clear_value x9
      exact Keeps.mono rfl (deliver_fr ..)
    · extract_lets +onlyGivenNames -merge -useContext x10
      try clear_value x10
      exact Keeps.mono rfl (deliver_fr ..)

theorem takeRank_fr (p : Packet) (r : Nat) : ∀ (n : Nat) (s : State), Keeps 75 s (takeRank p r n s)
  | 0, s => Keeps.refl _ s
  | n + 1, s => by
    unfold takeRank
    split
    · refine Keeps.tr ?_ (takeRank_fr p r n _)
      exact Keeps.tr (Keeps.tr (Keeps.mono rfl (Keeps.put_fab s _)) (Keeps.mono rfl (sinkTag_fr ..))) (Keeps.mono rfl (queueArrival_fr ..))
    · exact Keeps.refl _ s

theorem execResultArrival_fr (a0) (s : State) : KeepsOut 75 s (execResultArrival a0 s) := by
  unfold execResultArrival
  split
  · rename_i y3 y4 e2
    have h1 : Keeps 75 s y4 := by
      exact Keeps.mono rfl (takePacket_fr e2)
    refine KeepsOut.next ?_
    refine Keeps.ite ?_ ?_
    · refine Keeps.tr ?_ (Keeps.mono rfl (queueArrival_fr ..))
      refine Keeps.tr ?_ (forRange_fr _ _ (fun iz5 sz5 => ?_) _)
      · exact h1
      · exact Keeps.mono rfl (takeRank_fr ..)
    · exact h1
  · refine KeepsOut.next ?_
    exact Keeps.refl _ _

theorem ageEntry_fr (a0) (s : State) : Keeps 1 s (ageEntry a0 s) := by
  unfold ageEntry
  extract_lets +onlyGivenNames -merge -useContext x1
  try clear_value x1
  extract_lets +onlyGivenNames -merge -useContext x2
  try clear_value x2
  refine Keeps.ite ?_ ?_
  · exact Keeps.mono rfl (State_setReg_fr ..)
  · exact Keeps.refl _ _

theorem execAgedSweep_fr (s : State) : KeepsOut 1 s (execAgedSweep s) := by
  unfold execAgedSweep
  refine KeepsOut.next ?_
  refine Keeps.ite ?_ ?_
  · refine Keeps.tr ?_ (forRange_fr _ _ (fun iz1 sz1 => ?_) _)
    · exact Keeps.refl _ _
    · exact Keeps.mono rfl (ageEntry_fr ..)
  · exact Keeps.refl _ _

theorem lvtLowRead_fr (a0) (a1) (s : State) : Keeps 64 s (lvtLowRead a0 a1 s) := by
  unfold lvtLowRead
  exact Keeps.mono rfl (Keeps.put_rq _ _)

theorem execLvtLowRead_fr (a0) (a1) (s : State) : KeepsOut 64 s (execLvtLowRead a0 a1 s) := by
  unfold execLvtLowRead
  refine KeepsOut.next ?_
  refine Keeps.ite ?_ ?_
  · exact Keeps.mono rfl (lvtLowRead_fr ..)
  · exact Keeps.refl _ _

theorem settlePoint_fr {m n : Nat} {b s t : State} (hm : 1 &&& m = 1) (hs : Keeps m b s) (ht : Keeps m b t) :
    Keeps m b (settlePoint n s t) := by
  unfold settlePoint
  refine Keeps.ite ht ?_
  exact Keeps.tr hs (Keeps.mono hm (State_setB_fr ..))

end Sys2Proof.Machine
end

