-- ==== Sys2Proof/Laws/FrameInputs.lean ====
section
/-! SUPPORT. Sys2Proof/Laws/FrameInputs.lean: for each operation of Machine/Inputs.lean, what it leaves (Laws/Frame.lean). -/

namespace Sys2Proof.Machine

open Sys2Proof

theorem setInput_fr (a0) (a1) (s : State) : Keeps 16 s (setInput a0 a1 s) := by
  unfold setInput
  exact Keeps.mono rfl (Keeps.put_inp _ _)

theorem setPir_fr (a0) (a1) (s : State) : Keeps 16 s (setPir a0 a1 s) := by
  unfold setPir
  exact Keeps.mono rfl (Keeps.put_inp _ _)

theorem leavePyro_fr (a0) (s : State) : Keeps 17 s (leavePyro a0 s) := by
  unfold leavePyro
  extract_lets +onlyGivenNames -merge -useContext x1
  try clear_value x1
  extract_lets +onlyGivenNames -merge -useContext y2 y3 x4
  have h5 : Keeps 17 s x4 := by
    unfold x4
    exact Keeps.mono rfl (Keeps.put_inp _ _)
  try clear_value x4
  refine Keeps.tr ?_ (Keeps.mono rfl (State_setB_fr ..))
  refine Keeps.tr ?_ (Keeps.mono rfl (State_setB_fr ..))
  exact Keeps.tr h5 (Keeps.mono rfl (State_setB_fr ..))

theorem enterMode_fr (a0) (a1) (a2) (s : State) : Keeps 17 s (enterMode a0 a1 a2 s) := by
  unfold enterMode
  extract_lets +onlyGivenNames -merge -useContext x1
  try clear_value x1
  extract_lets +onlyGivenNames -merge -useContext x2
  try clear_value x2
  extract_lets +onlyGivenNames -merge -useContext x3
  try clear_value x3
  extract_lets +onlyGivenNames -merge -useContext x4
  try clear_value x4
  extract_lets +onlyGivenNames -merge -useContext x5
  have h6 : Keeps 17 s x5 := by
    unfold x5
    exact Keeps.mono rfl (setInput_fr ..)
  try clear_value x5
  extract_lets +onlyGivenNames -merge -useContext x7
  have h8 : Keeps 17 s x7 := by
    unfold x7
    refine Keeps.ite ?_ ?_
    · exact Keeps.tr h6 (Keeps.mono rfl (leavePyro_fr ..))
    · exact h6
  try clear_value x7
  refine Keeps.ite ?_ ?_
  · refine Keeps.tr ?_ (Keeps.mono rfl (State_setB_fr ..))
    refine Keeps.tr ?_ (Keeps.mono rfl (State_setB_fr ..))
    refine Keeps.tr ?_ (Keeps.mono rfl (State_setB_fr ..))
    refine Keeps.tr ?_ (Keeps.mono rfl (State_setB_fr ..))
    exact Keeps.tr h8 (Keeps.mono rfl (State_setB_fr ..))
  · exact h8

theorem settleMode_fr (a0) (s : State) : Keeps 17 s (settleMode a0 s) := by
  unfold settleMode
  split
  · refine Keeps.ite ?_ ?_
    · exact Keeps.mono rfl (enterMode_fr ..)
    · exact Keeps.refl _ _
  · exact Keeps.refl _ _

theorem freshMode_fr (a0) (a1) (a2) (s : State) : Keeps 17 s (freshMode a0 a1 a2 s) := by
  unfold freshMode
  extract_lets +onlyGivenNames -merge -useContext x1
  try clear_value x1
  extract_lets +onlyGivenNames -merge -useContext x2
  have h3 : Keeps 17 s x2 := by
    unfold x2
    exact Keeps.mono rfl (State_setF_fr ..)
  try clear_value x2
  split
  · refine Keeps.ite ?_ ?_
    · exact Keeps.tr h3 (Keeps.mono rfl (setInput_fr ..))
    · exact Keeps.tr h3 (Keeps.mono rfl (enterMode_fr ..))
  · exact Keeps.tr h3 (Keeps.mono rfl (enterMode_fr ..))

theorem tripInput_fr (a0) (a1) (s : State) : Keeps 17 s (tripInput a0 a1 s) := by
  unfold tripInput
  extract_lets +onlyGivenNames -merge -useContext x1
  try clear_value x1
  extract_lets +onlyGivenNames -merge -useContext x2
  have h3 : Keeps 17 s x2 := by
    unfold x2
    refine Keeps.tr ?_ (Keeps.mono rfl (State_bump_fr ..))
    refine Keeps.tr ?_ (Keeps.mono rfl (State_setB_fr ..))
    refine Keeps.tr ?_ (Keeps.mono rfl (State_setB_fr ..))
    exact Keeps.mono rfl (State_setB_fr ..)
  try clear_value x2
  extract_lets +onlyGivenNames -merge -useContext x4
  have h5 : Keeps 17 s x4 := by
    unfold x4
    refine Keeps.ite ?_ ?_
    · exact Keeps.tr h3 (Keeps.mono rfl (State_setB_fr ..))
    · exact h3
  try clear_value x4
  exact Keeps.tr h5 (Keeps.mono rfl (setInput_fr ..))

theorem execInputTrip_fr (a0) (s : State) : KeepsOut 17 s (execInputTrip a0 s) := by
  unfold execInputTrip
  extract_lets +onlyGivenNames -merge -useContext x1
  have h2 : Keeps 17 s x1 := by
    unfold x1
    exact Keeps.mono rfl (settleMode_fr ..)
  try clear_value x1
  refine KeepsOut.next ?_
  refine Keeps.ite ?_ ?_
  · exact Keeps.tr h2 (Keeps.mono rfl (tripInput_fr ..))
  · exact h2

theorem execCurrLimitTrip_fr (a0) (s : State) : KeepsOut 17 s (execCurrLimitTrip a0 s) := by
  unfold execCurrLimitTrip
  extract_lets +onlyGivenNames -merge -useContext x1
  have h2 : Keeps 17 s x1 := by
    unfold x1
    exact Keeps.mono rfl (settleMode_fr ..)
  try clear_value x1
  refine KeepsOut.next ?_
  refine Keeps.ite ?_ ?_
  · exact Keeps.tr h2 (Keeps.mono rfl (tripInput_fr ..))
  · exact h2

theorem closeSwitch_fr (a0) (s : State) : Keeps 17 s (closeSwitch a0 s) := by
  unfold closeSwitch
  extract_lets +onlyGivenNames -merge -useContext x1
  have h2 : Keeps 17 s x1 := by
    unfold x1
    refine Keeps.tr ?_ (Keeps.mono rfl (State_setB_fr ..))
    exact Keeps.mono rfl (State_setB_fr ..)
  try clear_value x1
  exact Keeps.tr h2 (Keeps.mono rfl (setInput_fr ..))

theorem retestCurrent_fr (a0) (a1) (s : State) : Keeps 524305 s (retestCurrent a0 a1 s) := by
  unfold retestCurrent
  extract_lets +onlyGivenNames -merge -useContext x1
  try clear_value x1
  extract_lets +onlyGivenNames -merge -useContext y2 x3
  have h4 : Keeps 524305 s x3 := by
    unfold x3
    refine Keeps.tr ?_ (Keeps.mono rfl (State_advTo_fr ..))
    exact Keeps.mono rfl (setInput_fr ..)
  try clear_value x3
  refine Keeps.ite ?_ ?_
  · exact Keeps.tr h4 (Keeps.mono rfl (closeSwitch_fr ..))
  · exact h4

theorem retestPin_fr (a0) (a1) (s : State) : Keeps 524305 s (retestPin a0 a1 s) := by
  unfold retestPin
  extract_lets +onlyGivenNames -merge -useContext x1
  try clear_value x1
  extract_lets +onlyGivenNames -merge -useContext y2 x3
  have h4 : Keeps 524305 s x3 := by
    unfold x3
    refine Keeps.tr ?_ (Keeps.mono rfl (State_advTo_fr ..))
    exact Keeps.mono rfl (setInput_fr ..)
  try clear_value x3
  refine Keeps.ite ?_ ?_
  · refine Keeps.ite ?_ ?_
    · exact Keeps.tr h4 (Keeps.mono rfl (closeSwitch_fr ..))
    · exact Keeps.tr h4 (Keeps.mono rfl (setInput_fr ..))
  · exact Keeps.tr h4 (Keeps.mono rfl (setInput_fr ..))

theorem firstCheck_fr (a0) (a1) (s : State) : Keeps 17 s (firstCheck a0 a1 s) := by
  unfold firstCheck
  refine Keeps.ite ?_ ?_
  · exact Keeps.mono rfl (setInput_fr ..)
  · exact Keeps.mono rfl (tripInput_fr ..)

theorem execIsolRetest_fr (a0) (a1) (s : State) : KeepsOut 524305 s (execIsolRetest a0 a1 s) := by
  unfold execIsolRetest
  extract_lets +onlyGivenNames -merge -useContext x1
  have h2 : Keeps 524305 s x1 := by
    unfold x1
    exact Keeps.mono rfl (settleMode_fr ..)
  try clear_value x1
  refine KeepsOut.next ?_
  refine Keeps.ite ?_ ?_
  · exact h2
  · refine Keeps.ite ?_ ?_
    · refine Keeps.ite ?_ ?_
      · exact Keeps.tr h2 (Keeps.mono rfl (retestCurrent_fr ..))
      · exact Keeps.tr h2 (Keeps.mono rfl (retestPin_fr ..))
    · refine Keeps.ite ?_ ?_
      · exact Keeps.tr h2 (Keeps.mono rfl (firstCheck_fr ..))
      · exact h2

theorem execOvrClear_fr (a0) (s : State) : KeepsOut 524305 s (execOvrClear a0 s) := by
  unfold execOvrClear
  split
  · refine KeepsOut.ite ?_ ?_
    · refine KeepsOut.next ?_
      exact Keeps.refl _ _
    · refine KeepsOut.next ?_
      refine Keeps.tr ?_ (Keeps.mono rfl (setInput_fr ..))
      refine Keeps.tr ?_ (Keeps.mono rfl (State_setB_fr ..))
      exact Keeps.mono rfl (State_advTo_fr ..)
  · refine KeepsOut.next ?_
    exact Keeps.refl _ _

theorem dryReading_fr (a0) (a1) (s : State) : Keeps 16 s (dryReading a0 a1 s) := by
  unfold dryReading
  extract_lets +onlyGivenNames -merge -useContext x1
  try clear_value x1
  extract_lets +onlyGivenNames -merge -useContext x2
  try clear_value x2
  extract_lets +onlyGivenNames -merge -useContext x3
  try clear_value x3
  extract_lets +onlyGivenNames -merge -useContext x4
  try clear_value x4
  extract_lets +onlyGivenNames -merge -useContext x5
  try clear_value x5
  exact Keeps.mono rfl (setInput_fr ..)

theorem execDryRead_fr (a0) (a1) (s : State) : KeepsOut 524305 s (execDryRead a0 a1 s) := by
  unfold execDryRead
  extract_lets +onlyGivenNames -merge -useContext x1
  have h2 : Keeps 524305 s x1 := by
    unfold x1
    exact Keeps.mono rfl (settleMode_fr ..)
  try clear_value x1
  refine KeepsOut.next ?_
  refine Keeps.ite ?_ ?_
  · refine Keeps.tr ?_ (Keeps.mono rfl (dryReading_fr ..))
    exact Keeps.tr h2 (Keeps.mono rfl (State_advTo_fr ..))
  · exact h2

theorem pulseLevel_fr (a0) (a1) (s : State) : Keeps 16 s (pulseLevel a0 a1 s) := by
  unfold pulseLevel
  extract_lets +onlyGivenNames -merge -useContext x1
  try clear_value x1
  extract_lets +onlyGivenNames -merge -useContext x2
  try clear_value x2
  split
  · exact Keeps.mono rfl (setInput_fr ..)
  · refine Keeps.ite ?_ ?_
    · exact Keeps.mono rfl (setInput_fr ..)
    · refine Keeps.ite ?_ ?_
      · extract_lets +onlyGivenNames -merge -useContext x3
        have h4 : Keeps 16 s x3 := by
          unfold x3
          exact Keeps.mono rfl (setInput_fr ..)
        try clear_value x3
        extract_lets +onlyGivenNames -merge -useContext x5
        try clear_value x5
        exact Keeps.tr h4 (Keeps.mono rfl (Keeps.put_inp _ _))
      · exact Keeps.mono rfl (setInput_fr ..)

theorem execPulseEdge_fr (a0) (a1) (s : State) : KeepsOut 17 s (execPulseEdge a0 a1 s) := by
  unfold execPulseEdge
  extract_lets +onlyGivenNames -merge -useContext x1
  have h2 : Keeps 17 s x1 := by
    unfold x1
    exact Keeps.mono rfl (settleMode_fr ..)
  try clear_value x1
  refine KeepsOut.next ?_
  refine Keeps.ite ?_ ?_
  · exact Keeps.tr h2 (Keeps.mono rfl (pulseLevel_fr ..))
  · exact h2

theorem sendReport_fr (a0) (s : State) : Keeps 19 s (sendReport a0 s) := by
  unfold sendReport
  extract_lets +onlyGivenNames -merge -useContext x1
  try clear_value x1
  extract_lets +onlyGivenNames -merge -useContext x2
  try clear_value x2
  extract_lets +onlyGivenNames -merge -useContext x3
  try clear_value x3
  extract_lets +onlyGivenNames -merge -useContext x4
  have h5 : Keeps 19 s x4 := by
    unfold x4
    exact Keeps.mono rfl (setInput_fr ..)
  try clear_value x4
  exact Keeps.tr h5 (Keeps.mono rfl (sendStream_fr ..))

theorem execStageReport_fr (a0) (s : State) : KeepsOut 524307 s (execStageReport a0 s) := by
  unfold execStageReport
  extract_lets +onlyGivenNames -merge -useContext x1
  have h2 : Keeps 524307 s x1 := by
    unfold x1
    exact Keeps.mono rfl (settleMode_fr ..)
  try clear_value x1
  extract_lets +onlyGivenNames -merge -useContext x3
  try clear_value x3
  refine KeepsOut.next ?_
  refine Keeps.ite ?_ ?_
  · refine Keeps.ite ?_ ?_
    · exact Keeps.tr h2 (Keeps.mono rfl (sendReport_fr ..))
    · refine Keeps.tr ?_ (Keeps.mono rfl (sendReport_fr ..))
      exact Keeps.tr h2 (Keeps.mono rfl (State_advTo_fr ..))
  · exact h2

theorem countExcursion_fr (a0) (s : State) : Keeps 17 s (countExcursion a0 s) := by
  unfold countExcursion
  extract_lets +onlyGivenNames -merge -useContext x1
  try clear_value x1
  extract_lets +onlyGivenNames -merge -useContext x2
  try clear_value x2
  extract_lets +onlyGivenNames -merge -useContext x3
  try clear_value x3
  extract_lets +onlyGivenNames -merge -useContext x4
  try clear_value x4
  extract_lets +onlyGivenNames -merge -useContext x5
  try clear_value x5
  extract_lets +onlyGivenNames -merge -useContext x6
  have h7 : Keeps 17 s x6 := by
    unfold x6
    exact Keeps.mono rfl (setPir_fr ..)
  try clear_value x6
  refine Keeps.ite ?_ ?_
  · extract_lets +onlyGivenNames -merge -useContext x8
    have h9 : Keeps 17 s x8 := by
      unfold x8
      refine Keeps.tr ?_ (Keeps.mono rfl (State_bump_fr ..))
      exact Keeps.tr h7 (Keeps.mono rfl (State_setB_fr ..))
    try clear_value x8
    exact Keeps.tr h9 (Keeps.mono rfl (setInput_fr ..))
  · exact h7

theorem biasSeen_fr (a0) (a1) (s : State) : Keeps 1 s (biasSeen a0 a1 s) := by
  unfold biasSeen
  exact Keeps.mono rfl (State_setB_fr ..)

theorem pirObserve_fr (a0) (a1) (s : State) : Keeps 17 s (pirObserve a0 a1 s) := by
  unfold pirObserve
  extract_lets +onlyGivenNames -merge -useContext x1
  try clear_value x1
  extract_lets +onlyGivenNames -merge -useContext x2
  try clear_value x2
  extract_lets +onlyGivenNames -merge -useContext x3
  try clear_value x3
  extract_lets +onlyGivenNames -merge -useContext x4
  have h5 : Keeps 17 s x4 := by
    unfold x4
    exact Keeps.mono rfl (State_setB_fr ..)
  try clear_value x4
  extract_lets +onlyGivenNames -merge -useContext y6 x7
  have h8 : Keeps 17 s x7 := by
    unfold x7
    refine Keeps.ite ?_ ?_
    · exact Keeps.tr h5 (Keeps.mono rfl (setPir_fr ..))
    · exact h5
  try clear_value x7
  extract_lets +onlyGivenNames -merge -useContext x9
  try clear_value x9
  extract_lets +onlyGivenNames -merge -useContext x10
  try clear_value x10
  refine Keeps.ite ?_ ?_
  · exact Keeps.tr h8 (Keeps.mono rfl (countExcursion_fr ..))
  · exact h8

theorem execPirExcursion_fr (a0) (a1) (a2) (s : State) : KeepsOut 17 s (execPirExcursion a0 a1 a2 s) := by
  unfold execPirExcursion
  extract_lets +onlyGivenNames -merge -useContext x1
  have h2 : Keeps 17 s x1 := by
    unfold x1
    exact Keeps.mono rfl (settleMode_fr ..)
  try clear_value x1
  refine KeepsOut.next ?_
  refine Keeps.ite ?_ ?_
  · extract_lets +onlyGivenNames -merge -useContext x3
    have h4 : Keeps 17 s x3 := by
      unfold x3
      exact Keeps.tr h2 (Keeps.mono rfl (biasSeen_fr ..))
    try clear_value x3
    refine Keeps.ite ?_ ?_
    · exact Keeps.tr h4 (Keeps.mono rfl (pirObserve_fr ..))
    · exact h4
  · exact h2

theorem execPirHoldExpiry_fr (a0) (s : State) : KeepsOut 524305 s (execPirHoldExpiry a0 s) := by
  unfold execPirHoldExpiry
  split
  · extract_lets +onlyGivenNames -merge -useContext y1 x2
    have h3 : Keeps 524305 s x2 := by
      unfold x2
      refine Keeps.tr ?_ (Keeps.mono rfl (State_setB_fr ..))
      refine Keeps.tr ?_ (Keeps.mono rfl (setPir_fr ..))
      exact Keeps.mono rfl (State_advTo_fr ..)
    try clear_value x2
    refine KeepsOut.next ?_
    exact Keeps.tr h3 (Keeps.mono rfl (setInput_fr ..))
  · refine KeepsOut.next ?_
    exact Keeps.refl _ _

theorem execPirWarmupEnd_fr (a0) (s : State) : KeepsOut 524305 s (execPirWarmupEnd a0 s) := by
  unfold execPirWarmupEnd
  split
  · refine KeepsOut.next ?_
    refine Keeps.tr ?_ (Keeps.mono rfl (State_setB_fr ..))
    refine Keeps.tr ?_ (Keeps.mono rfl (setPir_fr ..))
    exact Keeps.mono rfl (State_advTo_fr ..)
  · refine KeepsOut.next ?_
    exact Keeps.refl _ _

theorem execPirSatResume_fr (a0) (s : State) : KeepsOut 524304 s (execPirSatResume a0 s) := by
  unfold execPirSatResume
  split
  · refine KeepsOut.next ?_
    refine Keeps.tr ?_ (Keeps.mono rfl (setPir_fr ..))
    exact Keeps.mono rfl (State_advTo_fr ..)
  · refine KeepsOut.next ?_
    exact Keeps.refl _ _

theorem pirWarm_fr (a0) (s : State) : Keeps 17 s (pirWarm a0 s) := by
  unfold pirWarm
  extract_lets +onlyGivenNames -merge -useContext y1 x2
  have h3 : Keeps 17 s x2 := by
    unfold x2
    exact Keeps.mono rfl (setInput_fr ..)
  try clear_value x2
  extract_lets +onlyGivenNames -merge -useContext y4 x5
  have h6 : Keeps 17 s x5 := by
    unfold x5
    exact Keeps.tr h3 (Keeps.mono rfl (setPir_fr ..))
  try clear_value x5
  refine Keeps.tr ?_ (Keeps.mono rfl (State_setB_fr ..))
  exact Keeps.tr h6 (Keeps.mono rfl (State_setB_fr ..))

theorem pircfgWrite_fr (a0) (a1) (s : State) : Keeps 17 s (pircfgWrite a0 a1 s) := by
  unfold pircfgWrite
  extract_lets +onlyGivenNames -merge -useContext x1
  try clear_value x1
  extract_lets +onlyGivenNames -merge -useContext x2
  have h3 : Keeps 17 s x2 := by
    unfold x2
    exact Keeps.mono rfl (plainWrite_fr ..)
  try clear_value x2
  refine Keeps.ite ?_ ?_
  · exact Keeps.tr h3 (Keeps.mono rfl (pirWarm_fr ..))
  · exact h3

end Sys2Proof.Machine
end

