-- ==== Sys2Proof/Laws/FrameConverters.lean ====
section
/-! SUPPORT. Sys2Proof/Laws/FrameConverters.lean: for each operation of Machine/Converters.lean, what it leaves (Laws/Frame.lean). -/

namespace Sys2Proof.Machine

open Sys2Proof

theorem setCnv_fr (a0) (a1) (s : State) : Keeps 32 s (setCnv a0 a1 s) := by
  unfold setCnv
  exact Keeps.mono rfl (Keeps.put_cnv _ _)

theorem convert_fr (a0) (a1) (a2) (s : State) : Keeps 1048576 s (convert a0 a1 a2 s).2 := by
  unfold convert
  extract_lets +onlyGivenNames -merge -useContext x1
  try clear_value x1
  extract_lets +onlyGivenNames -merge -useContext x2
  try clear_value x2
  extract_lets +onlyGivenNames -merge -useContext x3
  try clear_value x3
  refine Keeps.ite2 ?_ ?_
  · extract_lets +onlyGivenNames -merge -useContext x4
    have h5 : Keeps 1048576 s x4.2 := by
      unfold x4
      exact Keeps.mono rfl (State_draw_fr ..)
    try clear_value x4
    extract_lets +onlyGivenNames -merge -useContext x6
    try clear_value x6
    refine Keeps.pair ?_
    exact h5
  · refine Keeps.ite2 ?_ ?_
    · extract_lets +onlyGivenNames -merge -useContext x7
      try clear_value x7
      extract_lets +onlyGivenNames -merge -useContext x8
      try clear_value x8
      refine Keeps.pair ?_
      exact Keeps.refl _ _
    · extract_lets +onlyGivenNames -merge -useContext x9
      try clear_value x9
      refine Keeps.pair ?_
      exact Keeps.refl _ _

theorem convertAll_fr (c : Nat) (lo : EntryRun) : ∀ (l : List (Sample × Nat)) (s : State), Keeps 1048576 s (convertAll c lo l s).2
  | [], s => Keeps.refl _ s
  | p :: t, s => Keeps.tr (Keeps.mono rfl (convert_fr c lo p s)) (convertAll_fr c lo t _)

theorem stageJudge_fr (a0) (a1) (a2) (a3) (s : State) : Keeps 1 s (stageJudge a0 a1 a2 a3 s) := by
  unfold stageJudge
  split
  · exact Keeps.refl _ _
  · extract_lets +onlyGivenNames -merge -useContext x1
    try clear_value x1
    extract_lets +onlyGivenNames -merge -useContext x2
    try clear_value x2
    extract_lets +onlyGivenNames -merge -useContext x3
    try clear_value x3
    extract_lets +onlyGivenNames -merge -useContext x4
    try clear_value x4
    extract_lets +onlyGivenNames -merge -useContext x5
    have h6 : Keeps 1 s x5 := by
      unfold x5
      exact Keeps.mono rfl (State_setB_fr ..)
    try clear_value x5
    extract_lets +onlyGivenNames -merge -useContext x7
    have h8 : Keeps 1 s x7 := by
      unfold x7
      refine Keeps.ite ?_ ?_
      · exact Keeps.tr h6 (Keeps.mono rfl (State_setB_fr ..))
      · exact h6
    try clear_value x7
    exact Keeps.tr h8 (Keeps.mono rfl (State_setB_fr ..))

theorem settleInputs_fr (a0) (s : State) : Keeps 17 s (settleInputs a0 s) := by
  unfold settleInputs
  refine Keeps.ite ?_ ?_
  · refine Keeps.tr ?_ (forEach_fr _ _ (fun iz1 sz1 => ?_) _)
    · exact Keeps.refl _ _
    · exact Keeps.mono rfl (settleMode_fr ..)
  · exact Keeps.refl _ _

theorem runEntry_fr (a0) (a1) (a2) (a3) (s : State) : Keeps 1572915 s (runEntry a0 a1 a2 a3 s) := by
  unfold runEntry
  extract_lets +onlyGivenNames -merge -useContext x1
  try clear_value x1
  extract_lets +onlyGivenNames -merge -useContext x2
  try clear_value x2
  extract_lets +onlyGivenNames -merge -useContext x3
  try clear_value x3
  extract_lets +onlyGivenNames -merge -useContext x4
  try clear_value x4
  extract_lets +onlyGivenNames -merge -useContext x5
  try clear_value x5
  extract_lets +onlyGivenNames -merge -useContext x6
  have h7 : Keeps 1572915 s x6 := by
    unfold x6
    exact Keeps.mono rfl (setCnv_fr ..)
  try clear_value x6
  extract_lets +onlyGivenNames -merge -useContext x8
  have h9 : Keeps 1572915 s x8 := by
    unfold x8
    exact Keeps.tr h7 (Keeps.mono rfl (State_advTo_fr ..))
  try clear_value x8
  refine Keeps.ite ?_ ?_
  · exact Keeps.tr h9 (Keeps.mono rfl (settleInputs_fr ..))
  · extract_lets +onlyGivenNames -merge -useContext x10
    try clear_value x10
    extract_lets +onlyGivenNames -merge -useContext x11
    have h12 : Keeps 1572915 s x11.2 := by
      unfold x11
      exact Keeps.tr h9 (Keeps.mono rfl (convertAll_fr ..))
    try clear_value x11
    extract_lets +onlyGivenNames -merge -useContext x13
    have h14 : Keeps 1572915 s x13 := by
      unfold x13
      exact Keeps.tr h12 (Keeps.mono rfl (stageJudge_fr ..))
    try clear_value x13
    extract_lets +onlyGivenNames -merge -useContext x15
    try clear_value x15
    refine Keeps.tr ?_ (Keeps.mono rfl (settleInputs_fr ..))
    exact Keeps.tr h14 (Keeps.mono rfl (sendResult_fr ..))

theorem setUrgent_fr (a0) (a1) (s : State) : Keeps 33 s (setUrgent a0 a1 s) := by
  unfold setUrgent
  refine Keeps.tr ?_ (Keeps.mono rfl (State_setF_fr ..))
  exact Keeps.mono rfl (setCnv_fr ..)

theorem urgLost_fr (a0) (s : State) : Keeps 1 s (urgLost a0 s) := by
  unfold urgLost
  exact Keeps.mono rfl (State_setB_fr ..)

theorem takeRun_fr (a0) (a1) (a2) (a3) (s : State) : Keeps 33 s (takeRun a0 a1 a2 a3 s) := by
  unfold takeRun
  extract_lets +onlyGivenNames -merge -useContext x1
  try clear_value x1
  refine Keeps.tr ?_ (Keeps.mono rfl (State_setF_fr ..))
  exact Keeps.mono rfl (setCnv_fr ..)

theorem closePass_fr (a0) (s : State) : Keeps 32 s (closePass a0 s) := by
  unfold closePass
  exact Keeps.mono rfl (setCnv_fr ..)

theorem passOn_fr (a0) (a1) (s : State) : Keeps 33 s (passOn a0 a1 s) := by
  unfold passOn
  split
  · exact Keeps.mono rfl (takeRun_fr ..)
  · exact Keeps.mono rfl (closePass_fr ..)
  · split
    · exact Keeps.mono rfl (takeRun_fr ..)
    · exact Keeps.mono rfl (closePass_fr ..)

theorem lookAhead_fr (a0) (s : State) : Keeps 32 s (lookAhead a0 s) := by
  unfold lookAhead
  extract_lets +onlyGivenNames -merge -useContext x1
  try clear_value x1
  split
  · refine Keeps.ite ?_ ?_
    · exact Keeps.refl _ _
    · split
      · extract_lets +onlyGivenNames -merge -useContext x2
        try clear_value x2
        refine Keeps.ite ?_ ?_
        · exact Keeps.mono rfl (setCnv_fr ..)
        · exact Keeps.refl _ _
      · exact Keeps.refl _ _
  · exact Keeps.refl _ _

theorem startUrgent_fr (a0) (a1) (a2) (s : State) : Keeps 33 s (startUrgent a0 a1 a2 s) := by
  unfold startUrgent
  extract_lets +onlyGivenNames -merge -useContext x1
  try clear_value x1
  split
  · exact Keeps.refl _ _
  · extract_lets +onlyGivenNames -merge -useContext x2
    try clear_value x2
    extract_lets +onlyGivenNames -merge -useContext x3
    try clear_value x3
    refine Keeps.tr ?_ (Keeps.mono rfl (State_setF_fr ..))
    refine Keeps.tr ?_ (Keeps.mono rfl (setUrgent_fr ..))
    exact Keeps.mono rfl (setCnv_fr ..)

theorem catchUp_fr (a0) (s : State) : Keeps 33 s (catchUp a0 s) := by
  unfold catchUp
  split
  · refine Keeps.ite ?_ ?_
    · exact Keeps.mono rfl (startUrgent_fr ..)
    · exact Keeps.mono rfl (lookAhead_fr ..)
  · exact Keeps.mono rfl (lookAhead_fr ..)

theorem dropUrgent_fr (a0) (a1) (s : State) : Keeps 33 s (dropUrgent a0 a1 s) := by
  unfold dropUrgent
  extract_lets +onlyGivenNames -merge -useContext x1
  try clear_value x1
  extract_lets +onlyGivenNames -merge -useContext x2
  have h3 : Keeps 33 s x2 := by
    unfold x2
    refine Keeps.ite ?_ ?_
    · exact Keeps.refl _ _
    · exact Keeps.mono rfl (urgLost_fr ..)
  try clear_value x2
  exact Keeps.tr h3 (Keeps.mono rfl (setUrgent_fr ..))

theorem startPass_fr (a0) (a1) (s : State) : Keeps 33 s (startPass a0 a1 s) := by
  unfold startPass
  extract_lets +onlyGivenNames -merge -useContext x1
  try clear_value x1
  extract_lets +onlyGivenNames -merge -useContext x2
  try clear_value x2
  extract_lets +onlyGivenNames -merge -useContext x3
  have h4 : Keeps 33 s x3 := by
    unfold x3
    exact Keeps.mono rfl (State_setF_fr ..)
  try clear_value x3
  extract_lets +onlyGivenNames -merge -useContext x5
  try clear_value x5
  extract_lets +onlyGivenNames -merge -useContext x6
  have h7 : Keeps 33 s x6 := by
    unfold x6
    exact Keeps.tr h4 (Keeps.mono rfl (setCnv_fr ..))
  try clear_value x6
  extract_lets +onlyGivenNames -merge -useContext x8
  have h9 : Keeps 33 s x8 := by
    unfold x8
    exact Keeps.tr h7 (Keeps.mono rfl (dropUrgent_fr ..))
  try clear_value x8
  split
  · exact Keeps.tr h9 (Keeps.mono rfl (takeRun_fr ..))
  · split
    · exact Keeps.tr h9 (Keeps.mono rfl (takeRun_fr ..))
    · exact Keeps.tr h9 (Keeps.mono rfl (closePass_fr ..))

theorem execPassStart_fr (a0) (s : State) : KeepsOut 524321 s (execPassStart a0 s) := by
  unfold execPassStart
  extract_lets +onlyGivenNames -merge -useContext x1
  have h2 : Keeps 524321 s x1 := by
    unfold x1
    exact Keeps.mono rfl (catchUp_fr ..)
  try clear_value x1
  extract_lets +onlyGivenNames -merge -useContext x3
  try clear_value x3
  extract_lets +onlyGivenNames -merge -useContext x4
  try clear_value x4
  refine KeepsOut.next ?_
  refine Keeps.ite ?_ ?_
  · refine Keeps.ite ?_ ?_
    · refine Keeps.ite ?_ ?_
      · exact Keeps.tr h2 (Keeps.mono rfl (startPass_fr ..))
      · exact h2
    · refine Keeps.ite ?_ ?_
      · exact Keeps.tr h2 (Keeps.mono rfl (startPass_fr ..))
      · extract_lets +onlyGivenNames -merge -useContext x5
        try clear_value x5
        extract_lets +onlyGivenNames -merge -useContext x6
        have h7 : Keeps 524321 s x6 := by
          unfold x6
          refine Keeps.ite ?_ ?_
          · refine Keeps.tr ?_ (Keeps.mono rfl (State_bump_fr ..))
            exact Keeps.tr h2 (Keeps.mono rfl (State_setB_fr ..))
          · exact h2
        try clear_value x6
        refine Keeps.tr ?_ (Keeps.mono rfl (startPass_fr ..))
        exact Keeps.tr h7 (Keeps.mono rfl (State_advTo_fr ..))
  · exact h2

theorem stopConverter_fr (a0) (s : State) : Keeps 33 s (stopConverter a0 s) := by
  unfold stopConverter
  extract_lets +onlyGivenNames -merge -useContext x1
  try clear_value x1
  extract_lets +onlyGivenNames -merge -useContext x2
  have h3 : Keeps 33 s x2 := by
    unfold x2
    refine Keeps.ite ?_ ?_
    · exact Keeps.refl _ _
    · exact Keeps.mono rfl (urgLost_fr ..)
  try clear_value x2
  extract_lets +onlyGivenNames -merge -useContext x4
  have h5 : Keeps 33 s x4 := by
    unfold x4
    exact Keeps.tr h3 (Keeps.mono rfl (setUrgent_fr ..))
  try clear_value x4
  exact Keeps.tr h5 (Keeps.mono rfl (setCnv_fr ..))

theorem endEntry_fr (a0) (a1) (a2) (s : State) : Keeps 1572915 s (endEntry a0 a1 a2 s) := by
  unfold endEntry
  extract_lets +onlyGivenNames -merge -useContext x1
  have h2 : Keeps 1572915 s x1 := by
    unfold x1
    refine Keeps.tr ?_ (Keeps.mono rfl (runEntry_fr ..))
    exact Keeps.mono rfl (lookAhead_fr ..)
  try clear_value x1
  refine Keeps.ite ?_ ?_
  · exact Keeps.tr h2 (Keeps.mono rfl (stopConverter_fr ..))
  · refine Keeps.tr ?_ (Keeps.mono rfl (catchUp_fr ..))
    exact Keeps.tr h2 (Keeps.mono rfl (passOn_fr ..))

theorem execEntryResult_fr (a0) (a1) (s : State) : KeepsOut 1572915 s (execEntryResult a0 a1 s) := by
  unfold execEntryResult
  extract_lets +onlyGivenNames -merge -useContext x1
  try clear_value x1
  split
  · refine KeepsOut.next ?_
    refine Keeps.ite ?_ ?_
    · split
      · refine Keeps.tr ?_ (Keeps.mono rfl (startUrgent_fr ..))
        exact Keeps.mono rfl (State_advTo_fr ..)
      · exact Keeps.mono rfl (endEntry_fr ..)
    · exact Keeps.refl _ _
  · refine KeepsOut.next ?_
    exact Keeps.refl _ _

theorem endUrgent_fr (a0) (a1) (a2) (s : State) : Keeps 1572915 s (endUrgent a0 a1 a2 s) := by
  unfold endUrgent
  extract_lets +onlyGivenNames -merge -useContext x1
  have h2 : Keeps 1572915 s x1 := by
    unfold x1
    exact Keeps.mono rfl (runEntry_fr ..)
  try clear_value x1
  extract_lets +onlyGivenNames -merge -useContext y3 x4
  try clear_value x4
  extract_lets +onlyGivenNames -merge -useContext x5
  have h6 : Keeps 1572915 s x5 := by
    unfold x5
    exact Keeps.tr h2 (Keeps.mono rfl (setCnv_fr ..))
  try clear_value x5
  refine Keeps.ite ?_ ?_
  · exact Keeps.tr h6 (Keeps.mono rfl (stopConverter_fr ..))
  · split
    · refine Keeps.tr ?_ (Keeps.mono rfl (catchUp_fr ..))
      refine Keeps.tr ?_ (Keeps.mono rfl (State_setF_fr ..))
      exact Keeps.tr h6 (Keeps.mono rfl (setCnv_fr ..))
    · exact Keeps.tr h6 (Keeps.mono rfl (catchUp_fr ..))

theorem execUrgentRun_fr (a0) (a1) (s : State) : KeepsOut 1572915 s (execUrgentRun a0 a1 s) := by
  unfold execUrgentRun
  refine KeepsOut.next ?_
  refine Keeps.ite ?_ ?_
  · extract_lets +onlyGivenNames -merge -useContext x1
    have h2 : Keeps 1572915 s x1 := by
      unfold x1
      split
      · refine Keeps.tr ?_ (Keeps.mono rfl (startUrgent_fr ..))
        exact Keeps.mono rfl (State_advTo_fr ..)
      · exact Keeps.refl _ _
    try clear_value x1
    split
    · exact Keeps.tr h2 (Keeps.mono rfl (endUrgent_fr ..))
    · exact h2
  · exact Keeps.refl _ _

theorem urgentRequest_fr (a0) (a1) (s : State) : Keeps 33 s (urgentRequest a0 a1 s) := by
  unfold urgentRequest
  extract_lets +onlyGivenNames -merge -useContext x1
  have h2 : Keeps 33 s x1 := by
    unfold x1
    exact Keeps.mono rfl (catchUp_fr ..)
  try clear_value x1
  extract_lets +onlyGivenNames -merge -useContext x3
  try clear_value x3
  refine Keeps.ite ?_ ?_
  · exact Keeps.tr h2 (Keeps.mono rfl (urgLost_fr ..))
  · refine Keeps.ite ?_ ?_
    · exact Keeps.tr h2 (Keeps.mono rfl (State_bump_fr ..))
    · refine Keeps.ite ?_ ?_
      · exact Keeps.tr h2 (Keeps.mono rfl (urgLost_fr ..))
      · extract_lets +onlyGivenNames -merge -useContext x4
        have h5 : Keeps 33 s x4 := by
          unfold x4
          refine Keeps.ite ?_ ?_
          · exact Keeps.tr h2 (Keeps.mono rfl (setCnv_fr ..))
          · exact h2
        try clear_value x4
        refine Keeps.tr ?_ (Keeps.mono rfl (catchUp_fr ..))
        refine Keeps.tr ?_ (Keeps.mono rfl (setUrgent_fr ..))
        exact Keeps.tr h5 (Keeps.mono rfl (State_bump_fr ..))

theorem execUrgentRequest_fr (a0) (a1) (s : State) : KeepsOut 33 s (execUrgentRequest a0 a1 s) := by
  unfold execUrgentRequest
  refine KeepsOut.next ?_
  refine Keeps.ite ?_ ?_
  · exact Keeps.mono rfl (urgentRequest_fr ..)
  · exact Keeps.refl _ _

theorem seqWrite_fr (a0) (a1) (a2) (s : State) : Keeps 33 s (seqWrite a0 a1 a2 s) := by
  unfold seqWrite
  extract_lets +onlyGivenNames -merge -useContext x1
  have h2 : Keeps 33 s x1 := by
    unfold x1
    exact Keeps.mono rfl (catchUp_fr ..)
  try clear_value x1
  extract_lets +onlyGivenNames -merge -useContext x3
  try clear_value x3
  extract_lets +onlyGivenNames -merge -useContext x4
  have h5 : Keeps 33 s x4 := by
    unfold x4
    exact Keeps.tr h2 (Keeps.mono rfl (plainWrite_fr ..))
  try clear_value x4
  refine Keeps.ite ?_ ?_
  · exact Keeps.tr h2 (Keeps.mono rfl (State_setB_fr ..))
  · exact h5

theorem execSeqEntryWrite_fr (a0) (a1) (a2) (s : State) : KeepsOut 33 s (execSeqEntryWrite a0 a1 a2 s) := by
  unfold execSeqEntryWrite
  refine KeepsOut.next ?_
  refine Keeps.ite ?_ ?_
  · exact Keeps.mono rfl (seqWrite_fr ..)
  · exact Keeps.refl _ _

theorem cnvctlWrite_fr (a0) (a1) (s : State) : Keeps 33 s (cnvctlWrite a0 a1 s) := by
  unfold cnvctlWrite
  extract_lets +onlyGivenNames -merge -useContext x1
  have h2 : Keeps 33 s x1 := by
    unfold x1
    exact Keeps.mono rfl (catchUp_fr ..)
  try clear_value x1
  extract_lets +onlyGivenNames -merge -useContext x3
  try clear_value x3
  extract_lets +onlyGivenNames -merge -useContext x4
  have h5 : Keeps 33 s x4 := by
    unfold x4
    exact Keeps.tr h2 (Keeps.mono rfl (plainWrite_fr ..))
  try clear_value x4
  refine Keeps.ite ?_ ?_
  · refine Keeps.ite ?_ ?_
    · extract_lets +onlyGivenNames -merge -useContext x6
      have h7 : Keeps 33 s x6 := by
        unfold x6
        refine Keeps.ite ?_ ?_
        · exact h5
        · exact Keeps.tr h5 (Keeps.mono rfl (urgLost_fr ..))
      try clear_value x6
      extract_lets +onlyGivenNames -merge -useContext x8
      have h9 : Keeps 33 s x8 := by
        unfold x8
        exact Keeps.tr h7 (Keeps.mono rfl (setUrgent_fr ..))
      try clear_value x8
      extract_lets +onlyGivenNames -merge -useContext x10
      try clear_value x10
      exact Keeps.tr h9 (Keeps.mono rfl (setCnv_fr ..))
    · exact Keeps.tr h5 (Keeps.mono rfl (stopConverter_fr ..))
  · refine Keeps.ite ?_ ?_
    · refine Keeps.ite ?_ ?_
      · exact h5
      · exact Keeps.tr h5 (Keeps.mono rfl (setCnv_fr ..))
    · exact h5

theorem execCnvctlWrite_fr (a0) (a1) (s : State) : KeepsOut 33 s (execCnvctlWrite a0 a1 s) := by
  unfold execCnvctlWrite
  refine KeepsOut.next ?_
  refine Keeps.ite ?_ ?_
  · exact Keeps.mono rfl (cnvctlWrite_fr ..)
  · exact Keeps.refl _ _

theorem aincfgApply_fr (a0) (a1) (s : State) : Keeps 17 s (aincfgApply a0 a1 s) := by
  unfold aincfgApply
  extract_lets +onlyGivenNames -merge -useContext x1
  try clear_value x1
  extract_lets +onlyGivenNames -merge -useContext x2
  try clear_value x2
  extract_lets +onlyGivenNames -merge -useContext x3
  have h4 : Keeps 17 s x3 := by
    unfold x3
    refine Keeps.tr ?_ (Keeps.mono rfl (State_setF_fr ..))
    exact Keeps.mono rfl (plainWrite_fr ..)
  try clear_value x3
  refine Keeps.ite ?_ ?_
  · exact h4
  · extract_lets +onlyGivenNames -merge -useContext x5
    have h6 : Keeps 17 s x5 := by
      unfold x5
      exact Keeps.tr h4 (Keeps.mono rfl (freshMode_fr ..))
    try clear_value x5
    refine Keeps.ite ?_ ?_
    · exact Keeps.tr h6 (Keeps.mono rfl (freshMode_fr ..))
    · refine Keeps.ite ?_ ?_
      · exact Keeps.tr h6 (Keeps.mono rfl (freshMode_fr ..))
      · exact h6

theorem aincfgWrite_fr (a0) (a1) (s : State) : Keeps 17 s (aincfgWrite a0 a1 s) := by
  unfold aincfgWrite
  extract_lets +onlyGivenNames -merge -useContext x1
  have h2 : Keeps 17 s x1 := by
    unfold x1
    refine Keeps.tr ?_ (Keeps.mono rfl (settleMode_fr ..))
    exact Keeps.mono rfl (settleMode_fr ..)
  try clear_value x1
  refine Keeps.ite ?_ ?_
  · exact Keeps.tr h2 (Keeps.mono rfl (State_setB_fr ..))
  · exact Keeps.tr h2 (Keeps.mono rfl (aincfgApply_fr ..))

theorem execAincfgWrite_fr (a0) (a1) (s : State) : KeepsOut 17 s (execAincfgWrite a0 a1 s) := by
  unfold execAincfgWrite
  refine KeepsOut.next ?_
  refine Keeps.ite ?_ ?_
  · exact Keeps.mono rfl (aincfgWrite_fr ..)
  · exact Keeps.refl _ _

end Sys2Proof.Machine
end

