-- ==== Sys2Proof/Laws/FrameSensorPorts.lean ====
section
/-! SUPPORT. Sys2Proof/Laws/FrameSensorPorts.lean: for each operation of Machine/SensorPorts.lean, what it leaves (Laws/Frame.lean). -/

namespace Sys2Proof.Machine

open Sys2Proof

theorem setI2c_fr (a0) (a1) (s : State) : Keeps 128 s (setI2c a0 a1 s) := by
  unfold setI2c
  exact Keeps.mono rfl (Keeps.put_field _ _)

theorem sendRaw_fr (a0) (a1) (a2) (s : State) : Keeps 3 s (sendRaw a0 a1 a2 s) := by
  unfold sendRaw
  exact Keeps.mono rfl (sendStream_fr ..)

theorem trWrite_fr (a0) (a1) (a2) (s : State) : Keeps 1 s (trWrite a0 a1 a2 s) := by
  unfold trWrite
  extract_lets +onlyGivenNames -merge -useContext x1
  have h2 : Keeps 1 s x1 := by
    unfold x1
    exact Keeps.mono rfl (plainWrite_fr ..)
  try clear_value x1
  refine Keeps.ite ?_ ?_
  · exact Keeps.mono rfl (State_setB_fr ..)
  · exact h2

theorem xWrite_fr (a0) (a1) (s : State) : Keeps 1 s (xWrite a0 a1 s) := by
  unfold xWrite
  extract_lets +onlyGivenNames -merge -useContext x1
  have h2 : Keeps 1 s x1 := by
    unfold x1
    exact Keeps.mono rfl (plainWrite_fr ..)
  try clear_value x1
  extract_lets +onlyGivenNames -merge -useContext x3
  try clear_value x3
  refine Keeps.ite ?_ ?_
  · exact Keeps.mono rfl (State_setB_fr ..)
  · exact h2

theorem closeScript_fr (a0) (s : State) : Keeps 128 s (closeScript a0 s) := by
  unfold closeScript
  extract_lets +onlyGivenNames -merge -useContext x1
  try clear_value x1
  exact Keeps.mono rfl (setI2c_fr ..)

theorem takeTrans_fr (a0) (a1) (s : State) : Keeps 128 s (takeTrans a0 a1 s) := by
  unfold takeTrans
  extract_lets +onlyGivenNames -merge -useContext x1
  try clear_value x1
  split
  · extract_lets +onlyGivenNames -merge -useContext x2
    try clear_value x2
    exact Keeps.mono rfl (setI2c_fr ..)
  · exact Keeps.mono rfl (closeScript_fr ..)

theorem sendOpens_fr (a0) (a1) (s : State) : Keeps 3 s (sendOpens a0 a1 s) := by
  unfold sendOpens
  refine Keeps.tr ?_ (forRange_fr _ _ (fun iz1 sz1 => ?_) _)
  · exact Keeps.refl _ _
  · extract_lets +onlyGivenNames -merge -useContext x2
    try clear_value x2
    refine Keeps.ite ?_ ?_
    · exact Keeps.mono rfl (sendRaw_fr ..)
    · exact Keeps.refl _ _

theorem execI2cPassStart_fr (a0) (s : State) : KeepsOut 524419 s (execI2cPassStart a0 s) := by
  unfold execI2cPassStart
  extract_lets +onlyGivenNames -merge -useContext x1
  try clear_value x1
  refine KeepsOut.next ?_
  refine Keeps.ite ?_ ?_
  · extract_lets +onlyGivenNames -merge -useContext x2
    try clear_value x2
    extract_lets +onlyGivenNames -merge -useContext x3
    have h4 : Keeps 524419 s x3 := by
      unfold x3
      refine Keeps.ite ?_ ?_
      · exact Keeps.mono rfl (State_setB_fr ..)
      · exact Keeps.refl _ _
    try clear_value x3
    extract_lets +onlyGivenNames -merge -useContext x5
    have h6 : Keeps 524419 s x5 := by
      unfold x5
      exact Keeps.tr h4 (Keeps.mono rfl (State_advTo_fr ..))
    try clear_value x5
    extract_lets +onlyGivenNames -merge -useContext x7
    try clear_value x7
    extract_lets +onlyGivenNames -merge -useContext x8
    have h9 : Keeps 524419 s x8 := by
      unfold x8
      exact Keeps.tr h6 (Keeps.mono rfl (setI2c_fr ..))
    try clear_value x8
    refine Keeps.ite ?_ ?_
    · refine Keeps.tr ?_ (Keeps.mono rfl (sendOpens_fr ..))
      exact Keeps.tr h9 (Keeps.mono rfl (setI2c_fr ..))
    · exact Keeps.tr h9 (Keeps.mono rfl (takeTrans_fr ..))
  · exact Keeps.refl _ _

theorem transGood_fr (a0) (a1) (a2) (s : State) : Keeps 3 s (transGood a0 a1 a2 s) := by
  unfold transGood
  extract_lets +onlyGivenNames -merge -useContext x1
  try clear_value x1
  extract_lets +onlyGivenNames -merge -useContext x2
  have h3 : Keeps 3 s x2 := by
    unfold x2
    refine Keeps.tr ?_ (forRange_fr _ _ (fun iz4 sz4 => ?_) _)
    · exact Keeps.refl _ _
    · exact Keeps.mono rfl (State_setReg_fr ..)
  try clear_value x2
  refine Keeps.tr ?_ (forRange_fr _ _ (fun iz5 sz5 => ?_) _)
  · exact h3
  · extract_lets +onlyGivenNames -merge -useContext x6
    try clear_value x6
    refine Keeps.ite ?_ ?_
    · exact Keeps.mono rfl (sendRaw_fr ..)
    · exact Keeps.refl _ _

theorem transNext_fr (a0) (a1) (a2) (s : State) : Keeps 128 s (transNext a0 a1 a2 s) := by
  unfold transNext
  refine Keeps.ite ?_ ?_
  · exact Keeps.mono rfl (takeTrans_fr ..)
  · exact Keeps.mono rfl (setI2c_fr ..)

theorem transFail_fr (a0) (a1) (a2) (a3) (a4) (s : State) : Keeps 131 s (transFail a0 a1 a2 a3 a4 s) := by
  unfold transFail
  extract_lets +onlyGivenNames -merge -useContext x1
  have h2 : Keeps 131 s x1 := by
    unfold x1
    refine Keeps.tr ?_ (Keeps.mono rfl (State_setB_fr ..))
    exact Keeps.mono rfl (State_bump_fr ..)
  try clear_value x1
  refine Keeps.ite ?_ ?_
  · refine Keeps.tr ?_ (Keeps.mono rfl (transNext_fr ..))
    exact Keeps.tr h2 (Keeps.mono rfl (sendOpens_fr ..))
  · exact Keeps.tr h2 (Keeps.mono rfl (setI2c_fr ..))

theorem execI2cTransactionEnd_fr (a0) (a1) (s : State) : KeepsOut 524419 s (execI2cTransactionEnd a0 a1 s) := by
  unfold execI2cTransactionEnd
  extract_lets +onlyGivenNames -merge -useContext x1
  try clear_value x1
  split
  · extract_lets +onlyGivenNames -merge -useContext x2
    try clear_value x2
    refine KeepsOut.next ?_
    refine Keeps.ite ?_ ?_
    · extract_lets +onlyGivenNames -merge -useContext x3
      have h4 : Keeps 524419 s x3 := by
        unfold x3
        exact Keeps.mono rfl (setI2c_fr ..)
      try clear_value x3
      extract_lets +onlyGivenNames -merge -useContext x5
      have h6 : Keeps 524419 s x5 := by
        unfold x5
        exact Keeps.tr h4 (Keeps.mono rfl (Keeps.put_now _ _ (Nat.le_add_right _ _)))
      try clear_value x5
      split
      · extract_lets +onlyGivenNames -merge -useContext x7
        try clear_value x7
        split
        · refine Keeps.tr ?_ (Keeps.mono rfl (transNext_fr ..))
          exact Keeps.tr h6 (Keeps.mono rfl (transGood_fr ..))
        · exact Keeps.tr h6 (Keeps.mono rfl (transFail_fr ..))
      · exact Keeps.tr h6 (Keeps.mono rfl (transFail_fr ..))
      · extract_lets +onlyGivenNames -merge -useContext x8
        have h9 : Keeps 524419 s x8 := by
          unfold x8
          exact Keeps.tr h6 (Keeps.mono rfl (transFail_fr ..))
        try clear_value x8
        exact Keeps.tr h9 (Keeps.mono rfl (setI2c_fr ..))
    · exact Keeps.refl _ _
  · refine KeepsOut.next ?_
    exact Keeps.refl _ _

theorem execI2cDelayEnd_fr (a0) (s : State) : KeepsOut 524416 s (execI2cDelayEnd a0 s) := by
  unfold execI2cDelayEnd
  extract_lets +onlyGivenNames -merge -useContext x1
  try clear_value x1
  split
  · refine KeepsOut.next ?_
    refine Keeps.tr ?_ (Keeps.mono rfl (takeTrans_fr ..))
    exact Keeps.mono rfl (State_advTo_fr ..)
  · refine KeepsOut.next ?_
    exact Keeps.refl _ _

theorem execI2cBusRecovery_fr (a0) (a1) (s : State) : KeepsOut 524417 s (execI2cBusRecovery a0 a1 s) := by
  unfold execI2cBusRecovery
  extract_lets +onlyGivenNames -merge -useContext x1
  try clear_value x1
  extract_lets +onlyGivenNames -merge -useContext x2
  try clear_value x2
  refine KeepsOut.next ?_
  refine Keeps.ite ?_ ?_
  · extract_lets +onlyGivenNames -merge -useContext x3
    have h4 : Keeps 524417 s x3 := by
      unfold x3
      refine Keeps.ite ?_ ?_
      · exact Keeps.mono rfl (State_advTo_fr ..)
      · exact Keeps.refl _ _
    try clear_value x3
    extract_lets +onlyGivenNames -merge -useContext x5
    have h6 : Keeps 524417 s x5 := by
      unfold x5
      refine Keeps.tr ?_ (Keeps.mono rfl (setI2c_fr ..))
      exact Keeps.tr h4 (Keeps.mono rfl (State_bump_fr ..))
    try clear_value x5
    refine Keeps.ite ?_ ?_
    · refine Keeps.tr ?_ (Keeps.mono rfl (State_setB_fr ..))
      exact Keeps.tr h6 (Keeps.mono rfl (Keeps.put_now _ _ (Nat.le_add_right _ _)))
    · refine Keeps.tr ?_ (Keeps.mono rfl (closeScript_fr ..))
      refine Keeps.tr ?_ (Keeps.mono rfl (State_setB_fr ..))
      exact Keeps.tr h6 (Keeps.mono rfl (Keeps.put_now _ _ (Nat.le_add_right _ _)))
  · exact Keeps.refl _ _

theorem execI2cOvervoltage_fr (a0) (s : State) : KeepsOut 129 s (execI2cOvervoltage a0 s) := by
  unfold execI2cOvervoltage
  refine KeepsOut.next ?_
  refine Keeps.ite ?_ ?_
  · refine Keeps.tr ?_ (Keeps.mono rfl (closeScript_fr ..))
    refine Keeps.tr ?_ (Keeps.mono rfl (setI2c_fr ..))
    exact Keeps.mono rfl (State_setB_fr ..)
  · exact Keeps.refl _ _

theorem execI2cOvvRetest_fr (a0) (a1) (s : State) : KeepsOut 524417 s (execI2cOvvRetest a0 a1 s) := by
  unfold execI2cOvvRetest
  refine KeepsOut.next ?_
  refine Keeps.ite ?_ ?_
  · extract_lets +onlyGivenNames -merge -useContext x1
    try clear_value x1
    extract_lets +onlyGivenNames -merge -useContext y2 x3
    have h4 : Keeps 524417 s x3 := by
      unfold x3
      refine Keeps.tr ?_ (Keeps.mono rfl (setI2c_fr ..))
      exact Keeps.mono rfl (State_advTo_fr ..)
    try clear_value x3
    extract_lets +onlyGivenNames -merge -useContext x5
    try clear_value x5
    refine Keeps.ite ?_ ?_
    · refine Keeps.ite ?_ ?_
      · refine Keeps.tr ?_ (Keeps.mono rfl (setI2c_fr ..))
        exact Keeps.tr h4 (Keeps.mono rfl (State_setB_fr ..))
      · exact Keeps.tr h4 (Keeps.mono rfl (setI2c_fr ..))
    · exact Keeps.tr h4 (Keeps.mono rfl (setI2c_fr ..))
  · exact Keeps.refl _ _

theorem i2cctlWrite_fr (a0) (a1) (s : State) : Keeps 129 s (i2cctlWrite a0 a1 s) := by
  unfold i2cctlWrite
  extract_lets +onlyGivenNames -merge -useContext x1
  try clear_value x1
  extract_lets +onlyGivenNames -merge -useContext x2
  have h3 : Keeps 129 s x2 := by
    unfold x2
    exact Keeps.mono rfl (plainWrite_fr ..)
  try clear_value x2
  extract_lets +onlyGivenNames -merge -useContext y4 x5
  have h6 : Keeps 129 s x5 := by
    unfold x5
    refine Keeps.ite ?_ ?_
    · exact Keeps.tr h3 (Keeps.mono rfl (setI2c_fr ..))
    · exact h3
  try clear_value x5
  refine Keeps.ite ?_ ?_
  · exact Keeps.tr h6 (Keeps.mono rfl (closeScript_fr ..))
  · refine Keeps.ite ?_ ?_
    · exact Keeps.tr h6 (Keeps.mono rfl (setI2c_fr ..))
    · exact h6

end Sys2Proof.Machine
end

