-- ==== Sys2Proof/Laws/FrameTwig.lean ====
section
/-! SUPPORT. Sys2Proof/Laws/FrameTwig.lean: for each operation of Machine/Twig.lean, what it leaves (Laws/Frame.lean). -/

namespace Sys2Proof.Machine

open Sys2Proof

theorem setTw_fr (a0) (a1) (s : State) : Keeps 128 s (setTw a0 a1 s) := by
  unfold setTw
  exact Keeps.mono rfl (Keeps.put_field _ _)

theorem sendUnitOpen_fr (a0) (s : State) : Keeps 3 s (sendUnitOpen a0 s) := by
  unfold sendUnitOpen
  refine Keeps.tr ?_ (forRange_fr _ _ (fun iz1 sz1 => ?_) _)
  · exact Keeps.refl _ _
  · refine Keeps.ite ?_ ?_
    · exact Keeps.mono rfl (sendRaw_fr ..)
    · exact Keeps.refl _ _

theorem sendObjects_fr (u : Nat) : ∀ (l : List Nat) (bs : List Byte) (s : State), Keeps 3 s (sendObjects u l bs s)
  | [], _, s => Keeps.refl _ s
  | k :: t, bs, s => by
    unfold sendObjects
    refine Keeps.ite ?_ (sendObjects_fr u t bs s)
    refine Keeps.tr ?_ (sendObjects_fr u t _ _)
    refine Keeps.ite ?_ (Keeps.refl _ _)
    split
    · exact Keeps.mono rfl (sendRaw_fr ..)
    · exact Keeps.mono rfl (sendRaw_fr ..)

theorem pollMiss_fr (a0) (a1) (s : State) : Keeps 3 s (pollMiss a0 a1 s) := by
  unfold pollMiss
  extract_lets +onlyGivenNames -merge -useContext x1
  have h2 : Keeps 3 s x1 := by
    unfold x1
    exact Keeps.mono rfl (State_bump_fr ..)
  try clear_value x1
  refine Keeps.ite ?_ ?_
  · refine Keeps.tr ?_ (Keeps.mono rfl (sendUnitOpen_fr ..))
    exact Keeps.tr h2 (Keeps.mono rfl (State_setB_fr ..))
  · exact h2

theorem frameOut_fr (a0) (a1) (s : State) : Keeps 128 s (frameOut a0 a1 s) := by
  unfold frameOut
  extract_lets +onlyGivenNames -merge -useContext x1
  try clear_value x1
  extract_lets +onlyGivenNames -merge -useContext x2
  try clear_value x2
  exact Keeps.mono rfl (setTw_fr ..)

theorem replyCame_fr (a0) (a1) (s : State) : Keeps 524416 s (replyCame a0 a1 s) := by
  unfold replyCame
  extract_lets +onlyGivenNames -merge -useContext x1
  have h2 : Keeps 524416 s x1 := by
    unfold x1
    exact Keeps.mono rfl (State_advTo_fr ..)
  try clear_value x1
  exact Keeps.tr h2 (Keeps.mono rfl (setTw_fr ..))

theorem twSend_fr (a0) (a1) (s : State) : Keeps 128 s (twSend a0 a1 s) := by
  unfold twSend
  extract_lets +onlyGivenNames -merge -useContext x1
  try clear_value x1
  extract_lets +onlyGivenNames -merge -useContext x2
  try clear_value x2
  extract_lets +onlyGivenNames -merge -useContext x3
  try clear_value x3
  extract_lets +onlyGivenNames -merge -useContext y4 x5
  have h6 : Keeps 128 s x5 := by
    unfold x5
    exact Keeps.mono rfl (Keeps.put_field _ _)
  try clear_value x5
  extract_lets +onlyGivenNames -merge -useContext x7
  try clear_value x7
  extract_lets +onlyGivenNames -merge -useContext x8
  have h9 : Keeps 128 s x8 := by
    unfold x8
    exact Keeps.tr h6 (Keeps.mono rfl (frameOut_fr ..))
  try clear_value x8
  exact Keeps.tr h9 (Keeps.mono rfl (setTw_fr ..))

theorem twRoundEnd_fr (a0) (s : State) : Keeps 128 s (twRoundEnd a0 s) := by
  unfold twRoundEnd
  exact Keeps.mono rfl (setTw_fr ..)

theorem twServe_fr (g : Nat) : ∀ (l : List TwReq) (s : State), Keeps 128 s (twServe g l s)
  | [], s => by
    unfold twServe
    exact Keeps.tr (Keeps.mono rfl (setTw_fr ..)) (Keeps.mono rfl (twRoundEnd_fr ..))
  | r :: t, s => by
    unfold twServe
    refine Keeps.ite ?_ (Keeps.tr (Keeps.mono rfl (setTw_fr ..)) (Keeps.mono rfl (twRoundEnd_fr ..)))
    extract_lets +onlyGivenNames -merge -useContext q x
    have hx : Keeps 128 s x := Keeps.tr (Keeps.mono rfl (setTw_fr ..)) (Keeps.mono rfl (twSend_fr ..))
    clear_value x
    exact Keeps.ite (Keeps.tr hx (twServe_fr g t x)) hx

theorem twReleases_fr (a0) (s : State) : Keeps 128 s (twReleases a0 s) := by
  unfold twReleases
  extract_lets +onlyGivenNames -merge -useContext x1
  try clear_value x1
  extract_lets +onlyGivenNames -merge -useContext x2
  have h3 : Keeps 128 s x2 := by
    unfold x2
    exact Keeps.mono rfl (setTw_fr ..)
  try clear_value x2
  refine Keeps.tr ?_ (forEach_fr _ _ (fun iz4 sz4 => ?_) _)
  · exact h3
  · exact Keeps.mono rfl (twSend_fr ..)

theorem twNext_fr (a0) (s : State) : Keeps 131 s (twNext a0 s) := by
  unfold twNext
  extract_lets +onlyGivenNames -merge -useContext x1
  try clear_value x1
  refine Keeps.ite ?_ ?_
  · refine Keeps.tr ?_ (Keeps.mono rfl (twRoundEnd_fr ..))
    refine Keeps.tr ?_ (forEach_fr _ _ (fun iz2 sz2 => ?_) _)
    · exact Keeps.refl _ _
    · exact Keeps.mono rfl (pollMiss_fr ..)
  · split
    · refine Keeps.tr ?_ (Keeps.mono rfl (twSend_fr ..))
      exact Keeps.mono rfl (setTw_fr ..)
    · refine Keeps.ite ?_ ?_
      · exact Keeps.mono rfl (twReleases_fr ..)
      · exact Keeps.mono rfl (twServe_fr ..)

theorem twQueue_fr (a0) (a1) (s : State) : Keeps 128 s (twQueue a0 a1 s) := by
  unfold twQueue
  exact Keeps.mono rfl (setTw_fr ..)

theorem endRun_fr (a0) (a1) (s : State) : Keeps 136 s (endRun a0 a1 s) := by
  unfold endRun
  split
  · exact Keeps.refl _ _
  · extract_lets +onlyGivenNames -merge -useContext x1
    try clear_value x1
    extract_lets +onlyGivenNames -merge -useContext x2
    try clear_value x2
    extract_lets +onlyGivenNames -merge -useContext x3
    have h4 : Keeps 136 s x3 := by
      unfold x3
      exact Keeps.mono rfl (setTw_fr ..)
    try clear_value x3
    extract_lets +onlyGivenNames -merge -useContext x5
    try clear_value x5
    extract_lets +onlyGivenNames -merge -useContext y6 x7
    have h8 : Keeps 136 s x7 := by
      unfold x7
      exact Keeps.tr h4 (Keeps.mono rfl (Keeps.put_fw _ _))
    try clear_value x7
    split
    · exact Keeps.tr h8 (Keeps.mono rfl (finishCmd_fr ..))
    · exact h8

theorem startRun_fr (a0) (a1) (a2) (a3) (s : State) : Keeps 137 s (startRun a0 a1 a2 a3 s) := by
  unfold startRun
  extract_lets +onlyGivenNames -merge -useContext x1
  try clear_value x1
  extract_lets +onlyGivenNames -merge -useContext y2 x3
  have h4 : Keeps 137 s x3 := by
    unfold x3
    exact Keeps.mono rfl (Keeps.put_fw _ _)
  try clear_value x3
  extract_lets +onlyGivenNames -merge -useContext y5 x6
  have h7 : Keeps 137 s x6 := by
    unfold x6
    exact Keeps.tr h4 (Keeps.mono rfl (setTw_fr ..))
  try clear_value x6
  refine Keeps.ite ?_ ?_
  · extract_lets +onlyGivenNames -merge -useContext y8 x9
    have h10 : Keeps 137 s x9 := by
      unfold x9
      exact Keeps.tr h7 (Keeps.mono rfl (setTw_fr ..))
    try clear_value x9
    extract_lets +onlyGivenNames -merge -useContext x11
    have h12 : Keeps 137 s x11 := by
      unfold x11
      refine Keeps.tr ?_ (forRange_fr _ _ (fun iz13 sz13 => ?_) _)
      · exact Keeps.tr h10 (Keeps.mono rfl (State_setF_fr ..))
      · exact Keeps.mono rfl (State_setB_fr ..)
    try clear_value x11
    refine Keeps.ite ?_ ?_
    · exact Keeps.tr h12 (Keeps.mono rfl (twReleases_fr ..))
    · exact h12
  · exact h7

theorem startAdd_fr (a0) (s : State) : Keeps 137 s (startAdd a0 s) := by
  unfold startAdd
  refine Keeps.ite ?_ ?_
  · exact Keeps.mono rfl (startRun_fr ..)
  · exact Keeps.refl _ _

theorem searchStep_fr (a0) (a1) (s : State) : Keeps 524424 s (searchStep a0 a1 s) := by
  unfold searchStep
  split
  · exact Keeps.refl _ _
  · refine Keeps.ite ?_ ?_
    · exact Keeps.mono rfl (endRun_fr ..)
    · extract_lets +onlyGivenNames -merge -useContext x1
      try clear_value x1
      extract_lets +onlyGivenNames -merge -useContext x2
      try clear_value x2
      extract_lets +onlyGivenNames -merge -useContext x3
      try clear_value x3
      extract_lets +onlyGivenNames -merge -useContext x4
      try clear_value x4
      extract_lets +onlyGivenNames -merge -useContext x5
      have h6 : Keeps 524424 s x5 := by
        unfold x5
        exact Keeps.mono rfl (frameOut_fr ..)
      try clear_value x5
      extract_lets +onlyGivenNames -merge -useContext y7 x8
      have h9 : Keeps 524424 s x8 := by
        unfold x8
        refine Keeps.tr ?_ (Keeps.mono rfl (State_advTo_fr ..))
        exact Keeps.tr h6 (Keeps.mono rfl (setTw_fr ..))
      try clear_value x8
      refine Keeps.ite ?_ ?_
      · split
        · refine Keeps.tr ?_ (Keeps.mono rfl (twSend_fr ..))
          exact Keeps.tr h9 (Keeps.mono rfl (setTw_fr ..))
        · exact Keeps.tr h9 (Keeps.mono rfl (endRun_fr ..))
      · exact h9

theorem execTwigSearchStep_fr (a0) (a1) (s : State) : KeepsOut 524427 s (execTwigSearchStep a0 a1 s) := by
  unfold execTwigSearchStep
  refine KeepsOut.next ?_
  refine Keeps.ite ?_ ?_
  · refine Keeps.ite ?_ ?_
    · refine Keeps.tr ?_ (Keeps.mono rfl (searchStep_fr ..))
      exact Keeps.mono rfl (twReleases_fr ..)
    · refine Keeps.ite ?_ ?_
      · exact Keeps.mono rfl (twNext_fr ..)
      · refine Keeps.ite ?_ ?_
        · exact Keeps.mono rfl (searchStep_fr ..)
        · exact Keeps.refl _ _
  · exact Keeps.refl _ _

theorem execTwigAutoSearch_fr (a0) (a1) (s : State) : KeepsOut 524425 s (execTwigAutoSearch a0 a1 s) := by
  unfold execTwigAutoSearch
  extract_lets +onlyGivenNames -merge -useContext x1
  try clear_value x1
  refine KeepsOut.next ?_
  refine Keeps.ite ?_ ?_
  · extract_lets +onlyGivenNames -merge -useContext x2
    have h3 : Keeps 524425 s x2 := by
      unfold x2
      exact Keeps.mono rfl (frameOut_fr ..)
    try clear_value x2
    extract_lets +onlyGivenNames -merge -useContext y4 x5
    have h6 : Keeps 524425 s x5 := by
      unfold x5
      refine Keeps.tr ?_ (Keeps.mono rfl (State_advTo_fr ..))
      exact Keeps.tr h3 (Keeps.mono rfl (setTw_fr ..))
    try clear_value x5
    refine Keeps.ite ?_ ?_
    · refine Keeps.tr ?_ (Keeps.mono rfl (startAdd_fr ..))
      refine Keeps.tr ?_ (Keeps.mono rfl (ringEvent_fr ..))
      exact Keeps.tr h6 (Keeps.mono rfl (State_setB_fr ..))
    · exact h6
  · exact Keeps.refl _ _

theorem execTwigRound_fr (a0) (s : State) : KeepsOut 524419 s (execTwigRound a0 s) := by
  unfold execTwigRound
  extract_lets +onlyGivenNames -merge -useContext x1
  try clear_value x1
  refine KeepsOut.next ?_
  refine Keeps.ite ?_ ?_
  · extract_lets +onlyGivenNames -merge -useContext x2
    try clear_value x2
    extract_lets +onlyGivenNames -merge -useContext x3
    have h4 : Keeps 524419 s x3 := by
      unfold x3
      refine Keeps.ite ?_ ?_
      · exact Keeps.mono rfl (State_setB_fr ..)
      · exact Keeps.refl _ _
    try clear_value x3
    extract_lets +onlyGivenNames -merge -useContext x5
    have h6 : Keeps 524419 s x5 := by
      unfold x5
      exact Keeps.tr h4 (Keeps.mono rfl (State_advTo_fr ..))
    try clear_value x5
    extract_lets +onlyGivenNames -merge -useContext x7
    try clear_value x7
    extract_lets +onlyGivenNames -merge -useContext x8
    have h9 : Keeps 524419 s x8 := by
      unfold x8
      exact Keeps.tr h6 (Keeps.mono rfl (setTw_fr ..))
    try clear_value x8
    refine Keeps.ite ?_ ?_
    · refine Keeps.tr ?_ (Keeps.mono rfl (twNext_fr ..))
      exact Keeps.tr h9 (Keeps.mono rfl (setTw_fr ..))
    · refine Keeps.ite ?_ ?_
      · refine Keeps.tr ?_ (forEach_fr _ _ (fun iz10 sz10 => ?_) _)
        · exact h9
        · exact Keeps.mono rfl (pollMiss_fr ..)
      · exact h9
  · exact Keeps.refl _ _

theorem setCrcRun_fr (a0) (a1) (s : State) : Keeps 128 s (setCrcRun a0 a1 s) := by
  unfold setCrcRun
  exact Keeps.mono rfl (Keeps.put_field _ _)

theorem pollGood_fr (a0) (a1) (a2) (s : State) : Keeps 131 s (pollGood a0 a1 a2 s) := by
  unfold pollGood
  extract_lets +onlyGivenNames -merge -useContext x1
  try clear_value x1
  extract_lets +onlyGivenNames -merge -useContext x2
  try clear_value x2
  extract_lets +onlyGivenNames -merge -useContext x3
  have h4 : Keeps 131 s x3 := by
    unfold x3
    refine Keeps.tr ?_ (Keeps.mono rfl (State_setB_fr ..))
    refine Keeps.tr ?_ (Keeps.mono rfl (State_setB_fr ..))
    exact Keeps.mono rfl (State_setF_fr ..)
  try clear_value x3
  extract_lets +onlyGivenNames -merge -useContext x5
  have h6 : Keeps 131 s x5 := by
    unfold x5
    refine Keeps.ite ?_ ?_
    · exact Keeps.tr h4 (Keeps.mono rfl (State_setB_fr ..))
    · exact h4
  try clear_value x5
  extract_lets +onlyGivenNames -merge -useContext x7
  have h8 : Keeps 131 s x7 := by
    unfold x7
    exact Keeps.tr h6 (Keeps.mono rfl (setCrcRun_fr ..))
  try clear_value x7
  extract_lets +onlyGivenNames -merge -useContext x9
  have h10 : Keeps 131 s x9 := by
    unfold x9
    exact Keeps.tr h8 (Keeps.mono rfl (sendObjects_fr ..))
  try clear_value x9
  refine Keeps.ite ?_ ?_
  · exact Keeps.tr h10 (Keeps.mono rfl (twQueue_fr ..))
  · exact h10

theorem releaseUnit_fr (a0) (a1) (s : State) : Keeps 129 s (releaseUnit a0 a1 s) := by
  unfold releaseUnit
  extract_lets +onlyGivenNames -merge -useContext x1
  have h2 : Keeps 129 s x1 := by
    unfold x1
    exact Keeps.mono rfl (twQueue_fr ..)
  try clear_value x1
  extract_lets +onlyGivenNames -merge -useContext x3
  try clear_value x3
  refine Keeps.tr ?_ (Keeps.mono rfl (State_setB_fr ..))
  exact Keeps.tr h2 (Keeps.mono rfl (State_setF_fr ..))

theorem execTwigPollReply_fr (a0) (a1) (s : State) : KeepsOut 524427 s (execTwigPollReply a0 a1 s) := by
  unfold execTwigPollReply
  split
  · refine KeepsOut.ite ?_ ?_
    · extract_lets +onlyGivenNames -merge -useContext x1
      try clear_value x1
      extract_lets +onlyGivenNames -merge -useContext x2
      have h3 : Keeps 524427 s x2 := by
        unfold x2
        exact Keeps.mono rfl (replyCame_fr ..)
      try clear_value x2
      split
      · refine KeepsOut.ite ?_ ?_
        · refine KeepsOut.next ?_
          refine Keeps.tr ?_ (Keeps.mono rfl (twNext_fr ..))
          refine Keeps.tr ?_ (Keeps.mono rfl (pollGood_fr ..))
          exact Keeps.tr h3 (Keeps.mono rfl (setTw_fr ..))
        · refine KeepsOut.next ?_
          refine Keeps.tr ?_ (Keeps.mono rfl (twNext_fr ..))
          refine Keeps.tr ?_ (Keeps.mono rfl (pollMiss_fr ..))
          refine Keeps.tr ?_ (Keeps.mono rfl (setCrcRun_fr ..))
          exact Keeps.tr h3 (Keeps.mono rfl (setTw_fr ..))
      · extract_lets +onlyGivenNames -merge -useContext x4
        have h5 : Keeps 524427 s x4 := by
          unfold x4
          refine Keeps.ite ?_ ?_
          · exact Keeps.tr h3 (Keeps.mono rfl (State_bump_fr ..))
          · exact h3
        try clear_value x4
        extract_lets +onlyGivenNames -merge -useContext x6
        try clear_value x6
        extract_lets +onlyGivenNames -merge -useContext x7
        have h8 : Keeps 524427 s x7 := by
          unfold x7
          exact Keeps.tr h5 (Keeps.mono rfl (setCrcRun_fr ..))
        try clear_value x7
        extract_lets +onlyGivenNames -merge -useContext y9 x10
        have h11 : Keeps 524427 s x10 := by
          unfold x10
          refine Keeps.tr ?_ (Keeps.mono rfl (pollMiss_fr ..))
          exact Keeps.tr h8 (Keeps.mono rfl (setTw_fr ..))
        try clear_value x10
        refine KeepsOut.next ?_
        refine Keeps.ite ?_ ?_
        · refine Keeps.tr ?_ (Keeps.mono rfl (startAdd_fr ..))
          refine Keeps.tr ?_ (Keeps.mono rfl (twNext_fr ..))
          exact Keeps.tr h11 (Keeps.mono rfl (releaseUnit_fr ..))
        · exact Keeps.tr h11 (Keeps.mono rfl (twNext_fr ..))
    · refine KeepsOut.next ?_
      exact Keeps.refl _ _
  · refine KeepsOut.next ?_
    exact Keeps.refl _ _

theorem replyMissing_fr (a0) (s : State) : Keeps 131 s (replyMissing a0 s) := by
  unfold replyMissing
  split
  · exact Keeps.refl _ _
  · extract_lets +onlyGivenNames -merge -useContext y1 x2
    have h3 : Keeps 131 s x2 := by
      unfold x2
      exact Keeps.mono rfl (setTw_fr ..)
    try clear_value x2
    refine Keeps.ite ?_ ?_
    · refine Keeps.tr ?_ (Keeps.mono rfl (twNext_fr ..))
      refine Keeps.tr ?_ (Keeps.mono rfl (pollMiss_fr ..))
      exact Keeps.tr h3 (Keeps.mono rfl (setCrcRun_fr ..))
    · refine Keeps.ite ?_ ?_
      · exact Keeps.tr h3 (Keeps.mono rfl (twSend_fr ..))
      · exact Keeps.tr h3 (Keeps.mono rfl (twNext_fr ..))

theorem execTwigReplyTimeout_fr (a0) (s : State) : KeepsOut 524419 s (execTwigReplyTimeout a0 s) := by
  unfold execTwigReplyTimeout
  refine KeepsOut.next ?_
  refine Keeps.ite ?_ ?_
  · refine Keeps.tr ?_ (Keeps.mono rfl (replyMissing_fr ..))
    refine Keeps.tr ?_ (Keeps.mono rfl (State_bump_fr ..))
    exact Keeps.mono rfl (State_advTo_fr ..)
  · exact Keeps.refl _ _

theorem rewriteDisplay_fr (a0) (a1) (s : State) : Keeps 128 s (rewriteDisplay a0 a1 s) := by
  unfold rewriteDisplay
  refine Keeps.tr ?_ (forRange_fr _ _ (fun iz1 sz1 => ?_) _)
  · exact Keeps.refl _ _
  · split
    · exact Keeps.mono rfl (twQueue_fr ..)
    · exact Keeps.refl _ _

theorem setcfgPayload_fr (s : State) : Keeps 1048576 s (setcfgPayload s).2 := by
  unfold setcfgPayload
  extract_lets +onlyGivenNames -merge -useContext x1
  have h2 : Keeps 1048576 s x1.2 := by
    unfold x1
    exact Keeps.mono rfl (State_draw_fr ..)
  try clear_value x1
  extract_lets +onlyGivenNames -merge -useContext x3
  have h4 : Keeps 1048576 s x3.2 := by
    unfold x3
    exact Keeps.tr h2 (Keeps.mono rfl (State_draw_fr ..))
  try clear_value x3
  extract_lets +onlyGivenNames -merge -useContext x5
  have h6 : Keeps 1048576 s x5.2 := by
    unfold x5
    exact Keeps.tr h4 (Keeps.mono rfl (State_draw_fr ..))
  try clear_value x5
  refine Keeps.pair ?_
  exact h6

theorem assignDone_fr (a0) (a1) (a2) (s : State) : Keeps 129 s (assignDone a0 a1 a2 s) := by
  unfold assignDone
  extract_lets +onlyGivenNames -merge -useContext x1
  try clear_value x1
  extract_lets +onlyGivenNames -merge -useContext x2
  try clear_value x2
  extract_lets +onlyGivenNames -merge -useContext x3
  have h4 : Keeps 129 s x3 := by
    unfold x3
    refine Keeps.tr ?_ (Keeps.mono rfl (State_setReg_fr ..))
    exact Keeps.mono rfl (State_setReg_fr ..)
  try clear_value x3
  extract_lets +onlyGivenNames -merge -useContext x5
  have h6 : Keeps 129 s x5 := by
    unfold x5
    exact Keeps.tr h4 (Keeps.mono rfl (State_setF_fr ..))
  try clear_value x5
  extract_lets +onlyGivenNames -merge -useContext x7
  have h8 : Keeps 129 s x7 := by
    unfold x7
    exact Keeps.tr h6 (Keeps.mono rfl (State_setReg_fr ..))
  try clear_value x7
  extract_lets +onlyGivenNames -merge -useContext x9
  have h10 : Keeps 129 s x9 := by
    unfold x9
    refine Keeps.tr ?_ (Keeps.mono rfl (State_setB_fr ..))
    refine Keeps.tr ?_ (Keeps.mono rfl (State_setF_fr ..))
    exact Keeps.tr h8 (Keeps.mono rfl (State_setF_fr ..))
  try clear_value x9
  refine Keeps.ite ?_ ?_
  · extract_lets +onlyGivenNames -merge -useContext x11
    have h12 : Keeps 129 s x11 := by
      unfold x11
      refine Keeps.tr ?_ (Keeps.mono rfl (releaseUnit_fr ..))
      exact Keeps.tr h10 (Keeps.mono rfl (State_setB_fr ..))
    try clear_value x11
    split
    · exact Keeps.tr h12 (Keeps.mono rfl (setTw_fr ..))
    · exact h12
  · split
    · exact Keeps.tr h10 (Keeps.mono rfl (setTw_fr ..))
    · exact h10

theorem identDone_fr (a0) (a1) (a2) (s : State) : Keeps 1048713 s (identDone a0 a1 a2 s) := by
  unfold identDone
  extract_lets +onlyGivenNames -merge -useContext x1
  try clear_value x1
  refine Keeps.ite ?_ ?_
  · extract_lets +onlyGivenNames -merge -useContext x2
    have h3 : Keeps 1048713 s x2 := by
      unfold x2
      exact Keeps.mono rfl (State_setF_fr ..)
    try clear_value x2
    extract_lets +onlyGivenNames -merge -useContext x4
    have h5 : Keeps 1048713 s x4.2 := by
      unfold x4
      exact Keeps.tr h3 (Keeps.mono rfl (setcfgPayload_fr ..))
    try clear_value x4
    refine Keeps.tr ?_ (Keeps.mono rfl (rewriteDisplay_fr ..))
    exact Keeps.tr h5 (Keeps.mono rfl (twQueue_fr ..))
  · refine Keeps.tr ?_ (Keeps.mono rfl (startAdd_fr ..))
    exact Keeps.mono rfl (releaseUnit_fr ..)

theorem replyInvalid_fr (a0) (a1) (s : State) : Keeps 131 s (replyInvalid a0 a1 s) := by
  unfold replyInvalid
  refine Keeps.tr ?_ (Keeps.mono rfl (replyMissing_fr ..))
  refine Keeps.ite ?_ ?_
  · exact Keeps.mono rfl (State_bump_fr ..)
  · exact Keeps.refl _ _

theorem execTwigReply_fr (a0) (a1) (s : State) : KeepsOut 1573003 s (execTwigReply a0 a1 s) := by
  unfold execTwigReply
  split
  · refine KeepsOut.ite ?_ ?_
    · refine KeepsOut.next ?_
      exact Keeps.refl _ _
    · extract_lets +onlyGivenNames -merge -useContext x1
      have h2 : Keeps 1573003 s x1 := by
        unfold x1
        exact Keeps.mono rfl (replyCame_fr ..)
      try clear_value x1
      split
      · extract_lets +onlyGivenNames -merge -useContext x3
        try clear_value x3
        extract_lets +onlyGivenNames -merge -useContext x4
        try clear_value x4
        extract_lets +onlyGivenNames -merge -useContext y5 x6
        have h7 : Keeps 1573003 s x6 := by
          unfold x6
          exact Keeps.tr h2 (Keeps.mono rfl (setTw_fr ..))
        try clear_value x6
        refine KeepsOut.ite ?_ ?_
        · refine KeepsOut.next ?_
          refine Keeps.tr ?_ (Keeps.mono rfl (twNext_fr ..))
          exact Keeps.tr h7 (Keeps.mono rfl (assignDone_fr ..))
        · refine KeepsOut.ite ?_ ?_
          · refine KeepsOut.next ?_
            refine Keeps.tr ?_ (Keeps.mono rfl (twNext_fr ..))
            exact Keeps.tr h7 (Keeps.mono rfl (identDone_fr ..))
          · refine KeepsOut.ite ?_ ?_
            · refine KeepsOut.next ?_
              exact Keeps.tr h7 (Keeps.mono rfl (twNext_fr ..))
            · refine KeepsOut.next ?_
              exact Keeps.tr h2 (Keeps.mono rfl (replyInvalid_fr ..))
      · refine KeepsOut.next ?_
        refine Keeps.tr ?_ (Keeps.mono rfl (replyInvalid_fr ..))
        refine Keeps.ite ?_ ?_
        · exact Keeps.tr h2 (Keeps.mono rfl (State_bump_fr ..))
        · exact h2
  · refine KeepsOut.next ?_
    exact Keeps.refl _ _

theorem twIdle_fr (a0) (s : State) : Keeps 128 s (twIdle a0 s) := by
  unfold twIdle
  exact Keeps.mono rfl (setTw_fr ..)

theorem twOn_fr (a0) (s : State) : Keeps 129 s (twOn a0 s) := by
  unfold twOn
  refine Keeps.tr ?_ (Keeps.mono rfl (setTw_fr ..))
  exact Keeps.mono rfl (State_setF_fr ..)

theorem execTwigShort_fr (a0) (s : State) : KeepsOut 524425 s (execTwigShort a0 s) := by
  unfold execTwigShort
  split
  · refine KeepsOut.next ?_
    refine Keeps.ite ?_ ?_
    · extract_lets +onlyGivenNames -merge -useContext x1
      have h2 : Keeps 524425 s x1 := by
        unfold x1
        refine Keeps.tr ?_ (Keeps.mono rfl (State_setB_fr ..))
        refine Keeps.tr ?_ (Keeps.mono rfl (State_setF_fr ..))
        exact Keeps.mono rfl (State_advTo_fr ..)
      try clear_value x1
      extract_lets +onlyGivenNames -merge -useContext x3
      have h4 : Keeps 524425 s x3 := by
        unfold x3
        refine Keeps.ite ?_ ?_
        · exact h2
        · exact Keeps.tr h2 (Keeps.mono rfl (State_bump_fr ..))
      try clear_value x3
      extract_lets +onlyGivenNames -merge -useContext x5
      have h6 : Keeps 524425 s x5 := by
        unfold x5
        refine Keeps.tr ?_ (Keeps.mono rfl (endRun_fr ..))
        exact Keeps.tr h4 (Keeps.mono rfl (twIdle_fr ..))
      try clear_value x5
      exact Keeps.tr h6 (Keeps.mono rfl (setTw_fr ..))
    · exact Keeps.refl _ _
  · refine KeepsOut.next ?_
    exact Keeps.refl _ _

theorem execTwigPowerRetry_fr (a0) (s : State) : KeepsOut 524417 s (execTwigPowerRetry a0 s) := by
  unfold execTwigPowerRetry
  split
  · extract_lets +onlyGivenNames -merge -useContext x1
    have h2 : Keeps 524417 s x1 := by
      unfold x1
      exact Keeps.mono rfl (State_advTo_fr ..)
    try clear_value x1
    refine KeepsOut.next ?_
    refine Keeps.tr ?_ (Keeps.mono rfl (twOn_fr ..))
    exact Keeps.tr h2 (Keeps.mono rfl (setTw_fr ..))
  · refine KeepsOut.next ?_
    exact Keeps.refl _ _

theorem execTwigPowerUpWait_fr (a0) (s : State) : KeepsOut 524416 s (execTwigPowerUpWait a0 s) := by
  unfold execTwigPowerUpWait
  split
  · extract_lets +onlyGivenNames -merge -useContext y1 x2
    have h3 : Keeps 524416 s x2 := by
      unfold x2
      refine Keeps.tr ?_ (Keeps.mono rfl (setTw_fr ..))
      exact Keeps.mono rfl (State_advTo_fr ..)
    try clear_value x2
    refine KeepsOut.next ?_
    refine Keeps.ite ?_ ?_
    · exact Keeps.tr h3 (Keeps.mono rfl (twReleases_fr ..))
    · exact h3
  · refine KeepsOut.next ?_
    exact Keeps.refl _ _

theorem execTwigLimiting_fr (a0) (a1) (a2) (a3) (s : State) : KeepsOut 129 s (execTwigLimiting a0 a1 a2 a3 s) := by
  unfold execTwigLimiting
  refine KeepsOut.next ?_
  refine Keeps.ite ?_ ?_
  · extract_lets +onlyGivenNames -merge -useContext x1
    try clear_value x1
    extract_lets +onlyGivenNames -merge -useContext x2
    have h3 : Keeps 129 s x2 := by
      unfold x2
      exact Keeps.mono rfl (setTw_fr ..)
    try clear_value x2
    refine Keeps.tr ?_ (Keeps.mono rfl (State_setReg_fr ..))
    exact Keeps.tr h3 (Keeps.mono rfl (State_setF_fr ..))
  · exact Keeps.refl _ _

theorem segctlWrite_fr (a0) (a1) (s : State) : Keeps 137 s (segctlWrite a0 a1 s) := by
  unfold segctlWrite
  refine Keeps.ite ?_ ?_
  · exact Keeps.mono rfl (State_setB_fr ..)
  · extract_lets +onlyGivenNames -merge -useContext x1
    try clear_value x1
    extract_lets +onlyGivenNames -merge -useContext x2
    have h3 : Keeps 137 s x2 := by
      unfold x2
      exact Keeps.mono rfl (plainWrite_fr ..)
    try clear_value x2
    extract_lets +onlyGivenNames -merge -useContext x4
    try clear_value x4
    refine Keeps.ite ?_ ?_
    · refine Keeps.ite ?_ ?_
      · exact h3
      · exact Keeps.tr h3 (Keeps.mono rfl (twOn_fr ..))
    · refine Keeps.ite ?_ ?_
      · refine Keeps.tr ?_ (Keeps.mono rfl (endRun_fr ..))
        refine Keeps.tr ?_ (Keeps.mono rfl (twIdle_fr ..))
        exact Keeps.tr h3 (Keeps.mono rfl (State_setF_fr ..))
      · exact h3

theorem execDisplay_fr (a0) (a1) (a2) (s : State) : KeepsOut 524416 s (execDisplay a0 a1 a2 s) := by
  unfold execDisplay
  extract_lets +onlyGivenNames -merge -useContext x1
  try clear_value x1
  extract_lets +onlyGivenNames -merge -useContext x2
  try clear_value x2
  extract_lets +onlyGivenNames -merge -useContext x3
  try clear_value x3
  refine KeepsOut.next ?_
  refine Keeps.ite ?_ ?_
  · extract_lets +onlyGivenNames -merge -useContext x4
    have h5 : Keeps 524416 s x4 := by
      unfold x4
      split
      · exact Keeps.mono rfl (State_advTo_fr ..)
      · exact Keeps.refl _ _
    try clear_value x4
    extract_lets +onlyGivenNames -merge -useContext y6 x7
    have h8 : Keeps 524416 s x7 := by
      unfold x7
      exact Keeps.tr h5 (Keeps.mono rfl (Keeps.put_field _ _))
    try clear_value x7
    exact Keeps.tr h8 (Keeps.mono rfl (twQueue_fr ..))
  · exact Keeps.refl _ _

end Sys2Proof.Machine
end

