-- ==== Sys2Proof/Laws/FrameCambium.lean ====
section
/-! SUPPORT. Sys2Proof/Laws/FrameCambium.lean: for each operation of Machine/Cambium.lean, what it leaves (Laws/Frame.lean). -/

namespace Sys2Proof.Machine

open Sys2Proof

theorem setSlot_fr (a0) (a1) (s : State) : Keeps 256 s (setSlot a0 a1 s) := by
  unfold setSlot
  exact Keeps.mono rfl (Keeps.put_camb _ _)

theorem setTun_fr (a0) (a1) (s : State) : Keeps 256 s (setTun a0 a1 s) := by
  unfold setTun
  exact Keeps.mono rfl (Keeps.put_camb _ _)

theorem setMod_fr (a0) (a1) (s : State) : Keeps 256 s (setMod a0 a1 s) := by
  unfold setMod
  exact Keeps.mono rfl (Keeps.put_camb _ _)

theorem stage_fr (a0) (a1) (a2) (s : State) : Keeps 257 s (stage a0 a1 a2 s) := by
  unfold stage
  extract_lets +onlyGivenNames -merge -useContext y1 x2
  have h3 : Keeps 257 s x2 := by
    unfold x2
    split
    · exact Keeps.refl _ _
    · exact Keeps.mono rfl (Keeps.put_camb _ _)
  try clear_value x2
  refine Keeps.tr ?_ (Keeps.mono rfl (State_setB_fr ..))
  exact Keeps.tr h3 (Keeps.mono rfl (plainWrite_fr ..))

theorem kpCorrect_fr (a0) (s : State) : Keeps 1 s (kpCorrect a0 s) := by
  unfold kpCorrect
  extract_lets +onlyGivenNames -merge -useContext x1
  try clear_value x1
  extract_lets +onlyGivenNames -merge -useContext x2
  try clear_value x2
  refine Keeps.ite ?_ ?_
  · exact Keeps.refl _ _
  · exact Keeps.mono rfl (State_setReg_fr ..)

theorem dstChanged_fr (a0) (s : State) : Keeps 256 s (dstChanged a0 s) := by
  unfold dstChanged
  refine Keeps.tr ?_ (forRange_fr _ _ (fun iz1 sz1 => ?_) _)
  · exact Keeps.refl _ _
  · refine Keeps.ite ?_ ?_
    · exact Keeps.mono rfl (Keeps.put_camb _ _)
    · exact Keeps.refl _ _

theorem applyStaged_fr (a0) (s : State) : Keeps 257 s (applyStaged a0 s) := by
  unfold applyStaged
  refine Keeps.ite ?_ ?_
  · exact Keeps.refl _ _
  · extract_lets +onlyGivenNames -merge -useContext x1
    have h2 : Keeps 257 s x1 := by
      unfold x1
      refine Keeps.tr ?_ (Keeps.mono rfl (dstChanged_fr ..))
      exact Keeps.mono rfl (kpCorrect_fr ..)
    try clear_value x1
    refine Keeps.tr ?_ (Keeps.mono rfl (State_setB_fr ..))
    exact Keeps.tr h2 (Keeps.mono rfl (Keeps.put_camb _ _))

theorem stateWrite_fr (a0) (a1) (a2) (s : State) : Keeps 1 s (stateWrite a0 a1 a2 s) := by
  unfold stateWrite
  refine Keeps.ite ?_ ?_
  · exact Keeps.mono rfl (State_setReg_fr ..)
  · exact Keeps.mono rfl (State_setB_fr ..)

theorem slotWrite_fr (a0) (a1) (a2) (s : State) : Keeps 257 s (slotWrite a0 a1 a2 s) := by
  unfold slotWrite
  extract_lets +onlyGivenNames -merge -useContext x1
  try clear_value x1
  refine Keeps.ite ?_ ?_
  · exact Keeps.mono rfl (stateWrite_fr ..)
  · refine Keeps.ite ?_ ?_
    · exact Keeps.mono rfl (stateWrite_fr ..)
    · refine Keeps.ite ?_ ?_
      · exact Keeps.mono rfl (plainWrite_fr ..)
      · split
        · exact Keeps.refl _ _
        · refine Keeps.ite ?_ ?_
          · exact Keeps.refl _ _
          · refine Keeps.ite ?_ ?_
            · exact Keeps.mono rfl (State_setB_fr ..)
            · refine Keeps.ite ?_ ?_
              · exact Keeps.mono rfl (State_setB_fr ..)
              · exact Keeps.mono rfl (stage_fr ..)

theorem execCambSlotWrite_fr (a0) (a1) (a2) (s : State) : KeepsOut 257 s (execCambSlotWrite a0 a1 a2 s) := by
  unfold execCambSlotWrite
  refine KeepsOut.next ?_
  refine Keeps.ite ?_ ?_
  · exact Keeps.mono rfl (slotWrite_fr ..)
  · exact Keeps.refl _ _

theorem execCambLock_fr (a0) (a1) (s : State) : KeepsOut 1 s (execCambLock a0 a1 s) := by
  unfold execCambLock
  refine KeepsOut.next ?_
  refine Keeps.ite ?_ ?_
  · exact Keeps.mono rfl (State_setB_fr ..)
  · exact Keeps.refl _ _

theorem execCambStateWrite_fr (a0) (a1) (a2) (s : State) : KeepsOut 1 s (execCambStateWrite a0 a1 a2 s) := by
  unfold execCambStateWrite
  refine KeepsOut.next ?_
  refine Keeps.ite ?_ ?_
  · exact Keeps.mono rfl (stateWrite_fr ..)
  · exact Keeps.refl _ _

theorem sampleU1_fr (a0) (s : State) : Keeps 256 s (sampleU1 a0 s) := by
  unfold sampleU1
  extract_lets +onlyGivenNames -merge -useContext x1
  try clear_value x1
  extract_lets +onlyGivenNames -merge -useContext x2
  try clear_value x2
  refine Keeps.ite ?_ ?_
  · extract_lets +onlyGivenNames -merge -useContext x3
    try clear_value x3
    extract_lets +onlyGivenNames -merge -useContext x4
    try clear_value x4
    exact Keeps.mono rfl (setMod_fr ..)
  · exact Keeps.refl _ _

theorem catchU1_fr (s : State) : Keeps 256 s (catchU1 s) := by
  unfold catchU1
  refine Keeps.tr ?_ (forRange_fr _ _ (fun iz1 sz1 => ?_) _)
  · exact Keeps.refl _ _
  · exact Keeps.mono rfl (sampleU1_fr ..)

theorem storePoint_fr (a0) (s : State) : Keeps 256 s (storePoint a0 s) := by
  unfold storePoint
  extract_lets +onlyGivenNames -merge -useContext x1
  try clear_value x1
  extract_lets +onlyGivenNames -merge -useContext x2
  try clear_value x2
  extract_lets +onlyGivenNames -merge -useContext x3
  try clear_value x3
  exact Keeps.mono rfl (Keeps.put_camb _ _)

theorem sendPoint_fr (s : State) : Keeps 67 s (sendPoint s) := by
  unfold sendPoint
  refine Keeps.ite ?_ ?_
  · split
    · rename_i y3 y4 e2
      have h1 : Keeps 67 s y4 := by
        exact Keeps.mono rfl (popPart_fr e2)
      exact Keeps.tr h1 (Keeps.mono rfl (sendStream_fr ..))
    · exact Keeps.refl _ _
  · exact Keeps.refl _ _

theorem execCambPointArrival_fr (s : State) : KeepsOut 323 s (execCambPointArrival s) := by
  unfold execCambPointArrival
  refine KeepsOut.next ?_
  extract_lets +onlyGivenNames -merge -useContext x1
  have h2 : Keeps 323 s x1 := by
    unfold x1
    refine Keeps.ite ?_ ?_
    · exact Keeps.refl _ _
    · exact Keeps.mono rfl (sendPoint_fr ..)
  try clear_value x1
  split
  · rename_i y5 y6 e4
    have h3 : Keeps 323 s y6 := by
      exact Keeps.tr h2 (Keeps.mono rfl (takePacket_fr e4))
    extract_lets +onlyGivenNames -merge -useContext x7
    try clear_value x7
    refine Keeps.tr ?_ (Keeps.mono rfl (storePoint_fr ..))
    exact Keeps.tr h3 (Keeps.mono rfl (catchU1_fr ..))
  · exact h2

theorem lastOr_fr (a0) (s : State) : Keeps 1048576 s (lastOr a0 s).2 := by
  unfold lastOr
  split
  · refine Keeps.pair ?_
    exact Keeps.refl _ _
  · extract_lets +onlyGivenNames -merge -useContext x1
    have h2 : Keeps 1048576 s x1.2 := by
      unfold x1
      exact Keeps.mono rfl (State_draw_fr ..)
    try clear_value x1
    refine Keeps.pair ?_
    exact h2

theorem lastReads_fr (a0) (s : State) : Keeps 1048576 s (lastReads a0 s).2 := by
  unfold lastReads
  extract_lets +onlyGivenNames -merge -useContext x1
  try clear_value x1
  extract_lets +onlyGivenNames -merge -useContext x2
  have h3 : Keeps 1048576 s x2.2 := by
    unfold x2
    exact Keeps.mono rfl (lastOr_fr ..)
  try clear_value x2
  extract_lets +onlyGivenNames -merge -useContext x4
  have h5 : Keeps 1048576 s x4.2 := by
    unfold x4
    exact Keeps.tr h3 (Keeps.mono rfl (lastOr_fr ..))
  try clear_value x4
  extract_lets +onlyGivenNames -merge -useContext x6
  have h7 : Keeps 1048576 s x6.2 := by
    unfold x6
    exact Keeps.tr h5 (Keeps.mono rfl (lastOr_fr ..))
  try clear_value x6
  refine Keeps.pair ?_
  exact h7

theorem slotUrgent_fr (a0) (s : State) : Keeps 33 s (slotUrgent a0 s) := by
  unfold slotUrgent
  extract_lets +onlyGivenNames -merge -useContext x1
  try clear_value x1
  extract_lets +onlyGivenNames -merge -useContext x2
  try clear_value x2
  refine Keeps.ite ?_ ?_
  · extract_lets +onlyGivenNames -merge -useContext x3
    try clear_value x3
    extract_lets +onlyGivenNames -merge -useContext x4
    have h5 : Keeps 33 s x4 := by
      unfold x4
      exact Keeps.mono rfl (State_bump_fr ..)
    try clear_value x4
    refine Keeps.ite ?_ ?_
    · exact Keeps.tr h5 (Keeps.mono rfl (urgentRequest_fr ..))
    · exact h5
  · exact Keeps.refl _ _

theorem readStep_fr (a0) (s : State) : Keeps 1048865 s (readStep a0 s).2 := by
  unfold readStep
  extract_lets +onlyGivenNames -merge -useContext x1
  try clear_value x1
  extract_lets +onlyGivenNames -merge -useContext x2
  try clear_value x2
  extract_lets +onlyGivenNames -merge -useContext x3
  try clear_value x3
  extract_lets +onlyGivenNames -merge -useContext x4
  have h5 : Keeps 1048865 s x4 := by
    unfold x4
    exact Keeps.mono rfl (setSlot_fr ..)
  try clear_value x4
  extract_lets +onlyGivenNames -merge -useContext x6
  have h7 : Keeps 1048865 s x6 := by
    unfold x6
    refine Keeps.tr ?_ (Keeps.mono rfl (State_setF_fr ..))
    exact Keeps.tr h5 (Keeps.mono rfl (State_setB_fr ..))
  try clear_value x6
  extract_lets +onlyGivenNames -merge -useContext x8
  have h9 : Keeps 1048865 s x8 := by
    unfold x8
    refine Keeps.ite ?_ ?_
    · exact Keeps.tr h7 (Keeps.mono rfl (State_setB_fr ..))
    · exact h7
  try clear_value x8
  extract_lets +onlyGivenNames -merge -useContext x10
  have h11 : Keeps 1048865 s x10 := by
    unfold x10
    exact Keeps.tr h9 (Keeps.mono rfl (State_setReg_fr ..))
  try clear_value x10
  refine Keeps.tr ?_ (Keeps.mono rfl (lastReads_fr ..))
  exact Keeps.tr h11 (Keeps.mono rfl (slotUrgent_fr ..))

theorem sendDst_fr (a0) (a1) (a2) (a3) (s : State) : Keeps 259 s (sendDst a0 a1 a2 a3 s) := by
  unfold sendDst
  extract_lets +onlyGivenNames -merge -useContext x1
  try clear_value x1
  extract_lets +onlyGivenNames -merge -useContext x2
  try clear_value x2
  extract_lets +onlyGivenNames -merge -useContext x3
  try clear_value x3
  extract_lets +onlyGivenNames -merge -useContext x4
  try clear_value x4
  refine Keeps.ite ?_ ?_
  · exact Keeps.refl _ _
  · refine Keeps.ite ?_ ?_
    · exact Keeps.mono rfl (Keeps.put_camb _ _)
    · extract_lets +onlyGivenNames -merge -useContext x5
      try clear_value x5
      extract_lets +onlyGivenNames -merge -useContext x6
      try clear_value x6
      extract_lets +onlyGivenNames -merge -useContext x7
      try clear_value x7
      refine Keeps.ite ?_ ?_
      · exact Keeps.mono rfl (sendStream_fr ..)
      · refine Keeps.ite ?_ ?_
        · extract_lets +onlyGivenNames -merge -useContext x8
          try clear_value x8
          refine Keeps.tr ?_ (Keeps.mono rfl (setSlot_fr ..))
          exact Keeps.mono rfl (State_setReg_fr ..)
        · refine Keeps.ite ?_ ?_
          · extract_lets +onlyGivenNames -merge -useContext y9 x10
            have h11 : Keeps 259 s x10 := by
              unfold x10
              exact Keeps.mono rfl (Keeps.put_camb _ _)
            try clear_value x10
            exact Keeps.tr h11 (Keeps.mono rfl (sendStream_fr ..))
          · exact Keeps.refl _ _

theorem sendStep_fr (a0) (a1) (a2) (s : State) : Keeps 259 s (sendStep a0 a1 a2 s) := by
  unfold sendStep
  extract_lets +onlyGivenNames -merge -useContext x1
  try clear_value x1
  refine Keeps.ite ?_ ?_
  · exact Keeps.mono rfl (sendDst_fr ..)
  · refine Keeps.tr ?_ (forRange_fr _ _ (fun iz2 sz2 => ?_) _)
    · exact Keeps.refl _ _
    · exact Keeps.mono rfl (sendDst_fr ..)

theorem endTune_fr (a0) (a1) (s : State) : Keeps 257 s (endTune a0 a1 s) := by
  unfold endTune
  extract_lets +onlyGivenNames -merge -useContext x1
  have h2 : Keeps 257 s x1 := by
    unfold x1
    refine Keeps.tr ?_ (Keeps.mono rfl (State_setF_fr ..))
    exact Keeps.mono rfl (State_setF_fr ..)
  try clear_value x1
  refine Keeps.tr ?_ (Keeps.mono rfl (setTun_fr ..))
  exact Keeps.tr h2 (Keeps.mono rfl (State_setB_fr ..))

theorem tuneStep_fr (a0) (a1) (a2) (a3) (s : State) : Keeps 257 s (tuneStep a0 a1 a2 a3 s).2 := by
  unfold tuneStep
  extract_lets +onlyGivenNames -merge -useContext x1
  try clear_value x1
  extract_lets +onlyGivenNames -merge -useContext x2
  try clear_value x2
  extract_lets +onlyGivenNames -merge -useContext x3
  try clear_value x3
  extract_lets +onlyGivenNames -merge -useContext x4
  try clear_value x4
  extract_lets +onlyGivenNames -merge -useContext x5
  try clear_value x5
  extract_lets +onlyGivenNames -merge -useContext y6 y8 y10 x11
  have h7 : Keeps 257 s y6 := by
    unfold y6
    refine Keeps.tr ?_ (Keeps.mono rfl (State_setF_fr ..))
    refine Keeps.tr ?_ (Keeps.mono rfl (State_setReg_fr ..))
    exact Keeps.mono rfl (State_setReg_fr ..)
  have h9 : Keeps 257 s y8 := by
    unfold y8
    refine Keeps.tr ?_ (Keeps.mono rfl (State_setF_fr ..))
    exact Keeps.tr h7 (Keeps.mono rfl (State_setF_fr ..))
  have h12 : Keeps 257 s x11 := by
    unfold x11
    refine Keeps.ite ?_ ?_
    · exact Keeps.tr h9 (Keeps.mono rfl (setTun_fr ..))
    · exact Keeps.refl _ _
  try clear_value x11
  extract_lets +onlyGivenNames -merge -useContext x13
  try clear_value x13
  extract_lets +onlyGivenNames -merge -useContext x14
  try clear_value x14
  extract_lets +onlyGivenNames -merge -useContext x15
  try clear_value x15
  extract_lets +onlyGivenNames -merge -useContext x16
  try clear_value x16
  extract_lets +onlyGivenNames -merge -useContext x17
  try clear_value x17
  extract_lets +onlyGivenNames -merge -useContext x18
  try clear_value x18
  extract_lets +onlyGivenNames -merge -useContext x19
  try clear_value x19
  extract_lets +onlyGivenNames -merge -useContext x20
  try clear_value x20
  extract_lets +onlyGivenNames -merge -useContext x21
  try clear_value x21
  extract_lets +onlyGivenNames -merge -useContext x22
  try clear_value x22
  extract_lets +onlyGivenNames -merge -useContext x23
  try clear_value x23
  extract_lets +onlyGivenNames -merge -useContext x24
  try clear_value x24
  extract_lets +onlyGivenNames -merge -useContext x25
  try clear_value x25
  extract_lets +onlyGivenNames -merge -useContext x26
  try clear_value x26
  extract_lets +onlyGivenNames -merge -useContext x27
  have h28 : Keeps 257 s x27 := by
    unfold x27
    exact Keeps.tr h12 (Keeps.mono rfl (setTun_fr ..))
  try clear_value x27
  extract_lets +onlyGivenNames -merge -useContext x29
  try clear_value x29
  extract_lets +onlyGivenNames -merge -useContext x30
  have h31 : Keeps 257 s x30 := by
    unfold x30
    refine Keeps.tr ?_ (Keeps.mono rfl (State_setF_fr ..))
    exact Keeps.tr h28 (Keeps.mono rfl (State_setF_fr ..))
  try clear_value x30
  extract_lets +onlyGivenNames -merge -useContext x32
  try clear_value x32
  extract_lets +onlyGivenNames -merge -useContext x33
  try clear_value x33
  extract_lets +onlyGivenNames -merge -useContext x34
  try clear_value x34
  extract_lets +onlyGivenNames -merge -useContext x35
  try clear_value x35
  extract_lets +onlyGivenNames -merge -useContext x36
  try clear_value x36
  refine Keeps.ite2 ?_ ?_
  · refine Keeps.pair ?_
    exact Keeps.tr h31 (Keeps.mono rfl (endTune_fr ..))
  · refine Keeps.ite2 ?_ ?_
    · refine Keeps.pair ?_
      exact Keeps.tr h31 (Keeps.mono rfl (endTune_fr ..))
    · refine Keeps.ite2 ?_ ?_
      · refine Keeps.pair ?_
        exact Keeps.tr h31 (Keeps.mono rfl (endTune_fr ..))
      · refine Keeps.ite2 ?_ ?_
        · refine Keeps.pair ?_
          exact Keeps.tr h31 (Keeps.mono rfl (endTune_fr ..))
        · refine Keeps.ite2 ?_ ?_
          · refine Keeps.pair ?_
            exact Keeps.tr h31 (Keeps.mono rfl (endTune_fr ..))
          · split
            · extract_lets +onlyGivenNames -merge -useContext x37
              try clear_value x37
              refine Keeps.ite2 ?_ ?_
              · refine Keeps.pair ?_
                exact Keeps.tr h31 (Keeps.mono rfl (endTune_fr ..))
              · extract_lets +onlyGivenNames -merge -useContext x38
                have h39 : Keeps 257 s x38 := by
                  unfold x38
                  refine Keeps.tr ?_ (Keeps.mono rfl (State_setReg_fr ..))
                  refine Keeps.tr ?_ (Keeps.mono rfl (State_setReg_fr ..))
                  exact Keeps.tr h31 (Keeps.mono rfl (State_setReg_fr ..))
                try clear_value x38
                refine Keeps.pair ?_
                exact Keeps.tr h39 (Keeps.mono rfl (endTune_fr ..))
            · refine Keeps.ite2 ?_ ?_
              · refine Keeps.pair ?_
                exact Keeps.tr h31 (Keeps.mono rfl (endTune_fr ..))
              · refine Keeps.ite2 ?_ ?_
                · refine Keeps.pair ?_
                  exact Keeps.tr h31 (Keeps.mono rfl (endTune_fr ..))
                · refine Keeps.pair ?_
                  exact h31

theorem finishEval_fr (a0) (a1) (a2) (a3) (a4) (s : State) : Keeps 257 s (finishEval a0 a1 a2 a3 a4 s) := by
  unfold finishEval
  extract_lets +onlyGivenNames -merge -useContext x1
  try clear_value x1
  extract_lets +onlyGivenNames -merge -useContext x2
  try clear_value x2
  extract_lets +onlyGivenNames -merge -useContext x3
  have h4 : Keeps 257 s x3 := by
    unfold x3
    exact Keeps.mono rfl (setSlot_fr ..)
  try clear_value x3
  extract_lets +onlyGivenNames -merge -useContext x5
  have h6 : Keeps 257 s x5 := by
    unfold x5
    refine Keeps.tr ?_ (Keeps.mono rfl (State_setReg_fr ..))
    refine Keeps.tr ?_ (Keeps.mono rfl (State_setReg_fr ..))
    exact Keeps.tr h4 (Keeps.mono rfl (State_setReg_fr ..))
  try clear_value x5
  extract_lets +onlyGivenNames -merge -useContext x7
  have h8 : Keeps 257 s x7 := by
    unfold x7
    refine Keeps.tr ?_ (Keeps.mono rfl (State_setReg_fr ..))
    exact Keeps.tr h6 (Keeps.mono rfl (State_setReg_fr ..))
  try clear_value x7
  extract_lets +onlyGivenNames -merge -useContext x9
  have h10 : Keeps 257 s x9 := by
    unfold x9
    refine Keeps.ite ?_ ?_
    · refine Keeps.tr ?_ (Keeps.mono rfl (State_setB_fr ..))
      exact Keeps.tr h8 (Keeps.mono rfl (State_bump_fr ..))
    · exact h8
  try clear_value x9
  extract_lets +onlyGivenNames -merge -useContext x11
  have h12 : Keeps 257 s x11 := by
    unfold x11
    refine Keeps.tr ?_ (Keeps.mono rfl (State_setB_fr ..))
    exact Keeps.tr h10 (Keeps.mono rfl (State_setF_fr ..))
  try clear_value x11
  refine Keeps.tr ?_ (Keeps.mono rfl (State_setF_fr ..))
  refine Keeps.tr ?_ (Keeps.mono rfl (State_setB_fr ..))
  exact Keeps.tr h12 (Keeps.mono rfl (State_setB_fr ..))

theorem evalFrom_fr (a0) (a1) (s : State) : Keeps 259 s (evalFrom a0 a1 s) := by
  unfold evalFrom
  extract_lets +onlyGivenNames -merge -useContext x1
  try clear_value x1
  extract_lets +onlyGivenNames -merge -useContext x2
  try clear_value x2
  split
  · extract_lets +onlyGivenNames -merge -useContext x3
    try clear_value x3
    extract_lets +onlyGivenNames -merge -useContext x4
    try clear_value x4
    extract_lets +onlyGivenNames -merge -useContext x5
    have h6 : Keeps 259 s x5.2 := by
      unfold x5
      exact Keeps.mono rfl (tuneStep_fr ..)
    try clear_value x5
    extract_lets +onlyGivenNames -merge -useContext x7
    try clear_value x7
    refine Keeps.tr ?_ (Keeps.mono rfl (finishEval_fr ..))
    exact Keeps.tr h6 (Keeps.mono rfl (sendStep_fr ..))
  · extract_lets +onlyGivenNames -merge -useContext x8
    try clear_value x8
    extract_lets +onlyGivenNames -merge -useContext x9
    try clear_value x9
    extract_lets +onlyGivenNames -merge -useContext x10
    try clear_value x10
    extract_lets +onlyGivenNames -merge -useContext x11
    try clear_value x11
    extract_lets +onlyGivenNames -merge -useContext x12
    try clear_value x12
    extract_lets +onlyGivenNames -merge -useContext x13
    try clear_value x13
    extract_lets +onlyGivenNames -merge -useContext x14
    try clear_value x14
    extract_lets +onlyGivenNames -merge -useContext x15
    try clear_value x15
    extract_lets +onlyGivenNames -merge -useContext x16
    try clear_value x16
    extract_lets +onlyGivenNames -merge -useContext x17
    try clear_value x17
    extract_lets +onlyGivenNames -merge -useContext x18
    try clear_value x18
    extract_lets +onlyGivenNames -merge -useContext x19
    have h20 : Keeps 259 s x19 := by
      unfold x19
      refine Keeps.ite ?_ ?_
      · exact Keeps.mono rfl (State_setB_fr ..)
      · exact Keeps.refl _ _
    try clear_value x19
    refine Keeps.tr ?_ (Keeps.mono rfl (finishEval_fr ..))
    exact Keeps.tr h20 (Keeps.mono rfl (sendStep_fr ..))

theorem tuneOff_fr (a0) (a1) (s : State) : Keeps 1048833 s (tuneOff a0 a1 s) := by
  unfold tuneOff
  extract_lets +onlyGivenNames -merge -useContext x1
  have h2 : Keeps 1048833 s x1 := by
    unfold x1
    refine Keeps.ite ?_ ?_
    · exact Keeps.mono rfl (State_setReg_fr ..)
    · exact Keeps.refl _ _
  try clear_value x1
  extract_lets +onlyGivenNames -merge -useContext x3
  try clear_value x3
  extract_lets +onlyGivenNames -merge -useContext x4
  have h5 : Keeps 1048833 s x4.2 := by
    unfold x4
    exact Keeps.tr h2 (Keeps.mono rfl (lastReads_fr ..))
  try clear_value x4
  extract_lets +onlyGivenNames -merge -useContext x6
  have h7 : Keeps 1048833 s x6 := by
    unfold x6
    exact Keeps.tr h5 (Keeps.mono rfl (endTune_fr ..))
  try clear_value x6
  refine Keeps.tr ?_ (Keeps.mono rfl (State_setReg_fr ..))
  exact Keeps.tr h7 (Keeps.mono rfl (State_setReg_fr ..))

theorem evalSlot_fr (a0) (s : State) : Keeps 1048867 s (evalSlot a0 s) := by
  unfold evalSlot
  extract_lets +onlyGivenNames -merge -useContext x1
  have h2 : Keeps 1048867 s x1 := by
    unfold x1
    exact Keeps.mono rfl (applyStaged_fr ..)
  try clear_value x1
  refine Keeps.ite ?_ ?_
  · extract_lets +onlyGivenNames -merge -useContext x3
    have h4 : Keeps 1048867 s x3 := by
      unfold x3
      split
      · exact Keeps.tr h2 (Keeps.mono rfl (tuneOff_fr ..))
      · exact h2
    try clear_value x3
    refine Keeps.tr ?_ (Keeps.mono rfl (State_setF_fr ..))
    refine Keeps.tr ?_ (Keeps.mono rfl (State_setB_fr ..))
    exact Keeps.tr h4 (Keeps.mono rfl (State_setF_fr ..))
  · extract_lets +onlyGivenNames -merge -useContext x5
    have h6 : Keeps 1048867 s x5.2 := by
      unfold x5
      exact Keeps.tr h2 (Keeps.mono rfl (readStep_fr ..))
    try clear_value x5
    exact Keeps.tr h6 (Keeps.mono rfl (evalFrom_fr ..))

theorem tickStep_fr (s : State) : Keeps 1048867 s (tickStep s) := by
  unfold tickStep
  extract_lets +onlyGivenNames -merge -useContext x1
  try clear_value x1
  extract_lets +onlyGivenNames -merge -useContext x2
  try clear_value x2
  extract_lets +onlyGivenNames -merge -useContext x3
  have h4 : Keeps 1048867 s x3 := by
    unfold x3
    refine Keeps.tr ?_ (forEach_fr _ _ (fun iz5 sz5 => ?_) _)
    · exact Keeps.refl _ _
    · exact Keeps.mono rfl (evalSlot_fr ..)
  try clear_value x3
  extract_lets +onlyGivenNames -merge -useContext x6
  try clear_value x6
  extract_lets +onlyGivenNames -merge -useContext x7
  have h8 : Keeps 1048867 s x7 := by
    unfold x7
    refine Keeps.tr ?_ (Keeps.mono rfl (State_setF_fr ..))
    exact Keeps.tr h4 (Keeps.mono rfl (State_setF_fr ..))
  try clear_value x7
  exact Keeps.tr h8 (Keeps.mono rfl (Keeps.put_camb _ _))

theorem execCambTick_fr (s : State) : KeepsOut 1573155 s (execCambTick s) := by
  unfold execCambTick
  refine KeepsOut.next ?_
  refine Keeps.ite ?_ ?_
  · refine Keeps.tr ?_ (Keeps.mono rfl (tickStep_fr ..))
    refine Keeps.tr ?_ (Keeps.mono rfl (catchU1_fr ..))
    exact Keeps.mono rfl (State_advTo_fr ..)
  · exact Keeps.refl _ _

theorem gctlWrite_fr (a0) (s : State) : Keeps 257 s (gctlWrite a0 s) := by
  unfold gctlWrite
  extract_lets +onlyGivenNames -merge -useContext x1
  try clear_value x1
  extract_lets +onlyGivenNames -merge -useContext x2
  have h3 : Keeps 257 s x2 := by
    unfold x2
    exact Keeps.mono rfl (plainWrite_fr ..)
  try clear_value x2
  refine Keeps.ite ?_ ?_
  · exact Keeps.tr h3 (Keeps.mono rfl (Keeps.put_camb _ _))
  · exact h3

theorem execCambEnable_fr (s : State) : KeepsOut 257 s (execCambEnable s) := by
  unfold execCambEnable
  refine KeepsOut.next ?_
  refine Keeps.ite ?_ ?_
  · exact Keeps.mono rfl (gctlWrite_fr ..)
  · exact Keeps.refl _ _

theorem evalLast_fr (a0) (s : State) : Keeps 1048835 s (evalLast a0 s) := by
  unfold evalLast
  extract_lets +onlyGivenNames -merge -useContext x1
  have h2 : Keeps 1048835 s x1.2 := by
    unfold x1
    refine Keeps.tr ?_ (Keeps.mono rfl (lastReads_fr ..))
    exact Keeps.mono rfl (catchU1_fr ..)
  try clear_value x1
  exact Keeps.tr h2 (Keeps.mono rfl (evalFrom_fr ..))

theorem execStaleLimit_fr (a0) (s : State) : KeepsOut 1048835 s (execStaleLimit a0 s) := by
  unfold execStaleLimit
  extract_lets +onlyGivenNames -merge -useContext x1
  try clear_value x1
  extract_lets +onlyGivenNames -merge -useContext x2
  try clear_value x2
  extract_lets +onlyGivenNames -merge -useContext x3
  try clear_value x3
  refine KeepsOut.next ?_
  refine Keeps.ite ?_ ?_
  · refine Keeps.ite ?_ ?_
    · extract_lets +onlyGivenNames -merge -useContext x4
      have h5 : Keeps 1048835 s x4 := by
        unfold x4
        exact Keeps.mono rfl (setSlot_fr ..)
      try clear_value x4
      refine Keeps.tr ?_ (Keeps.mono rfl (evalLast_fr ..))
      refine Keeps.tr ?_ (Keeps.mono rfl (State_setB_fr ..))
      exact Keeps.tr h5 (Keeps.mono rfl (State_setF_fr ..))
    · refine Keeps.ite ?_ ?_
      · extract_lets +onlyGivenNames -merge -useContext x6
        have h7 : Keeps 1048835 s x6 := by
          unfold x6
          exact Keeps.mono rfl (setSlot_fr ..)
        try clear_value x6
        refine Keeps.tr ?_ (Keeps.mono rfl (evalLast_fr ..))
        refine Keeps.tr ?_ (Keeps.mono rfl (State_setB_fr ..))
        exact Keeps.tr h7 (Keeps.mono rfl (State_setF_fr ..))
      · exact Keeps.refl _ _
  · exact Keeps.refl _ _

theorem execFfStale_fr (a0) (s : State) : KeepsOut 257 s (execFfStale a0 s) := by
  unfold execFfStale
  extract_lets +onlyGivenNames -merge -useContext x1
  try clear_value x1
  extract_lets +onlyGivenNames -merge -useContext x2
  try clear_value x2
  extract_lets +onlyGivenNames -merge -useContext x3
  try clear_value x3
  refine KeepsOut.next ?_
  refine Keeps.ite ?_ ?_
  · refine Keeps.tr ?_ (Keeps.mono rfl (setSlot_fr ..))
    exact Keeps.mono rfl (State_setB_fr ..)
  · exact Keeps.refl _ _

theorem execSubstExpiry_fr (a0) (s : State) : KeepsOut 1048835 s (execSubstExpiry a0 s) := by
  unfold execSubstExpiry
  extract_lets +onlyGivenNames -merge -useContext x1
  try clear_value x1
  refine KeepsOut.next ?_
  refine Keeps.ite ?_ ?_
  · extract_lets +onlyGivenNames -merge -useContext x2
    try clear_value x2
    extract_lets +onlyGivenNames -merge -useContext x3
    try clear_value x3
    extract_lets +onlyGivenNames -merge -useContext x4
    have h5 : Keeps 1048835 s x4 := by
      unfold x4
      exact Keeps.mono rfl (setSlot_fr ..)
    try clear_value x4
    extract_lets +onlyGivenNames -merge -useContext x6
    have h7 : Keeps 1048835 s x6 := by
      unfold x6
      exact Keeps.tr h5 (Keeps.mono rfl (State_setReg_fr ..))
    try clear_value x6
    exact Keeps.tr h7 (Keeps.mono rfl (evalLast_fr ..))
  · exact Keeps.refl _ _

theorem execSubstCountReset_fr (a0) (s : State) : KeepsOut 257 s (execSubstCountReset a0 s) := by
  unfold execSubstCountReset
  refine KeepsOut.next ?_
  refine Keeps.ite ?_ ?_
  · refine Keeps.tr ?_ (Keeps.mono rfl (State_setReg_fr ..))
    exact Keeps.mono rfl (setSlot_fr ..)
  · exact Keeps.refl _ _

end Sys2Proof.Machine
end

