-- ==== Sys2Proof/Laws/FrameTuning.lean ====
section
/-! SUPPORT. Sys2Proof/Laws/FrameTuning.lean: for each operation of Machine/Tuning.lean, what it leaves (Laws/Frame.lean). -/

namespace Sys2Proof.Machine

open Sys2Proof

theorem tunerRefuse_fr (a0) (s : State) : Keeps 1 s (tunerRefuse a0 s) := by
  unfold tunerRefuse
  exact Keeps.mono rfl (State_setB_fr ..)

theorem armTuner_fr (a0) (a1) (s : State) : Keeps 257 s (armTuner a0 a1 s) := by
  unfold armTuner
  extract_lets +onlyGivenNames -merge -useContext y1 x2
  have h3 : Keeps 257 s x2 := by
    unfold x2
    refine Keeps.tr ?_ (Keeps.mono rfl (setTun_fr ..))
    refine Keeps.tr ?_ (Keeps.mono rfl (State_setF_fr ..))
    exact Keeps.mono rfl (State_setB_fr ..)
  try clear_value x2
  refine Keeps.tr ?_ (Keeps.mono rfl (State_setF_fr ..))
  refine Keeps.tr ?_ (Keeps.mono rfl (State_setF_fr ..))
  refine Keeps.tr ?_ (Keeps.mono rfl (State_setF_fr ..))
  exact Keeps.tr h3 (Keeps.mono rfl (State_setF_fr ..))

theorem stopTuner_fr (a0) (s : State) : Keeps 257 s (stopTuner a0 s) := by
  unfold stopTuner
  extract_lets +onlyGivenNames -merge -useContext x1
  have h2 : Keeps 257 s x1 := by
    unfold x1
    exact Keeps.mono rfl (State_setB_fr ..)
  try clear_value x1
  refine Keeps.ite ?_ ?_
  · exact Keeps.tr h2 (Keeps.mono rfl (setTun_fr ..))
  · exact h2

theorem tctlWrite_fr (a0) (a1) (s : State) : Keeps 257 s (tctlWrite a0 a1 s) := by
  unfold tctlWrite
  refine Keeps.ite ?_ ?_
  · refine Keeps.ite ?_ ?_
    · exact Keeps.mono rfl (tunerRefuse_fr ..)
    · refine Keeps.ite ?_ ?_
      · exact Keeps.refl _ _
      · exact Keeps.mono rfl (stopTuner_fr ..)
  · refine Keeps.ite ?_ ?_
    · refine Keeps.ite ?_ ?_
      · exact Keeps.mono rfl (armTuner_fr ..)
      · exact Keeps.mono rfl (tunerRefuse_fr ..)
    · exact Keeps.mono rfl (State_setF_fr ..)

theorem tunerWrite_fr (a0) (a1) (a2) (s : State) : Keeps 257 s (tunerWrite a0 a1 a2 s) := by
  unfold tunerWrite
  refine Keeps.ite ?_ ?_
  · exact Keeps.mono rfl (tctlWrite_fr ..)
  · refine Keeps.ite ?_ ?_
    · exact Keeps.mono rfl (plainWrite_fr ..)
    · refine Keeps.ite ?_ ?_
      · exact Keeps.mono rfl (tunerRefuse_fr ..)
      · exact Keeps.mono rfl (plainWrite_fr ..)

theorem forceTuneEnd_fr (a0) (a1) (s : State) : Keeps 1048835 s (forceTuneEnd a0 a1 s) := by
  unfold forceTuneEnd
  extract_lets +onlyGivenNames -merge -useContext x1
  try clear_value x1
  extract_lets +onlyGivenNames -merge -useContext x2
  have h3 : Keeps 1048835 s x2 := by
    unfold x2
    refine Keeps.ite ?_ ?_
    · exact Keeps.mono rfl (State_setReg_fr ..)
    · exact Keeps.refl _ _
  try clear_value x2
  extract_lets +onlyGivenNames -merge -useContext x4
  try clear_value x4
  extract_lets +onlyGivenNames -merge -useContext x5
  have h6 : Keeps 1048835 s x5.2 := by
    unfold x5
    refine Keeps.tr ?_ (Keeps.mono rfl (lastReads_fr ..))
    exact Keeps.tr h3 (Keeps.mono rfl (catchU1_fr ..))
  try clear_value x5
  extract_lets +onlyGivenNames -merge -useContext x7
  try clear_value x7
  extract_lets +onlyGivenNames -merge -useContext x8
  have h9 : Keeps 1048835 s x8 := by
    unfold x8
    exact h6
  try clear_value x8
  extract_lets +onlyGivenNames -merge -useContext x10
  try clear_value x10
  extract_lets +onlyGivenNames -merge -useContext x11
  try clear_value x11
  refine Keeps.tr ?_ (Keeps.mono rfl (finishEval_fr ..))
  refine Keeps.tr ?_ (Keeps.mono rfl (sendStep_fr ..))
  exact Keeps.tr h9 (Keeps.mono rfl (endTune_fr ..))

theorem execTunerArm_fr (a0) (a1) (s : State) : KeepsOut 257 s (execTunerArm a0 a1 s) := by
  unfold execTunerArm
  refine KeepsOut.next ?_
  refine Keeps.ite ?_ ?_
  · exact Keeps.mono rfl (tctlWrite_fr ..)
  · exact Keeps.refl _ _

theorem execTunerStop_fr (a0) (s : State) : KeepsOut 257 s (execTunerStop a0 s) := by
  unfold execTunerStop
  refine KeepsOut.next ?_
  refine Keeps.ite ?_ ?_
  · exact Keeps.mono rfl (stopTuner_fr ..)
  · exact Keeps.refl _ _

theorem execTuneTimeLimit_fr (a0) (s : State) : KeepsOut 1573123 s (execTuneTimeLimit a0 s) := by
  unfold execTuneTimeLimit
  extract_lets +onlyGivenNames -merge -useContext x1
  try clear_value x1
  refine KeepsOut.next ?_
  refine Keeps.ite ?_ ?_
  · refine Keeps.tr ?_ (Keeps.mono rfl (forceTuneEnd_fr ..))
    refine Keeps.tr ?_ (Keeps.mono rfl (State_advTo_fr ..))
    exact Keeps.mono rfl (State_setF_fr ..)
  · exact Keeps.refl _ _

theorem execTuneCycleLimit_fr (a0) (s : State) : KeepsOut 1048835 s (execTuneCycleLimit a0 s) := by
  unfold execTuneCycleLimit
  refine KeepsOut.next ?_
  refine Keeps.ite ?_ ?_
  · exact Keeps.mono rfl (forceTuneEnd_fr ..)
  · exact Keeps.refl _ _

theorem resetModel_fr (a0) (s : State) : Keeps 257 s (resetModel a0 s) := by
  unfold resetModel
  extract_lets +onlyGivenNames -merge -useContext x1
  try clear_value x1
  extract_lets +onlyGivenNames -merge -useContext x2
  try clear_value x2
  extract_lets +onlyGivenNames -merge -useContext x3
  try clear_value x3
  extract_lets +onlyGivenNames -merge -useContext x4
  have h5 : Keeps 257 s x4 := by
    unfold x4
    exact Keeps.mono rfl (setMod_fr ..)
  try clear_value x4
  extract_lets +onlyGivenNames -merge -useContext x6
  have h7 : Keeps 257 s x6 := by
    unfold x6
    refine Keeps.tr ?_ (forRange_fr _ _ (fun iz8 sz8 => ?_) _)
    · exact h5
    · exact Keeps.mono rfl (State_setReg_fr ..)
  try clear_value x6
  extract_lets +onlyGivenNames -merge -useContext x9
  have h10 : Keeps 257 s x9 := by
    unfold x9
    refine Keeps.tr ?_ (forRange_fr _ _ (fun iz11 sz11 => ?_) _)
    · exact h7
    · exact Keeps.mono rfl (State_setReg_fr ..)
  try clear_value x9
  refine Keeps.tr ?_ (Keeps.mono rfl (State_setB_fr ..))
  refine Keeps.tr ?_ (Keeps.mono rfl (State_setF_fr ..))
  exact Keeps.tr h10 (Keeps.mono rfl (State_setReg_fr ..))

theorem startRho_fr (a0) (s : State) : Keeps 257 s (startRho a0 s) := by
  unfold startRho
  extract_lets +onlyGivenNames -merge -useContext x1
  try clear_value x1
  extract_lets +onlyGivenNames -merge -useContext x2
  try clear_value x2
  refine Keeps.ite ?_ ?_
  · refine Keeps.tr ?_ (Keeps.mono rfl (State_setReg_fr ..))
    exact Keeps.mono rfl (setMod_fr ..)
  · exact Keeps.refl _ _

theorem startModel_fr (a0) (s : State) : Keeps 257 s (startModel a0 s) := by
  unfold startModel
  extract_lets +onlyGivenNames -merge -useContext x1
  have h2 : Keeps 257 s x1 := by
    unfold x1
    exact Keeps.mono rfl (startRho_fr ..)
  try clear_value x1
  extract_lets +onlyGivenNames -merge -useContext x3
  try clear_value x3
  extract_lets +onlyGivenNames -merge -useContext x4
  try clear_value x4
  exact Keeps.tr h2 (Keeps.mono rfl (setMod_fr ..))

theorem modelWrite_fr (a0) (a1) (a2) (s : State) : Keeps 257 s (modelWrite a0 a1 a2 s) := by
  unfold modelWrite
  extract_lets +onlyGivenNames -merge -useContext x1
  try clear_value x1
  refine Keeps.ite ?_ ?_
  · exact Keeps.mono rfl (State_setB_fr ..)
  · extract_lets +onlyGivenNames -merge -useContext x2
    try clear_value x2
    extract_lets +onlyGivenNames -merge -useContext x3
    have h4 : Keeps 257 s x3 := by
      unfold x3
      exact Keeps.mono rfl (plainWrite_fr ..)
    try clear_value x3
    refine Keeps.ite ?_ ?_
    · refine Keeps.ite ?_ ?_
      · exact Keeps.tr h4 (Keeps.mono rfl (startModel_fr ..))
      · refine Keeps.ite ?_ ?_
        · refine Keeps.tr ?_ (Keeps.mono rfl (State_setReg_fr ..))
          refine Keeps.tr ?_ (Keeps.mono rfl (setMod_fr ..))
          exact Keeps.tr h4 (Keeps.mono rfl (State_setB_fr ..))
        · exact h4
    · refine Keeps.ite ?_ ?_
      · extract_lets +onlyGivenNames -merge -useContext x5
        try clear_value x5
        exact Keeps.tr h4 (Keeps.mono rfl (setMod_fr ..))
      · exact h4

theorem execModelCtlWrite_fr (a0) (a1) (a2) (s : State) : KeepsOut 257 s (execModelCtlWrite a0 a1 a2 s) := by
  unfold execModelCtlWrite
  refine KeepsOut.next ?_
  refine Keeps.ite ?_ ?_
  · exact Keeps.mono rfl (modelWrite_fr ..)
  · exact Keeps.refl _ _

theorem modelOutputs_fr (a0) (s : State) : Keeps 1048833 s (modelOutputs a0 s) := by
  unfold modelOutputs
  extract_lets +onlyGivenNames -merge -useContext x1
  try clear_value x1
  extract_lets +onlyGivenNames -merge -useContext x2
  try clear_value x2
  extract_lets +onlyGivenNames -merge -useContext x3
  try clear_value x3
  extract_lets +onlyGivenNames -merge -useContext x4
  try clear_value x4
  extract_lets +onlyGivenNames -merge -useContext x5
  try clear_value x5
  extract_lets +onlyGivenNames -merge -useContext x6
  try clear_value x6
  extract_lets +onlyGivenNames -merge -useContext x7
  try clear_value x7
  extract_lets +onlyGivenNames -merge -useContext x8
  try clear_value x8
  extract_lets +onlyGivenNames -merge -useContext x9
  try clear_value x9
  extract_lets +onlyGivenNames -merge -useContext x10
  try clear_value x10
  extract_lets +onlyGivenNames -merge -useContext x11
  try clear_value x11
  extract_lets +onlyGivenNames -merge -useContext x12
  try clear_value x12
  extract_lets +onlyGivenNames -merge -useContext x13
  try clear_value x13
  extract_lets +onlyGivenNames -merge -useContext x14
  try clear_value x14
  extract_lets +onlyGivenNames -merge -useContext x15
  have h16 : Keeps 1048833 s x15.2 := by
    unfold x15
    exact Keeps.mono rfl (State_draw_fr ..)
  try clear_value x15
  extract_lets +onlyGivenNames -merge -useContext x17
  try clear_value x17
  extract_lets +onlyGivenNames -merge -useContext x18
  have h19 : Keeps 1048833 s x18 := by
    unfold x18
    refine Keeps.ite ?_ ?_
    · exact h16
    · exact Keeps.refl _ _
  try clear_value x18
  extract_lets +onlyGivenNames -merge -useContext x20
  try clear_value x20
  extract_lets +onlyGivenNames -merge -useContext x21
  try clear_value x21
  extract_lets +onlyGivenNames -merge -useContext x22
  try clear_value x22
  extract_lets +onlyGivenNames -merge -useContext x23
  try clear_value x23
  extract_lets +onlyGivenNames -merge -useContext x24
  try clear_value x24
  extract_lets +onlyGivenNames -merge -useContext x25
  have h26 : Keeps 1048833 s x25 := by
    unfold x25
    refine Keeps.tr ?_ (forRange_fr _ _ (fun iz27 sz27 => ?_) _)
    · exact h19
    · exact Keeps.mono rfl (State_setReg_fr ..)
  try clear_value x25
  extract_lets +onlyGivenNames -merge -useContext x28
  have h29 : Keeps 1048833 s x28 := by
    unfold x28
    refine Keeps.tr ?_ (forRange_fr _ _ (fun iz30 sz30 => ?_) _)
    · exact h26
    · exact Keeps.mono rfl (State_setReg_fr ..)
  try clear_value x28
  extract_lets +onlyGivenNames -merge -useContext x31
  have h32 : Keeps 1048833 s x31 := by
    unfold x31
    refine Keeps.tr ?_ (Keeps.mono rfl (State_setReg_fr ..))
    refine Keeps.tr ?_ (Keeps.mono rfl (State_setReg_fr ..))
    exact Keeps.tr h29 (Keeps.mono rfl (State_setReg_fr ..))
  try clear_value x31
  extract_lets +onlyGivenNames -merge -useContext x33
  have h34 : Keeps 1048833 s x33 := by
    unfold x33
    refine Keeps.tr ?_ (Keeps.mono rfl (State_setReg_fr ..))
    refine Keeps.tr ?_ (Keeps.mono rfl (State_setReg_fr ..))
    exact Keeps.tr h32 (Keeps.mono rfl (State_setReg_fr ..))
  try clear_value x33
  extract_lets +onlyGivenNames -merge -useContext x35
  have h36 : Keeps 1048833 s x35 := by
    unfold x35
    refine Keeps.tr ?_ (Keeps.mono rfl (State_setB_fr ..))
    refine Keeps.tr ?_ (Keeps.mono rfl (State_setB_fr ..))
    refine Keeps.tr ?_ (Keeps.mono rfl (State_setB_fr ..))
    exact Keeps.tr h34 (Keeps.mono rfl (State_setB_fr ..))
  try clear_value x35
  refine Keeps.ite ?_ ?_
  · refine Keeps.tr ?_ (Keeps.mono rfl (setMod_fr ..))
    exact Keeps.tr h36 (Keeps.mono rfl (Keeps.put_camb _ _))
  · exact h36

theorem skipUpdate_fr (a0) (s : State) : Keeps 1 s (skipUpdate a0 s) := by
  unfold skipUpdate
  refine Keeps.tr ?_ (Keeps.mono rfl (State_setB_fr ..))
  exact Keeps.mono rfl (State_bump_fr ..)

theorem modelBoundary_fr (a0) (s : State) : Keeps 1048833 s (modelBoundary a0 s) := by
  unfold modelBoundary
  extract_lets +onlyGivenNames -merge -useContext x1
  have h2 : Keeps 1048833 s x1 := by
    unfold x1
    exact Keeps.mono rfl (sampleU1_fr ..)
  try clear_value x1
  extract_lets +onlyGivenNames -merge -useContext x3
  try clear_value x3
  extract_lets +onlyGivenNames -merge -useContext x4
  try clear_value x4
  extract_lets +onlyGivenNames -merge -useContext y5 y7 x8
  have h6 : Keeps 1048833 s y5 := by
    unfold y5
    exact Keeps.tr h2 (Keeps.mono rfl (resetModel_fr ..))
  have h9 : Keeps 1048833 s x8 := by
    unfold x8
    refine Keeps.ite ?_ ?_
    · exact h2
    · exact Keeps.tr h6 (Keeps.mono rfl (setMod_fr ..))
  try clear_value x8
  extract_lets +onlyGivenNames -merge -useContext x10
  try clear_value x10
  extract_lets +onlyGivenNames -merge -useContext x11
  try clear_value x11
  extract_lets +onlyGivenNames -merge -useContext x12
  try clear_value x12
  extract_lets +onlyGivenNames -merge -useContext x13
  try clear_value x13
  extract_lets +onlyGivenNames -merge -useContext x14
  try clear_value x14
  extract_lets +onlyGivenNames -merge -useContext x15
  try clear_value x15
  extract_lets +onlyGivenNames -merge -useContext x16
  try clear_value x16
  extract_lets +onlyGivenNames -merge -useContext x17
  try clear_value x17
  extract_lets +onlyGivenNames -merge -useContext x18
  try clear_value x18
  extract_lets +onlyGivenNames -merge -useContext x19
  try clear_value x19
  extract_lets +onlyGivenNames -merge -useContext x20
  try clear_value x20
  extract_lets +onlyGivenNames -merge -useContext x21
  try clear_value x21
  extract_lets +onlyGivenNames -merge -useContext x22
  try clear_value x22
  extract_lets +onlyGivenNames -merge -useContext x23
  try clear_value x23
  extract_lets +onlyGivenNames -merge -useContext x24
  try clear_value x24
  extract_lets +onlyGivenNames -merge -useContext x25
  try clear_value x25
  extract_lets +onlyGivenNames -merge -useContext x26
  try clear_value x26
  extract_lets +onlyGivenNames -merge -useContext x27
  try clear_value x27
  extract_lets +onlyGivenNames -merge -useContext x28
  have h29 : Keeps 1048833 s x28 := by
    unfold x28
    exact Keeps.tr h9 (Keeps.mono rfl (setMod_fr ..))
  try clear_value x28
  extract_lets +onlyGivenNames -merge -useContext x30
  have h31 : Keeps 1048833 s x30 := by
    unfold x30
    refine Keeps.ite ?_ ?_
    · exact Keeps.tr h29 (Keeps.mono rfl (State_bump_fr ..))
    · refine Keeps.ite ?_ ?_
      · exact h29
      · exact Keeps.tr h29 (Keeps.mono rfl (skipUpdate_fr ..))
  try clear_value x30
  refine Keeps.tr ?_ (Keeps.mono rfl (modelOutputs_fr ..))
  exact Keeps.tr h31 (Keeps.mono rfl (State_setB_fr ..))

end Sys2Proof.Machine
end

