-- ==== Sys2Proof/Laws/FrameDrives.lean ====
section
/-! SUPPORT. Sys2Proof/Laws/FrameDrives.lean: for each operation of Machine/Drives.lean, what it leaves (Laws/Frame.lean). -/

namespace Sys2Proof.Machine

open Sys2Proof

theorem setChan_fr (a0) (a1) (s : State) : Keeps 512 s (setChan a0 a1 s) := by
  unfold setChan
  exact Keeps.mono rfl (Keeps.put_drv _ _)

theorem setDblk_fr (a0) (a1) (a2) (a3) (s : State) : Keeps 1 s (setDblk a0 a1 a2 a3 s) := by
  unfold setDblk
  refine Keeps.tr ?_ (forEach_fr _ _ (fun iz1 sz1 => ?_) _)
  · exact Keeps.refl _ _
  · exact Keeps.mono rfl (State_setB_fr ..)

theorem meanMa_fr (a0) (s : State) : Keeps 1048576 s (meanMa a0 s).2 := by
  unfold meanMa
  extract_lets +onlyGivenNames -merge -useContext x1
  try clear_value x1
  refine Keeps.ite2 ?_ ?_
  · extract_lets +onlyGivenNames -merge -useContext x2
    have h3 : Keeps 1048576 s x2.2 := by
      unfold x2
      exact Keeps.mono rfl (State_draw_fr ..)
    try clear_value x2
    refine Keeps.pair ?_
    exact h3
  · refine Keeps.pair ?_
    exact Keeps.refl _ _

theorem learn_fr (a0) (s : State) : Keeps 1048577 s (learn a0 s) := by
  unfold learn
  extract_lets +onlyGivenNames -merge -useContext x1
  try clear_value x1
  extract_lets +onlyGivenNames -merge -useContext x2
  try clear_value x2
  extract_lets +onlyGivenNames -merge -useContext x3
  try clear_value x3
  refine Keeps.ite ?_ ?_
  · extract_lets +onlyGivenNames -merge -useContext x4
    have h5 : Keeps 1048577 s x4.2 := by
      unfold x4
      exact Keeps.mono rfl (meanMa_fr ..)
    try clear_value x4
    extract_lets +onlyGivenNames -merge -useContext x6
    try clear_value x6
    extract_lets +onlyGivenNames -merge -useContext x7
    have h8 : Keeps 1048577 s x7 := by
      unfold x7
      exact h5
    try clear_value x7
    extract_lets +onlyGivenNames -merge -useContext x9
    try clear_value x9
    extract_lets +onlyGivenNames -merge -useContext x10
    try clear_value x10
    extract_lets +onlyGivenNames -merge -useContext x11
    try clear_value x11
    refine Keeps.tr ?_ (Keeps.mono rfl (State_setF_fr ..))
    exact Keeps.tr h8 (Keeps.mono rfl (State_setF_fr ..))
  · exact Keeps.refl _ _

theorem dropActuator_fr (a0) (s : State) : Keeps 2 s (dropActuator a0 s) := by
  unfold dropActuator
  exact Keeps.mono rfl (Keeps.put_fab _ _)

theorem showDuty_fr (a0) (s : State) : Keeps 1 s (showDuty a0 s) := by
  unfold showDuty
  refine Keeps.ite ?_ ?_
  · exact Keeps.mono rfl (State_setReg_fr ..)
  · exact Keeps.refl _ _

theorem setDuty_fr (a0) (a1) (s : State) : Keeps 1 s (setDuty a0 a1 s) := by
  unfold setDuty
  extract_lets +onlyGivenNames -merge -useContext x1
  try clear_value x1
  refine Keeps.ite ?_ ?_
  · exact Keeps.mono rfl (State_setReg_fr ..)
  · exact Keeps.refl _ _

theorem supplyStarted_fr (a0) (s : State) : Keeps 1024 s (supplyStarted a0 s) := by
  unfold supplyStarted
  refine Keeps.tr ?_ (forRange_fr _ _ (fun iz1 sz1 => ?_) _)
  · exact Keeps.refl _ _
  · refine Keeps.ite ?_ ?_
    · exact Keeps.mono rfl (Keeps.put_fan _ _)
    · exact Keeps.refl _ _

theorem stageStart_fr (a0) (a1) (s : State) : Keeps 1537 s (stageStart a0 a1 s) := by
  unfold stageStart
  extract_lets +onlyGivenNames -merge -useContext x1
  have h2 : Keeps 1537 s x1 := by
    unfold x1
    refine Keeps.ite ?_ ?_
    · exact Keeps.mono rfl (supplyStarted_fr ..)
    · exact Keeps.refl _ _
  try clear_value x1
  extract_lets +onlyGivenNames -merge -useContext x3
  try clear_value x3
  extract_lets +onlyGivenNames -merge -useContext x4
  have h5 : Keeps 1537 s x4 := by
    unfold x4
    exact Keeps.tr h2 (Keeps.mono rfl (setChan_fr ..))
  try clear_value x4
  extract_lets +onlyGivenNames -merge -useContext x6
  have h7 : Keeps 1537 s x6 := by
    unfold x6
    refine Keeps.ite ?_ ?_
    · exact Keeps.tr h5 (Keeps.mono rfl (State_setB_fr ..))
    · exact h5
  try clear_value x6
  refine Keeps.tr ?_ (Keeps.mono rfl (showDuty_fr ..))
  exact Keeps.tr h7 (Keeps.mono rfl (State_setB_fr ..))

theorem stageStop_fr (a0) (a1) (a2) (s : State) : Keeps 1049091 s (stageStop a0 a1 a2 s) := by
  unfold stageStop
  extract_lets +onlyGivenNames -merge -useContext x1
  have h2 : Keeps 1049091 s x1 := by
    unfold x1
    exact Keeps.mono rfl (dropActuator_fr ..)
  try clear_value x1
  extract_lets +onlyGivenNames -merge -useContext x3
  try clear_value x3
  split
  · exact h2
  · extract_lets +onlyGivenNames -merge -useContext x4
    have h5 : Keeps 1049091 s x4 := by
      unfold x4
      refine Keeps.ite ?_ ?_
      · exact h2
      · exact Keeps.tr h2 (Keeps.mono rfl (learn_fr ..))
    try clear_value x4
    extract_lets +onlyGivenNames -merge -useContext x6
    have h7 : Keeps 1049091 s x6 := by
      unfold x6
      refine Keeps.ite ?_ ?_
      · exact Keeps.tr h5 (Keeps.mono rfl (State_setReg_fr ..))
      · exact h5
    try clear_value x6
    extract_lets +onlyGivenNames -merge -useContext x8
    try clear_value x8
    extract_lets +onlyGivenNames -merge -useContext y9 x10
    have h11 : Keeps 1049091 s x10 := by
      unfold x10
      exact Keeps.tr h7 (Keeps.mono rfl (setChan_fr ..))
    try clear_value x10
    extract_lets +onlyGivenNames -merge -useContext x12
    have h13 : Keeps 1049091 s x12 := by
      unfold x12
      refine Keeps.ite ?_ ?_
      · exact h11
      · refine Keeps.tr ?_ (Keeps.mono rfl (State_setB_fr ..))
        refine Keeps.ite ?_ ?_
        · exact Keeps.tr h11 (Keeps.mono rfl (State_setB_fr ..))
        · exact h11
    try clear_value x12
    refine Keeps.tr ?_ (Keeps.mono rfl (showDuty_fr ..))
    refine Keeps.ite ?_ ?_
    · exact Keeps.tr h13 (Keeps.mono rfl (State_setB_fr ..))
    · exact h13

theorem endRunning_fr (a0) (s : State) : Keeps 1049091 s (endRunning a0 s) := by
  unfold endRunning
  extract_lets +onlyGivenNames -merge -useContext x1
  have h2 : Keeps 1049091 s x1 := by
    unfold x1
    exact Keeps.mono rfl (stageStop_fr ..)
  try clear_value x1
  exact Keeps.tr h2 (Keeps.mono rfl (setChan_fr ..))

theorem dropRequests_fr (a0) (s : State) : Keeps 1049091 s (dropRequests a0 s) := by
  unfold dropRequests
  extract_lets +onlyGivenNames -merge -useContext x1
  have h2 : Keeps 1049091 s x1 := by
    unfold x1
    exact Keeps.mono rfl (endRunning_fr ..)
  try clear_value x1
  exact Keeps.tr h2 (Keeps.mono rfl (setChan_fr ..))

theorem issue_fr (a0) (a1) (s : State) : Keeps 512 s (issue a0 a1 s) := by
  unfold issue
  exact Keeps.mono rfl (setChan_fr ..)

theorem cancel_fr (a0) (a1) (s : State) : Keeps 512 s (cancel a0 a1 s) := by
  unfold cancel
  extract_lets +onlyGivenNames -merge -useContext x1
  try clear_value x1
  exact Keeps.mono rfl (setChan_fr ..)

theorem tpmPulse_fr (a0) (a1) (s : State) : Keeps 512 s (tpmPulse a0 a1 s) := by
  unfold tpmPulse
  extract_lets +onlyGivenNames -merge -useContext x1
  try clear_value x1
  extract_lets +onlyGivenNames -merge -useContext x2
  try clear_value x2
  extract_lets +onlyGivenNames -merge -useContext y3 x4
  have h5 : Keeps 512 s x4 := by
    unfold x4
    exact Keeps.mono rfl (setChan_fr ..)
  try clear_value x4
  refine Keeps.ite ?_ ?_
  · exact h5
  · exact Keeps.tr h5 (Keeps.mono rfl (issue_fr ..))

theorem setAo_fr (a0) (a1) (s : State) : Keeps 513 s (setAo a0 a1 s) := by
  unfold setAo
  extract_lets +onlyGivenNames -merge -useContext x1
  try clear_value x1
  extract_lets +onlyGivenNames -merge -useContext y2 x3
  have h4 : Keeps 513 s x3 := by
    unfold x3
    exact Keeps.mono rfl (setChan_fr ..)
  try clear_value x3
  refine Keeps.ite ?_ ?_
  · exact Keeps.tr h4 (Keeps.mono rfl (State_setB_fr ..))
  · exact h4

theorem aoStop_fr (a0) (s : State) : Keeps 513 s (aoStop a0 s) := by
  unfold aoStop
  refine Keeps.ite ?_ ?_
  · extract_lets +onlyGivenNames -merge -useContext y1 x2
    have h3 : Keeps 513 s x2 := by
      unfold x2
      exact Keeps.mono rfl (setChan_fr ..)
    try clear_value x2
    refine Keeps.ite ?_ ?_
    · exact Keeps.tr h3 (Keeps.mono rfl (State_setB_fr ..))
    · exact h3
  · exact Keeps.refl _ _

theorem formLsw_fr (a0) (a1) (s : State) : Keeps 513 s (formLsw a0 a1 s) := by
  unfold formLsw
  refine Keeps.ite ?_ ?_
  · refine Keeps.ite ?_ ?_
    · refine Keeps.ite ?_ ?_
      · exact Keeps.refl _ _
      · exact Keeps.mono rfl (issue_fr ..)
    · exact Keeps.mono rfl (cancel_fr ..)
  · refine Keeps.ite ?_ ?_
    · refine Keeps.ite ?_ ?_
      · exact Keeps.mono rfl (cancel_fr ..)
      · split
        · exact Keeps.mono rfl (issue_fr ..)
        · refine Keeps.ite ?_ ?_
          · exact Keeps.mono rfl (issue_fr ..)
          · refine Keeps.ite ?_ ?_
            · refine Keeps.tr ?_ (Keeps.mono rfl (showDuty_fr ..))
              refine Keeps.tr ?_ (Keeps.mono rfl (setDuty_fr ..))
              exact Keeps.mono rfl (setChan_fr ..)
            · exact Keeps.mono rfl (cancel_fr ..)
    · split
      · exact Keeps.mono rfl (tpmPulse_fr ..)
      · exact Keeps.refl _ _

theorem formMove_fr (a0) (a1) (s : State) : Keeps 512 s (formMove a0 a1 s) := by
  unfold formMove
  extract_lets +onlyGivenNames -merge -useContext x1
  try clear_value x1
  refine Keeps.ite ?_ ?_
  · refine Keeps.ite ?_ ?_
    · exact Keeps.refl _ _
    · extract_lets +onlyGivenNames -merge -useContext x2
      try clear_value x2
      extract_lets +onlyGivenNames -merge -useContext x3
      try clear_value x3
      extract_lets +onlyGivenNames -merge -useContext x4
      have h5 : Keeps 512 s x4 := by
        unfold x4
        refine Keeps.ite ?_ ?_
        · exact Keeps.mono rfl (cancel_fr ..)
        · exact Keeps.refl _ _
      try clear_value x4
      refine Keeps.tr ?_ (Keeps.mono rfl (issue_fr ..))
      exact Keeps.tr h5 (Keeps.mono rfl (setChan_fr ..))
  · refine Keeps.ite ?_ ?_
    · exact Keeps.refl _ _
    · split
      · extract_lets +onlyGivenNames -merge -useContext x6
        try clear_value x6
        refine Keeps.ite ?_ ?_
        · exact Keeps.mono rfl (cancel_fr ..)
        · exact Keeps.refl _ _
      · split
        · exact Keeps.mono rfl (issue_fr ..)
        · exact Keeps.mono rfl (cancel_fr ..)

theorem formRequests_fr (a0) (a1) (s : State) : Keeps 513 s (formRequests a0 a1 s) := by
  unfold formRequests
  split
  · exact Keeps.mono rfl (formLsw_fr ..)
  · exact Keeps.mono rfl (formMove_fr ..)
  · exact Keeps.mono rfl (setAo_fr ..)
  · exact Keeps.refl _ _

theorem applyDemand_fr (a0) (s : State) : Keeps 513 s (applyDemand a0 s) := by
  unfold applyDemand
  extract_lets +onlyGivenNames -merge -useContext x1
  try clear_value x1
  extract_lets +onlyGivenNames -merge -useContext x2
  have h3 : Keeps 513 s x2 := by
    unfold x2
    refine Keeps.tr ?_ (Keeps.mono rfl (State_setB_fr ..))
    exact Keeps.mono rfl (State_setReg_fr ..)
  try clear_value x2
  extract_lets +onlyGivenNames -merge -useContext x4
  have h5 : Keeps 513 s x4 := by
    unfold x4
    refine Keeps.ite ?_ ?_
    · exact Keeps.tr h3 (Keeps.mono rfl (State_setReg_fr ..))
    · exact h3
  try clear_value x4
  extract_lets +onlyGivenNames -merge -useContext x6
  have h7 : Keeps 513 s x6 := by
    unfold x6
    exact Keeps.tr h5 (Keeps.mono rfl (setDblk_fr ..))
  try clear_value x6
  refine Keeps.ite ?_ ?_
  · exact h7
  · exact Keeps.tr h7 (Keeps.mono rfl (formRequests_fr ..))

theorem execDemandArrival_fr (s : State) : KeepsOut 515 s (execDemandArrival s) := by
  unfold execDemandArrival
  refine KeepsOut.next ?_
  split
  · rename_i y3 y4 e2
    have h1 : Keeps 515 s y4 := by
      exact Keeps.mono rfl (takePacket_fr e2)
    extract_lets +onlyGivenNames -merge -useContext x5
    try clear_value x5
    refine Keeps.ite ?_ ?_
    · refine Keeps.tr ?_ (Keeps.mono rfl (applyDemand_fr ..))
      exact Keeps.tr h1 (Keeps.mono rfl (setChan_fr ..))
    · exact h1
  · exact Keeps.refl _ _

theorem execActuatorRequest_fr (s : State) : KeepsOut 1539 s (execActuatorRequest s) := by
  unfold execActuatorRequest
  refine KeepsOut.next ?_
  split
  · rename_i y3 y4 e2
    have h1 : Keeps 1539 s y4 := by
      exact Keeps.mono rfl (takePacket_fr e2)
    extract_lets +onlyGivenNames -merge -useContext x5
    try clear_value x5
    extract_lets +onlyGivenNames -merge -useContext x6
    try clear_value x6
    extract_lets +onlyGivenNames -merge -useContext x7
    try clear_value x7
    extract_lets +onlyGivenNames -merge -useContext x8
    try clear_value x8
    refine Keeps.ite ?_ ?_
    · refine Keeps.ite ?_ ?_
      · extract_lets +onlyGivenNames -merge -useContext x9
        have h10 : Keeps 1539 s x9 := by
          unfold x9
          exact Keeps.tr h1 (Keeps.mono rfl (State_bump_fr ..))
        try clear_value x9
        extract_lets +onlyGivenNames -merge -useContext x11
        have h12 : Keeps 1539 s x11 := by
          unfold x11
          refine Keeps.ite ?_ ?_
          · exact h10
          · exact Keeps.tr h10 (Keeps.mono rfl (stageStart_fr ..))
        try clear_value x11
        extract_lets +onlyGivenNames -merge -useContext y13 x14
        have h15 : Keeps 1539 s x14 := by
          unfold x14
          exact Keeps.tr h12 (Keeps.mono rfl (setChan_fr ..))
        try clear_value x14
        split
        · refine Keeps.ite ?_ ?_
          · refine Keeps.tr ?_ (Keeps.mono rfl (showDuty_fr ..))
            exact Keeps.tr h15 (Keeps.mono rfl (setDuty_fr ..))
          · exact h15
        · exact h15
      · exact h1
    · refine Keeps.ite ?_ ?_
      · exact Keeps.tr h1 (Keeps.mono rfl (setChan_fr ..))
      · exact h1
  · exact Keeps.refl _ _

theorem releaseCal_fr (a0) (s : State) : Keeps 520 s (releaseCal a0 s) := by
  unfold releaseCal
  extract_lets +onlyGivenNames -merge -useContext x1
  try clear_value x1
  exact Keeps.mono rfl (Keeps.put_fw_drv _ _ _)

theorem setCal_fr (a0) (s : State) : Keeps 512 s (setCal a0 s) := by
  unfold setCal
  exact Keeps.mono rfl (Keeps.put_drv _ _)

theorem calRequest_fr (a0) (s : State) : Keeps 512 s (calRequest a0 s) := by
  unfold calRequest
  refine Keeps.ite ?_ ?_
  · exact Keeps.mono rfl (issue_fr ..)
  · extract_lets +onlyGivenNames -merge -useContext x1
    try clear_value x1
    exact Keeps.mono rfl (issue_fr ..)

theorem calPaused_fr (a0) (s : State) : Keeps 512 s (calPaused a0 s) := by
  unfold calPaused
  split
  · exact Keeps.mono rfl (setCal_fr ..)
  · exact Keeps.refl _ _

theorem calFail_fr (a0) (a1) (a2) (s : State) : Keeps 1049099 s (calFail a0 a1 a2 s) := by
  unfold calFail
  split
  · exact Keeps.refl _ _
  · extract_lets +onlyGivenNames -merge -useContext x1
    have h2 : Keeps 1049099 s x1 := by
      unfold x1
      refine Keeps.tr ?_ (Keeps.mono rfl (releaseCal_fr ..))
      exact Keeps.mono rfl (dropRequests_fr ..)
    try clear_value x1
    extract_lets +onlyGivenNames -merge -useContext x3
    have h4 : Keeps 1049099 s x3 := by
      unfold x3
      refine Keeps.ite ?_ ?_
      · exact h2
      · refine Keeps.ite ?_ ?_
        · exact h2
        · exact Keeps.tr h2 (Keeps.mono rfl (State_setB_fr ..))
    try clear_value x3
    refine Keeps.tr ?_ (Keeps.mono rfl (applyDemand_fr ..))
    exact Keeps.tr h4 (Keeps.mono rfl (finishCmd_fr ..))

theorem endMa_fr (a0) (s : State) : Keeps 1048576 s (endMa a0 s).2 := by
  unfold endMa
  extract_lets +onlyGivenNames -merge -useContext x1
  try clear_value x1
  refine Keeps.ite2 ?_ ?_
  · refine Keeps.pair ?_
    exact Keeps.refl _ _
  · extract_lets +onlyGivenNames -merge -useContext x2
    have h3 : Keeps 1048576 s x2.2 := by
      unfold x2
      exact Keeps.mono rfl (State_draw_fr ..)
    try clear_value x2
    refine Keeps.pair ?_
    exact h3

theorem calDone_fr (a0) (a1) (a2) (s : State) : Keeps 521 s (calDone a0 a1 a2 s) := by
  unfold calDone
  extract_lets +onlyGivenNames -merge -useContext x1
  have h2 : Keeps 521 s x1 := by
    unfold x1
    refine Keeps.tr ?_ (Keeps.mono rfl (State_setF_fr ..))
    exact Keeps.mono rfl (State_setF_fr ..)
  try clear_value x1
  extract_lets +onlyGivenNames -merge -useContext x3
  have h4 : Keeps 521 s x3 := by
    unfold x3
    refine Keeps.ite ?_ ?_
    · exact h2
    · refine Keeps.tr ?_ (Keeps.mono rfl (State_setF_fr ..))
      exact Keeps.tr h2 (Keeps.mono rfl (State_setF_fr ..))
  try clear_value x3
  extract_lets +onlyGivenNames -merge -useContext x5
  try clear_value x5
  refine Keeps.tr ?_ (Keeps.mono rfl (applyDemand_fr ..))
  refine Keeps.tr ?_ (Keeps.mono rfl (finishCmd_fr ..))
  exact Keeps.tr h4 (Keeps.mono rfl (releaseCal_fr ..))

theorem calStop_fr (a0) (a1) (a2) (a3) (a4) (s : State) : Keeps 521 s (calStop a0 a1 a2 a3 a4 s) := by
  unfold calStop
  extract_lets +onlyGivenNames -merge -useContext x1
  try clear_value x1
  refine Keeps.ite ?_ ?_
  · extract_lets +onlyGivenNames -merge -useContext x2
    try clear_value x2
    refine Keeps.tr ?_ (Keeps.mono rfl (calRequest_fr ..))
    exact Keeps.mono rfl (setCal_fr ..)
  · refine Keeps.ite ?_ ?_
    · extract_lets +onlyGivenNames -merge -useContext x3
      try clear_value x3
      refine Keeps.tr ?_ (Keeps.mono rfl (calRequest_fr ..))
      exact Keeps.mono rfl (setCal_fr ..)
    · exact Keeps.mono rfl (calDone_fr ..)

theorem homeEnd_fr (a0) (s : State) : Keeps 512 s (homeEnd a0 s) := by
  unfold homeEnd
  extract_lets +onlyGivenNames -merge -useContext x1
  try clear_value x1
  refine Keeps.ite ?_ ?_
  · extract_lets +onlyGivenNames -merge -useContext x2
    have h3 : Keeps 512 s x2 := by
      unfold x2
      exact Keeps.mono rfl (setChan_fr ..)
    try clear_value x2
    refine Keeps.ite ?_ ?_
    · exact h3
    · split
      · exact Keeps.tr h3 (Keeps.mono rfl (issue_fr ..))
      · exact h3
  · exact Keeps.refl _ _

theorem endStop_fr (a0) (s : State) : Keeps 1049099 s (endStop a0 s) := by
  unfold endStop
  extract_lets +onlyGivenNames -merge -useContext x1
  try clear_value x1
  extract_lets +onlyGivenNames -merge -useContext x2
  try clear_value x2
  extract_lets +onlyGivenNames -merge -useContext x3
  try clear_value x3
  extract_lets +onlyGivenNames -merge -useContext x4
  have h5 : Keeps 1049099 s x4.2 := by
    unfold x4
    exact Keeps.mono rfl (endMa_fr ..)
  try clear_value x4
  extract_lets +onlyGivenNames -merge -useContext x6
  have h7 : Keeps 1049099 s x6.2 := by
    unfold x6
    exact Keeps.tr h5 (Keeps.mono rfl (meanMa_fr ..))
  try clear_value x6
  extract_lets +onlyGivenNames -merge -useContext x8
  have h9 : Keeps 1049099 s x8 := by
    unfold x8
    refine Keeps.ite ?_ ?_
    · exact h7
    · exact Keeps.refl _ _
  try clear_value x8
  extract_lets +onlyGivenNames -merge -useContext x10
  try clear_value x10
  extract_lets +onlyGivenNames -merge -useContext x11
  have h12 : Keeps 1049099 s x11 := by
    unfold x11
    exact Keeps.tr h9 (Keeps.mono rfl (stageStop_fr ..))
  try clear_value x11
  extract_lets +onlyGivenNames -merge -useContext x13
  have h14 : Keeps 1049099 s x13 := by
    unfold x13
    refine Keeps.tr ?_ (Keeps.mono rfl (State_setB_fr ..))
    exact Keeps.tr h12 (Keeps.mono rfl (State_setReg_fr ..))
  try clear_value x13
  extract_lets +onlyGivenNames -merge -useContext x15
  have h16 : Keeps 1049099 s x15 := by
    unfold x15
    refine Keeps.ite ?_ ?_
    · exact Keeps.tr h14 (Keeps.mono rfl (State_setB_fr ..))
    · exact h14
  try clear_value x15
  refine Keeps.ite ?_ ?_
  · refine Keeps.tr ?_ (Keeps.mono rfl (State_setB_fr ..))
    exact Keeps.tr h16 (Keeps.mono rfl (setChan_fr ..))
  · extract_lets +onlyGivenNames -merge -useContext y17 x18
    have h19 : Keeps 1049099 s x18 := by
      unfold x18
      refine Keeps.tr ?_ (Keeps.mono rfl (setChan_fr ..))
      exact Keeps.tr h16 (Keeps.mono rfl (State_setB_fr ..))
    try clear_value x18
    split
    · refine Keeps.ite ?_ ?_
      · exact Keeps.tr h19 (Keeps.mono rfl (calRequest_fr ..))
      · exact Keeps.tr h19 (Keeps.mono rfl (calStop_fr ..))
    · exact Keeps.tr h19 (Keeps.mono rfl (homeEnd_fr ..))

theorem lateEnd_fr (a0) (a1) (a2) (s : State) : Keeps 513 s (lateEnd a0 a1 a2 s) := by
  unfold lateEnd
  extract_lets +onlyGivenNames -merge -useContext x1
  have h2 : Keeps 513 s x1 := by
    unfold x1
    exact Keeps.mono rfl (State_setReg_fr ..)
  try clear_value x1
  extract_lets +onlyGivenNames -merge -useContext x3
  have h4 : Keeps 513 s x3 := by
    unfold x3
    refine Keeps.tr ?_ (Keeps.mono rfl (State_setB_fr ..))
    exact Keeps.tr h2 (Keeps.mono rfl (State_setB_fr ..))
  try clear_value x3
  extract_lets +onlyGivenNames -merge -useContext x5
  have h6 : Keeps 513 s x5 := by
    unfold x5
    refine Keeps.ite ?_ ?_
    · exact h4
    · exact Keeps.tr h4 (Keeps.mono rfl (State_setB_fr ..))
  try clear_value x5
  refine Keeps.tr ?_ (Keeps.mono rfl (applyDemand_fr ..))
  refine Keeps.tr ?_ (Keeps.mono rfl (cancel_fr ..))
  exact Keeps.tr h6 (Keeps.mono rfl (setChan_fr ..))

theorem execEndStop_fr (a0) (s : State) : KeepsOut 1573387 s (execEndStop a0 s) := by
  unfold execEndStop
  extract_lets +onlyGivenNames -merge -useContext x1
  try clear_value x1
  refine KeepsOut.next ?_
  refine Keeps.ite ?_ ?_
  · exact Keeps.refl _ _
  · split
    · refine Keeps.tr ?_ (Keeps.mono rfl (endStop_fr ..))
      exact Keeps.mono rfl (State_advTo_fr ..)
    · refine Keeps.ite ?_ ?_
      · exact Keeps.mono rfl (lateEnd_fr ..)
      · exact Keeps.refl _ _
    · exact Keeps.refl _ _

theorem durationEnd_fr (a0) (s : State) : Keeps 1049099 s (durationEnd a0 s) := by
  unfold durationEnd
  extract_lets +onlyGivenNames -merge -useContext x1
  try clear_value x1
  split
  · exact Keeps.mono rfl (stageStop_fr ..)
  · refine Keeps.ite ?_ ?_
    · extract_lets +onlyGivenNames -merge -useContext x2
      have h3 : Keeps 1049099 s x2 := by
        unfold x2
        refine Keeps.ite ?_ ?_
        · exact Keeps.mono rfl (State_setReg_fr ..)
        · exact Keeps.refl _ _
      try clear_value x2
      extract_lets +onlyGivenNames -merge -useContext x4
      try clear_value x4
      extract_lets +onlyGivenNames -merge -useContext x5
      try clear_value x5
      extract_lets +onlyGivenNames -merge -useContext x6
      have h7 : Keeps 1049099 s x6 := by
        unfold x6
        exact Keeps.tr h3 (Keeps.mono rfl (setChan_fr ..))
      try clear_value x6
      exact Keeps.tr h7 (Keeps.mono rfl (sendStream_fr ..))
    · extract_lets +onlyGivenNames -merge -useContext x8
      have h9 : Keeps 1049099 s x8.2 := by
        unfold x8
        exact Keeps.mono rfl (meanMa_fr ..)
      try clear_value x8
      extract_lets +onlyGivenNames -merge -useContext x10
      have h11 : Keeps 1049099 s x10 := by
        unfold x10
        refine Keeps.ite ?_ ?_
        · exact h9
        · exact Keeps.refl _ _
      try clear_value x10
      extract_lets +onlyGivenNames -merge -useContext x12
      have h13 : Keeps 1049099 s x12 := by
        unfold x12
        exact Keeps.tr h11 (Keeps.mono rfl (stageStop_fr ..))
      try clear_value x12
      extract_lets +onlyGivenNames -merge -useContext x14
      have h15 : Keeps 1049099 s x14 := by
        unfold x14
        refine Keeps.ite ?_ ?_
        · exact Keeps.tr h13 (Keeps.mono rfl (State_setReg_fr ..))
        · exact h13
      try clear_value x14
      extract_lets +onlyGivenNames -merge -useContext y16 x17
      have h18 : Keeps 1049099 s x17 := by
        unfold x17
        exact Keeps.tr h15 (Keeps.mono rfl (setChan_fr ..))
      try clear_value x17
      split
      · refine Keeps.ite ?_ ?_
        · exact Keeps.tr h18 (Keeps.mono rfl (calRequest_fr ..))
        · refine Keeps.ite ?_ ?_
          · exact Keeps.tr h18 (Keeps.mono rfl (calDone_fr ..))
          · exact Keeps.tr h18 (Keeps.mono rfl (calFail_fr ..))
      · exact Keeps.tr h18 (Keeps.mono rfl (homeEnd_fr ..))

theorem stageFault_fr (a0) (a1) (s : State) : Keeps 1049099 s (stageFault a0 a1 s) := by
  unfold stageFault
  extract_lets +onlyGivenNames -merge -useContext x1
  have h2 : Keeps 1049099 s x1 := by
    unfold x1
    exact Keeps.mono rfl (stageStop_fr ..)
  try clear_value x1
  extract_lets +onlyGivenNames -merge -useContext y3 x4
  have h5 : Keeps 1049099 s x4 := by
    unfold x4
    exact Keeps.tr h2 (Keeps.mono rfl (setChan_fr ..))
  try clear_value x4
  refine Keeps.ite ?_ ?_
  · exact Keeps.tr h5 (Keeps.mono rfl (calFail_fr ..))
  · exact h5

theorem execCurrentLimitTrip_fr (a0) (a1) (s : State) : KeepsOut 1049099 s (execCurrentLimitTrip a0 a1 s) := by
  unfold execCurrentLimitTrip
  extract_lets +onlyGivenNames -merge -useContext x1
  try clear_value x1
  extract_lets +onlyGivenNames -merge -useContext x2
  try clear_value x2
  extract_lets +onlyGivenNames -merge -useContext x3
  have h4 : ∀ a5 a6, Keeps 1049099 a6 (x3 a5 a6) := by
    intro a5 a6
    unfold x3
    refine Keeps.ite ?_ ?_
    · refine Keeps.tr ?_ (Keeps.mono rfl (State_setB_fr ..))
      exact Keeps.mono rfl (State_setB_fr ..)
    · refine Keeps.tr ?_ (Keeps.mono rfl (State_setB_fr ..))
      exact Keeps.mono rfl (State_setB_fr ..)
  try clear_value x3
  refine KeepsOut.next ?_
  refine Keeps.ite ?_ ?_
  · refine Keeps.tr ?_ (Keeps.mono rfl (State_bump_fr ..))
    exact h4 _ _
  · refine Keeps.ite ?_ ?_
    · extract_lets +onlyGivenNames -merge -useContext x7
      try clear_value x7
      extract_lets +onlyGivenNames -merge -useContext x8
      have h9 : Keeps 1049099 s x8 := by
        unfold x8
        refine Keeps.tr ?_ (Keeps.mono rfl (stageFault_fr ..))
        exact h4 _ _
      try clear_value x8
      extract_lets +onlyGivenNames -merge -useContext x10
      have h11 : Keeps 1049099 s x10 := by
        unfold x10
        exact Keeps.tr h9 (Keeps.mono rfl (State_bump_fr ..))
      try clear_value x10
      extract_lets +onlyGivenNames -merge -useContext x12
      try clear_value x12
      extract_lets +onlyGivenNames -merge -useContext y13 x14
      have h15 : Keeps 1049099 s x14 := by
        unfold x14
        exact Keeps.tr h11 (Keeps.mono rfl (setChan_fr ..))
      try clear_value x14
      extract_lets +onlyGivenNames -merge -useContext x16
      have h17 : Keeps 1049099 s x16 := by
        unfold x16
        refine Keeps.ite ?_ ?_
        · exact Keeps.tr h15 (Keeps.mono rfl (State_setB_fr ..))
        · exact h15
      try clear_value x16
      exact Keeps.tr h17 (Keeps.mono rfl (applyDemand_fr ..))
    · exact Keeps.refl _ _

theorem setOpen_fr (a0) (s : State) : Keeps 1 s (setOpen a0 s) := by
  unfold setOpen
  refine Keeps.tr ?_ (Keeps.mono rfl (State_setB_fr ..))
  exact Keeps.mono rfl (State_setB_fr ..)

theorem execOpenLoad_fr (a0) (s : State) : KeepsOut 524289 s (execOpenLoad a0 s) := by
  unfold execOpenLoad
  extract_lets +onlyGivenNames -merge -useContext x1
  try clear_value x1
  refine KeepsOut.next ?_
  split
  · refine Keeps.ite ?_ ?_
    · refine Keeps.tr ?_ (Keeps.mono rfl (setOpen_fr ..))
      exact Keeps.mono rfl (State_advTo_fr ..)
    · exact Keeps.refl _ _
  · exact Keeps.refl _ _

theorem execOffStateTest_fr (a0) (a1) (s : State) : KeepsOut 1 s (execOffStateTest a0 a1 s) := by
  unfold execOffStateTest
  refine KeepsOut.next ?_
  refine Keeps.ite ?_ ?_
  · extract_lets +onlyGivenNames -merge -useContext x1
    have h2 : Keeps 1 s x1 := by
      unfold x1
      exact Keeps.mono rfl (State_setF_fr ..)
    try clear_value x1
    refine Keeps.ite ?_ ?_
    · refine Keeps.ite ?_ ?_
      · exact h2
      · exact Keeps.tr h2 (Keeps.mono rfl (setOpen_fr ..))
    · refine Keeps.ite ?_ ?_
      · refine Keeps.ite ?_ ?_
        · exact h2
        · refine Keeps.tr ?_ (Keeps.mono rfl (State_setB_fr ..))
          exact Keeps.tr h2 (Keeps.mono rfl (State_setB_fr ..))
      · refine Keeps.ite ?_ ?_
        · refine Keeps.tr ?_ (Keeps.mono rfl (State_setB_fr ..))
          exact Keeps.tr h2 (Keeps.mono rfl (State_setB_fr ..))
        · exact h2
  · exact Keeps.refl _ _

theorem execStageOvertemp_fr (a0) (s : State) : KeepsOut 1049099 s (execStageOvertemp a0 s) := by
  unfold execStageOvertemp
  refine KeepsOut.next ?_
  refine Keeps.ite ?_ ?_
  · extract_lets +onlyGivenNames -merge -useContext x1
    try clear_value x1
    extract_lets +onlyGivenNames -merge -useContext x2
    have h3 : Keeps 1049099 s x2 := by
      unfold x2
      refine Keeps.tr ?_ (Keeps.mono rfl (State_bump_fr ..))
      refine Keeps.tr ?_ (Keeps.mono rfl (State_setB_fr ..))
      exact Keeps.mono rfl (State_setB_fr ..)
    try clear_value x2
    refine Keeps.tr ?_ (Keeps.mono rfl (aoStop_fr ..))
    refine Keeps.ite ?_ ?_
    · exact Keeps.tr h3 (Keeps.mono rfl (stageFault_fr ..))
    · exact h3
  · exact Keeps.refl _ _

theorem fieldOff_fr (s : State) : Keeps 1049227 s (fieldOff s) := by
  unfold fieldOff
  extract_lets +onlyGivenNames -merge -useContext x1
  have h2 : Keeps 1049227 s x1 := by
    unfold x1
    refine Keeps.tr ?_ (forRange_fr _ _ (fun iz3 sz3 => ?_) _)
    · exact Keeps.refl _ _
    · refine Keeps.tr ?_ (Keeps.mono rfl (aoStop_fr ..))
      refine Keeps.ite ?_ ?_
      · exact Keeps.mono rfl (stageFault_fr ..)
      · exact Keeps.refl _ _
  try clear_value x1
  refine Keeps.tr ?_ (forRange_fr _ _ (fun iz4 sz4 => ?_) _)
  · exact h2
  · refine Keeps.ite ?_ ?_
    · refine Keeps.tr ?_ (Keeps.mono rfl (endRun_fr ..))
      refine Keeps.tr ?_ (Keeps.mono rfl (twIdle_fr ..))
      exact Keeps.mono rfl (State_setF_fr ..)
    · exact Keeps.refl _ _

theorem execVfieldReverse_fr (s : State) : KeepsOut 1049227 s (execVfieldReverse s) := by
  unfold execVfieldReverse
  refine KeepsOut.next ?_
  refine Keeps.ite ?_ ?_
  · exact Keeps.refl _ _
  · extract_lets +onlyGivenNames -merge -useContext x1
    have h2 : Keeps 1049227 s x1 := by
      unfold x1
      exact Keeps.mono rfl (fieldOff_fr ..)
    try clear_value x1
    extract_lets +onlyGivenNames -merge -useContext x3
    have h4 : Keeps 1049227 s x3 := by
      unfold x3
      refine Keeps.tr ?_ (Keeps.mono rfl (State_bump_fr ..))
      refine Keeps.tr ?_ (Keeps.mono rfl (State_setB_fr ..))
      exact Keeps.tr h2 (Keeps.mono rfl (State_setB_fr ..))
    try clear_value x3
    exact Keeps.tr h4 (Keeps.mono rfl (State_setB_fr ..))

theorem changeMode_fr (a0) (a1) (a2) (s : State) : Keeps 1049091 s (changeMode a0 a1 a2 s) := by
  unfold changeMode
  extract_lets +onlyGivenNames -merge -useContext x1
  have h2 : Keeps 1049091 s x1 := by
    unfold x1
    exact Keeps.mono rfl (dropRequests_fr ..)
  try clear_value x1
  extract_lets +onlyGivenNames -merge -useContext x3
  have h4 : Keeps 1049091 s x3 := by
    unfold x3
    refine Keeps.tr ?_ (Keeps.mono rfl (State_setReg_fr ..))
    exact Keeps.tr h2 (Keeps.mono rfl (State_setF_fr ..))
  try clear_value x3
  extract_lets +onlyGivenNames -merge -useContext x5
  have h6 : Keeps 1049091 s x5 := by
    unfold x5
    refine Keeps.ite ?_ ?_
    · exact Keeps.tr h4 (Keeps.mono rfl (State_setB_fr ..))
    · exact h4
  try clear_value x5
  exact Keeps.tr h6 (Keeps.mono rfl (setChan_fr ..))

theorem safeLswStart_fr (a0) (s : State) : Keeps 1537 s (safeLswStart a0 s) := by
  unfold safeLswStart
  refine Keeps.ite ?_ ?_
  · exact Keeps.mono rfl (stageStart_fr ..)
  · exact Keeps.refl _ _

theorem takeSafe_fr (a0) (s : State) : Keeps 1050123 s (takeSafe a0 s) := by
  unfold takeSafe
  extract_lets +onlyGivenNames -merge -useContext x1
  try clear_value x1
  extract_lets +onlyGivenNames -merge -useContext x2
  try clear_value x2
  refine Keeps.ite ?_ ?_
  · extract_lets +onlyGivenNames -merge -useContext x3
    try clear_value x3
    extract_lets +onlyGivenNames -merge -useContext x4
    try clear_value x4
    extract_lets +onlyGivenNames -merge -useContext y5 y7 x8
    have h6 : Keeps 1050123 s y5 := by
      unfold y5
      exact Keeps.mono rfl (dropActuator_fr ..)
    have h9 : Keeps 1050123 s x8 := by
      unfold x8
      refine Keeps.ite ?_ ?_
      · exact Keeps.tr h6 (Keeps.mono rfl (setChan_fr ..))
      · exact Keeps.mono rfl (dropRequests_fr ..)
    try clear_value x8
    extract_lets +onlyGivenNames -merge -useContext x10
    have h11 : Keeps 1050123 s x10 := by
      unfold x10
      refine Keeps.ite ?_ ?_
      · exact Keeps.tr h9 (Keeps.mono rfl (calFail_fr ..))
      · exact h9
    try clear_value x10
    extract_lets +onlyGivenNames -merge -useContext x12
    have h13 : Keeps 1050123 s x12 := by
      unfold x12
      refine Keeps.tr ?_ (Keeps.mono rfl (State_setB_fr ..))
      exact Keeps.tr h11 (Keeps.mono rfl (State_setB_fr ..))
    try clear_value x12
    extract_lets +onlyGivenNames -merge -useContext y14 x15
    have h16 : Keeps 1050123 s x15 := by
      unfold x15
      exact Keeps.tr h13 (Keeps.mono rfl (setChan_fr ..))
    try clear_value x15
    refine Keeps.ite ?_ ?_
    · exact h16
    · refine Keeps.ite ?_ ?_
      · exact Keeps.tr h16 (Keeps.mono rfl (safeLswStart_fr ..))
      · refine Keeps.ite ?_ ?_
        · refine Keeps.ite ?_ ?_
          · exact Keeps.tr h16 (Keeps.mono rfl (Keeps.put_drv _ _))
          · exact h16
        · exact Keeps.tr h16 (Keeps.mono rfl (setAo_fr ..))
  · exact Keeps.refl _ _

theorem newMode_fr (a0) (s : State) : Keeps 1050123 s (newMode a0 s) := by
  unfold newMode
  refine Keeps.ite ?_ ?_
  · exact Keeps.refl _ _
  · refine Keeps.tr ?_ (Keeps.mono rfl (applyDemand_fr ..))
    refine Keeps.ite ?_ ?_
    · exact Keeps.mono rfl (takeSafe_fr ..)
    · exact Keeps.refl _ _

theorem drvCtlWrite_fr (a0) (a1) (s : State) : Keeps 1050123 s (drvCtlWrite a0 a1 s) := by
  unfold drvCtlWrite
  refine Keeps.ite ?_ ?_
  · exact Keeps.mono rfl (State_setB_fr ..)
  · extract_lets +onlyGivenNames -merge -useContext x1
    try clear_value x1
    extract_lets +onlyGivenNames -merge -useContext x2
    try clear_value x2
    extract_lets +onlyGivenNames -merge -useContext x3
    have h4 : Keeps 1050123 s x3 := by
      unfold x3
      exact Keeps.mono rfl (plainWrite_fr ..)
    try clear_value x3
    refine Keeps.ite ?_ ?_
    · extract_lets +onlyGivenNames -merge -useContext y5 y7 x8
      have h6 : Keeps 1050123 s y5 := by
        unfold y5
        exact Keeps.tr h4 (Keeps.mono rfl (dropRequests_fr ..))
      have h9 : Keeps 1050123 s x8 := by
        unfold x8
        refine Keeps.ite ?_ ?_
        · exact Keeps.tr h6 (Keeps.mono rfl (setChan_fr ..))
        · exact h4
      try clear_value x8
      exact Keeps.tr h9 (Keeps.mono rfl (applyDemand_fr ..))
    · extract_lets +onlyGivenNames -merge -useContext x10
      try clear_value x10
      extract_lets +onlyGivenNames -merge -useContext x11
      try clear_value x11
      extract_lets +onlyGivenNames -merge -useContext x12
      have h13 : Keeps 1050123 s x12 := by
        unfold x12
        refine Keeps.ite ?_ ?_
        · refine Keeps.tr ?_ (Keeps.mono rfl (State_setB_fr ..))
          refine Keeps.tr ?_ (Keeps.mono rfl (changeMode_fr ..))
          exact Keeps.tr h4 (Keeps.mono rfl (changeMode_fr ..))
        · refine Keeps.ite ?_ ?_
          · refine Keeps.tr ?_ (Keeps.mono rfl (changeMode_fr ..))
            exact Keeps.tr h4 (Keeps.mono rfl (changeMode_fr ..))
          · exact Keeps.tr h4 (Keeps.mono rfl (changeMode_fr ..))
      try clear_value x12
      exact Keeps.tr h13 (Keeps.mono rfl (newMode_fr ..))

theorem execDrvCtlWrite_fr (a0) (a1) (s : State) : KeepsOut 1050123 s (execDrvCtlWrite a0 a1 s) := by
  unfold execDrvCtlWrite
  refine KeepsOut.next ?_
  exact Keeps.mono rfl (drvCtlWrite_fr ..)

theorem execModeChangeDelayEnd_fr (a0) (s : State) : KeepsOut 1574411 s (execModeChangeDelayEnd a0 s) := by
  unfold execModeChangeDelayEnd
  split
  · extract_lets +onlyGivenNames -merge -useContext x1
    have h2 : Keeps 1574411 s x1 := by
      unfold x1
      exact Keeps.mono rfl (State_advTo_fr ..)
    try clear_value x1
    extract_lets +onlyGivenNames -merge -useContext x3
    try clear_value x3
    extract_lets +onlyGivenNames -merge -useContext x4
    try clear_value x4
    extract_lets +onlyGivenNames -merge -useContext x5
    have h6 : ∀ a7 a8, Keeps 1574411 a8 (x5 a7 a8) := by
      intro a7 a8
      unfold x5
      exact Keeps.mono rfl (setChan_fr ..)
    try clear_value x5
    refine KeepsOut.next ?_
    refine Keeps.tr ?_ (Keeps.mono rfl (newMode_fr ..))
    refine Keeps.tr ?_ (h6 _ _)
    refine Keeps.ite ?_ ?_
    · exact Keeps.tr h2 (h6 _ _)
    · exact h2
  · refine KeepsOut.next ?_
    exact Keeps.refl _ _

theorem drvWrite_fr (a0) (a1) (a2) (s : State) : Keeps 1 s (drvWrite a0 a1 a2 s) := by
  unfold drvWrite
  refine Keeps.ite ?_ ?_
  · exact Keeps.mono rfl (State_setB_fr ..)
  · exact Keeps.mono rfl (plainWrite_fr ..)

theorem pwmWrite_fr (a0) (a1) (a2) (s : State) : Keeps 1 s (pwmWrite a0 a1 a2 s) := by
  unfold pwmWrite
  extract_lets +onlyGivenNames -merge -useContext x1
  try clear_value x1
  extract_lets +onlyGivenNames -merge -useContext x2
  try clear_value x2
  refine Keeps.ite ?_ ?_
  · refine Keeps.tr ?_ (forRange_fr _ _ (fun iz3 sz3 => ?_) _)
    · exact Keeps.refl _ _
    · refine Keeps.ite ?_ ?_
      · exact Keeps.mono rfl (State_setB_fr ..)
      · exact Keeps.refl _ _
  · exact Keeps.mono rfl (plainWrite_fr ..)

theorem drvReport_fr (a0) (a1) (s : State) : Keeps 3 s (drvReport a0 a1 s) := by
  unfold drvReport
  refine Keeps.ite ?_ ?_
  · exact Keeps.mono rfl (sendStream_fr ..)
  · exact Keeps.refl _ _

theorem execDinRead_fr (a0) (a1) (s : State) : KeepsOut 524803 s (execDinRead a0 a1 s) := by
  unfold execDinRead
  refine KeepsOut.next ?_
  refine Keeps.ite ?_ ?_
  · extract_lets +onlyGivenNames -merge -useContext x1
    have h2 : Keeps 524803 s x1 := by
      unfold x1
      exact Keeps.mono rfl (State_advTo_fr ..)
    try clear_value x1
    extract_lets +onlyGivenNames -merge -useContext x3
    have h4 : Keeps 524803 s x3 := by
      unfold x3
      exact Keeps.tr h2 (Keeps.mono rfl (State_setF_fr ..))
    try clear_value x3
    extract_lets +onlyGivenNames -merge -useContext y5 x6
    try clear_value x6
    extract_lets +onlyGivenNames -merge -useContext x7
    try clear_value x7
    extract_lets +onlyGivenNames -merge -useContext x8
    try clear_value x8
    extract_lets +onlyGivenNames -merge -useContext x9
    have h10 : Keeps 524803 s x9 := by
      unfold x9
      exact Keeps.tr h4 (Keeps.mono rfl (setChan_fr ..))
    try clear_value x9
    refine Keeps.ite ?_ ?_
    · extract_lets +onlyGivenNames -merge -useContext y11 x12
      have h13 : Keeps 524803 s x12 := by
        unfold x12
        refine Keeps.tr ?_ (Keeps.mono rfl (State_setB_fr ..))
        exact Keeps.tr h10 (Keeps.mono rfl (setChan_fr ..))
      try clear_value x12
      exact Keeps.tr h13 (Keeps.mono rfl (drvReport_fr ..))
    · exact h10
  · exact Keeps.refl _ _

theorem stageReading_fr (a0) (a1) (s : State) : Keeps 513 s (stageReading a0 a1 s) := by
  unfold stageReading
  extract_lets +onlyGivenNames -merge -useContext x1
  try clear_value x1
  extract_lets +onlyGivenNames -merge -useContext x2
  try clear_value x2
  extract_lets +onlyGivenNames -merge -useContext x3
  try clear_value x3
  extract_lets +onlyGivenNames -merge -useContext x4
  try clear_value x4
  extract_lets +onlyGivenNames -merge -useContext y5 x6
  have h7 : Keeps 513 s x6 := by
    unfold x6
    exact Keeps.mono rfl (setChan_fr ..)
  try clear_value x6
  extract_lets +onlyGivenNames -merge -useContext x8
  try clear_value x8
  extract_lets +onlyGivenNames -merge -useContext x9
  have h10 : Keeps 513 s x9 := by
    unfold x9
    exact Keeps.tr h7 (Keeps.mono rfl (State_setF_fr ..))
  try clear_value x9
  refine Keeps.ite ?_ ?_
  · exact h10
  · extract_lets +onlyGivenNames -merge -useContext x11
    try clear_value x11
    extract_lets +onlyGivenNames -merge -useContext x12
    have h13 : Keeps 513 s x12 := by
      unfold x12
      refine Keeps.ite ?_ ?_
      · exact Keeps.tr h10 (Keeps.mono rfl (setChan_fr ..))
      · exact h10
    try clear_value x12
    extract_lets +onlyGivenNames -merge -useContext x14
    have h15 : Keeps 513 s x14 := by
      unfold x14
      refine Keeps.ite ?_ ?_
      · refine Keeps.tr ?_ (Keeps.mono rfl (State_setB_fr ..))
        refine Keeps.ite ?_ ?_
        · exact Keeps.tr h13 (Keeps.mono rfl (State_setB_fr ..))
        · exact h13
      · exact h13
    try clear_value x14
    refine Keeps.ite ?_ ?_
    · refine Keeps.tr ?_ (Keeps.mono rfl (State_setB_fr ..))
      exact Keeps.tr h15 (Keeps.mono rfl (State_setB_fr ..))
    · exact h15

theorem readStages_fr (a0) (s : State) : Keeps 513 s (readStages a0 s) := by
  unfold readStages
  refine Keeps.ite ?_ ?_
  · refine Keeps.tr ?_ (forRange_fr _ _ (fun iz1 sz1 => ?_) _)
    · exact Keeps.refl _ _
    · exact Keeps.mono rfl (stageReading_fr ..)
  · exact Keeps.refl _ _

theorem lateReadings_fr (a0) (a1) (s : State) : Keeps 513 s (lateReadings a0 a1 s) := by
  unfold lateReadings
  refine Keeps.tr ?_ (forEach_fr _ _ (fun iz1 sz1 => ?_) _)
  · exact Keeps.refl _ _
  · exact Keeps.mono rfl (stageReading_fr ..)

theorem execDriveReport_fr (a0) (a1) (s : State) : KeepsOut 524803 s (execDriveReport a0 a1 s) := by
  unfold execDriveReport
  refine KeepsOut.next ?_
  refine Keeps.ite ?_ ?_
  · extract_lets +onlyGivenNames -merge -useContext x1
    have h2 : Keeps 524803 s x1 := by
      unfold x1
      exact Keeps.mono rfl (State_advTo_fr ..)
    try clear_value x1
    extract_lets +onlyGivenNames -merge -useContext x3
    have h4 : Keeps 524803 s x3 := by
      unfold x3
      exact Keeps.tr h2 (Keeps.mono rfl (lateReadings_fr ..))
    try clear_value x3
    extract_lets +onlyGivenNames -merge -useContext y5 x6
    try clear_value x6
    extract_lets +onlyGivenNames -merge -useContext x7
    have h8 : Keeps 524803 s x7 := by
      unfold x7
      exact Keeps.tr h4 (Keeps.mono rfl (setChan_fr ..))
    try clear_value x7
    exact Keeps.tr h8 (Keeps.mono rfl (drvReport_fr ..))
  · exact Keeps.refl _ _

theorem applySafe_fr (a0) (s : State) : Keeps 1050123 s (applySafe a0 s) := by
  unfold applySafe
  extract_lets +onlyGivenNames -merge -useContext x1
  have h2 : Keeps 1050123 s x1 := by
    unfold x1
    exact Keeps.mono rfl (State_setF_fr ..)
  try clear_value x1
  extract_lets +onlyGivenNames -merge -useContext y3 x4
  have h5 : Keeps 1050123 s x4 := by
    unfold x4
    exact Keeps.tr h2 (Keeps.mono rfl (Keeps.put_drv _ _))
  try clear_value x4
  refine Keeps.tr ?_ (forRange_fr _ _ (fun iz6 sz6 => ?_) _)
  · exact h5
  · exact Keeps.mono rfl (takeSafe_fr ..)

theorem execSafeRun_fr (s : State) : KeepsOut 525825 s (execSafeRun s) := by
  unfold execSafeRun
  split
  · refine KeepsOut.next ?_
    exact Keeps.refl _ _
  · extract_lets +onlyGivenNames -merge -useContext x1
    have h2 : Keeps 525825 s x1 := by
      unfold x1
      exact Keeps.mono rfl (State_advTo_fr ..)
    try clear_value x1
    extract_lets +onlyGivenNames -merge -useContext y3 x4
    have h5 : Keeps 525825 s x4 := by
      unfold x4
      exact Keeps.tr h2 (Keeps.mono rfl (Keeps.put_drv _ _))
    try clear_value x4
    refine KeepsOut.next ?_
    refine Keeps.ite ?_ ?_
    · extract_lets +onlyGivenNames -merge -useContext y6 x7
      have h8 : Keeps 525825 s x7 := by
        unfold x7
        exact Keeps.tr h5 (Keeps.mono rfl (setChan_fr ..))
      try clear_value x7
      exact Keeps.tr h8 (Keeps.mono rfl (stageStart_fr ..))
    · exact h5

theorem execSafedurEnd_fr (a0) (s : State) : KeepsOut 1573379 s (execSafedurEnd a0 s) := by
  unfold execSafedurEnd
  split
  · refine KeepsOut.next ?_
    refine Keeps.ite ?_ ?_
    · extract_lets +onlyGivenNames -merge -useContext x1
      try clear_value x1
      extract_lets +onlyGivenNames -merge -useContext x2
      have h3 : Keeps 1573379 s x2 := by
        unfold x2
        refine Keeps.tr ?_ (Keeps.mono rfl (stageStop_fr ..))
        exact Keeps.mono rfl (State_advTo_fr ..)
      try clear_value x2
      exact Keeps.tr h3 (Keeps.mono rfl (setChan_fr ..))
    · exact Keeps.refl _ _
  · refine KeepsOut.next ?_
    exact Keeps.refl _ _

theorem manDrive_fr (a0) (s : State) : Keeps 1050115 s (manDrive a0 s) := by
  unfold manDrive
  refine Keeps.ite ?_ ?_
  · extract_lets +onlyGivenNames -merge -useContext x1
    try clear_value x1
    refine Keeps.ite ?_ ?_
    · exact Keeps.mono rfl (setAo_fr ..)
    · refine Keeps.ite ?_ ?_
      · extract_lets +onlyGivenNames -merge -useContext x2
        try clear_value x2
        refine Keeps.ite ?_ ?_
        · refine Keeps.ite ?_ ?_
          · refine Keeps.tr ?_ (Keeps.mono rfl (stageStart_fr ..))
            exact Keeps.mono rfl (stageStop_fr ..)
          · exact Keeps.refl _ _
        · refine Keeps.ite ?_ ?_
          · exact Keeps.mono rfl (stageStart_fr ..)
          · exact Keeps.refl _ _
      · refine Keeps.ite ?_ ?_
        · exact Keeps.mono rfl (stageStop_fr ..)
        · exact Keeps.refl _ _
  · exact Keeps.refl _ _

theorem manWrite_fr (a0) (a1) (s : State) : Keeps 1050115 s (manWrite a0 a1 s) := by
  unfold manWrite
  refine Keeps.tr ?_ (Keeps.mono rfl (manDrive_fr ..))
  exact Keeps.mono rfl (plainWrite_fr ..)

theorem stageBack_fr (a0) (s : State) : Keeps 1050115 s (stageBack a0 s) := by
  unfold stageBack
  extract_lets +onlyGivenNames -merge -useContext x1
  have h2 : Keeps 1050115 s x1 := by
    unfold x1
    refine Keeps.ite ?_ ?_
    · exact Keeps.mono rfl (setAo_fr ..)
    · exact Keeps.refl _ _
  try clear_value x1
  refine Keeps.tr ?_ (Keeps.mono rfl (manDrive_fr ..))
  refine Keeps.tr ?_ (Keeps.mono rfl (applyDemand_fr ..))
  exact Keeps.tr h2 (Keeps.mono rfl (safeLswStart_fr ..))

theorem execStageCooled_fr (a0) (s : State) : KeepsOut 1050115 s (execStageCooled a0 s) := by
  unfold execStageCooled
  refine KeepsOut.next ?_
  refine Keeps.ite ?_ ?_
  · refine Keeps.tr ?_ (Keeps.mono rfl (stageBack_fr ..))
    exact Keeps.mono rfl (State_setB_fr ..)
  · exact Keeps.refl _ _

theorem execVfieldRestore_fr (s : State) : KeepsOut 1050115 s (execVfieldRestore s) := by
  unfold execVfieldRestore
  refine KeepsOut.next ?_
  refine Keeps.ite ?_ ?_
  · refine Keeps.tr ?_ (forRange_fr _ _ (fun iz1 sz1 => ?_) _)
    · exact Keeps.mono rfl (State_setB_fr ..)
    · exact Keeps.mono rfl (stageBack_fr ..)
  · exact Keeps.refl _ _

theorem releaseSafe_fr (a0) (s : State) : Keeps 1050115 s (releaseSafe a0 s) := by
  unfold releaseSafe
  refine Keeps.ite ?_ ?_
  · extract_lets +onlyGivenNames -merge -useContext x1
    try clear_value x1
    extract_lets +onlyGivenNames -merge -useContext x2
    have h3 : Keeps 1050115 s x2 := by
      unfold x2
      refine Keeps.ite ?_ ?_
      · exact Keeps.mono rfl (stageStop_fr ..)
      · exact Keeps.refl _ _
    try clear_value x2
    extract_lets +onlyGivenNames -merge -useContext y4 x5
    have h6 : Keeps 1050115 s x5 := by
      unfold x5
      exact Keeps.tr h3 (Keeps.mono rfl (Keeps.put_drv _ _))
    try clear_value x5
    extract_lets +onlyGivenNames -merge -useContext x7
    have h8 : Keeps 1050115 s x7 := by
      unfold x7
      split
      · refine Keeps.ite ?_ ?_
        · exact Keeps.tr h6 (Keeps.mono rfl (State_setReg_fr ..))
        · exact Keeps.tr h6 (Keeps.mono rfl (State_setB_fr ..))
      · exact h6
    try clear_value x7
    extract_lets +onlyGivenNames -merge -useContext y9 x10
    have h11 : Keeps 1050115 s x10 := by
      unfold x10
      refine Keeps.tr ?_ (Keeps.mono rfl (setChan_fr ..))
      exact Keeps.tr h8 (Keeps.mono rfl (State_setB_fr ..))
    try clear_value x10
    refine Keeps.tr ?_ (Keeps.mono rfl (manDrive_fr ..))
    exact Keeps.tr h11 (Keeps.mono rfl (applyDemand_fr ..))
  · exact Keeps.refl _ _

theorem execDrvSafeclrWrite_fr (a0) (a1) (s : State) : KeepsOut 1050115 s (execDrvSafeclrWrite a0 a1 s) := by
  unfold execDrvSafeclrWrite
  refine KeepsOut.next ?_
  refine Keeps.tr ?_ (forRange_fr _ _ (fun iz1 sz1 => ?_) _)
  · exact Keeps.refl _ _
  · refine Keeps.ite ?_ ?_
    · exact Keeps.mono rfl (releaseSafe_fr ..)
    · exact Keeps.refl _ _

theorem releaseAllSafe_fr (s : State) : Keeps 1050115 s (releaseAllSafe s) := by
  unfold releaseAllSafe
  refine Keeps.tr ?_ (forRange_fr _ _ (fun iz1 sz1 => ?_) _)
  · exact Keeps.refl _ _
  · refine Keeps.ite ?_ ?_
    · exact Keeps.refl _ _
    · exact Keeps.mono rfl (releaseSafe_fr ..)

theorem execDrvManWrite_fr (a0) (a1) (s : State) : KeepsOut 1050115 s (execDrvManWrite a0 a1 s) := by
  unfold execDrvManWrite
  refine KeepsOut.next ?_
  refine Keeps.ite ?_ ?_
  · exact Keeps.mono rfl (manWrite_fr ..)
  · exact Keeps.refl _ _

end Sys2Proof.Machine
end

