-- ==== Sys2Proof/Laws/FrameFans.lean ====
section
/-! SUPPORT. Sys2Proof/Laws/FrameFans.lean: for each operation of Machine/Fans.lean, what it leaves (Laws/Frame.lean). -/

namespace Sys2Proof.Machine

open Sys2Proof

theorem setFan_fr (a0) (a1) (s : State) : Keeps 1024 s (setFan a0 a1 s) := by
  unfold setFan
  exact Keeps.mono rfl (Keeps.put_fan _ _)

theorem wantSupply_fr (a0) (a1) (s : State) : Keeps 513 s (wantSupply a0 a1 s) := by
  unfold wantSupply
  split
  · extract_lets +onlyGivenNames -merge -useContext x1
    try clear_value x1
    refine Keeps.ite ?_ ?_
    · exact Keeps.refl _ _
    · refine Keeps.tr ?_ (Keeps.mono rfl (applyDemand_fr ..))
      exact Keeps.mono rfl (setChan_fr ..)
  · exact Keeps.refl _ _

theorem putDuty_fr (a0) (a1) (s : State) : Keeps 1025 s (putDuty a0 a1 s) := by
  unfold putDuty
  extract_lets +onlyGivenNames -merge -useContext x1
  try clear_value x1
  extract_lets +onlyGivenNames -merge -useContext y2 x3
  have h4 : Keeps 1025 s x3 := by
    unfold x3
    exact Keeps.mono rfl (setFan_fr ..)
  try clear_value x3
  extract_lets +onlyGivenNames -merge -useContext x5
  have h6 : Keeps 1025 s x5 := by
    unfold x5
    exact Keeps.tr h4 (Keeps.mono rfl (State_setF_fr ..))
  try clear_value x5
  exact Keeps.tr h6 (Keeps.mono rfl (State_setReg_fr ..))

theorem putFanState_fr (a0) (a1) (s : State) : Keeps 1 s (putFanState a0 a1 s) := by
  unfold putFanState
  exact Keeps.mono rfl (State_setF_fr ..)

theorem restartWin_fr (a0) (s : State) : Keeps 1024 s (restartWin a0 s) := by
  unfold restartWin
  exact Keeps.mono rfl (setFan_fr ..)

theorem fanRun_fr (a0) (s : State) : Keeps 1537 s (fanRun a0 s) := by
  unfold fanRun
  extract_lets +onlyGivenNames -merge -useContext x1
  try clear_value x1
  extract_lets +onlyGivenNames -merge -useContext y2 x3
  have h4 : Keeps 1537 s x3 := by
    unfold x3
    refine Keeps.ite ?_ ?_
    · exact Keeps.refl _ _
    · refine Keeps.tr ?_ (Keeps.mono rfl (setFan_fr ..))
      exact Keeps.mono rfl (putFanState_fr ..)
  try clear_value x3
  extract_lets +onlyGivenNames -merge -useContext x5
  try clear_value x5
  extract_lets +onlyGivenNames -merge -useContext x6
  try clear_value x6
  extract_lets +onlyGivenNames -merge -useContext x7
  have h8 : Keeps 1537 s x7 := by
    unfold x7
    exact Keeps.tr h4 (Keeps.mono rfl (putDuty_fr ..))
  try clear_value x7
  extract_lets +onlyGivenNames -merge -useContext x9
  have h10 : Keeps 1537 s x9 := by
    unfold x9
    refine Keeps.ite ?_ ?_
    · exact Keeps.tr h8 (Keeps.mono rfl (restartWin_fr ..))
    · exact h8
  try clear_value x9
  extract_lets +onlyGivenNames -merge -useContext x11
  try clear_value x11
  extract_lets +onlyGivenNames -merge -useContext x12
  have h13 : Keeps 1537 s x12 := by
    unfold x12
    exact Keeps.tr h10 (Keeps.mono rfl (wantSupply_fr ..))
  try clear_value x12
  refine Keeps.ite ?_ ?_
  · exact Keeps.tr h13 (Keeps.mono rfl (restartWin_fr ..))
  · exact h13

theorem fanOff_fr (a0) (s : State) : Keeps 1537 s (fanOff a0 s) := by
  unfold fanOff
  extract_lets +onlyGivenNames -merge -useContext y1 x2
  have h3 : Keeps 1537 s x2 := by
    unfold x2
    refine Keeps.tr ?_ (Keeps.mono rfl (setFan_fr ..))
    exact Keeps.mono rfl (putFanState_fr ..)
  try clear_value x2
  refine Keeps.tr ?_ (Keeps.mono rfl (wantSupply_fr ..))
  exact Keeps.tr h3 (Keeps.mono rfl (putDuty_fr ..))

theorem applyFan_fr (a0) (s : State) : Keeps 1537 s (applyFan a0 s) := by
  unfold applyFan
  extract_lets +onlyGivenNames -merge -useContext x1
  try clear_value x1
  extract_lets +onlyGivenNames -merge -useContext x2
  have h3 : Keeps 1537 s x2 := by
    unfold x2
    refine Keeps.tr ?_ (Keeps.mono rfl (setDblk_fr ..))
    exact Keeps.mono rfl (State_setReg_fr ..)
  try clear_value x2
  refine Keeps.ite ?_ ?_
  · exact h3
  · extract_lets +onlyGivenNames -merge -useContext x4
    try clear_value x4
    extract_lets +onlyGivenNames -merge -useContext x5
    have h6 : Keeps 1537 s x5 := by
      unfold x5
      refine Keeps.tr ?_ (Keeps.mono rfl (State_setB_fr ..))
      exact Keeps.tr h3 (Keeps.mono rfl (State_setB_fr ..))
    try clear_value x5
    refine Keeps.ite ?_ ?_
    · exact h6
    · refine Keeps.ite ?_ ?_
      · exact h6
      · extract_lets +onlyGivenNames -merge -useContext x7
        try clear_value x7
        refine Keeps.ite ?_ ?_
        · exact Keeps.tr h6 (Keeps.mono rfl (fanOff_fr ..))
        · refine Keeps.ite ?_ ?_
          · exact h6
          · exact Keeps.tr h6 (Keeps.mono rfl (fanRun_fr ..))

theorem execFanDutyArrival_fr (s : State) : KeepsOut 1539 s (execFanDutyArrival s) := by
  unfold execFanDutyArrival
  refine KeepsOut.next ?_
  split
  · rename_i y3 y4 e2
    have h1 : Keeps 1539 s y4 := by
      exact Keeps.mono rfl (takePacket_fr e2)
    extract_lets +onlyGivenNames -merge -useContext x5
    try clear_value x5
    refine Keeps.ite ?_ ?_
    · refine Keeps.tr ?_ (Keeps.mono rfl (applyFan_fr ..))
      exact Keeps.tr h1 (Keeps.mono rfl (setFan_fr ..))
    · exact h1
  · exact Keeps.refl _ _

theorem execTachEdge_fr (a0) (s : State) : KeepsOut 1553 s (execTachEdge a0 s) := by
  unfold execTachEdge
  refine KeepsOut.next ?_
  refine Keeps.ite ?_ ?_
  · extract_lets +onlyGivenNames -merge -useContext x1
    try clear_value x1
    extract_lets +onlyGivenNames -merge -useContext y2 x3
    have h4 : Keeps 1553 s x3 := by
      unfold x3
      exact Keeps.mono rfl (Keeps.put_inp _ _)
    try clear_value x3
    extract_lets +onlyGivenNames -merge -useContext x5
    try clear_value x5
    extract_lets +onlyGivenNames -merge -useContext x6
    try clear_value x6
    extract_lets +onlyGivenNames -merge -useContext x7
    have h8 : Keeps 1553 s x7 := by
      unfold x7
      exact Keeps.tr h4 (Keeps.mono rfl (setFan_fr ..))
    try clear_value x7
    extract_lets +onlyGivenNames -merge -useContext x9
    have h10 : Keeps 1553 s x9 := by
      unfold x9
      exact Keeps.tr h8 (Keeps.mono rfl (State_setF_fr ..))
    try clear_value x9
    refine Keeps.ite ?_ ?_
    · refine Keeps.tr ?_ (Keeps.mono rfl (fanRun_fr ..))
      refine Keeps.tr ?_ (Keeps.mono rfl (setFan_fr ..))
      exact Keeps.tr h10 (Keeps.mono rfl (putFanState_fr ..))
    · exact h10
  · exact Keeps.refl _ _

theorem execFanSpeedLoop_fr (a0) (s : State) : KeepsOut 525313 s (execFanSpeedLoop a0 s) := by
  unfold execFanSpeedLoop
  refine KeepsOut.next ?_
  refine Keeps.ite ?_ ?_
  · extract_lets +onlyGivenNames -merge -useContext x1
    have h2 : Keeps 525313 s x1 := by
      unfold x1
      exact Keeps.mono rfl (State_advTo_fr ..)
    try clear_value x1
    extract_lets +onlyGivenNames -merge -useContext x3
    try clear_value x3
    extract_lets +onlyGivenNames -merge -useContext x4
    try clear_value x4
    extract_lets +onlyGivenNames -merge -useContext x5
    try clear_value x5
    extract_lets +onlyGivenNames -merge -useContext x6
    try clear_value x6
    extract_lets +onlyGivenNames -merge -useContext x7
    try clear_value x7
    extract_lets +onlyGivenNames -merge -useContext x8
    try clear_value x8
    extract_lets +onlyGivenNames -merge -useContext x9
    try clear_value x9
    extract_lets +onlyGivenNames -merge -useContext x10
    try clear_value x10
    extract_lets +onlyGivenNames -merge -useContext x11
    try clear_value x11
    extract_lets +onlyGivenNames -merge -useContext x12
    try clear_value x12
    extract_lets +onlyGivenNames -merge -useContext x13
    try clear_value x13
    extract_lets +onlyGivenNames -merge -useContext x14
    have h15 : Keeps 525313 s x14 := by
      unfold x14
      exact Keeps.tr h2 (Keeps.mono rfl (setFan_fr ..))
    try clear_value x14
    exact Keeps.tr h15 (Keeps.mono rfl (putDuty_fr ..))
  · exact Keeps.refl _ _

theorem nextWait_fr (a0) (s : State) : Keeps 1537 s (nextWait a0 s) := by
  unfold nextWait
  extract_lets +onlyGivenNames -merge -useContext x1
  try clear_value x1
  extract_lets +onlyGivenNames -merge -useContext x2
  try clear_value x2
  extract_lets +onlyGivenNames -merge -useContext x3
  try clear_value x3
  extract_lets +onlyGivenNames -merge -useContext x4
  have h5 : Keeps 1537 s x4 := by
    unfold x4
    refine Keeps.tr ?_ (Keeps.mono rfl (setFan_fr ..))
    exact Keeps.mono rfl (putFanState_fr ..)
  try clear_value x4
  refine Keeps.tr ?_ (Keeps.mono rfl (wantSupply_fr ..))
  exact Keeps.tr h5 (Keeps.mono rfl (putDuty_fr ..))

theorem stallStart_fr (a0) (s : State) : Keeps 1537 s (stallStart a0 s) := by
  unfold stallStart
  extract_lets +onlyGivenNames -merge -useContext x1
  have h2 : Keeps 1537 s x1 := by
    unfold x1
    refine Keeps.tr ?_ (Keeps.mono rfl (State_setF_fr ..))
    refine Keeps.tr ?_ (Keeps.mono rfl (State_setB_fr ..))
    exact Keeps.mono rfl (State_bump_fr ..)
  try clear_value x1
  refine Keeps.tr ?_ (Keeps.mono rfl (nextWait_fr ..))
  exact Keeps.tr h2 (Keeps.mono rfl (State_setF_fr ..))

theorem noteBand_fr (a0) (s : State) : Keeps 1024 s (noteBand a0 s) := by
  unfold noteBand
  refine Keeps.ite ?_ ?_
  · exact Keeps.mono rfl (setFan_fr ..)
  · exact Keeps.refl _ _

theorem execStall_fr (a0) (a1) (s : State) : KeepsOut 525825 s (execStall a0 a1 s) := by
  unfold execStall
  refine KeepsOut.next ?_
  refine Keeps.ite ?_ ?_
  · extract_lets +onlyGivenNames -merge -useContext x1
    have h2 : Keeps 525825 s x1 := by
      unfold x1
      exact Keeps.mono rfl (State_advTo_fr ..)
    try clear_value x1
    extract_lets +onlyGivenNames -merge -useContext x3
    have h4 : Keeps 525825 s x3 := by
      unfold x3
      split
      · exact Keeps.tr h2 (Keeps.mono rfl (lateReadings_fr ..))
      · exact h2
    try clear_value x3
    refine Keeps.ite ?_ ?_
    · extract_lets +onlyGivenNames -merge -useContext x5
      have h6 : Keeps 525825 s x5 := by
        unfold x5
        refine Keeps.tr ?_ (Keeps.mono rfl (State_setF_fr ..))
        refine Keeps.tr ?_ (Keeps.mono rfl (State_setB_fr ..))
        exact Keeps.tr h4 (Keeps.mono rfl (putFanState_fr ..))
      try clear_value x5
      refine Keeps.tr ?_ (Keeps.mono rfl (putDuty_fr ..))
      exact Keeps.tr h6 (Keeps.mono rfl (setFan_fr ..))
    · exact Keeps.tr h4 (Keeps.mono rfl (stallStart_fr ..))
  · exact Keeps.refl _ _

theorem execTachLostTimeout_fr (a0) (s : State) : KeepsOut 525825 s (execTachLostTimeout a0 s) := by
  unfold execTachLostTimeout
  refine KeepsOut.next ?_
  refine Keeps.ite ?_ ?_
  · refine Keeps.tr ?_ (Keeps.mono rfl (stallStart_fr ..))
    exact Keeps.mono rfl (State_advTo_fr ..)
  · exact Keeps.refl _ _

theorem startKick_fr (a0) (s : State) : Keeps 1025 s (startKick a0 s) := by
  unfold startKick
  extract_lets +onlyGivenNames -merge -useContext y1 x2
  have h3 : Keeps 1025 s x2 := by
    unfold x2
    refine Keeps.tr ?_ (Keeps.mono rfl (setFan_fr ..))
    exact Keeps.mono rfl (putFanState_fr ..)
  try clear_value x2
  refine Keeps.tr ?_ (Keeps.mono rfl (putDuty_fr ..))
  exact Keeps.tr h3 (Keeps.mono rfl (State_bump_fr ..))

theorem kickIfReady_fr (a0) (s : State) : Keeps 1025 s (kickIfReady a0 s) := by
  unfold kickIfReady
  extract_lets +onlyGivenNames -merge -useContext x1
  try clear_value x1
  refine Keeps.ite ?_ ?_
  · exact Keeps.mono rfl (startKick_fr ..)
  · exact Keeps.refl _ _

theorem execKick_fr (a0) (s : State) : KeepsOut 525825 s (execKick a0 s) := by
  unfold execKick
  split
  · refine KeepsOut.next ?_
    refine Keeps.ite ?_ ?_
    · extract_lets +onlyGivenNames -merge -useContext x1
      have h2 : Keeps 525825 s x1 := by
        unfold x1
        exact Keeps.mono rfl (State_advTo_fr ..)
      try clear_value x1
      extract_lets +onlyGivenNames -merge -useContext y3 x4
      have h5 : Keeps 525825 s x4 := by
        unfold x4
        exact Keeps.tr h2 (Keeps.mono rfl (setFan_fr ..))
      try clear_value x4
      refine Keeps.tr ?_ (Keeps.mono rfl (kickIfReady_fr ..))
      exact Keeps.tr h5 (Keeps.mono rfl (wantSupply_fr ..))
    · exact Keeps.refl _ _
  · refine KeepsOut.next ?_
    exact Keeps.refl _ _

theorem execKickEnd_fr (a0) (s : State) : KeepsOut 525825 s (execKickEnd a0 s) := by
  unfold execKickEnd
  split
  · refine KeepsOut.next ?_
    refine Keeps.ite ?_ ?_
    · extract_lets +onlyGivenNames -merge -useContext x1
      have h2 : Keeps 525825 s x1 := by
        unfold x1
        exact Keeps.mono rfl (State_advTo_fr ..)
      try clear_value x1
      extract_lets +onlyGivenNames -merge -useContext x3
      try clear_value x3
      refine Keeps.ite ?_ ?_
      · refine Keeps.tr ?_ (Keeps.mono rfl (fanRun_fr ..))
        exact Keeps.tr h2 (Keeps.mono rfl (State_setB_fr ..))
      · extract_lets +onlyGivenNames -merge -useContext x4
        have h5 : Keeps 525825 s x4 := by
          unfold x4
          exact Keeps.tr h2 (Keeps.mono rfl (State_bump_fr ..))
        try clear_value x4
        extract_lets +onlyGivenNames -merge -useContext x6
        have h7 : Keeps 525825 s x6 := by
          unfold x6
          refine Keeps.ite ?_ ?_
          · refine Keeps.tr ?_ (Keeps.mono rfl (State_setB_fr ..))
            exact Keeps.tr h5 (Keeps.mono rfl (State_setB_fr ..))
          · exact h5
        try clear_value x6
        exact Keeps.tr h7 (Keeps.mono rfl (nextWait_fr ..))
    · exact Keeps.refl _ _
  · refine KeepsOut.next ?_
    exact Keeps.refl _ _

theorem execRetryCountReset_fr (a0) (s : State) : KeepsOut 525312 s (execRetryCountReset a0 s) := by
  unfold execRetryCountReset
  refine KeepsOut.next ?_
  refine Keeps.ite ?_ ?_
  · extract_lets +onlyGivenNames -merge -useContext x1
    have h2 : Keeps 525312 s x1 := by
      unfold x1
      exact Keeps.mono rfl (State_advTo_fr ..)
    try clear_value x1
    exact Keeps.tr h2 (Keeps.mono rfl (setFan_fr ..))
  · exact Keeps.refl _ _

theorem clearFail_fr (a0) (s : State) : Keeps 1537 s (clearFail a0 s) := by
  unfold clearFail
  refine Keeps.ite ?_ ?_
  · exact Keeps.refl _ _
  · extract_lets +onlyGivenNames -merge -useContext y1 x2
    have h3 : Keeps 1537 s x2 := by
      unfold x2
      refine Keeps.tr ?_ (Keeps.mono rfl (setFan_fr ..))
      exact Keeps.mono rfl (State_setB_fr ..)
    try clear_value x2
    extract_lets +onlyGivenNames -merge -useContext x4
    have h5 : Keeps 1537 s x4 := by
      unfold x4
      exact Keeps.tr h3 (Keeps.mono rfl (State_setF_fr ..))
    try clear_value x4
    refine Keeps.ite ?_ ?_
    · refine Keeps.tr ?_ (Keeps.mono rfl (kickIfReady_fr ..))
      refine Keeps.tr ?_ (Keeps.mono rfl (wantSupply_fr ..))
      exact Keeps.tr h5 (Keeps.mono rfl (setFan_fr ..))
    · exact h5

theorem execFanSpeedReport_fr (a0) (s : State) : KeepsOut 525315 s (execFanSpeedReport a0 s) := by
  unfold execFanSpeedReport
  refine KeepsOut.next ?_
  refine Keeps.ite ?_ ?_
  · extract_lets +onlyGivenNames -merge -useContext x1
    have h2 : Keeps 525315 s x1 := by
      unfold x1
      exact Keeps.mono rfl (State_advTo_fr ..)
    try clear_value x1
    extract_lets +onlyGivenNames -merge -useContext y3 x4
    have h5 : Keeps 525315 s x4 := by
      unfold x4
      exact Keeps.tr h2 (Keeps.mono rfl (setFan_fr ..))
    try clear_value x4
    extract_lets +onlyGivenNames -merge -useContext x6
    try clear_value x6
    extract_lets +onlyGivenNames -merge -useContext x7
    try clear_value x7
    exact Keeps.tr h5 (Keeps.mono rfl (sendStream_fr ..))
  · exact Keeps.refl _ _

theorem fansSafe_fr (s : State) : Keeps 1025 s (fansSafe s) := by
  unfold fansSafe
  refine Keeps.tr ?_ (forRange_fr _ _ (fun iz1 sz1 => ?_) _)
  · exact Keeps.refl _ _
  · refine Keeps.ite ?_ ?_
    · refine Keeps.tr ?_ (Keeps.mono rfl (putDuty_fr ..))
      refine Keeps.tr ?_ (Keeps.mono rfl (setFan_fr ..))
      exact Keeps.mono rfl (putFanState_fr ..)
    · exact Keeps.refl _ _

theorem fanRelease_fr (a0) (s : State) : Keeps 1537 s (fanRelease a0 s) := by
  unfold fanRelease
  refine Keeps.ite ?_ ?_
  · refine Keeps.tr ?_ (Keeps.mono rfl (applyFan_fr ..))
    refine Keeps.tr ?_ (Keeps.mono rfl (restartWin_fr ..))
    exact Keeps.mono rfl (putFanState_fr ..)
  · exact Keeps.refl _ _

theorem execFanSafeclrWrite_fr (a0) (s : State) : KeepsOut 1537 s (execFanSafeclrWrite a0 s) := by
  unfold execFanSafeclrWrite
  refine KeepsOut.next ?_
  refine Keeps.tr ?_ (forRange_fr _ _ (fun iz1 sz1 => ?_) _)
  · exact Keeps.refl _ _
  · refine Keeps.ite ?_ ?_
    · exact Keeps.mono rfl (fanRelease_fr ..)
    · exact Keeps.refl _ _

theorem releaseAllFans_fr (s : State) : Keeps 1537 s (releaseAllFans s) := by
  unfold releaseAllFans
  refine Keeps.tr ?_ (forRange_fr _ _ (fun iz1 sz1 => ?_) _)
  · exact Keeps.refl _ _
  · refine Keeps.ite ?_ ?_
    · exact Keeps.refl _ _
    · exact Keeps.mono rfl (fanRelease_fr ..)

theorem fanWrite_fr (a0) (a1) (a2) (s : State) : Keeps 1537 s (fanWrite a0 a1 a2 s) := by
  unfold fanWrite
  refine Keeps.ite ?_ ?_
  · exact Keeps.refl _ _
  · extract_lets +onlyGivenNames -merge -useContext x1
    try clear_value x1
    extract_lets +onlyGivenNames -merge -useContext x2
    have h3 : Keeps 1537 s x2 := by
      unfold x2
      exact Keeps.mono rfl (plainWrite_fr ..)
    try clear_value x2
    refine Keeps.ite ?_ ?_
    · refine Keeps.ite ?_ ?_
      · exact Keeps.tr h3 (Keeps.mono rfl (applyFan_fr ..))
      · refine Keeps.ite ?_ ?_
        · exact Keeps.tr h3 (Keeps.mono rfl (fanOff_fr ..))
        · exact h3
    · refine Keeps.ite ?_ ?_
      · exact Keeps.tr h3 (Keeps.mono rfl (applyFan_fr ..))
      · exact h3

end Sys2Proof.Machine
end

