-- ==== Sys2Proof/Laws/FrameEnergy.lean ====
section
/-! SUPPORT. Sys2Proof/Laws/FrameEnergy.lean: for each operation of Machine/Energy.lean, what it leaves (Laws/Frame.lean). -/

namespace Sys2Proof.Machine

open Sys2Proof

theorem settleTa_fr (s : State) : Keeps 1049088 s (settleTa s) := by
  unfold settleTa
  split
  · exact Keeps.refl _ _
  · split
    · exact Keeps.mono rfl (Keeps.put_drv _ _)
    · extract_lets +onlyGivenNames -merge -useContext x1
      have h2 : Keeps 1049088 s x1.2 := by
        unfold x1
        exact Keeps.mono rfl (State_draw_fr ..)
      try clear_value x1
      extract_lets +onlyGivenNames -merge -useContext x3
      have h4 : Keeps 1049088 s x3 := by
        unfold x3
        exact h2
      try clear_value x3
      exact Keeps.tr h4 (Keeps.mono rfl (Keeps.put_drv _ _))

theorem budgetStep_fr (s : State) : Keeps 1049089 s (budgetStep s) := by
  unfold budgetStep
  extract_lets +onlyGivenNames -merge -useContext x1
  have h2 : Keeps 1049089 s x1 := by
    unfold x1
    exact Keeps.mono rfl (settleTa_fr ..)
  try clear_value x1
  extract_lets +onlyGivenNames -merge -useContext x3
  try clear_value x3
  extract_lets +onlyGivenNames -merge -useContext x4
  try clear_value x4
  extract_lets +onlyGivenNames -merge -useContext x5
  have h6 : Keeps 1049089 s x5 := by
    unfold x5
    exact Keeps.tr h2 (Keeps.mono rfl (State_setB_fr ..))
  try clear_value x5
  extract_lets +onlyGivenNames -merge -useContext x7
  have h8 : Keeps 1049089 s x7 := by
    unfold x7
    exact Keeps.tr h6 (Keeps.mono rfl (State_setReg_fr ..))
  try clear_value x7
  extract_lets +onlyGivenNames -merge -useContext x9
  have h10 : Keeps 1049089 s x9 := by
    unfold x9
    exact Keeps.tr h8 (Keeps.mono rfl (State_setReg_fr ..))
  try clear_value x9
  extract_lets +onlyGivenNames -merge -useContext x11
  have h12 : Keeps 1049089 s x11 := by
    unfold x11
    exact Keeps.tr h10 (Keeps.mono rfl (State_setReg_fr ..))
  try clear_value x11
  extract_lets +onlyGivenNames -merge -useContext x13
  have h14 : Keeps 1049089 s x13 := by
    unfold x13
    exact Keeps.tr h12 (Keeps.mono rfl (State_setF_fr ..))
  try clear_value x13
  exact Keeps.tr h14 (Keeps.mono rfl (State_setF_fr ..))

theorem takeArrivals_fr (a0) (s : State) : Keeps 1049091 s (takeArrivals a0 s) := by
  unfold takeArrivals
  extract_lets +onlyGivenNames -merge -useContext x1
  try clear_value x1
  extract_lets +onlyGivenNames -merge -useContext y2 y3 y5 x6
  have h4 : Keeps 1049091 s y3 := by
    unfold y3
    exact Keeps.mono rfl (endRunning_fr ..)
  have h7 : Keeps 1049091 s x6 := by
    unfold x6
    refine Keeps.ite ?_ ?_
    · exact Keeps.tr h4 (Keeps.mono rfl (setChan_fr ..))
    · exact Keeps.refl _ _
  try clear_value x6
  extract_lets +onlyGivenNames -merge -useContext x8
  try clear_value x8
  extract_lets +onlyGivenNames -merge -useContext x9
  have h10 : Keeps 1049091 s x9 := by
    unfold x9
    refine Keeps.ite ?_ ?_
    · exact Keeps.tr h7 (Keeps.mono rfl (setChan_fr ..))
    · exact h7
  try clear_value x9
  extract_lets +onlyGivenNames -merge -useContext x11
  try clear_value x11
  split
  · exact h10
  · extract_lets +onlyGivenNames -merge -useContext x12
    try clear_value x12
    extract_lets +onlyGivenNames -merge -useContext x13
    try clear_value x13
    extract_lets +onlyGivenNames -merge -useContext y14 x15
    have h16 : Keeps 1049091 s x15 := by
      unfold x15
      exact Keeps.tr h10 (Keeps.mono rfl (Keeps.put_drv _ _))
    try clear_value x15
    extract_lets +onlyGivenNames -merge -useContext x17
    try clear_value x17
    exact Keeps.tr h16 (Keeps.mono rfl (setChan_fr ..))

theorem takeEnds_fr (a0) (s : State) : Keeps 1049099 s (takeEnds a0 s) := by
  unfold takeEnds
  extract_lets +onlyGivenNames -merge -useContext x1
  have h2 : Keeps 1049099 s x1 := by
    unfold x1
    split
    · refine Keeps.ite ?_ ?_
      · exact Keeps.mono rfl (durationEnd_fr ..)
      · exact Keeps.refl _ _
    · exact Keeps.refl _ _
  try clear_value x1
  split
  · refine Keeps.ite ?_ ?_
    · exact Keeps.tr h2 (Keeps.mono rfl (tpmPulse_fr ..))
    · exact h2
  · exact h2

theorem shed_fr (a0) (s : State) : Keeps 1049091 s (shed a0 s) := by
  unfold shed
  extract_lets +onlyGivenNames -merge -useContext x1
  try clear_value x1
  split
  · exact Keeps.refl _ _
  · extract_lets +onlyGivenNames -merge -useContext x2
    have h3 : Keeps 1049091 s x2 := by
      unfold x2
      refine Keeps.tr ?_ (Keeps.mono rfl (endRunning_fr ..))
      exact Keeps.mono rfl (calPaused_fr ..)
    try clear_value x2
    extract_lets +onlyGivenNames -merge -useContext x4
    have h5 : Keeps 1049091 s x4 := by
      unfold x4
      refine Keeps.tr ?_ (Keeps.mono rfl (State_bump_fr ..))
      exact Keeps.tr h3 (Keeps.mono rfl (State_setB_fr ..))
    try clear_value x4
    refine Keeps.ite ?_ ?_
    · exact Keeps.tr h5 (Keeps.mono rfl (setChan_fr ..))
    · refine Keeps.ite ?_ ?_
      · exact h5
      · exact Keeps.tr h5 (Keeps.mono rfl (setChan_fr ..))

theorem shedStep_fr (s : State) : Keeps 1049091 s (shedStep s) := by
  unfold shedStep
  extract_lets +onlyGivenNames -merge -useContext x1
  try clear_value x1
  refine Keeps.tr ?_ (forEach_fr _ _ (fun iz2 sz2 => ?_) _)
  · exact Keeps.refl _ _
  · refine Keeps.ite ?_ ?_
    · exact Keeps.mono rfl (shed_fr ..)
    · exact Keeps.refl _ _

theorem markAged_fr (a0) (s : State) : Keeps 513 s (markAged a0 s) := by
  unfold markAged
  extract_lets +onlyGivenNames -merge -useContext y1 y2 x3
  have h4 : Keeps 513 s x3 := by
    unfold x3
    refine Keeps.tr ?_ (Keeps.mono rfl (setChan_fr ..))
    exact Keeps.mono rfl (Keeps.put_drv _ _)
  try clear_value x3
  refine Keeps.tr ?_ (Keeps.mono rfl (State_bump_fr ..))
  exact Keeps.tr h4 (Keeps.mono rfl (State_setB_fr ..))

theorem rejectStep_fr (a0) (s : State) : Keeps 513 s (rejectStep a0 s) := by
  unfold rejectStep
  extract_lets +onlyGivenNames -merge -useContext x1
  try clear_value x1
  split
  · exact Keeps.refl _ _
  · refine Keeps.ite ?_ ?_
    · refine Keeps.ite ?_ ?_
      · exact Keeps.mono rfl (setChan_fr ..)
      · exact Keeps.refl _ _
    · refine Keeps.ite ?_ ?_
      · refine Keeps.ite ?_ ?_
        · exact Keeps.refl _ _
        · refine Keeps.tr ?_ (Keeps.mono rfl (State_bump_fr ..))
          refine Keeps.tr ?_ (Keeps.mono rfl (State_setB_fr ..))
          exact Keeps.mono rfl (setChan_fr ..)
      · refine Keeps.ite ?_ ?_
        · refine Keeps.tr ?_ (Keeps.mono rfl (setChan_fr ..))
          exact Keeps.mono rfl (Keeps.put_drv _ _)
        · refine Keeps.ite ?_ ?_
          · exact Keeps.mono rfl (markAged_fr ..)
          · exact Keeps.refl _ _

theorem admitOne_fr (a0) (a1) (s : State) : Keeps 515 s (admitOne a0 a1 s) := by
  unfold admitOne
  extract_lets +onlyGivenNames -merge -useContext x1
  try clear_value x1
  extract_lets +onlyGivenNames -merge -useContext x2
  have h3 : Keeps 515 s x2 := by
    unfold x2
    exact Keeps.mono rfl (setChan_fr ..)
  try clear_value x2
  extract_lets +onlyGivenNames -merge -useContext y4 x5
  have h6 : Keeps 515 s x5 := by
    unfold x5
    exact Keeps.tr h3 (Keeps.mono rfl (Keeps.put_drv _ _))
  try clear_value x5
  exact Keeps.tr h6 (Keeps.mono rfl (sendStream_fr ..))

theorem admitScan_fr : ∀ (l : List Nat) (first blocked : Bool) (s : State), Keeps 515 s (admitScan l first blocked s)
  | [], _, _, s => Keeps.refl _ s
  | n :: t, first, blocked, s => by
    unfold admitScan
    split
    · exact admitScan_fr t _ _ s
    · refine Keeps.ite ?_ ?_
      · refine Keeps.tr (Keeps.ite ?_ (Keeps.refl _ _)) (admitScan_fr t _ _ _)
        exact Keeps.mono rfl (admitOne_fr ..)
      · extract_lets
        refine Keeps.tr (Keeps.ite ?_ (Keeps.refl _ _)) (admitScan_fr t _ _ _)
        exact Keeps.mono rfl (admitOne_fr ..)

theorem suspend_fr (a0) (s : State) : Keeps 1049091 s (suspend a0 s) := by
  unfold suspend
  split
  · exact Keeps.refl _ _
  · extract_lets +onlyGivenNames -merge -useContext x1
    have h2 : Keeps 1049091 s x1 := by
      unfold x1
      exact Keeps.mono rfl (endRunning_fr ..)
    try clear_value x1
    refine Keeps.ite ?_ ?_
    · exact h2
    · refine Keeps.tr ?_ (Keeps.mono rfl (setChan_fr ..))
      exact Keeps.tr h2 (Keeps.mono rfl (Keeps.put_drv _ _))

theorem leaseEnds_fr (a0) (s : State) : Keeps 1049091 s (leaseEnds a0 s) := by
  unfold leaseEnds
  refine Keeps.tr ?_ (forEach_fr _ _ (fun iz1 sz1 => ?_) _)
  · exact Keeps.refl _ _
  · split
    · refine Keeps.ite ?_ ?_
      · exact Keeps.mono rfl (suspend_fr ..)
      · exact Keeps.mono rfl (setChan_fr ..)
    · exact Keeps.refl _ _

theorem showRequests_fr (s : State) : Keeps 1 s (showRequests s) := by
  unfold showRequests
  extract_lets +onlyGivenNames -merge -useContext x1
  have h2 : Keeps 1 s x1 := by
    unfold x1
    refine Keeps.tr ?_ (forRange_fr _ _ (fun iz3 sz3 => ?_) _)
    · exact Keeps.refl _ _
    · extract_lets +onlyGivenNames -merge -useContext x4
      try clear_value x4
      extract_lets +onlyGivenNames -merge -useContext x5
      try clear_value x5
      exact Keeps.mono rfl (State_setReg_fr ..)
  try clear_value x1
  extract_lets +onlyGivenNames -merge -useContext x6
  try clear_value x6
  extract_lets +onlyGivenNames -merge -useContext x7
  try clear_value x7
  extract_lets +onlyGivenNames -merge -useContext x8
  have h9 : Keeps 1 s x8 := by
    unfold x8
    refine Keeps.tr ?_ (Keeps.mono rfl (State_setF_fr ..))
    exact Keeps.tr h2 (Keeps.mono rfl (State_setF_fr ..))
  try clear_value x8
  exact Keeps.tr h9 (Keeps.mono rfl (State_setReg_fr ..))

theorem trackPos_fr (a0) (s : State) : Keeps 1 s (trackPos a0 s) := by
  unfold trackPos
  refine Keeps.ite ?_ ?_
  · exact Keeps.mono rfl (State_setReg_fr ..)
  · exact Keeps.refl _ _

theorem cycle_fr (s : State) : Keeps 1050123 s (cycle s) := by
  unfold cycle
  extract_lets +onlyGivenNames -merge -useContext x1
  have h2 : Keeps 1050123 s x1 := by
    unfold x1
    refine Keeps.tr ?_ (forRange_fr _ _ (fun iz3 sz3 => ?_) _)
    · exact Keeps.refl _ _
    · exact Keeps.mono rfl (takeArrivals_fr ..)
  try clear_value x1
  extract_lets +onlyGivenNames -merge -useContext x4
  have h5 : Keeps 1050123 s x4 := by
    unfold x4
    refine Keeps.tr ?_ (forRange_fr _ _ (fun iz6 sz6 => ?_) _)
    · exact h2
    · exact Keeps.mono rfl (takeEnds_fr ..)
  try clear_value x4
  extract_lets +onlyGivenNames -merge -useContext x7
  have h8 : Keeps 1050123 s x7 := by
    unfold x7
    refine Keeps.tr ?_ (Keeps.mono rfl (shedStep_fr ..))
    exact Keeps.tr h5 (Keeps.mono rfl (budgetStep_fr ..))
  try clear_value x7
  extract_lets +onlyGivenNames -merge -useContext x9
  have h10 : Keeps 1050123 s x9 := by
    unfold x9
    refine Keeps.tr ?_ (forRange_fr _ _ (fun iz11 sz11 => ?_) _)
    · exact h8
    · exact Keeps.mono rfl (rejectStep_fr ..)
  try clear_value x9
  extract_lets +onlyGivenNames -merge -useContext x12
  have h13 : Keeps 1050123 s x12 := by
    unfold x12
    exact Keeps.tr h10 (Keeps.mono rfl (leaseEnds_fr ..))
  try clear_value x12
  extract_lets +onlyGivenNames -merge -useContext x14
  have h15 : Keeps 1050123 s x14 := by
    unfold x14
    exact Keeps.tr h13 (Keeps.mono rfl (admitScan_fr ..))
  try clear_value x14
  extract_lets +onlyGivenNames -merge -useContext x16
  have h17 : Keeps 1050123 s x16 := by
    unfold x16
    refine Keeps.tr ?_ (forRange_fr _ _ (fun iz18 sz18 => ?_) _)
    · exact h15
    · exact Keeps.mono rfl (kickIfReady_fr ..)
  try clear_value x16
  refine Keeps.tr ?_ (Keeps.mono rfl (showRequests_fr ..))
  refine Keeps.tr ?_ (forRange_fr _ _ (fun iz19 sz19 => ?_) _)
  · exact h17
  · exact Keeps.mono rfl (trackPos_fr ..)

theorem execSchedulerCycle_fr (a0) (s : State) : KeepsOut 1574411 s (execSchedulerCycle a0 s) := by
  unfold execSchedulerCycle
  extract_lets +onlyGivenNames -merge -useContext x1
  have h2 : Keeps 1574411 s x1 := by
    unfold x1
    exact Keeps.mono rfl (State_advTo_fr ..)
  try clear_value x1
  extract_lets +onlyGivenNames -merge -useContext y3 x4
  have h5 : Keeps 1574411 s x4 := by
    unfold x4
    exact Keeps.tr h2 (Keeps.mono rfl (Keeps.put_drv _ _))
  try clear_value x4
  refine KeepsOut.next ?_
  refine Keeps.tr ?_ (Keeps.mono rfl (cycle_fr ..))
  refine Keeps.tr ?_ (forRange_fr _ _ (fun iz6 sz6 => ?_) _)
  · refine Keeps.tr ?_ (forRange_fr _ _ (fun iz7 sz7 => ?_) _)
    · exact Keeps.tr h5 (Keeps.mono rfl (readStages_fr ..))
    · exact Keeps.mono rfl (noteBand_fr ..)
  · exact Keeps.mono rfl (safeLswStart_fr ..)

theorem execRequestDurationEnd_fr (a0) (s : State) : KeepsOut 1573387 s (execRequestDurationEnd a0 s) := by
  unfold execRequestDurationEnd
  refine KeepsOut.next ?_
  split
  · refine Keeps.tr ?_ (Keeps.mono rfl (showRequests_fr ..))
    refine Keeps.tr ?_ (Keeps.mono rfl (durationEnd_fr ..))
    exact Keeps.mono rfl (State_advTo_fr ..)
  · exact Keeps.refl _ _

theorem execRequestAged_fr (a0) (s : State) : KeepsOut 524801 s (execRequestAged a0 s) := by
  unfold execRequestAged
  extract_lets +onlyGivenNames -merge -useContext x1
  try clear_value x1
  refine KeepsOut.next ?_
  split
  · refine Keeps.ite ?_ ?_
    · exact Keeps.refl _ _
    · refine Keeps.tr ?_ (Keeps.mono rfl (showRequests_fr ..))
      refine Keeps.tr ?_ (Keeps.mono rfl (markAged_fr ..))
      exact Keeps.mono rfl (State_advTo_fr ..)
  · exact Keeps.refl _ _

theorem execLeaseEnd_fr (a0) (s : State) : KeepsOut 1573379 s (execLeaseEnd a0 s) := by
  unfold execLeaseEnd
  extract_lets +onlyGivenNames -merge -useContext x1
  try clear_value x1
  refine KeepsOut.next ?_
  split
  · refine Keeps.ite ?_ ?_
    · refine Keeps.tr ?_ (Keeps.mono rfl (showRequests_fr ..))
      extract_lets +onlyGivenNames -merge -useContext x2
      have h3 : Keeps 1573379 s x2 := by
        unfold x2
        exact Keeps.mono rfl (State_advTo_fr ..)
      try clear_value x2
      exact Keeps.tr h3 (Keeps.mono rfl (leaseEnds_fr ..))
    · exact Keeps.refl _ _
  · exact Keeps.refl _ _

theorem execMoveDeadTimeEnd_fr (a0) (s : State) : KeepsOut 524801 s (execMoveDeadTimeEnd a0 s) := by
  unfold execMoveDeadTimeEnd
  refine KeepsOut.next ?_
  split
  · extract_lets +onlyGivenNames -merge -useContext x1
    have h2 : Keeps 524801 s x1 := by
      unfold x1
      exact Keeps.mono rfl (State_advTo_fr ..)
    try clear_value x1
    extract_lets +onlyGivenNames -merge -useContext y3 x4
    have h5 : Keeps 524801 s x4 := by
      unfold x4
      exact Keeps.tr h2 (Keeps.mono rfl (setChan_fr ..))
    try clear_value x4
    split
    · exact Keeps.tr h5 (Keeps.mono rfl (calRequest_fr ..))
    · extract_lets +onlyGivenNames -merge -useContext x6
      have h7 : Keeps 524801 s x6 := by
        unfold x6
        exact Keeps.tr h5 (Keeps.mono rfl (applyDemand_fr ..))
      try clear_value x6
      refine Keeps.ite ?_ ?_
      · exact h7
      · exact Keeps.tr h7 (Keeps.mono rfl (setChan_fr ..))
  · exact Keeps.refl _ _

theorem execPdclassChange_fr (a0) (s : State) : KeepsOut 1 s (execPdclassChange a0 s) := by
  unfold execPdclassChange
  refine KeepsOut.next ?_
  refine Keeps.ite ?_ ?_
  · exact Keeps.refl _ _
  · refine Keeps.tr ?_ (Keeps.mono rfl (State_setB_fr ..))
    exact Keeps.mono rfl (State_setF_fr ..)

theorem allotArrives_fr (a0) (s : State) : Keeps 513 s (allotArrives a0 s) := by
  unfold allotArrives
  extract_lets +onlyGivenNames -merge -useContext x1
  have h2 : Keeps 513 s x1 := by
    unfold x1
    refine Keeps.tr ?_ (Keeps.mono rfl (State_setB_fr ..))
    exact Keeps.mono rfl (State_setF_fr ..)
  try clear_value x1
  exact Keeps.tr h2 (Keeps.mono rfl (Keeps.put_drv _ _))

theorem execAllotmentTimeout_fr (s : State) : KeepsOut 524289 s (execAllotmentTimeout s) := by
  unfold execAllotmentTimeout
  refine KeepsOut.next ?_
  split
  · refine Keeps.tr ?_ (Keeps.mono rfl (State_setB_fr ..))
    exact Keeps.mono rfl (State_advTo_fr ..)
  · exact Keeps.refl _ _

theorem ambientTick_fr (s : State) : Keeps 524800 s (ambientTick s) := by
  unfold ambientTick
  extract_lets +onlyGivenNames -merge -useContext x1
  have h2 : Keeps 524800 s x1 := by
    unfold x1
    exact Keeps.mono rfl (State_advTo_fr ..)
  try clear_value x1
  exact Keeps.tr h2 (Keeps.mono rfl (Keeps.put_drv _ _))

theorem execAmbientEstimate_fr (s : State) : KeepsOut 524801 s (execAmbientEstimate s) := by
  unfold execAmbientEstimate
  refine KeepsOut.next ?_
  split
  · extract_lets +onlyGivenNames -merge -useContext x1
    have h2 : Keeps 524801 s x1 := by
      unfold x1
      exact Keeps.mono rfl (ambientTick_fr ..)
    try clear_value x1
    refine Keeps.tr ?_ (Keeps.mono rfl (State_setF_fr ..))
    exact Keeps.tr h2 (Keeps.mono rfl (Keeps.put_drv _ _))
  · exact Keeps.mono rfl (ambientTick_fr ..)

theorem eschWrite_fr (a0) (a1) (s : State) : Keeps 1 s (eschWrite a0 a1 s) := by
  unfold eschWrite
  refine Keeps.ite ?_ ?_
  · exact Keeps.mono rfl (State_setB_fr ..)
  · exact Keeps.mono rfl (plainWrite_fr ..)

end Sys2Proof.Machine
end

