-- ==== Sys2Proof/Laws/FrameBuses.lean ====
section
/-! SUPPORT. Sys2Proof/Laws/FrameBuses.lean: for each operation of Machine/Buses.lean, what it leaves (Laws/Frame.lean). -/

namespace Sys2Proof.Machine

open Sys2Proof

theorem setPort_fr (a0) (a1) (s : State) : Keeps 2048 s (setPort a0 a1 s) := by
  unfold setPort
  exact Keeps.mono rfl (Keeps.put_bus _ _)

theorem busSend_fr (a0) (a1) (s : State) : Keeps 2048 s (busSend a0 a1 s) := by
  unfold busSend
  exact Keeps.mono rfl (setPort_fr ..)

theorem badFrame_fr (a0) (s : State) : Keeps 1 s (badFrame a0 s) := by
  unfold badFrame
  exact Keeps.mono rfl (State_bump_fr ..)

theorem forgetRounds_fr (a0) (s : State) : Keeps 2048 s (forgetRounds a0 s) := by
  unfold forgetRounds
  refine Keeps.tr ?_ (forRange_fr _ _ (fun iz1 sz1 => ?_) _)
  · exact Keeps.refl _ _
  · refine Keeps.ite ?_ ?_
    · exact Keeps.mono rfl (Keeps.put_bus _ _)
    · exact Keeps.refl _ _

theorem portRestart_fr (a0) (s : State) : Keeps 2049 s (portRestart a0 s) := by
  unfold portRestart
  extract_lets +onlyGivenNames -merge -useContext y1 x2
  have h3 : Keeps 2049 s x2 := by
    unfold x2
    exact Keeps.mono rfl (setPort_fr ..)
  try clear_value x2
  extract_lets +onlyGivenNames -merge -useContext x4
  have h5 : Keeps 2049 s x4 := by
    unfold x4
    exact Keeps.tr h3 (Keeps.mono rfl (forgetRounds_fr ..))
  try clear_value x4
  extract_lets +onlyGivenNames -merge -useContext x6
  have h7 : Keeps 2049 s x6 := by
    unfold x6
    refine Keeps.tr ?_ (Keeps.mono rfl (State_setF_fr ..))
    refine Keeps.tr ?_ (Keeps.mono rfl (State_setB_fr ..))
    exact Keeps.tr h5 (Keeps.mono rfl (State_setB_fr ..))
  try clear_value x6
  exact Keeps.tr h7 (Keeps.mono rfl (State_setF_fr ..))

theorem countErrs_fr (a0) (a1) (s : State) : Keeps 1 s (countErrs a0 a1 s) := by
  unfold countErrs
  refine Keeps.tr ?_ (forRange_fr _ _ (fun iz1 sz1 => ?_) _)
  · exact Keeps.refl _ _
  · exact Keeps.mono rfl (State_bump_fr ..)

theorem passToken_fr (a0) (a1) (s : State) : Keeps 2048 s (passToken a0 a1 s) := by
  unfold passToken
  exact Keeps.mono rfl (setPort_fr ..)

theorem pollMaster_fr (a0) (a1) (s : State) : Keeps 2048 s (pollMaster a0 a1 s) := by
  unfold pollMaster
  exact Keeps.mono rfl (setPort_fr ..)

theorem useToken_fr (a0) (s : State) : Keeps 2049 s (useToken a0 s) := by
  unfold useToken
  extract_lets +onlyGivenNames -merge -useContext x1
  try clear_value x1
  extract_lets +onlyGivenNames -merge -useContext x2
  try clear_value x2
  extract_lets +onlyGivenNames -merge -useContext y3 x4
  have h5 : Keeps 2049 s x4 := by
    unfold x4
    exact Keeps.mono rfl (Keeps.put_bus _ _)
  try clear_value x4
  extract_lets +onlyGivenNames -merge -useContext x6
  have h7 : Keeps 2049 s x6 := by
    unfold x6
    refine Keeps.tr ?_ (Keeps.mono rfl (setPort_fr ..))
    exact Keeps.tr h5 (Keeps.mono rfl (State_setB_fr ..))
  try clear_value x6
  extract_lets +onlyGivenNames -merge -useContext x8
  try clear_value x8
  extract_lets +onlyGivenNames -merge -useContext x9
  try clear_value x9
  extract_lets +onlyGivenNames -merge -useContext x10
  try clear_value x10
  refine Keeps.ite ?_ ?_
  · exact Keeps.tr h7 (Keeps.mono rfl (pollMaster_fr ..))
  · refine Keeps.ite ?_ ?_
    · extract_lets +onlyGivenNames -merge -useContext y11 x12
      have h13 : Keeps 2049 s x12 := by
        unfold x12
        exact Keeps.tr h7 (Keeps.mono rfl (setPort_fr ..))
      try clear_value x12
      refine Keeps.ite ?_ ?_
      · exact h13
      · exact Keeps.tr h13 (Keeps.mono rfl (passToken_fr ..))
    · refine Keeps.ite ?_ ?_
      · exact Keeps.tr h7 (Keeps.mono rfl (pollMaster_fr ..))
      · refine Keeps.ite ?_ ?_
        · refine Keeps.tr ?_ (Keeps.mono rfl (pollMaster_fr ..))
          exact Keeps.tr h7 (Keeps.mono rfl (setPort_fr ..))
        · refine Keeps.tr ?_ (Keeps.mono rfl (passToken_fr ..))
          exact Keeps.tr h7 (Keeps.mono rfl (setPort_fr ..))

theorem mstpQuiet_fr (a0) (a1) (s : State) : Keeps 2049 s (mstpQuiet a0 a1 s) := by
  unfold mstpQuiet
  extract_lets +onlyGivenNames -merge -useContext x1
  try clear_value x1
  extract_lets +onlyGivenNames -merge -useContext x2
  try clear_value x2
  extract_lets +onlyGivenNames -merge -useContext x3
  try clear_value x3
  split
  · refine Keeps.ite ?_ ?_
    · exact Keeps.refl _ _
    · extract_lets +onlyGivenNames -merge -useContext x4
      have h5 : Keeps 2049 s x4 := by
        unfold x4
        refine Keeps.tr ?_ (Keeps.mono rfl (State_setB_fr ..))
        exact Keeps.mono rfl (State_bump_fr ..)
      try clear_value x4
      refine Keeps.ite ?_ ?_
      · exact h5
      · refine Keeps.tr ?_ (Keeps.mono rfl (pollMaster_fr ..))
        refine Keeps.tr ?_ (Keeps.mono rfl (setPort_fr ..))
        exact Keeps.tr h5 (Keeps.mono rfl (State_setF_fr ..))
  · refine Keeps.ite ?_ ?_
    · exact Keeps.refl _ _
    · refine Keeps.ite ?_ ?_
      · refine Keeps.tr ?_ (Keeps.mono rfl (pollMaster_fr ..))
        refine Keeps.tr ?_ (Keeps.mono rfl (setPort_fr ..))
        exact Keeps.mono rfl (State_setF_fr ..)
      · exact Keeps.mono rfl (passToken_fr ..)
  · refine Keeps.ite ?_ ?_
    · exact Keeps.refl _ _
    · refine Keeps.ite ?_ ?_
      · exact Keeps.mono rfl (useToken_fr ..)
      · refine Keeps.ite ?_ ?_
        · exact Keeps.mono rfl (passToken_fr ..)
        · refine Keeps.ite ?_ ?_
          · exact Keeps.mono rfl (pollMaster_fr ..)
          · refine Keeps.tr ?_ (Keeps.mono rfl (useToken_fr ..))
            exact Keeps.mono rfl (setPort_fr ..)
  · exact Keeps.mono rfl (useToken_fr ..)

theorem tokenElsewhere_fr (a0) (s : State) : Keeps 2048 s (tokenElsewhere a0 s) := by
  unfold tokenElsewhere
  extract_lets +onlyGivenNames -merge -useContext x1
  try clear_value x1
  exact Keeps.mono rfl (setPort_fr ..)

theorem mstpTake_fr (a0) (a1) (a2) (a3) (a4) (s : State) : Keeps 2057 s (mstpTake a0 a1 a2 a3 a4 s) := by
  unfold mstpTake
  extract_lets +onlyGivenNames -merge -useContext x1
  try clear_value x1
  refine Keeps.ite ?_ ?_
  · refine Keeps.tr ?_ (Keeps.mono rfl (ringEvent_fr ..))
    refine Keeps.tr ?_ (Keeps.mono rfl (State_setB_fr ..))
    exact Keeps.mono rfl (State_setB_fr ..)
  · refine Keeps.ite ?_ ?_
    · exact Keeps.refl _ _
    · split
      · refine Keeps.ite ?_ ?_
        · refine Keeps.tr ?_ (Keeps.mono rfl (useToken_fr ..))
          exact Keeps.mono rfl (setPort_fr ..)
        · exact Keeps.refl _ _
      · refine Keeps.ite ?_ ?_
        · exact Keeps.mono rfl (busSend_fr ..)
        · exact Keeps.refl _ _
      · exact Keeps.refl _ _
      · refine Keeps.ite ?_ ?_
        · exact Keeps.mono rfl (busSend_fr ..)
        · exact Keeps.refl _ _
      · exact Keeps.refl _ _
      · refine Keeps.ite ?_ ?_
        · refine Keeps.ite ?_ ?_
          · exact Keeps.mono rfl (setPort_fr ..)
          · exact Keeps.mono rfl (busSend_fr ..)
        · exact Keeps.refl _ _
      · refine Keeps.ite ?_ ?_
        · exact Keeps.mono rfl (setPort_fr ..)
        · exact Keeps.refl _ _
      · exact Keeps.refl _ _

theorem takeSuccessor_fr (a0) (a1) (s : State) : Keeps 2049 s (takeSuccessor a0 a1 s) := by
  unfold takeSuccessor
  extract_lets +onlyGivenNames -merge -useContext x1
  have h2 : Keeps 2049 s x1 := by
    unfold x1
    exact Keeps.mono rfl (State_setF_fr ..)
  try clear_value x1
  refine Keeps.tr ?_ (Keeps.mono rfl (passToken_fr ..))
  exact Keeps.tr h2 (Keeps.mono rfl (setPort_fr ..))

theorem mstpReceive_fr (a0) (a1) (s : State) : Keeps 2057 s (mstpReceive a0 a1 s) := by
  unfold mstpReceive
  extract_lets +onlyGivenNames -merge -useContext x1
  have h2 : Keeps 2057 s x1 := by
    unfold x1
    exact Keeps.mono rfl (countErrs_fr ..)
  try clear_value x1
  split
  · exact Keeps.tr h2 (Keeps.mono rfl (badFrame_fr ..))
  · refine Keeps.ite ?_ ?_
    · exact Keeps.tr h2 (Keeps.mono rfl (badFrame_fr ..))
    · refine Keeps.ite ?_ ?_
      · exact h2
      · refine Keeps.ite ?_ ?_
        · exact Keeps.tr h2 (Keeps.mono rfl (takeSuccessor_fr ..))
        · refine Keeps.tr ?_ (Keeps.mono rfl (mstpTake_fr ..))
          exact Keeps.tr h2 (Keeps.mono rfl (tokenElsewhere_fr ..))

theorem execMstpFrameReceive_fr (a0) (a1) (s : State) : KeepsOut 526345 s (execMstpFrameReceive a0 a1 s) := by
  unfold execMstpFrameReceive
  refine KeepsOut.next ?_
  refine Keeps.ite ?_ ?_
  · extract_lets +onlyGivenNames -merge -useContext x1
    have h2 : Keeps 526345 s x1 := by
      unfold x1
      refine Keeps.tr ?_ (Keeps.mono rfl (busSend_fr ..))
      exact Keeps.mono rfl (State_advTo_fr ..)
    try clear_value x1
    extract_lets +onlyGivenNames -merge -useContext x3
    have h4 : Keeps 526345 s x3 := by
      unfold x3
      refine Keeps.ite ?_ ?_
      · exact h2
      · exact Keeps.tr h2 (Keeps.mono rfl (mstpQuiet_fr ..))
    try clear_value x3
    refine Keeps.ite ?_ ?_
    · exact h4
    · exact Keeps.tr h4 (Keeps.mono rfl (mstpReceive_fr ..))
  · exact Keeps.refl _ _

theorem pcfgWrite_fr (a0) (a1) (s : State) : Keeps 2049 s (pcfgWrite a0 a1 s) := by
  unfold pcfgWrite
  refine Keeps.ite ?_ ?_
  · exact Keeps.mono rfl (State_setB_fr ..)
  · extract_lets +onlyGivenNames -merge -useContext x1
    try clear_value x1
    extract_lets +onlyGivenNames -merge -useContext x2
    try clear_value x2
    extract_lets +onlyGivenNames -merge -useContext x3
    have h4 : Keeps 2049 s x3 := by
      unfold x3
      exact Keeps.mono rfl (plainWrite_fr ..)
    try clear_value x3
    extract_lets +onlyGivenNames -merge -useContext x5
    try clear_value x5
    refine Keeps.ite ?_ ?_
    · refine Keeps.tr ?_ (Keeps.mono rfl (busSend_fr ..))
      exact Keeps.tr h4 (Keeps.mono rfl (portRestart_fr ..))
    · exact Keeps.tr h4 (Keeps.mono rfl (State_setB_fr ..))

theorem execPortConfigWrite_fr (a0) (a1) (s : State) : KeepsOut 2049 s (execPortConfigWrite a0 a1 s) := by
  unfold execPortConfigWrite
  refine KeepsOut.next ?_
  refine Keeps.ite ?_ ?_
  · exact Keeps.mono rfl (pcfgWrite_fr ..)
  · exact Keeps.refl _ _

theorem showFill_fr (a0) (s : State) : Keeps 1 s (showFill a0 s) := by
  unfold showFill
  exact Keeps.mono rfl (State_setF_fr ..)

theorem execRawByteReceive_fr (a0) (a1) (a2) (s : State) : KeepsOut 2049 s (execRawByteReceive a0 a1 a2 s) := by
  unfold execRawByteReceive
  refine KeepsOut.next ?_
  refine Keeps.ite ?_ ?_
  · extract_lets +onlyGivenNames -merge -useContext x1
    try clear_value x1
    refine Keeps.ite ?_ ?_
    · exact Keeps.mono rfl (State_bump_fr ..)
    · extract_lets +onlyGivenNames -merge -useContext x2
      have h3 : Keeps 2049 s x2 := by
        unfold x2
        refine Keeps.tr ?_ (Keeps.mono rfl (showFill_fr ..))
        exact Keeps.mono rfl (setPort_fr ..)
      try clear_value x2
      refine Keeps.ite ?_ ?_
      · exact Keeps.tr h3 (Keeps.mono rfl (State_bump_fr ..))
      · exact h3
  · exact Keeps.refl _ _

theorem pollSend_fr (a0) (a1) (a2) (a3) (s : State) : Keeps 2048 s (pollSend a0 a1 a2 a3 s) := by
  unfold pollSend
  extract_lets +onlyGivenNames -merge -useContext x1
  try clear_value x1
  exact Keeps.mono rfl (setPort_fr ..)

theorem pollNext_fr (a0) (a1) (s : State) : Keeps 2048 s (pollNext a0 a1 s) := by
  unfold pollNext
  extract_lets +onlyGivenNames -merge -useContext x1
  try clear_value x1
  split
  · exact Keeps.mono rfl (setPort_fr ..)
  · refine Keeps.tr ?_ (Keeps.mono rfl (pollSend_fr ..))
    exact Keeps.mono rfl (setPort_fr ..)

theorem execModbusPollRound_fr (a0) (s : State) : KeepsOut 526336 s (execModbusPollRound a0 s) := by
  unfold execModbusPollRound
  refine KeepsOut.next ?_
  refine Keeps.ite ?_ ?_
  · extract_lets +onlyGivenNames -merge -useContext x1
    try clear_value x1
    split
    · exact Keeps.refl _ _
    · extract_lets +onlyGivenNames -merge -useContext x2
      try clear_value x2
      extract_lets +onlyGivenNames -merge -useContext x3
      have h4 : Keeps 526336 s x3 := by
        unfold x3
        exact Keeps.mono rfl (State_advTo_fr ..)
      try clear_value x3
      extract_lets +onlyGivenNames -merge -useContext x5
      try clear_value x5
      extract_lets +onlyGivenNames -merge -useContext x6
      have h7 : Keeps 526336 s x6 := by
        unfold x6
        refine Keeps.tr ?_ (forEach_fr _ _ (fun iz8 sz8 => ?_) _)
        · exact h4
        · exact Keeps.mono rfl (Keeps.put_bus _ _)
      try clear_value x6
      refine Keeps.tr ?_ (Keeps.mono rfl (pollNext_fr ..))
      exact Keeps.tr h7 (Keeps.mono rfl (setPort_fr ..))
  · exact Keeps.refl _ _

theorem pollFail_fr (a0) (a1) (a2) (s : State) : Keeps 2051 s (pollFail a0 a1 a2 s) := by
  unfold pollFail
  refine Keeps.tr ?_ (Keeps.mono rfl (pollNext_fr ..))
  exact Keeps.mono rfl (sendRaw_fr ..)

theorem masterTake_fr (a0) (a1) (a2) (s : State) : Keeps 2051 s (masterTake a0 a1 a2 s) := by
  unfold masterTake
  extract_lets +onlyGivenNames -merge -useContext x1
  try clear_value x1
  extract_lets +onlyGivenNames -merge -useContext x2
  try clear_value x2
  extract_lets +onlyGivenNames -merge -useContext x3
  try clear_value x3
  refine Keeps.ite ?_ ?_
  · exact Keeps.mono rfl (badFrame_fr ..)
  · refine Keeps.ite ?_ ?_
    · refine Keeps.tr ?_ (Keeps.mono rfl (pollFail_fr ..))
      exact Keeps.mono rfl (State_bump_fr ..)
    · refine Keeps.ite ?_ ?_
      · extract_lets +onlyGivenNames -merge -useContext x4
        try clear_value x4
        refine Keeps.tr ?_ (Keeps.mono rfl (pollNext_fr ..))
        exact Keeps.mono rfl (sendRaw_fr ..)
      · exact Keeps.mono rfl (badFrame_fr ..)

theorem execModbusMasterReply_fr (a0) (a1) (s : State) : KeepsOut 526339 s (execModbusMasterReply a0 a1 s) := by
  unfold execModbusMasterReply
  refine KeepsOut.next ?_
  refine Keeps.ite ?_ ?_
  · split
    · exact Keeps.refl _ _
    · extract_lets +onlyGivenNames -merge -useContext x1
      have h2 : Keeps 526339 s x1 := by
        unfold x1
        refine Keeps.tr ?_ (Keeps.mono rfl (countErrs_fr ..))
        exact Keeps.mono rfl (State_advTo_fr ..)
      try clear_value x1
      refine Keeps.ite ?_ ?_
      · exact h2
      · split
        · exact Keeps.tr h2 (Keeps.mono rfl (badFrame_fr ..))
        · exact Keeps.tr h2 (Keeps.mono rfl (masterTake_fr ..))
  · exact Keeps.refl _ _

theorem execModbusMasterTimeout_fr (a0) (s : State) : KeepsOut 526339 s (execModbusMasterTimeout a0 s) := by
  unfold execModbusMasterTimeout
  refine KeepsOut.next ?_
  refine Keeps.ite ?_ ?_
  · split
    · exact Keeps.refl _ _
    · extract_lets +onlyGivenNames -merge -useContext x1
      have h2 : Keeps 526339 s x1 := by
        unfold x1
        exact Keeps.mono rfl (State_advTo_fr ..)
      try clear_value x1
      refine Keeps.ite ?_ ?_
      · refine Keeps.tr ?_ (Keeps.mono rfl (pollFail_fr ..))
        exact Keeps.tr h2 (Keeps.mono rfl (State_bump_fr ..))
      · exact Keeps.tr h2 (Keeps.mono rfl (pollSend_fr ..))
  · exact Keeps.refl _ _

end Sys2Proof.Machine
end

