-- ==== Sys2Proof/Laws/FrameGraft.lean ====
section
/-! SUPPORT. Sys2Proof/Laws/FrameGraft.lean: for each operation of Machine/Graft.lean, what it leaves (Laws/Frame.lean). -/

namespace Sys2Proof.Machine

open Sys2Proof

theorem sendSet_fr (a0) (a1) (s : State) : Keeps 4096 s (sendSet a0 a1 s) := by
  unfold sendSet
  exact Keeps.mono rfl (Keeps.put_gft _ _)

theorem freeBuffer_fr (a0) (a1) (a2) (s : State) : Keeps 4096 s (freeBuffer a0 a1 a2 s) := by
  unfold freeBuffer
  refine Keeps.ite ?_ ?_
  · exact Keeps.mono rfl (sendSet_fr ..)
  · exact Keeps.refl _ _

theorem offerFrame_fr (a0) (a1) (a2) (a3) (s : State) : Keeps 4096 s (offerFrame a0 a1 a2 a3 s) := by
  unfold offerFrame
  refine Keeps.ite ?_ ?_
  · exact Keeps.mono rfl (freeBuffer_fr ..)
  · extract_lets +onlyGivenNames -merge -useContext x1
    try clear_value x1
    refine Keeps.ite ?_ ?_
    · refine Keeps.tr ?_ (Keeps.mono rfl (freeBuffer_fr ..))
      exact Keeps.mono rfl (Keeps.put_gft _ _)
    · exact Keeps.mono rfl (Keeps.put_gft _ _)

theorem putFrame_fr (a0) (a1) (a2) (s : State) : Keeps 4096 s (putFrame a0 a1 a2 s) := by
  unfold putFrame
  exact Keeps.mono rfl (offerFrame_fr ..)

theorem launch_fr (a0) (a1) (a2) (s : State) : Keeps 4096 s (launch a0 a1 a2 s) := by
  unfold launch
  refine Keeps.ite ?_ ?_
  · refine Keeps.tr ?_ (Keeps.mono rfl (putFrame_fr ..))
    exact Keeps.mono rfl (putFrame_fr ..)
  · exact Keeps.mono rfl (putFrame_fr ..)

theorem takeSeq_fr (a0) (s : State) : Keeps 4096 s (takeSeq a0 s).2 := by
  unfold takeSeq
  extract_lets +onlyGivenNames -merge -useContext x1
  try clear_value x1
  refine Keeps.pair ?_
  exact Keeps.mono rfl (Keeps.put_gft _ _)

theorem sendFrame_fr (a0) (a1) (a2) (s : State) : Keeps 4096 s (sendFrame a0 a1 a2 s) := by
  unfold sendFrame
  extract_lets +onlyGivenNames -merge -useContext x1
  have h2 : Keeps 4096 s x1.2 := by
    unfold x1
    exact Keeps.mono rfl (takeSeq_fr ..)
  try clear_value x1
  exact Keeps.tr h2 (Keeps.mono rfl (launch_fr ..))

theorem pump_fr (a0) (s : State) : Keeps 4096 s (pump a0 s) := by
  unfold pump
  refine Keeps.tr ?_ (forRange_fr _ _ (fun iz1 sz1 => ?_) _)
  · exact Keeps.refl _ _
  · refine Keeps.ite ?_ ?_
    · split
      · extract_lets +onlyGivenNames -merge -useContext y2 x3
        have h4 : Keeps 4096 sz1 x3 := by
          unfold x3
          exact Keeps.mono rfl (Keeps.put_gft _ _)
        try clear_value x3
        exact Keeps.tr h4 (Keeps.mono rfl (launch_fr ..))
      · exact Keeps.refl _ _
    · exact Keeps.refl _ _

theorem sendReliable_fr (a0) (a1) (a2) (a3) (s : State) : Keeps 4096 s (sendReliable a0 a1 a2 a3 s) := by
  unfold sendReliable
  extract_lets +onlyGivenNames -merge -useContext x1
  try clear_value x1
  extract_lets +onlyGivenNames -merge -useContext x2
  have h3 : Keeps 4096 s x2.2 := by
    unfold x2
    exact Keeps.mono rfl (takeSeq_fr ..)
  try clear_value x2
  extract_lets +onlyGivenNames -merge -useContext x4
  have h5 : Keeps 4096 s x4 := by
    unfold x4
    exact h3
  try clear_value x4
  extract_lets +onlyGivenNames -merge -useContext x6
  try clear_value x6
  refine Keeps.tr ?_ (Keeps.mono rfl (pump_fr ..))
  exact Keeps.tr h5 (Keeps.mono rfl (Keeps.put_gft _ _))

theorem creditBack_fr (a0) (a1) (a2) (s : State) : Keeps 4096 s (creditBack a0 a1 a2 s) := by
  unfold creditBack
  extract_lets +onlyGivenNames -merge -useContext x1
  try clear_value x1
  extract_lets +onlyGivenNames -merge -useContext y2 x3
  have h4 : Keeps 4096 s x3 := by
    unfold x3
    exact Keeps.mono rfl (Keeps.put_gft _ _)
  try clear_value x3
  refine Keeps.tr ?_ (forRange_fr _ _ (fun iz5 sz5 => ?_) _)
  · exact h4
  · extract_lets +onlyGivenNames -merge -useContext x6
    try clear_value x6
    refine Keeps.ite ?_ ?_
    · split
      · refine Keeps.tr ?_ (Keeps.mono rfl (freeBuffer_fr ..))
        exact Keeps.mono rfl (Keeps.put_gft _ _)
      · exact Keeps.refl _ _
    · exact Keeps.refl _ _

theorem freshLine_fr (s : State) : Keeps 4096 s (freshLine s) := by
  unfold freshLine
  exact Keeps.mono rfl (Keeps.put_gft _ _)

theorem forward_fr (a0) (a1) (a2) (s : State) : Keeps 4097 s (forward a0 a1 a2 s) := by
  unfold forward
  refine Keeps.ite ?_ ?_
  · refine Keeps.tr ?_ (Keeps.mono rfl (sendSet_fr ..))
    refine Keeps.ite ?_ ?_
    · exact Keeps.refl _ _
    · exact Keeps.mono rfl (State_bump_fr ..)
  · exact Keeps.mono rfl (offerFrame_fr ..)

theorem noteSeq_fr (a0) (a1) (s : State) : Keeps 4096 s (noteSeq a0 a1 s) := by
  unfold noteSeq
  extract_lets +onlyGivenNames -merge -useContext x1
  try clear_value x1
  exact Keeps.mono rfl (Keeps.put_gft _ _)

theorem sendAck_fr (a0) (a1) (s : State) : Keeps 4096 s (sendAck a0 a1 s) := by
  unfold sendAck
  exact Keeps.mono rfl (sendFrame_fr ..)

theorem dropBad_fr (a0) (a1) (s : State) : Keeps 4097 s (dropBad a0 a1 s) := by
  unfold dropBad
  refine Keeps.tr ?_ (Keeps.mono rfl (sendSet_fr ..))
  exact Keeps.mono rfl (State_bump_fr ..)

theorem receive_fr {m : Nat} (hm : 4097 &&& m = 4097) (ty p : Nat) (f : List Byte) (h : GrParsed → State → Nat × State)
    (hh : ∀ g s, Keeps m s (h g s).2) (s : State) : Keeps m s (receive ty p f h s) := by
  unfold receive
  refine Keeps.ite (Keeps.refl _ _) ?_
  extract_lets +onlyGivenNames -merge -useContext x
  have hx : Keeps m s x := Keeps.mono (mask_sub hm rfl) (freshLine_fr ..)
  clear_value x
  split
  · exact Keeps.tr hx (Keeps.mono (mask_sub hm rfl) (dropBad_fr ..))
  · refine Keeps.ite hx ?_
    have hf : ∀ g, Keeps m s (forward p g f x) := fun g => Keeps.tr hx (Keeps.mono (mask_sub hm rfl) (forward_fr ..))
    refine Keeps.ite (Keeps.tr hx (Keeps.mono (mask_sub hm rfl) (sendSet_fr ..))) (Keeps.ite (hf _) ?_)
    extract_lets +onlyGivenNames -merge -useContext z acks
    have hz : Keeps m s z := by
      unfold z
      exact Keeps.ite (hf _) (Keeps.tr hx (Keeps.mono (mask_sub hm rfl) (sendSet_fr ..)))
    clear_value z
    split
    · exact Keeps.ite (Keeps.tr hz (Keeps.mono (mask_sub hm rfl) (sendAck_fr ..))) hz
    · have hr : ∀ g, Keeps m s (h g z).2 := fun g => Keeps.tr hz (hh g z)
      have hn : ∀ g st t, Keeps m s t → Keeps m s (noteSeq g st t) := fun g st t k => Keeps.tr k (Keeps.mono (mask_sub hm rfl) (noteSeq_fr ..))
      exact Keeps.ite (Keeps.tr (hn _ _ _ (hr _)) (Keeps.mono (mask_sub hm rfl) (sendAck_fr ..))) (hn _ _ _ (hr _))

theorem execGraftFrameForward_fr (a0) (a1) (s : State) : KeepsOut 4097 s (execGraftFrameForward a0 a1 s) := by
  unfold execGraftFrameForward
  refine KeepsOut.next ?_
  refine Keeps.ite ?_ ?_
  · extract_lets +onlyGivenNames -merge -useContext x1
    have h2 : Keeps 4097 s x1 := by
      unfold x1
      exact Keeps.mono rfl (freshLine_fr ..)
    try clear_value x1
    split
    · exact Keeps.tr h2 (Keeps.mono rfl (dropBad_fr ..))
    · refine Keeps.ite ?_ ?_
      · exact Keeps.tr h2 (Keeps.mono rfl (sendSet_fr ..))
      · exact Keeps.tr h2 (Keeps.mono rfl (forward_fr ..))
  · exact Keeps.refl _ _

theorem execCredit_fr (a0) (a1) (s : State) : KeepsOut 4096 s (execCredit a0 a1 s) := by
  unfold execCredit
  refine KeepsOut.next ?_
  refine Keeps.ite ?_ ?_
  · refine Keeps.ite ?_ ?_
    · refine Keeps.tr ?_ (Keeps.mono rfl (creditBack_fr ..))
      exact Keeps.mono rfl (freshLine_fr ..)
    · exact Keeps.refl _ _
  · exact Keeps.refl _ _

theorem execHopCreditTimeout_fr (a0) (a1) (s : State) : KeepsOut 528385 s (execHopCreditTimeout a0 a1 s) := by
  unfold execHopCreditTimeout
  refine KeepsOut.next ?_
  refine Keeps.ite ?_ ?_
  · split
    · refine Keeps.tr ?_ (Keeps.mono rfl (freeBuffer_fr ..))
      refine Keeps.tr ?_ (Keeps.mono rfl (State_bump_fr ..))
      refine Keeps.tr ?_ (Keeps.mono rfl (State_advTo_fr ..))
      extract_lets +onlyGivenNames -merge -useContext x1
      have h2 : Keeps 528385 s x1 := by
        unfold x1
        exact Keeps.mono rfl (freshLine_fr ..)
      try clear_value x1
      exact Keeps.tr h2 (Keeps.mono rfl (Keeps.put_gft _ _))
    · exact Keeps.refl _ _
  · exact Keeps.refl _ _

theorem routeBits_fr (s : State) : Keeps 1 s (routeBits s) := by
  unfold routeBits
  exact Keeps.mono rfl (State_setReg_fr ..)

theorem execLinkTraining_fr (a0) (s : State) : KeepsOut 1 s (execLinkTraining a0 s) := by
  unfold execLinkTraining
  refine KeepsOut.next ?_
  refine Keeps.ite ?_ ?_
  · exact Keeps.mono rfl (State_setF_fr ..)
  · exact Keeps.refl _ _

theorem execLinkUp_fr (a0) (s : State) : KeepsOut 4097 s (execLinkUp a0 s) := by
  unfold execLinkUp
  refine KeepsOut.next ?_
  refine Keeps.ite ?_ ?_
  · extract_lets +onlyGivenNames -merge -useContext x1
    have h2 : Keeps 4097 s x1 := by
      unfold x1
      refine Keeps.tr ?_ (Keeps.mono rfl (State_setF_fr ..))
      exact Keeps.mono rfl (freshLine_fr ..)
    try clear_value x1
    extract_lets +onlyGivenNames -merge -useContext x3
    have h4 : Keeps 4097 s x3 := by
      unfold x3
      refine Keeps.tr ?_ (forRange_fr _ _ (fun iz5 sz5 => ?_) _)
      · exact h2
      · exact Keeps.mono rfl (Keeps.put_gft _ _)
    try clear_value x3
    extract_lets +onlyGivenNames -merge -useContext x6
    have h7 : Keeps 4097 s x6 := by
      unfold x6
      exact Keeps.tr h4 (Keeps.mono rfl (routeBits_fr ..))
    try clear_value x6
    extract_lets +onlyGivenNames -merge -useContext x8
    have h9 : Keeps 4097 s x8.2 := by
      unfold x8
      exact Keeps.tr h7 (Keeps.mono rfl (takeSeq_fr ..))
    try clear_value x8
    extract_lets +onlyGivenNames -merge -useContext x10
    have h11 : Keeps 4097 s x10 := by
      unfold x10
      exact Keeps.tr h9 (Keeps.mono rfl (putFrame_fr ..))
    try clear_value x10
    refine Keeps.tr ?_ (forRange_fr _ _ (fun iz12 sz12 => ?_) _)
    · exact h11
    · exact Keeps.mono rfl (pump_fr ..)
  · exact Keeps.refl _ _

theorem execLinkDown_fr (a0) (a1) (s : State) : KeepsOut 4097 s (execLinkDown a0 a1 s) := by
  unfold execLinkDown
  refine KeepsOut.next ?_
  refine Keeps.ite ?_ ?_
  · extract_lets +onlyGivenNames -merge -useContext x1
    have h2 : Keeps 4097 s x1 := by
      unfold x1
      exact Keeps.mono rfl (State_setF_fr ..)
    try clear_value x1
    refine Keeps.ite ?_ ?_
    · exact h2
    · extract_lets +onlyGivenNames -merge -useContext x3
      have h4 : Keeps 4097 s x3 := by
        unfold x3
        refine Keeps.tr ?_ (Keeps.mono rfl (State_setB_fr ..))
        exact Keeps.tr h2 (Keeps.mono rfl (State_setF_fr ..))
      try clear_value x3
      extract_lets +onlyGivenNames -merge -useContext x5
      have h6 : Keeps 4097 s x5 := by
        unfold x5
        exact Keeps.tr h4 (Keeps.mono rfl (State_bump_fr ..))
      try clear_value x5
      extract_lets +onlyGivenNames -merge -useContext x7
      try clear_value x7
      extract_lets +onlyGivenNames -merge -useContext y8 y10 x11
      have h9 : Keeps 4097 s y8 := by
        unfold y8
        exact Keeps.tr h6 (Keeps.mono rfl (freshLine_fr ..))
      have h12 : Keeps 4097 s x11 := by
        unfold x11
        exact Keeps.tr h9 (Keeps.mono rfl (Keeps.put_gft _ _))
      try clear_value x11
      refine Keeps.tr ?_ (Keeps.mono rfl (routeBits_fr ..))
      refine Keeps.tr ?_ (forEach_fr _ _ (fun iz13 sz13 => ?_) _)
      · exact h12
      · exact Keeps.mono rfl (freeBuffer_fr ..)
  · exact Keeps.refl _ _

theorem execPing_fr (a0) (a1) (s : State) : KeepsOut 1576960 s (execPing a0 a1 s) := by
  unfold execPing
  refine KeepsOut.next ?_
  refine Keeps.ite ?_ ?_
  · extract_lets +onlyGivenNames -merge -useContext x1
    have h2 : Keeps 1576960 s x1 := by
      unfold x1
      exact Keeps.mono rfl (freshLine_fr ..)
    try clear_value x1
    split
    · extract_lets +onlyGivenNames -merge -useContext x3
      have h4 : Keeps 1576960 s x3.2 := by
        unfold x3
        exact Keeps.tr h2 (Keeps.mono rfl (State_draw_fr ..))
      try clear_value x3
      exact Keeps.tr h4 (Keeps.mono rfl (sendSet_fr ..))
    · extract_lets +onlyGivenNames -merge -useContext x5
      have h6 : Keeps 1576960 s x5 := by
        unfold x5
        exact Keeps.tr h2 (Keeps.mono rfl (State_advTo_fr ..))
      try clear_value x5
      extract_lets +onlyGivenNames -merge -useContext x7
      try clear_value x7
      extract_lets +onlyGivenNames -merge -useContext y8 x9
      try clear_value x9
      refine Keeps.tr ?_ (Keeps.mono rfl (sendSet_fr ..))
      exact Keeps.tr h6 (Keeps.mono rfl (Keeps.put_gft _ _))
  · exact Keeps.refl _ _

theorem execEcho_fr (a0) (a1) (a2) (s : State) : KeepsOut 4097 s (execEcho a0 a1 a2 s) := by
  unfold execEcho
  refine KeepsOut.next ?_
  refine Keeps.ite ?_ ?_
  · split
    · refine Keeps.ite ?_ ?_
      · extract_lets +onlyGivenNames -merge -useContext x1
        try clear_value x1
        extract_lets +onlyGivenNames -merge -useContext x2
        try clear_value x2
        extract_lets +onlyGivenNames -merge -useContext y3 x4
        have h5 : Keeps 4097 s x4 := by
          unfold x4
          exact Keeps.mono rfl (Keeps.put_gft _ _)
        try clear_value x4
        exact Keeps.tr h5 (Keeps.mono rfl (State_setF_fr ..))
      · exact Keeps.refl _ _
    · exact Keeps.refl _ _
  · exact Keeps.refl _ _

theorem leaveGrove_fr (a0) (s : State) : Keeps 4097 s (leaveGrove a0 s) := by
  unfold leaveGrove
  extract_lets +onlyGivenNames -merge -useContext x1
  have h2 : Keeps 4097 s x1 := by
    unfold x1
    refine Keeps.tr ?_ (Keeps.mono rfl (State_setB_fr ..))
    refine Keeps.tr ?_ (Keeps.mono rfl (State_setB_fr ..))
    exact Keeps.mono rfl (State_setF_fr ..)
  try clear_value x1
  extract_lets +onlyGivenNames -merge -useContext x3
  have h4 : Keeps 4097 s x3 := by
    unfold x3
    refine Keeps.tr ?_ (Keeps.mono rfl (State_setReg_fr ..))
    exact Keeps.tr h2 (Keeps.mono rfl (State_setB_fr ..))
  try clear_value x3
  extract_lets +onlyGivenNames -merge -useContext x5
  have h6 : Keeps 4097 s x5 := by
    unfold x5
    refine Keeps.tr ?_ (Keeps.mono rfl (State_setF_fr ..))
    exact Keeps.tr h4 (Keeps.mono rfl (State_setF_fr ..))
  try clear_value x5
  exact Keeps.tr h6 (Keeps.mono rfl (Keeps.put_gft _ _))

theorem startListen_fr (s : State) : Keeps 4097 s (startListen s) := by
  unfold startListen
  extract_lets +onlyGivenNames -merge -useContext x1
  have h2 : Keeps 4097 s x1 := by
    unfold x1
    exact Keeps.mono rfl (leaveGrove_fr ..)
  try clear_value x1
  exact Keeps.tr h2 (Keeps.mono rfl (Keeps.put_gft _ _))

theorem graftCtlWrite_fr (a0) (s : State) : Keeps 4097 s (graftCtlWrite a0 s) := by
  unfold graftCtlWrite
  extract_lets +onlyGivenNames -merge -useContext x1
  try clear_value x1
  extract_lets +onlyGivenNames -merge -useContext x2
  try clear_value x2
  extract_lets +onlyGivenNames -merge -useContext x3
  have h4 : Keeps 4097 s x3 := by
    unfold x3
    exact Keeps.mono rfl (plainWrite_fr ..)
  try clear_value x3
  extract_lets +onlyGivenNames -merge -useContext x5
  try clear_value x5
  extract_lets +onlyGivenNames -merge -useContext x6
  try clear_value x6
  refine Keeps.ite ?_ ?_
  · refine Keeps.ite ?_ ?_
    · refine Keeps.tr ?_ (Keeps.mono rfl (State_setB_fr ..))
      exact Keeps.tr h4 (Keeps.mono rfl (leaveGrove_fr ..))
    · exact h4
  · refine Keeps.ite ?_ ?_
    · exact h4
    · refine Keeps.ite ?_ ?_
      · refine Keeps.tr ?_ (Keeps.mono rfl (startListen_fr ..))
        refine Keeps.tr ?_ (Keeps.mono rfl (State_setB_fr ..))
        exact Keeps.tr h4 (Keeps.mono rfl (State_setB_fr ..))
      · exact h4

theorem execGraftCtlWrite_fr (a0) (s : State) : KeepsOut 4097 s (execGraftCtlWrite a0 s) := by
  unfold execGraftCtlWrite
  refine KeepsOut.next ?_
  refine Keeps.ite ?_ ?_
  · exact Keeps.mono rfl (graftCtlWrite_fr ..)
  · exact Keeps.refl _ _

theorem joinGrove_fr (s : State) : Keeps 4097 s (joinGrove s) := by
  unfold joinGrove
  extract_lets +onlyGivenNames -merge -useContext x1
  have h2 : Keeps 4097 s x1 := by
    unfold x1
    refine Keeps.tr ?_ (Keeps.mono rfl (State_setReg_fr ..))
    refine Keeps.tr ?_ (Keeps.mono rfl (State_setB_fr ..))
    exact Keeps.mono rfl (State_setF_fr ..)
  try clear_value x1
  extract_lets +onlyGivenNames -merge -useContext x3
  have h4 : Keeps 4097 s x3 := by
    unfold x3
    refine Keeps.tr ?_ (Keeps.mono rfl (State_setF_fr ..))
    exact Keeps.tr h2 (Keeps.mono rfl (State_setF_fr ..))
  try clear_value x3
  extract_lets +onlyGivenNames -merge -useContext x5
  try clear_value x5
  exact Keeps.tr h4 (Keeps.mono rfl (Keeps.put_gft _ _))

theorem judgeListen_fr (s : State) : Keeps 4097 s (judgeListen s) := by
  unfold judgeListen
  extract_lets +onlyGivenNames -merge -useContext x1
  try clear_value x1
  extract_lets +onlyGivenNames -merge -useContext x2
  try clear_value x2
  extract_lets +onlyGivenNames -merge -useContext x3
  try clear_value x3
  extract_lets +onlyGivenNames -merge -useContext x4
  try clear_value x4
  refine Keeps.ite ?_ ?_
  · refine Keeps.tr ?_ (Keeps.mono rfl (State_setB_fr ..))
    exact Keeps.mono rfl (leaveGrove_fr ..)
  · refine Keeps.ite ?_ ?_
    · extract_lets +onlyGivenNames -merge -useContext x5
      have h6 : Keeps 4097 s x5 := by
        unfold x5
        refine Keeps.tr ?_ (Keeps.mono rfl (State_setB_fr ..))
        exact Keeps.mono rfl (leaveGrove_fr ..)
      try clear_value x5
      exact Keeps.tr h6 (Keeps.mono rfl (Keeps.put_gft _ _))
    · extract_lets +onlyGivenNames -merge -useContext x7
      have h8 : Keeps 4097 s x7 := by
        unfold x7
        refine Keeps.tr ?_ (Keeps.mono rfl (joinGrove_fr ..))
        refine Keeps.ite ?_ ?_
        · exact Keeps.mono rfl (State_setB_fr ..)
        · exact Keeps.refl _ _
      try clear_value x7
      refine Keeps.ite ?_ ?_
      · split
        · refine Keeps.tr ?_ (Keeps.mono rfl (sendReliable_fr ..))
          refine Keeps.tr ?_ (Keeps.mono rfl (State_setB_fr ..))
          exact Keeps.tr h8 (Keeps.mono rfl (State_setF_fr ..))
        · refine Keeps.tr ?_ (Keeps.mono rfl (State_setB_fr ..))
          refine Keeps.tr ?_ (Keeps.mono rfl (State_setF_fr ..))
          exact Keeps.tr h8 (Keeps.mono rfl (State_setB_fr ..))
      · refine Keeps.ite ?_ ?_
        · exact Keeps.tr h8 (Keeps.mono rfl (State_setB_fr ..))
        · exact h8

theorem execListenEnd_fr (s : State) : KeepsOut 528385 s (execListenEnd s) := by
  unfold execListenEnd
  refine KeepsOut.next ?_
  refine Keeps.ite ?_ ?_
  · refine Keeps.tr ?_ (Keeps.mono rfl (judgeListen_fr ..))
    exact Keeps.mono rfl (State_advTo_fr ..)
  · exact Keeps.refl _ _

theorem execRoleconfRelisten_fr (s : State) : KeepsOut 528385 s (execRoleconfRelisten s) := by
  unfold execRoleconfRelisten
  refine KeepsOut.next ?_
  refine Keeps.ite ?_ ?_
  · refine Keeps.tr ?_ (Keeps.mono rfl (startListen_fr ..))
    exact Keeps.mono rfl (State_advTo_fr ..)
  · exact Keeps.refl _ _

theorem execHelloSend_fr (s : State) : KeepsOut 528384 s (execHelloSend s) := by
  unfold execHelloSend
  refine KeepsOut.next ?_
  refine Keeps.ite ?_ ?_
  · extract_lets +onlyGivenNames -merge -useContext x1
    have h2 : Keeps 528384 s x1 := by
      unfold x1
      refine Keeps.tr ?_ (Keeps.mono rfl (freshLine_fr ..))
      exact Keeps.mono rfl (State_advTo_fr ..)
    try clear_value x1
    extract_lets +onlyGivenNames -merge -useContext y3 x4
    have h5 : Keeps 528384 s x4 := by
      unfold x4
      exact Keeps.tr h2 (Keeps.mono rfl (Keeps.put_gft _ _))
    try clear_value x4
    exact Keeps.tr h5 (Keeps.mono rfl (sendFrame_fr ..))
  · exact Keeps.refl _ _

theorem noteHello_fr (a0) (a1) (s : State) : Keeps 4097 s (noteHello a0 a1 s) := by
  unfold noteHello
  extract_lets +onlyGivenNames -merge -useContext x1
  try clear_value x1
  extract_lets +onlyGivenNames -merge -useContext x2
  try clear_value x2
  extract_lets +onlyGivenNames -merge -useContext x3
  try clear_value x3
  extract_lets +onlyGivenNames -merge -useContext x4
  try clear_value x4
  extract_lets +onlyGivenNames -merge -useContext x5
  try clear_value x5
  extract_lets +onlyGivenNames -merge -useContext y6 x7
  have h8 : Keeps 4097 s x7 := by
    unfold x7
    exact Keeps.mono rfl (Keeps.put_gft _ _)
  try clear_value x7
  extract_lets +onlyGivenNames -merge -useContext x9
  have h10 : Keeps 4097 s x9 := by
    unfold x9
    exact Keeps.tr h8 (Keeps.mono rfl (routeBits_fr ..))
  try clear_value x9
  refine Keeps.ite ?_ ?_
  · extract_lets +onlyGivenNames -merge -useContext x11
    have h12 : Keeps 4097 s x11 := by
      unfold x11
      refine Keeps.tr ?_ (Keeps.mono rfl (State_setB_fr ..))
      exact Keeps.tr h10 (Keeps.mono rfl (State_setF_fr ..))
    try clear_value x11
    exact Keeps.tr h12 (Keeps.mono rfl (Keeps.put_gft _ _))
  · exact h10

theorem judgeHello_fr (a0) (s : State) : Keeps 4097 s (judgeHello a0 s) := by
  unfold judgeHello
  extract_lets +onlyGivenNames -merge -useContext x1
  try clear_value x1
  extract_lets +onlyGivenNames -merge -useContext x2
  try clear_value x2
  extract_lets +onlyGivenNames -merge -useContext x3
  try clear_value x3
  refine Keeps.ite ?_ ?_
  · refine Keeps.ite ?_ ?_
    · refine Keeps.tr ?_ (Keeps.mono rfl (State_setB_fr ..))
      exact Keeps.mono rfl (leaveGrove_fr ..)
    · exact Keeps.refl _ _
  · refine Keeps.ite ?_ ?_
    · extract_lets +onlyGivenNames -merge -useContext x4
      have h5 : Keeps 4097 s x4 := by
        unfold x4
        refine Keeps.tr ?_ (Keeps.mono rfl (State_setB_fr ..))
        exact Keeps.mono rfl (leaveGrove_fr ..)
      try clear_value x4
      exact Keeps.tr h5 (Keeps.mono rfl (Keeps.put_gft _ _))
    · refine Keeps.ite ?_ ?_
      · extract_lets +onlyGivenNames -merge -useContext x6
        have h7 : Keeps 4097 s x6 := by
          unfold x6
          exact Keeps.mono rfl (State_setB_fr ..)
        try clear_value x6
        refine Keeps.ite ?_ ?_
        · refine Keeps.tr ?_ (Keeps.mono rfl (State_setB_fr ..))
          exact Keeps.tr h7 (Keeps.mono rfl (State_setB_fr ..))
        · exact h7
      · exact Keeps.refl _ _

theorem execNodeAbsence_fr (a0) (s : State) : KeepsOut 528385 s (execNodeAbsence a0 s) := by
  unfold execNodeAbsence
  refine KeepsOut.next ?_
  split
  · refine Keeps.ite ?_ ?_
    · extract_lets +onlyGivenNames -merge -useContext x1
      have h2 : Keeps 528385 s x1 := by
        unfold x1
        exact Keeps.mono rfl (State_advTo_fr ..)
      try clear_value x1
      extract_lets +onlyGivenNames -merge -useContext y3 x4
      have h5 : Keeps 528385 s x4 := by
        unfold x4
        exact Keeps.tr h2 (Keeps.mono rfl (Keeps.put_gft _ _))
      try clear_value x4
      extract_lets +onlyGivenNames -merge -useContext x6
      have h7 : Keeps 528385 s x6 := by
        unfold x6
        exact Keeps.tr h5 (Keeps.mono rfl (routeBits_fr ..))
      try clear_value x6
      refine Keeps.ite ?_ ?_
      · exact Keeps.tr h7 (Keeps.mono rfl (State_setB_fr ..))
      · exact h7
    · exact Keeps.refl _ _
  · exact Keeps.refl _ _

theorem groveTicks_fr (a0) (a1) (a2) (s : State) : Keeps 4097 s (groveTicks a0 a1 a2 s) := by
  unfold groveTicks
  extract_lets +onlyGivenNames -merge -useContext x1
  have h2 : Keeps 4097 s x1 := by
    unfold x1
    exact Keeps.mono rfl (State_setReg_fr ..)
  try clear_value x1
  exact Keeps.tr h2 (Keeps.mono rfl (Keeps.put_gft _ _))

theorem takeTick_fr (a0) (a1) (a2) (s : State) : Keeps 4097 s (takeTick a0 a1 a2 s) := by
  unfold takeTick
  extract_lets +onlyGivenNames -merge -useContext x1
  try clear_value x1
  extract_lets +onlyGivenNames -merge -useContext x2
  try clear_value x2
  extract_lets +onlyGivenNames -merge -useContext x3
  have h4 : Keeps 4097 s x3 := by
    unfold x3
    refine Keeps.ite ?_ ?_
    · exact Keeps.mono rfl (sendSet_fr ..)
    · exact Keeps.refl _ _
  try clear_value x3
  extract_lets +onlyGivenNames -merge -useContext x5
  try clear_value x5
  refine Keeps.ite ?_ ?_
  · extract_lets +onlyGivenNames -merge -useContext x6
    try clear_value x6
    extract_lets +onlyGivenNames -merge -useContext x7
    try clear_value x7
    extract_lets +onlyGivenNames -merge -useContext x8
    try clear_value x8
    extract_lets +onlyGivenNames -merge -useContext x9
    have h10 : Keeps 4097 s x9 := by
      unfold x9
      exact Keeps.tr h4 (Keeps.mono rfl (groveTicks_fr ..))
    try clear_value x9
    exact Keeps.tr h10 (Keeps.mono rfl (Keeps.put_gft _ _))
  · exact h4

theorem graftWrite_fr (a0) (a1) (s : State) : Keeps 4097 s (graftWrite a0 a1 s) := by
  unfold graftWrite
  refine Keeps.ite ?_ ?_
  · exact Keeps.mono rfl (graftCtlWrite_fr ..)
  · refine Keeps.ite ?_ ?_
    · exact Keeps.mono rfl (State_setB_fr ..)
    · exact Keeps.mono rfl (plainWrite_fr ..)

end Sys2Proof.Machine
end

