-- ==== Sys2Proof/Laws/FrameClock.lean ====
section
/-! SUPPORT. Sys2Proof/Laws/FrameClock.lean: for each operation of Machine/Clock.lean, what it leaves (Laws/Frame.lean). -/

namespace Sys2Proof.Machine

open Sys2Proof

theorem setClockSecs_fr (a0) (s : State) : Keeps 1 s (setClockSecs a0 s) := by
  unfold setClockSecs
  extract_lets +onlyGivenNames -merge -useContext x1
  try clear_value x1
  extract_lets +onlyGivenNames -merge -useContext x2
  try clear_value x2
  extract_lets +onlyGivenNames -merge -useContext x3
  have h4 : Keeps 1 s x3 := by
    unfold x3
    exact Keeps.mono rfl (State_setF_fr ..)
  try clear_value x3
  extract_lets +onlyGivenNames -merge -useContext x5
  have h6 : Keeps 1 s x5 := by
    unfold x5
    exact Keeps.tr h4 (Keeps.mono rfl (State_setF_fr ..))
  try clear_value x5
  extract_lets +onlyGivenNames -merge -useContext x7
  have h8 : Keeps 1 s x7 := by
    unfold x7
    exact Keeps.tr h6 (Keeps.mono rfl (State_setF_fr ..))
  try clear_value x7
  extract_lets +onlyGivenNames -merge -useContext x9
  have h10 : Keeps 1 s x9 := by
    unfold x9
    exact Keeps.tr h8 (Keeps.mono rfl (State_setF_fr ..))
  try clear_value x9
  extract_lets +onlyGivenNames -merge -useContext x11
  have h12 : Keeps 1 s x11 := by
    unfold x11
    exact Keeps.tr h10 (Keeps.mono rfl (State_setF_fr ..))
  try clear_value x11
  extract_lets +onlyGivenNames -merge -useContext x13
  have h14 : Keeps 1 s x13 := by
    unfold x13
    exact Keeps.tr h12 (Keeps.mono rfl (State_setF_fr ..))
  try clear_value x13
  extract_lets +onlyGivenNames -merge -useContext x15
  have h16 : Keeps 1 s x15 := by
    unfold x15
    exact Keeps.tr h14 (Keeps.mono rfl (State_setF_fr ..))
  try clear_value x15
  exact Keeps.tr h16 (Keeps.mono rfl (State_setF_fr ..))

theorem loseTime_fr (a0) (s : State) : Keeps 9 s (loseTime a0 s) := by
  unfold loseTime
  extract_lets +onlyGivenNames -merge -useContext x1
  have h2 : Keeps 9 s x1 := by
    unfold x1
    refine Keeps.tr ?_ (Keeps.mono rfl (State_setF_fr ..))
    exact Keeps.mono rfl (State_setB_fr ..)
  try clear_value x1
  refine Keeps.ite ?_ ?_
  · exact h2
  · exact Keeps.tr h2 (Keeps.mono rfl (ringEvent_fr ..))

theorem freeze_fr (s : State) : Keeps 65536 s (freeze s) := by
  unfold freeze
  exact Keeps.mono rfl (Keeps.put_rtc _ _)

theorem thaw_fr (s : State) : Keeps 65536 s (thaw s) := by
  unfold thaw
  exact Keeps.mono rfl (Keeps.put_rtc _ _)

theorem secondStep_fr (s : State) : Keeps 69641 s (secondStep s) := by
  unfold secondStep
  extract_lets +onlyGivenNames -merge -useContext x1
  try clear_value x1
  extract_lets +onlyGivenNames -merge -useContext x2
  have h3 : Keeps 69641 s x2 := by
    unfold x2
    refine Keeps.ite ?_ ?_
    · refine Keeps.tr ?_ (Keeps.mono rfl (loseTime_fr ..))
      exact Keeps.mono rfl (setClockSecs_fr ..)
    · exact Keeps.mono rfl (setClockSecs_fr ..)
  try clear_value x2
  extract_lets +onlyGivenNames -merge -useContext x4
  have h5 : Keeps 69641 s x4 := by
    unfold x4
    refine Keeps.ite ?_ ?_
    · exact Keeps.tr h3 (Keeps.mono rfl (ringEvent_fr ..))
    · exact h3
  try clear_value x4
  extract_lets +onlyGivenNames -merge -useContext x6
  have h7 : Keeps 69641 s x6 := by
    unfold x6
    refine Keeps.ite ?_ ?_
    · exact Keeps.tr h5 (Keeps.mono rfl (State_setB_fr ..))
    · exact h5
  try clear_value x6
  extract_lets +onlyGivenNames -merge -useContext x8
  have h9 : Keeps 69641 s x8 := by
    unfold x8
    refine Keeps.ite ?_ ?_
    · exact Keeps.tr h7 (Keeps.mono rfl (State_setB_fr ..))
    · exact h7
  try clear_value x8
  extract_lets +onlyGivenNames -merge -useContext y10 x11
  have h12 : Keeps 69641 s x11 := by
    unfold x11
    refine Keeps.ite ?_ ?_
    · exact Keeps.tr h9 (Keeps.mono rfl (Keeps.put_gft _ _))
    · exact h9
  try clear_value x11
  exact Keeps.tr h12 (Keeps.mono rfl (Keeps.put_rtc _ _))

theorem sendPointSamples_fr (s : State) : Keeps 75 s (sendPointSamples s) := by
  unfold sendPointSamples
  refine Keeps.ite ?_ ?_
  · refine Keeps.tr ?_ (forRange_fr _ _ (fun iz1 sz1 => ?_) _)
    · exact Keeps.mono rfl (crownDrain_fr ..)
    · refine Keeps.ite ?_ ?_
      · split
        · exact Keeps.mono rfl (sendStream_fr ..)
        · exact Keeps.refl _ _
      · exact Keeps.refl _ _
  · exact Keeps.refl _ _

theorem sendDieSamples_fr (s : State) : Keeps 3 s (sendDieSamples s) := by
  unfold sendDieSamples
  refine Keeps.ite ?_ ?_
  · refine Keeps.tr ?_ (forRange_fr _ _ (fun iz1 sz1 => ?_) _)
    · exact Keeps.refl _ _
    · extract_lets +onlyGivenNames -merge -useContext x2
      try clear_value x2
      refine Keeps.ite ?_ ?_
      · exact Keeps.refl _ _
      · exact Keeps.mono rfl (sendStream_fr ..)
  · exact Keeps.refl _ _

theorem secondBoundary_fr (s : State) : Keeps 69707 s (secondBoundary s) := by
  unfold secondBoundary
  refine Keeps.tr ?_ (Keeps.mono rfl (sendDieSamples_fr ..))
  refine Keeps.tr ?_ (Keeps.mono rfl (sendPointSamples_fr ..))
  exact Keeps.mono rfl (secondStep_fr ..)

theorem boundaryNow_fr (s : State) : Keeps 69707 s (boundaryNow s) := by
  unfold boundaryNow
  refine Keeps.ite ?_ ?_
  · exact Keeps.mono rfl (secondBoundary_fr ..)
  · exact Keeps.refl _ _

theorem execRtcSecond_fr (s : State) : KeepsOut 593995 s (execRtcSecond s) := by
  unfold execRtcSecond
  refine KeepsOut.next ?_
  refine Keeps.ite ?_ ?_
  · refine Keeps.tr ?_ (Keeps.mono rfl (secondBoundary_fr ..))
    exact Keeps.mono rfl (State_advTo_fr ..)
  · exact Keeps.refl _ _

theorem rtcCapture_fr (a0) (s : State) : Keeps 69707 s (rtcCapture a0 s) := by
  unfold rtcCapture
  extract_lets +onlyGivenNames -merge -useContext x1
  have h2 : Keeps 69707 s x1 := by
    unfold x1
    exact Keeps.mono rfl (boundaryNow_fr ..)
  try clear_value x1
  refine Keeps.tr ?_ (forRange_fr _ _ (fun iz3 sz3 => ?_) _)
  · exact h2
  · extract_lets +onlyGivenNames -merge -useContext x4
    try clear_value x4
    exact Keeps.mono rfl (Keeps.put_rtc _ _)

theorem execRtcCapture_fr (a0) (s : State) : KeepsOut 69707 s (execRtcCapture a0 s) := by
  unfold execRtcCapture
  refine KeepsOut.next ?_
  refine Keeps.ite ?_ ?_
  · exact Keeps.refl _ _
  · exact Keeps.mono rfl (rtcCapture_fr ..)

theorem rtcTimeWrite_fr (a0) (a1) (s : State) : Keeps 65537 s (rtcTimeWrite a0 a1 s) := by
  unfold rtcTimeWrite
  refine Keeps.ite ?_ ?_
  · exact Keeps.refl _ _
  · refine Keeps.ite ?_ ?_
    · exact Keeps.refl _ _
    · refine Keeps.ite ?_ ?_
      · exact Keeps.mono rfl (State_setB_fr ..)
      · extract_lets +onlyGivenNames -merge -useContext x1
        try clear_value x1
        refine Keeps.ite ?_ ?_
        · exact Keeps.mono rfl (State_setB_fr ..)
        · extract_lets +onlyGivenNames -merge -useContext x2
          have h3 : Keeps 65537 s x2 := by
            unfold x2
            exact Keeps.mono rfl (State_setReg_fr ..)
          try clear_value x2
          refine Keeps.ite ?_ ?_
          · exact Keeps.tr h3 (Keeps.mono rfl (Keeps.put_rtc _ _))
          · exact h3

theorem execRtcTimeWrite_fr (a0) (a1) (s : State) : KeepsOut 65537 s (execRtcTimeWrite a0 a1 s) := by
  unfold execRtcTimeWrite
  refine KeepsOut.next ?_
  exact Keeps.mono rfl (rtcTimeWrite_fr ..)

theorem rtcHalt_fr (s : State) : Keeps 69707 s (rtcHalt s) := by
  unfold rtcHalt
  refine Keeps.ite ?_ ?_
  · exact Keeps.refl _ _
  · beta_reduce
    refine Keeps.tr ?_ (Keeps.mono rfl (Keeps.put_rtc _ _))
    refine Keeps.tr ?_ (Keeps.mono rfl (State_setB_fr ..))
    refine Keeps.tr ?_ (Keeps.mono rfl (freeze_fr ..))
    exact Keeps.mono rfl (boundaryNow_fr ..)

theorem execRtcHalt_fr (s : State) : KeepsOut 69707 s (execRtcHalt s) := by
  unfold execRtcHalt
  refine KeepsOut.next ?_
  exact Keeps.mono rfl (rtcHalt_fr ..)

theorem rtcRun_fr (s : State) : Keeps 98305 s (rtcRun s) := by
  unfold rtcRun
  refine Keeps.ite ?_ ?_
  · exact Keeps.refl _ _
  · refine Keeps.ite ?_ ?_
    · exact Keeps.mono rfl (State_setB_fr ..)
    · extract_lets +onlyGivenNames -merge -useContext x1
      have h2 : Keeps 98305 s x1 := by
        unfold x1
        exact Keeps.mono rfl (State_setF_fr ..)
      try clear_value x1
      extract_lets +onlyGivenNames -merge -useContext x3
      have h4 : Keeps 98305 s x3 := by
        unfold x3
        refine Keeps.ite ?_ ?_
        · exact Keeps.tr h2 (Keeps.mono rfl (State_setB_fr ..))
        · exact h2
      try clear_value x3
      extract_lets +onlyGivenNames -merge -useContext x5
      have h6 : Keeps 98305 s x5 := by
        unfold x5
        refine Keeps.tr ?_ (Keeps.mono rfl (thaw_fr ..))
        exact Keeps.tr h4 (Keeps.mono rfl (State_setB_fr ..))
      try clear_value x5
      exact Keeps.tr h6 (Keeps.mono rfl (Keeps.put_grr_rtc _ _ _))

theorem execRtcRun_fr (s : State) : KeepsOut 98305 s (execRtcRun s) := by
  unfold execRtcRun
  refine KeepsOut.next ?_
  exact Keeps.mono rfl (rtcRun_fr ..)

theorem setClock_fr (a0) (s : State) : Keeps 102475 s (setClock a0 s) := by
  unfold setClock
  extract_lets +onlyGivenNames -merge -useContext x1
  try clear_value x1
  extract_lets +onlyGivenNames -merge -useContext x2
  try clear_value x2
  extract_lets +onlyGivenNames -merge -useContext x3
  try clear_value x3
  refine Keeps.tr ?_ (Keeps.mono rfl (rtcRun_fr ..))
  refine Keeps.tr ?_ (forRange_fr _ _ (fun iz4 sz4 => ?_) _)
  · exact Keeps.mono rfl (rtcHalt_fr ..)
  · exact Keeps.mono rfl (rtcTimeWrite_fr ..)

theorem rtcCtlWrite_fr (a0) (s : State) : Keeps 102475 s (rtcCtlWrite a0 s) := by
  unfold rtcCtlWrite
  refine Keeps.ite ?_ ?_
  · exact Keeps.mono rfl (rtcHalt_fr ..)
  · exact Keeps.mono rfl (rtcRun_fr ..)

theorem rtcCalWrite_fr (a0) (s : State) : Keeps 1 s (rtcCalWrite a0 s) := by
  unfold rtcCalWrite
  refine Keeps.ite ?_ ?_
  · exact Keeps.refl _ _
  · refine Keeps.ite ?_ ?_
    · exact Keeps.mono rfl (State_setB_fr ..)
    · exact Keeps.mono rfl (State_setReg_fr ..)

theorem execRtcCalWrite_fr (a0) (s : State) : KeepsOut 1 s (execRtcCalWrite a0 s) := by
  unfold execRtcCalWrite
  refine KeepsOut.next ?_
  exact Keeps.mono rfl (rtcCalWrite_fr ..)

theorem execCalWindow_fr (s : State) : KeepsOut 589824 s (execCalWindow s) := by
  unfold execCalWindow
  refine KeepsOut.next ?_
  refine Keeps.ite ?_ ?_
  · exact Keeps.refl _ _
  · extract_lets +onlyGivenNames -merge -useContext x1
    have h2 : Keeps 589824 s x1 := by
      unfold x1
      exact Keeps.mono rfl (State_advTo_fr ..)
    try clear_value x1
    extract_lets +onlyGivenNames -merge -useContext x3
    try clear_value x3
    extract_lets +onlyGivenNames -merge -useContext y4 x5
    have h6 : Keeps 589824 s x5 := by
      unfold x5
      exact Keeps.tr h2 (Keeps.mono rfl (Keeps.put_rtc _ _))
    try clear_value x5
    refine Keeps.ite ?_ ?_
    · exact Keeps.tr h6 (Keeps.mono rfl (Keeps.put_rtc _ _))
    · exact h6

theorem judgeCharge_fr (s : State) : Keeps 1 s (judgeCharge s) := by
  unfold judgeCharge
  extract_lets +onlyGivenNames -merge -useContext x1
  try clear_value x1
  exact Keeps.mono rfl (State_setB_fr ..)

theorem firstSwitchOver_fr (s : State) : Keeps 1 s (firstSwitchOver s) := by
  unfold firstSwitchOver
  refine Keeps.ite ?_ ?_
  · extract_lets +onlyGivenNames -merge -useContext x1
    have h2 : Keeps 1 s x1 := by
      unfold x1
      exact Keeps.mono rfl (State_setReg_fr ..)
    try clear_value x1
    extract_lets +onlyGivenNames -merge -useContext x3
    have h4 : Keeps 1 s x3 := by
      unfold x3
      exact Keeps.tr h2 (Keeps.mono rfl (State_setReg_fr ..))
    try clear_value x3
    refine Keeps.tr ?_ (Keeps.mono rfl (State_setB_fr ..))
    refine Keeps.tr ?_ (Keeps.mono rfl (State_setB_fr ..))
    exact Keeps.tr h4 (Keeps.mono rfl (State_setB_fr ..))
  · exact Keeps.refl _ _

theorem execPowerPathSwitch_fr (a0) (s : State) : KeepsOut 1 s (execPowerPathSwitch a0 s) := by
  unfold execPowerPathSwitch
  refine KeepsOut.next ?_
  refine Keeps.ite ?_ ?_
  · exact Keeps.refl _ _
  · refine Keeps.ite ?_ ?_
    · refine Keeps.tr ?_ (Keeps.mono rfl (judgeCharge_fr ..))
      refine Keeps.tr ?_ (Keeps.mono rfl (firstSwitchOver_fr ..))
      refine Keeps.tr ?_ (Keeps.mono rfl (State_bump_fr ..))
      exact Keeps.mono rfl (State_setB_fr ..)
    · refine Keeps.ite ?_ ?_
      · refine Keeps.tr ?_ (Keeps.mono rfl (judgeCharge_fr ..))
        exact Keeps.mono rfl (State_setB_fr ..)
      · exact Keeps.refl _ _

theorem fsoarmWrite_fr (a0) (s : State) : Keeps 1 s (fsoarmWrite a0 s) := by
  unfold fsoarmWrite
  refine Keeps.ite ?_ ?_
  · exact Keeps.refl _ _
  · exact Keeps.mono rfl (plainWrite_fr ..)

theorem execFsoarmWrite_fr (a0) (s : State) : KeepsOut 1 s (execFsoarmWrite a0 s) := by
  unfold execFsoarmWrite
  refine KeepsOut.next ?_
  exact Keeps.mono rfl (fsoarmWrite_fr ..)

theorem execBrownout_fr (s : State) : KeepsOut 9 s (execBrownout s) := by
  unfold execBrownout
  refine KeepsOut.next ?_
  refine Keeps.ite ?_ ?_
  · exact Keeps.refl _ _
  · exact Keeps.mono rfl (loseTime_fr ..)

theorem execBkpreset_fr (s : State) : KeepsOut 73729 s (execBkpreset s) := by
  unfold execBkpreset
  refine KeepsOut.next ?_
  refine Keeps.ite ?_ ?_
  · exact Keeps.refl _ _
  · extract_lets +onlyGivenNames -merge -useContext x1
    have h2 : Keeps 73729 s x1 := by
      unfold x1
      exact Keeps.mono rfl (resetDomRegs_fr ..)
    try clear_value x1
    extract_lets +onlyGivenNames -merge -useContext y3 x4
    try clear_value x4
    exact Keeps.tr h2 (Keeps.mono rfl (Keeps.put_heart_rtc _ _ _))

theorem execBkpResetRelease_fr (s : State) : KeepsOut 65536 s (execBkpResetRelease s) := by
  unfold execBkpResetRelease
  refine KeepsOut.next ?_
  refine Keeps.ite ?_ ?_
  · exact Keeps.mono rfl (Keeps.put_rtc _ _)
  · exact Keeps.refl _ _

theorem execOscstop_fr (s : State) : KeepsOut 65545 s (execOscstop s) := by
  unfold execOscstop
  refine KeepsOut.next ?_
  refine Keeps.ite ?_ ?_
  · exact Keeps.refl _ _
  · extract_lets +onlyGivenNames -merge -useContext x1
    have h2 : Keeps 65545 s x1 := by
      unfold x1
      refine Keeps.tr ?_ (Keeps.mono rfl (loseTime_fr ..))
      exact Keeps.mono rfl (freeze_fr ..)
    try clear_value x1
    exact Keeps.tr h2 (Keeps.mono rfl (Keeps.put_rtc _ _))

theorem execOscillatorRestart_fr (s : State) : KeepsOut 65536 s (execOscillatorRestart s) := by
  unfold execOscillatorRestart
  refine KeepsOut.next ?_
  refine Keeps.ite ?_ ?_
  · exact Keeps.refl _ _
  · extract_lets +onlyGivenNames -merge -useContext y1 x2
    have h3 : Keeps 65536 s x2 := by
      unfold x2
      exact Keeps.mono rfl (Keeps.put_rtc _ _)
    try clear_value x2
    refine Keeps.ite ?_ ?_
    · exact h3
    · exact Keeps.tr h3 (Keeps.mono rfl (thaw_fr ..))

theorem execVblowSample_fr (a0) (s : State) : KeepsOut 65537 s (execVblowSample a0 s) := by
  unfold execVblowSample
  refine KeepsOut.next ?_
  refine Keeps.ite ?_ ?_
  · exact Keeps.refl _ _
  · refine Keeps.tr ?_ (Keeps.mono rfl (judgeCharge_fr ..))
    refine Keeps.tr ?_ (Keeps.mono rfl (State_setB_fr ..))
    exact Keeps.mono rfl (Keeps.put_rtc _ _)

theorem trickleWrite_fr (a0) (a1) (s : State) : Keeps 1 s (trickleWrite a0 a1 s) := by
  unfold trickleWrite
  refine Keeps.ite ?_ ?_
  · exact Keeps.refl _ _
  · refine Keeps.ite ?_ ?_
    · exact Keeps.mono rfl (State_setB_fr ..)
    · refine Keeps.tr ?_ (Keeps.mono rfl (judgeCharge_fr ..))
      exact Keeps.mono rfl (plainWrite_fr ..)

theorem execTrickleWrite_fr (a0) (a1) (s : State) : KeepsOut 1 s (execTrickleWrite a0 a1 s) := by
  unfold execTrickleWrite
  refine KeepsOut.next ?_
  exact Keeps.mono rfl (trickleWrite_fr ..)

theorem applyTime_fr (a0) (s : State) : Keeps 102475 s (applyTime a0 s) := by
  unfold applyTime
  refine Keeps.ite ?_ ?_
  · exact Keeps.mono rfl (Keeps.put_rtc _ _)
  · refine Keeps.tr ?_ (Keeps.mono rfl (setClock_fr ..))
    exact Keeps.mono rfl (Keeps.put_rtc _ _)

theorem applyWaitingTime_fr (s : State) : Keeps 102475 s (applyWaitingTime s) := by
  unfold applyWaitingTime
  split
  · exact Keeps.mono rfl (applyTime_fr ..)
  · exact Keeps.refl _ _

theorem rtcOwned_fr {m : Nat} {s0 s : State} {run : Reply × State} (h1 : Keeps m s0 s) (h2 : Keeps m s0 run.2) :
    Keeps m s0 (rtcOwned s run).2 := by
  unfold rtcOwned
  exact Keeps.ite2 h2 h1

theorem execClockGet_fr (a0) (s : State) : KeepsOut 69707 s (execClockGet a0 s) := by
  unfold execClockGet
  refine KeepsOut.next ?_
  refine Keeps.tr ?_ (runCmd_fr rfl _ _ _ (fun iz1 sz1 => ?_) _)
  · exact Keeps.refl _ _
  · extract_lets +onlyGivenNames -merge -useContext x2
    have h3 : Keeps 69707 sz1 x2 := by
      unfold x2
      exact Keeps.mono rfl (rtcCapture_fr ..)
    try clear_value x2
    refine Keeps.pair ?_
    exact h3

theorem execClockSet_fr (a0) (s : State) : KeepsOut 102475 s (execClockSet a0 s) := by
  unfold execClockSet
  refine KeepsOut.next ?_
  refine Keeps.tr ?_ (runCmd_fr rfl _ _ _ (fun iz1 sz1 => ?_) _)
  · exact Keeps.refl _ _
  · refine rtcOwned_fr ?_ ?_
    · exact Keeps.refl _ _
    · refine Keeps.pair ?_
      exact Keeps.mono rfl (setClock_fr ..)

theorem execClockAlarm_fr (a0) (s : State) : KeepsOut 9 s (execClockAlarm a0 s) := by
  unfold execClockAlarm
  refine KeepsOut.next ?_
  refine Keeps.tr ?_ (runCmd_fr rfl _ _ _ (fun iz1 sz1 => ?_) _)
  · exact Keeps.refl _ _
  · extract_lets +onlyGivenNames -merge -useContext x2
    try clear_value x2
    refine checked_fr ?_ ?_
    · exact Keeps.refl _ _
    · refine rtcOwned_fr ?_ ?_
      · exact Keeps.refl _ _
      · refine checked_fr ?_ ?_
        · exact Keeps.refl _ _
        · extract_lets +onlyGivenNames -merge -useContext x3
          have h4 : Keeps 9 sz1 x3 := by
            unfold x3
            refine Keeps.tr ?_ (Keeps.mono rfl (plainWrite_fr ..))
            exact Keeps.mono rfl (plainWrite_fr ..)
          try clear_value x3
          refine Keeps.pair ?_
          refine Keeps.ite ?_ ?_
          · exact Keeps.tr h4 (Keeps.mono rfl (State_setB_fr ..))
          · exact h4

theorem execClockCalibrate_fr (a0) (s : State) : KeepsOut 9 s (execClockCalibrate a0 s) := by
  unfold execClockCalibrate
  refine KeepsOut.next ?_
  refine Keeps.tr ?_ (runCmd_fr rfl _ _ _ (fun iz1 sz1 => ?_) _)
  · exact Keeps.refl _ _
  · extract_lets +onlyGivenNames -merge -useContext x2
    try clear_value x2
    refine rtcOwned_fr ?_ ?_
    · exact Keeps.refl _ _
    · refine checked_fr ?_ ?_
      · exact Keeps.refl _ _
      · refine Keeps.pair ?_
        exact Keeps.mono rfl (rtcCalWrite_fr ..)

end Sys2Proof.Machine
end

