-- ==== Sys2Proof/Laws/FrameRecorder.lean ====
section
/-! SUPPORT. Sys2Proof/Laws/FrameRecorder.lean: for each operation of Machine/Recorder.lean, what it leaves (Laws/Frame.lean). -/

namespace Sys2Proof.Machine

open Sys2Proof

theorem setRec_fr (a0) (a1) (s : State) : Keeps 32768 s (setRec a0 a1 s) := by
  unfold setRec
  refine Keeps.ite ?_ ?_
  · exact Keeps.refl _ _
  · exact Keeps.mono rfl (Keeps.put_grr _ _)

theorem clearRec_fr (a0) (a1) (s : State) : Keeps 32768 s (clearRec a0 a1 s) := by
  unfold clearRec
  exact Keeps.mono rfl (Keeps.put_grr _ _)

theorem recUpdate_fr {m : Nat} (hm : 32769 &&& m = 32769) (base : Nat) (f : State → State) (h : ∀ s, Keeps m s (f s)) (s : State) :
    Keeps m s (recUpdate base f s) := by
  unfold recUpdate
  refine Keeps.ite (Keeps.refl _ _) ?_
  exact Keeps.tr (Keeps.tr (Keeps.mono (mask_sub hm rfl) (State_setReg_fr ..)) (h _)) (Keeps.mono (mask_sub hm rfl) (setRec_fr ..))

theorem healthCount_fr (a0) (a1) (s : State) : Keeps 32769 s (healthCount a0 a1 s) := by
  unfold healthCount
  refine Keeps.ite ?_ ?_
  · exact Keeps.refl _ _
  · refine Keeps.tr ?_ (recUpdate_fr rfl _ _ (fun sz1 => ?_) _)
    · exact Keeps.refl _ _
    · extract_lets +onlyGivenNames -merge -useContext x2
      have h3 : Keeps 32769 sz1 x2 := by
        unfold x2
        exact Keeps.mono rfl (setRec_fr ..)
      try clear_value x2
      extract_lets +onlyGivenNames -merge -useContext x4
      have h5 : Keeps 32769 sz1 x4 := by
        unfold x4
        exact Keeps.tr h3 (Keeps.mono rfl (setRec_fr ..))
      try clear_value x4
      exact Keeps.tr h5 (Keeps.mono rfl (setRec_fr ..))

theorem formatChan_fr (a0) (a1) (s : State) : Keeps 32769 s (formatChan a0 a1 s) := by
  unfold formatChan
  extract_lets +onlyGivenNames -merge -useContext x1
  try clear_value x1
  refine Keeps.tr ?_ (recUpdate_fr rfl _ _ (fun sz2 => ?_) _)
  · exact Keeps.refl _ _
  · extract_lets +onlyGivenNames -merge -useContext x3
    have h4 : Keeps 32769 sz2 x3 := by
      unfold x3
      exact Keeps.mono rfl (clearRec_fr ..)
    try clear_value x3
    extract_lets +onlyGivenNames -merge -useContext x5
    try clear_value x5
    extract_lets +onlyGivenNames -merge -useContext x6
    have h7 : Keeps 32769 sz2 x6 := by
      unfold x6
      refine Keeps.tr ?_ (Keeps.mono rfl (setRec_fr ..))
      refine Keeps.tr ?_ (Keeps.mono rfl (setRec_fr ..))
      exact Keeps.tr h4 (Keeps.mono rfl (setRec_fr ..))
    try clear_value x6
    extract_lets +onlyGivenNames -merge -useContext x8
    have h9 : Keeps 32769 sz2 x8 := by
      unfold x8
      exact Keeps.tr h7 (Keeps.mono rfl (setRec_fr ..))
    try clear_value x8
    extract_lets +onlyGivenNames -merge -useContext x10
    have h11 : Keeps 32769 sz2 x10 := by
      unfold x10
      exact Keeps.tr h9 (Keeps.mono rfl (setRec_fr ..))
    try clear_value x10
    exact Keeps.tr h11 (Keeps.mono rfl (setRec_fr ..))

theorem formatPres_fr (a0) (a1) (s : State) : Keeps 32769 s (formatPres a0 a1 s) := by
  unfold formatPres
  refine Keeps.tr ?_ (recUpdate_fr rfl _ _ (fun sz1 => ?_) _)
  · exact Keeps.refl _ _
  · refine Keeps.tr ?_ (Keeps.mono rfl (setRec_fr ..))
    exact Keeps.mono rfl (clearRec_fr ..)

theorem formatHealth_fr (a0) (s : State) : Keeps 32769 s (formatHealth a0 s) := by
  unfold formatHealth
  refine Keeps.tr ?_ (recUpdate_fr rfl _ _ (fun sz1 => ?_) _)
  · exact Keeps.refl _ _
  · refine Keeps.tr ?_ (Keeps.mono rfl (setRec_fr ..))
    exact Keeps.mono rfl (clearRec_fr ..)

theorem formatDue_fr (s : State) : Keeps 32769 s (formatDue s) := by
  unfold formatDue
  extract_lets +onlyGivenNames -merge -useContext x1
  have h2 : Keeps 32769 s x1 := by
    unfold x1
    refine Keeps.tr ?_ (forRange_fr _ _ (fun iz3 sz3 => ?_) _)
    · exact Keeps.refl _ _
    · extract_lets +onlyGivenNames -merge -useContext x4
      try clear_value x4
      refine Keeps.ite ?_ ?_
      · exact Keeps.refl _ _
      · refine Keeps.ite ?_ ?_
        · exact Keeps.mono rfl (formatChan_fr ..)
        · refine Keeps.ite ?_ ?_
          · refine Keeps.tr ?_ (Keeps.mono rfl (healthCount_fr ..))
            exact Keeps.mono rfl (formatChan_fr ..)
          · exact Keeps.refl _ _
  try clear_value x1
  extract_lets +onlyGivenNames -merge -useContext x5
  have h6 : Keeps 32769 s x5 := by
    unfold x5
    refine Keeps.tr ?_ (forRange_fr _ _ (fun iz7 sz7 => ?_) _)
    · exact h2
    · refine Keeps.ite ?_ ?_
      · exact Keeps.refl _ _
      · exact Keeps.mono rfl (formatPres_fr ..)
  try clear_value x5
  refine Keeps.ite ?_ ?_
  · exact h6
  · exact Keeps.tr h6 (Keeps.mono rfl (formatHealth_fr ..))

theorem closeLayer_fr (a0) (a1) (a2) (s : State) : Keeps 32768 s (closeLayer a0 a1 a2 s) := by
  unfold closeLayer
  extract_lets +onlyGivenNames -merge -useContext x1
  try clear_value x1
  extract_lets +onlyGivenNames -merge -useContext x2
  try clear_value x2
  extract_lets +onlyGivenNames -merge -useContext x3
  have h4 : Keeps 32768 s x3 := by
    unfold x3
    refine Keeps.tr ?_ (forRange_fr _ _ (fun iz5 sz5 => ?_) _)
    · exact Keeps.refl _ _
    · exact Keeps.mono rfl (setRec_fr ..)
  try clear_value x3
  refine Keeps.tr ?_ (Keeps.mono rfl (setRec_fr ..))
  exact Keeps.tr h4 (Keeps.mono rfl (clearRec_fr ..))

theorem closeLayers_fr (a0) (s : State) : Keeps 32769 s (closeLayers a0 s) := by
  unfold closeLayers
  refine Keeps.tr ?_ (forRange_fr _ _ (fun iz1 sz1 => ?_) _)
  · exact Keeps.refl _ _
  · extract_lets +onlyGivenNames -merge -useContext x2
    try clear_value x2
    refine Keeps.ite ?_ ?_
    · exact Keeps.refl _ _
    · extract_lets +onlyGivenNames -merge -useContext x3
      try clear_value x3
      extract_lets +onlyGivenNames -merge -useContext x4
      try clear_value x4
      extract_lets +onlyGivenNames -merge -useContext x5
      have h6 : Keeps 32769 sz1 x5 := by
        unfold x5
        refine Keeps.ite ?_ ?_
        · refine Keeps.tr ?_ (recUpdate_fr rfl _ _ (fun sz7 => ?_) _)
          · exact Keeps.refl _ _
          · exact Keeps.mono rfl (closeLayer_fr ..)
        · exact Keeps.refl _ _
      try clear_value x5
      refine Keeps.ite ?_ ?_
      · refine Keeps.tr ?_ (recUpdate_fr rfl _ _ (fun sz8 => ?_) _)
        · exact h6
        · exact Keeps.mono rfl (closeLayer_fr ..)
      · exact h6

theorem closeTo_fr (a0) (s : State) : Keeps 32769 s (closeTo a0 s) := by
  unfold closeTo
  split
  · refine Keeps.ite ?_ ?_
    · exact Keeps.refl _ _
    · beta_reduce
      refine Keeps.tr ?_ (Keeps.mono rfl (Keeps.put_grr _ _))
      exact Keeps.mono rfl (closeLayers_fr ..)
  · exact Keeps.refl _ _

theorem preswrWrite_fr (a0) (s : State) : Keeps 32769 s (preswrWrite a0 s) := by
  unfold preswrWrite
  extract_lets +onlyGivenNames -merge -useContext x1
  try clear_value x1
  extract_lets +onlyGivenNames -merge -useContext x2
  try clear_value x2
  refine Keeps.ite ?_ ?_
  · exact Keeps.refl _ _
  · refine Keeps.tr ?_ (recUpdate_fr rfl _ _ (fun sz3 => ?_) _)
    · exact Keeps.refl _ _
    · extract_lets +onlyGivenNames -merge -useContext x4
      try clear_value x4
      refine Keeps.tr ?_ (Keeps.mono rfl (setRec_fr ..))
      exact Keeps.mono rfl (setRec_fr ..)

theorem preswr_fr (a0) (s : State) : Keeps 32769 s (preswr a0 s) := by
  unfold preswr
  refine Keeps.ite ?_ ?_
  · exact Keeps.mono rfl (Keeps.put_grr _ _)
  · exact Keeps.mono rfl (preswrWrite_fr ..)

theorem execGrrPreswrWrite_fr (a0) (s : State) : KeepsOut 32769 s (execGrrPreswrWrite a0 s) := by
  unfold execGrrPreswrWrite
  refine KeepsOut.next ?_
  refine Keeps.ite ?_ ?_
  · exact Keeps.mono rfl (preswr_fr ..)
  · exact Keeps.refl _ _

theorem incRec_fr (a0) (s : State) : Keeps 32768 s (incRec a0 s) := by
  unfold incRec
  exact Keeps.mono rfl (setRec_fr ..)

theorem sampleLayer_fr (a0) (a1) (a2) (a3) (a4) (s : State) : Keeps 32768 s (sampleLayer a0 a1 a2 a3 a4 s) := by
  unfold sampleLayer
  refine Keeps.ite ?_ ?_
  · exact Keeps.mono rfl (incRec_fr ..)
  · extract_lets +onlyGivenNames -merge -useContext x1
    have h2 : Keeps 32768 s x1 := by
      unfold x1
      refine Keeps.tr ?_ (Keeps.mono rfl (incRec_fr ..))
      exact Keeps.mono rfl (incRec_fr ..)
    try clear_value x1
    extract_lets +onlyGivenNames -merge -useContext x3
    try clear_value x3
    extract_lets +onlyGivenNames -merge -useContext x4
    try clear_value x4
    extract_lets +onlyGivenNames -merge -useContext x5
    have h6 : Keeps 32768 s x5 := by
      unfold x5
      refine Keeps.tr ?_ (Keeps.mono rfl (setRec_fr ..))
      exact Keeps.tr h2 (Keeps.mono rfl (setRec_fr ..))
    try clear_value x5
    extract_lets +onlyGivenNames -merge -useContext x7
    have h8 : Keeps 32768 s x7 := by
      unfold x7
      refine Keeps.ite ?_ ?_
      · refine Keeps.tr ?_ (Keeps.mono rfl (setRec_fr ..))
        exact Keeps.tr h6 (Keeps.mono rfl (setRec_fr ..))
      · exact h6
    try clear_value x7
    refine Keeps.ite ?_ ?_
    · refine Keeps.tr ?_ (Keeps.mono rfl (setRec_fr ..))
      exact Keeps.tr h8 (Keeps.mono rfl (setRec_fr ..))
    · exact h8

theorem applySample_fr (a0) (s : State) : Keeps 32769 s (applySample a0 s) := by
  unfold applySample
  extract_lets +onlyGivenNames -merge -useContext x1
  try clear_value x1
  extract_lets +onlyGivenNames -merge -useContext x2
  try clear_value x2
  extract_lets +onlyGivenNames -merge -useContext x3
  try clear_value x3
  refine Keeps.tr ?_ (recUpdate_fr rfl _ _ (fun sz4 => ?_) _)
  · exact Keeps.refl _ _
  · split
    · refine Keeps.tr ?_ (Keeps.mono rfl (sampleLayer_fr ..))
      refine Keeps.tr ?_ (Keeps.mono rfl (sampleLayer_fr ..))
      exact Keeps.mono rfl (sampleLayer_fr ..)
    · exact Keeps.mono rfl (sampleLayer_fr ..)

theorem applyWaiting_fr (a0) (s : State) : Keeps 32769 s (applyWaiting a0 s) := by
  unfold applyWaiting
  extract_lets +onlyGivenNames -merge -useContext x1
  try clear_value x1
  extract_lets +onlyGivenNames -merge -useContext y2 x3
  have h4 : Keeps 32769 s x3 := by
    unfold x3
    exact Keeps.mono rfl (Keeps.put_grr _ _)
  try clear_value x3
  refine Keeps.tr ?_ (forEach_fr _ _ (fun iz5 sz5 => ?_) _)
  · exact h4
  · refine Keeps.tr ?_ (Keeps.mono rfl (applySample_fr ..))
    exact Keeps.mono rfl (closeTo_fr ..)

theorem recorderSecond_fr (s : State) : Keeps 32769 s (recorderSecond s) := by
  unfold recorderSecond
  extract_lets +onlyGivenNames -merge -useContext x1
  try clear_value x1
  extract_lets +onlyGivenNames -merge -useContext x2
  have h3 : Keeps 32769 s x2 := by
    unfold x2
    exact Keeps.mono rfl (applyWaiting_fr ..)
  try clear_value x2
  extract_lets +onlyGivenNames -merge -useContext y4 x5
  have h6 : Keeps 32769 s x5 := by
    unfold x5
    refine Keeps.tr ?_ (Keeps.mono rfl (closeTo_fr ..))
    exact Keeps.tr h3 (Keeps.mono rfl (Keeps.put_grr _ _))
  try clear_value x5
  extract_lets +onlyGivenNames -merge -useContext x7
  have h8 : Keeps 32769 s x7 := by
    unfold x7
    refine Keeps.tr ?_ (Keeps.mono rfl (applyWaiting_fr ..))
    exact Keeps.tr h6 (Keeps.mono rfl (formatDue_fr ..))
  try clear_value x7
  exact Keeps.tr h8 (Keeps.mono rfl (Keeps.put_grr _ _))

theorem execRecorderSecond_fr (s : State) : KeepsOut 32769 s (execRecorderSecond s) := by
  unfold execRecorderSecond
  refine KeepsOut.next ?_
  refine Keeps.ite ?_ ?_
  · exact Keeps.mono rfl (recorderSecond_fr ..)
  · exact Keeps.refl _ _

theorem recorderChange_fr (s : State) : Keeps 32769 s (recorderChange s) := by
  unfold recorderChange
  refine Keeps.ite ?_ ?_
  · refine Keeps.tr ?_ (Keeps.mono rfl (closeTo_fr ..))
    exact Keeps.mono rfl (Keeps.put_grr _ _)
  · exact Keeps.refl _ _

theorem dropStray_fr (s : State) : Keeps 2 s (dropStray s) := by
  unfold dropStray
  extract_lets +onlyGivenNames -merge -useContext x1
  try clear_value x1
  refine Keeps.tr ?_ (forEach_fr _ _ (fun iz2 sz2 => ?_) _)
  · exact Keeps.mono rfl (Keeps.put_fab _ _)
  · exact Keeps.mono rfl (sinkTag_fr ..)

theorem execRecorderSample_fr (a0) (s : State) : KeepsOut 32771 s (execRecorderSample a0 s) := by
  unfold execRecorderSample
  refine KeepsOut.next ?_
  split
  · exact Keeps.refl _ _
  · rename_i y3 y4 e2
    have h1 : Keeps 32771 s y4 := by
      refine Keeps.tr ?_ (Keeps.mono rfl (takePacket_fr e2))
      exact Keeps.mono rfl (dropStray_fr ..)
    refine Keeps.ite ?_ ?_
    · exact h1
    · extract_lets +onlyGivenNames -merge -useContext y5 x6
      have h7 : Keeps 32771 s x6 := by
        unfold x6
        exact Keeps.tr h1 (Keeps.mono rfl (Keeps.put_grr _ _))
      try clear_value x6
      extract_lets +onlyGivenNames -merge -useContext x8
      try clear_value x8
      extract_lets +onlyGivenNames -merge -useContext x9
      try clear_value x9
      extract_lets +onlyGivenNames -merge -useContext x10
      try clear_value x10
      refine Keeps.ite ?_ ?_
      · exact Keeps.tr h7 (Keeps.mono rfl (applySample_fr ..))
      · refine Keeps.ite ?_ ?_
        · exact h7
        · exact Keeps.tr h7 (Keeps.mono rfl (Keeps.put_grr _ _))

theorem endDeferral_fr (s : State) : Keeps 32769 s (endDeferral s) := by
  unfold endDeferral
  extract_lets +onlyGivenNames -merge -useContext x1
  try clear_value x1
  extract_lets +onlyGivenNames -merge -useContext y2 x3
  have h4 : Keeps 32769 s x3 := by
    unfold x3
    refine Keeps.tr ?_ (forEach_fr _ _ (fun iz5 sz5 => ?_) _)
    · exact Keeps.mono rfl (Keeps.put_grr _ _)
    · exact Keeps.mono rfl (preswrWrite_fr ..)
  try clear_value x3
  refine Keeps.ite ?_ ?_
  · exact Keeps.tr h4 (Keeps.mono rfl (applyWaiting_fr ..))
  · exact h4

theorem execSaveDeferralTimeout_fr (s : State) : KeepsOut 557057 s (execSaveDeferralTimeout s) := by
  unfold execSaveDeferralTimeout
  refine KeepsOut.next ?_
  split
  · exact Keeps.refl _ _
  · refine Keeps.tr ?_ (Keeps.mono rfl (healthCount_fr ..))
    refine Keeps.tr ?_ (Keeps.mono rfl (endDeferral_fr ..))
    exact Keeps.mono rfl (State_advTo_fr ..)

theorem cursorWrite_fr (a0) (a1) (s : State) : Keeps 32768 s (cursorWrite a0 a1 s) := by
  unfold cursorWrite
  extract_lets +onlyGivenNames -merge -useContext x1
  try clear_value x1
  extract_lets +onlyGivenNames -merge -useContext x2
  try clear_value x2
  extract_lets +onlyGivenNames -merge -useContext x3
  try clear_value x3
  exact Keeps.mono rfl (Keeps.put_grr _ _)

theorem execGrrCursorWrite_fr (a0) (a1) (s : State) : KeepsOut 32768 s (execGrrCursorWrite a0 a1 s) := by
  unfold execGrrCursorWrite
  refine KeepsOut.next ?_
  refine Keeps.ite ?_ ?_
  · exact Keeps.mono rfl (cursorWrite_fr ..)
  · exact Keeps.refl _ _

theorem chcfgWrite_fr (a0) (a1) (s : State) : Keeps 1 s (chcfgWrite a0 a1 s) := by
  unfold chcfgWrite
  refine Keeps.ite ?_ ?_
  · exact Keeps.mono rfl (State_setB_fr ..)
  · exact Keeps.mono rfl (plainWrite_fr ..)

theorem edgeWrite_fr (a0) (a1) (a2) (s : State) : Keeps 1 s (edgeWrite a0 a1 a2 s) := by
  unfold edgeWrite
  refine Keeps.ite ?_ ?_
  · exact Keeps.mono rfl (State_setB_fr ..)
  · exact Keeps.mono rfl (State_setReg_fr ..)

theorem addScar_fr (a0) (a1) (a2) (s : State) : Keeps 1 s (addScar a0 a1 a2 s) := by
  unfold addScar
  split
  · exact Keeps.mono rfl (State_setReg_fr ..)
  · exact Keeps.refl _ _

theorem loseWords_fr (a0) (a1) (s : State) : Keeps 32769 s (loseWords a0 a1 s) := by
  unfold loseWords
  extract_lets +onlyGivenNames -merge -useContext x1
  try clear_value x1
  extract_lets +onlyGivenNames -merge -useContext x2
  try clear_value x2
  extract_lets +onlyGivenNames -merge -useContext x3
  try clear_value x3
  extract_lets +onlyGivenNames -merge -useContext x4
  have h5 : Keeps 32769 s x4 := by
    unfold x4
    refine Keeps.tr ?_ (forEach_fr _ _ (fun iz6 sz6 => ?_) _)
    · exact Keeps.refl _ _
    · exact Keeps.mono rfl (formatChan_fr ..)
  try clear_value x4
  extract_lets +onlyGivenNames -merge -useContext x7
  have h8 : Keeps 32769 s x7 := by
    unfold x7
    refine Keeps.tr ?_ (forEach_fr _ _ (fun iz9 sz9 => ?_) _)
    · exact h5
    · exact Keeps.mono rfl (formatPres_fr ..)
  try clear_value x7
  extract_lets +onlyGivenNames -merge -useContext x10
  try clear_value x10
  extract_lets +onlyGivenNames -merge -useContext x11
  try clear_value x11
  extract_lets +onlyGivenNames -merge -useContext x12
  have h13 : Keeps 32769 s x12 := by
    unfold x12
    refine Keeps.ite ?_ ?_
    · exact Keeps.tr h8 (Keeps.mono rfl (formatHealth_fr ..))
    · exact h8
  try clear_value x12
  extract_lets +onlyGivenNames -merge -useContext x14
  have h15 : Keeps 32769 s x14 := by
    unfold x14
    refine Keeps.ite ?_ ?_
    · exact Keeps.tr h13 (Keeps.mono rfl (clearRec_fr ..))
    · exact h13
  try clear_value x14
  exact Keeps.tr h15 (Keeps.mono rfl (healthCount_fr ..))

theorem stopGroup_fr (a0) (s : State) : Keeps 32769 s (stopGroup a0 s) := by
  unfold stopGroup
  extract_lets +onlyGivenNames -merge -useContext x1
  have h2 : Keeps 32769 s x1 := by
    unfold x1
    exact Keeps.mono rfl (clearRec_fr ..)
  try clear_value x1
  extract_lets +onlyGivenNames -merge -useContext x3
  have h4 : Keeps 32769 s x3 := by
    unfold x3
    refine Keeps.tr ?_ (Keeps.mono rfl (State_setF_fr ..))
    exact Keeps.tr h2 (Keeps.mono rfl (State_setB_fr ..))
  try clear_value x3
  refine Keeps.ite ?_ ?_
  · exact h4
  · exact Keeps.tr h4 (Keeps.mono rfl (addScar_fr ..))

theorem bankFails_fr (a0) (a1) (a2) (s : State) : Keeps 32769 s (bankFails a0 a1 a2 s) := by
  unfold bankFails
  extract_lets +onlyGivenNames -merge -useContext x1
  have h2 : Keeps 32769 s x1 := by
    unfold x1
    exact Keeps.mono rfl (State_setB_fr ..)
  try clear_value x1
  refine Keeps.ite ?_ ?_
  · extract_lets +onlyGivenNames -merge -useContext x3
    have h4 : Keeps 32769 s x3 := by
      unfold x3
      exact Keeps.tr h2 (Keeps.mono rfl (addScar_fr ..))
    try clear_value x3
    extract_lets +onlyGivenNames -merge -useContext x5
    have h6 : Keeps 32769 s x5 := by
      unfold x5
      exact Keeps.tr h4 (Keeps.mono rfl (loseWords_fr ..))
    try clear_value x5
    extract_lets +onlyGivenNames -merge -useContext x7
    have h8 : Keeps 32769 s x7 := by
      unfold x7
      refine Keeps.tr ?_ (Keeps.mono rfl (State_setB_fr ..))
      refine Keeps.tr ?_ (Keeps.mono rfl (State_setB_fr ..))
      exact Keeps.tr h6 (Keeps.mono rfl (State_setF_fr ..))
    try clear_value x7
    refine Keeps.tr ?_ (Keeps.mono rfl (healthCount_fr ..))
    exact Keeps.tr h8 (Keeps.mono rfl (healthCount_fr ..))
  · extract_lets +onlyGivenNames -merge -useContext x9
    try clear_value x9
    refine Keeps.ite ?_ ?_
    · refine Keeps.tr ?_ (Keeps.mono rfl (healthCount_fr ..))
      refine Keeps.tr ?_ (Keeps.mono rfl (healthCount_fr ..))
      exact Keeps.tr h2 (Keeps.mono rfl (stopGroup_fr ..))
    · extract_lets +onlyGivenNames -merge -useContext x10
      try clear_value x10
      extract_lets +onlyGivenNames -merge -useContext x11
      have h12 : Keeps 32769 s x11 := by
        unfold x11
        exact Keeps.tr h2 (Keeps.mono rfl (stopGroup_fr ..))
      try clear_value x11
      extract_lets +onlyGivenNames -merge -useContext x13
      have h14 : Keeps 32769 s x13 := by
        unfold x13
        refine Keeps.tr ?_ (Keeps.mono rfl (State_setF_fr ..))
        exact Keeps.tr h12 (Keeps.mono rfl (loseWords_fr ..))
      try clear_value x13
      refine Keeps.tr ?_ (Keeps.mono rfl (healthCount_fr ..))
      exact Keeps.tr h14 (Keeps.mono rfl (healthCount_fr ..))

theorem execBankFailure_fr (a0) (a1) (s : State) : KeepsOut 32769 s (execBankFailure a0 a1 s) := by
  unfold execBankFailure
  refine KeepsOut.next ?_
  refine Keeps.ite ?_ ?_
  · exact Keeps.refl _ _
  · extract_lets +onlyGivenNames -merge -useContext x1
    have h2 : Keeps 32769 s x1 := by
      unfold x1
      exact Keeps.mono rfl (State_setReg_fr ..)
    try clear_value x1
    split
    · exact Keeps.tr h2 (Keeps.mono rfl (bankFails_fr ..))
    · refine Keeps.ite ?_ ?_
      · extract_lets +onlyGivenNames -merge -useContext x3
        have h4 : Keeps 32769 s x3 := by
          unfold x3
          refine Keeps.tr ?_ (Keeps.mono rfl (addScar_fr ..))
          exact Keeps.tr h2 (Keeps.mono rfl (State_setB_fr ..))
        try clear_value x3
        extract_lets +onlyGivenNames -merge -useContext x5
        have h6 : Keeps 32769 s x5 := by
          unfold x5
          refine Keeps.tr ?_ (Keeps.mono rfl (State_setB_fr ..))
          exact Keeps.tr h4 (Keeps.mono rfl (State_setB_fr ..))
        try clear_value x5
        refine Keeps.tr ?_ (Keeps.mono rfl (healthCount_fr ..))
        exact Keeps.tr h6 (Keeps.mono rfl (healthCount_fr ..))
      · exact h2

theorem execRecorderScrub_fr (a0) (s : State) : KeepsOut 557057 s (execRecorderScrub a0 s) := by
  unfold execRecorderScrub
  refine KeepsOut.next ?_
  refine Keeps.ite ?_ ?_
  · exact Keeps.refl _ _
  · extract_lets +onlyGivenNames -merge -useContext x1
    have h2 : Keeps 557057 s x1 := by
      unfold x1
      exact Keeps.mono rfl (State_advTo_fr ..)
    try clear_value x1
    extract_lets +onlyGivenNames -merge -useContext y3 x4
    have h5 : Keeps 557057 s x4 := by
      unfold x4
      exact Keeps.tr h2 (Keeps.mono rfl (Keeps.put_grr _ _))
    try clear_value x4
    extract_lets +onlyGivenNames -merge -useContext x6
    have h7 : Keeps 557057 s x6 := by
      unfold x6
      exact Keeps.tr h5 (Keeps.mono rfl (State_setF_fr ..))
    try clear_value x6
    exact Keeps.tr h7 (Keeps.mono rfl (healthCount_fr ..))

theorem mapBanks_fr (a0) (s : State) : Keeps 32769 s (mapBanks a0 s) := by
  unfold mapBanks
  extract_lets +onlyGivenNames -merge -useContext x1
  have h2 : Keeps 32769 s x1 := by
    unfold x1
    refine Keeps.tr ?_ (forRange_fr _ _ (fun iz3 sz3 => ?_) _)
    · exact Keeps.refl _ _
    · refine Keeps.ite ?_ ?_
      · exact Keeps.mono rfl (addScar_fr ..)
      · exact Keeps.refl _ _
  try clear_value x1
  extract_lets +onlyGivenNames -merge -useContext x4
  try clear_value x4
  extract_lets +onlyGivenNames -merge -useContext x5
  have h6 : Keeps 32769 s x5 := by
    unfold x5
    refine Keeps.tr ?_ (forRange_fr _ _ (fun iz7 sz7 => ?_) _)
    · exact h2
    · split
      · exact Keeps.mono rfl (State_setF_fr ..)
      · exact Keeps.mono rfl (State_setF_fr ..)
  try clear_value x5
  extract_lets +onlyGivenNames -merge -useContext x8
  have h9 : Keeps 32769 s x8 := by
    unfold x8
    refine Keeps.tr ?_ (forEach_fr _ _ (fun iz10 sz10 => ?_) _)
    · exact h6
    · refine Keeps.ite ?_ ?_
      · exact Keeps.mono rfl (stopGroup_fr ..)
      · exact Keeps.refl _ _
  try clear_value x8
  split
  · refine Keeps.tr ?_ (Keeps.mono rfl (State_setB_fr ..))
    exact Keeps.tr h9 (Keeps.mono rfl (State_setF_fr ..))
  · exact Keeps.tr h9 (Keeps.mono rfl (State_setB_fr ..))

theorem clearScope_fr (a0) (a1) (s : State) : Keeps 32769 s (clearScope a0 a1 s) := by
  unfold clearScope
  extract_lets +onlyGivenNames -merge -useContext x1
  try clear_value x1
  extract_lets +onlyGivenNames -merge -useContext x2
  try clear_value x2
  split
  · refine Keeps.tr ?_ (recUpdate_fr rfl _ _ (fun sz3 => ?_) _)
    · exact Keeps.refl _ _
    · refine Keeps.tr ?_ (Keeps.mono rfl (setRec_fr ..))
      exact Keeps.mono rfl (clearRec_fr ..)
  · refine Keeps.tr ?_ (recUpdate_fr rfl _ _ (fun sz4 => ?_) _)
    · exact Keeps.refl _ _
    · refine Keeps.tr ?_ (Keeps.mono rfl (setRec_fr ..))
      exact Keeps.mono rfl (clearRec_fr ..)
  · refine Keeps.tr ?_ (recUpdate_fr rfl _ _ (fun sz5 => ?_) _)
    · exact Keeps.refl _ _
    · refine Keeps.tr ?_ (Keeps.mono rfl (setRec_fr ..))
      exact Keeps.mono rfl (clearRec_fr ..)
  · exact Keeps.mono rfl (formatChan_fr ..)
  · refine Keeps.tr ?_ (forRange_fr _ _ (fun iz6 sz6 => ?_) _)
    · exact Keeps.refl _ _
    · exact Keeps.mono rfl (formatChan_fr ..)
  · refine Keeps.tr ?_ (recUpdate_fr rfl _ _ (fun sz7 => ?_) _)
    · exact Keeps.refl _ _
    · exact Keeps.mono rfl (clearRec_fr ..)
  · refine Keeps.tr ?_ (forRange_fr _ _ (fun iz8 sz8 => ?_) _)
    · exact Keeps.refl _ _
    · refine Keeps.tr ?_ (recUpdate_fr rfl _ _ (fun sz9 => ?_) _)
      · exact Keeps.refl _ _
      · exact Keeps.mono rfl (clearRec_fr ..)
  · refine Keeps.tr ?_ (recUpdate_fr rfl _ _ (fun sz10 => ?_) _)
    · exact Keeps.refl _ _
    · exact Keeps.mono rfl (clearRec_fr ..)

theorem clearEntry_fr (a0) (a1) (a2) (s : State) : Keeps 32768 s (clearEntry a0 a1 a2 s) := by
  unfold clearEntry
  extract_lets +onlyGivenNames -merge -useContext x1
  try clear_value x1
  extract_lets +onlyGivenNames -merge -useContext x2
  try clear_value x2
  extract_lets +onlyGivenNames -merge -useContext x3
  have h4 : Keeps 32768 s x3 := by
    unfold x3
    exact Keeps.mono rfl (setRec_fr ..)
  try clear_value x3
  extract_lets +onlyGivenNames -merge -useContext x5
  have h6 : Keeps 32768 s x5 := by
    unfold x5
    exact Keeps.tr h4 (Keeps.mono rfl (setRec_fr ..))
  try clear_value x5
  extract_lets +onlyGivenNames -merge -useContext x7
  have h8 : Keeps 32768 s x7 := by
    unfold x7
    exact Keeps.tr h6 (Keeps.mono rfl (setRec_fr ..))
  try clear_value x7
  extract_lets +onlyGivenNames -merge -useContext x9
  have h10 : Keeps 32768 s x9 := by
    unfold x9
    exact Keeps.tr h8 (Keeps.mono rfl (setRec_fr ..))
  try clear_value x9
  exact Keeps.tr h10 (Keeps.mono rfl (Keeps.put_grr _ _))

theorem execRecClearToken_fr (a0) (s : State) : KeepsOut 1048584 s (execRecClearToken a0 s) := by
  unfold execRecClearToken
  refine KeepsOut.next ?_
  split
  · refine Keeps.ite ?_ ?_
    · refine Keeps.tr ?_ (runCmd_fr rfl _ _ _ (fun iz1 sz1 => ?_) _)
      · exact Keeps.refl _ _
      · extract_lets +onlyGivenNames -merge -useContext x2
        try clear_value x2
        refine checked_fr ?_ ?_
        · exact Keeps.refl _ _
        · extract_lets +onlyGivenNames -merge -useContext x3
          have h4 : Keeps 1048584 sz1 x3.2 := by
            unfold x3
            exact Keeps.mono rfl (State_draw_fr ..)
          try clear_value x3
          extract_lets +onlyGivenNames -merge -useContext x5
          try clear_value x5
          extract_lets +onlyGivenNames -merge -useContext x6
          have h7 : Keeps 1048584 sz1 x6 := by
            unfold x6
            exact h4
          try clear_value x6
          refine Keeps.pair ?_
          exact Keeps.tr h7 (Keeps.mono rfl (Keeps.put_fw _ _))
    · exact Keeps.refl _ _
  · exact Keeps.refl _ _

theorem execRecClear_fr (a0) (s : State) : KeepsOut 32777 s (execRecClear a0 s) := by
  unfold execRecClear
  refine KeepsOut.next ?_
  split
  · refine Keeps.ite ?_ ?_
    · refine Keeps.tr ?_ (runCmd_fr rfl _ _ _ (fun iz1 sz1 => ?_) _)
      · exact Keeps.refl _ _
      · extract_lets +onlyGivenNames -merge -useContext x2
        try clear_value x2
        extract_lets +onlyGivenNames -merge -useContext x3
        try clear_value x3
        refine checked_fr ?_ ?_
        · exact Keeps.refl _ _
        · extract_lets +onlyGivenNames -merge -useContext x4
          try clear_value x4
          extract_lets +onlyGivenNames -merge -useContext y5 x6
          have h7 : Keeps 32777 sz1 x6 := by
            unfold x6
            exact Keeps.mono rfl (Keeps.put_fw _ _)
          try clear_value x6
          refine Keeps.ite2 ?_ ?_
          · refine Keeps.pair ?_
            refine Keeps.tr ?_ (Keeps.mono rfl (healthCount_fr ..))
            refine Keeps.tr ?_ (Keeps.mono rfl (clearEntry_fr ..))
            exact Keeps.tr h7 (Keeps.mono rfl (clearScope_fr ..))
          · refine Keeps.pair ?_
            exact h7
    · exact Keeps.refl _ _
  · exact Keeps.refl _ _

theorem execClearTokenExpiry_fr (s : State) : KeepsOut 524296 s (execClearTokenExpiry s) := by
  unfold execClearTokenExpiry
  refine KeepsOut.next ?_
  split
  · beta_reduce
    refine Keeps.tr ?_ (Keeps.mono rfl (Keeps.put_fw _ _))
    exact Keeps.mono rfl (State_advTo_fr ..)
  · exact Keeps.refl _ _

theorem execRecRead_fr (a0) (s : State) : KeepsOut 8 s (execRecRead a0 s) := by
  unfold execRecRead
  refine KeepsOut.next ?_
  refine Keeps.tr ?_ (runCmd_fr rfl _ _ _ (fun iz1 sz1 => ?_) _)
  · exact Keeps.refl _ _
  · extract_lets +onlyGivenNames -merge -useContext x2
    try clear_value x2
    extract_lets +onlyGivenNames -merge -useContext x3
    try clear_value x3
    extract_lets +onlyGivenNames -merge -useContext x4
    try clear_value x4
    extract_lets +onlyGivenNames -merge -useContext x5
    try clear_value x5
    extract_lets +onlyGivenNames -merge -useContext x6
    try clear_value x6
    refine checked_fr ?_ ?_
    · exact Keeps.refl _ _
    · refine Keeps.pair ?_
      exact Keeps.refl _ _

theorem execRecConfig_fr (a0) (s : State) : KeepsOut 9 s (execRecConfig a0 s) := by
  unfold execRecConfig
  refine KeepsOut.next ?_
  refine Keeps.tr ?_ (runCmd_fr rfl _ _ _ (fun iz1 sz1 => ?_) _)
  · exact Keeps.refl _ _
  · extract_lets +onlyGivenNames -merge -useContext x2
    try clear_value x2
    extract_lets +onlyGivenNames -merge -useContext x3
    try clear_value x3
    refine checked_fr ?_ ?_
    · exact Keeps.refl _ _
    · refine Keeps.ite2 ?_ ?_
      · refine Keeps.pair ?_
        exact Keeps.refl _ _
      · refine Keeps.ite2 ?_ ?_
        · refine Keeps.pair ?_
          exact Keeps.refl _ _
        · refine checked_fr ?_ ?_
          · exact Keeps.refl _ _
          · refine Keeps.pair ?_
            exact Keeps.mono rfl (chcfgWrite_fr ..)

theorem execRecHealth_fr (a0) (s : State) : KeepsOut 8 s (execRecHealth a0 s) := by
  unfold execRecHealth
  refine KeepsOut.next ?_
  refine Keeps.tr ?_ (runCmd_fr rfl _ _ _ (fun iz1 sz1 => ?_) _)
  · exact Keeps.refl _ _
  · extract_lets +onlyGivenNames -merge -useContext x2
    try clear_value x2
    refine checked_fr ?_ ?_
    · exact Keeps.refl _ _
    · refine Keeps.pair ?_
      exact Keeps.refl _ _

end Sys2Proof.Machine
end

