-- ==== Sys2Proof/Laws/FrameHeartwood.lean ====
section
/-! SUPPORT. Sys2Proof/Laws/FrameHeartwood.lean: for each operation of Machine/Heartwood.lean, what it leaves (Laws/Frame.lean). -/

namespace Sys2Proof.Machine

open Sys2Proof

theorem setFrame_fr (a0) (a1) (s : State) : Keeps 8192 s (setFrame a0 a1 s) := by
  unfold setFrame
  exact Keeps.mono rfl (Keeps.put_heart _ _)

theorem journalAdd_fr (a0) (a1) (a2) (a3) (a4) (s : State) : Keeps 8193 s (journalAdd a0 a1 a2 a3 a4 s) := by
  unfold journalAdd
  extract_lets +onlyGivenNames -merge -useContext x1
  try clear_value x1
  extract_lets +onlyGivenNames -merge -useContext y2 x3
  have h4 : Keeps 8193 s x3 := by
    unfold x3
    exact Keeps.mono rfl (Keeps.put_heart _ _)
  try clear_value x3
  exact Keeps.tr h4 (Keeps.mono rfl (State_setReg_fr ..))

theorem showSel_fr (a0) (s : State) : Keeps 1 s (showSel a0 s) := by
  unfold showSel
  split
  · refine Keeps.tr ?_ (Keeps.mono rfl (State_setB_fr ..))
    exact Keeps.mono rfl (State_setB_fr ..)
  · refine Keeps.tr ?_ (Keeps.mono rfl (State_setB_fr ..))
    exact Keeps.mono rfl (State_setB_fr ..)

theorem showSuspect_fr (s : State) : Keeps 1 s (showSuspect s) := by
  unfold showSuspect
  exact Keeps.mono rfl (State_setB_fr ..)

theorem recordCrc_fr (a0) (a1) (a2) (s : State) : Keeps 1048576 s (recordCrc a0 a1 a2 s).2 := by
  unfold recordCrc
  extract_lets +onlyGivenNames -merge -useContext x1
  try clear_value x1
  split
  · refine Keeps.pair ?_
    exact Keeps.refl _ _
  · refine Keeps.pair ?_
    exact Keeps.refl _ _
  · refine Keeps.pair ?_
    exact Keeps.refl _ _
  · refine Keeps.pair ?_
    exact Keeps.refl _ _
  · extract_lets +onlyGivenNames -merge -useContext x2
    have h3 : Keeps 1048576 s x2.2 := by
      unfold x2
      exact Keeps.mono rfl (State_draw_fr ..)
    try clear_value x2
    refine Keeps.pair ?_
    exact h3
  · extract_lets +onlyGivenNames -merge -useContext x4
    have h5 : Keeps 1048576 s x4.2 := by
      unfold x4
      exact Keeps.mono rfl (State_draw_fr ..)
    try clear_value x4
    extract_lets +onlyGivenNames -merge -useContext x6
    have h7 : Keeps 1048576 s x6.2 := by
      unfold x6
      exact Keeps.tr h5 (Keeps.mono rfl (State_draw_fr ..))
    try clear_value x6
    refine Keeps.pair ?_
    exact h7

theorem writeRecord_fr (a0) (a1) (a2) (a3) (a4) (s : State) : Keeps 1056769 s (writeRecord a0 a1 a2 a3 a4 s).2 := by
  unfold writeRecord
  extract_lets +onlyGivenNames -merge -useContext x1
  try clear_value x1
  extract_lets +onlyGivenNames -merge -useContext x2
  try clear_value x2
  extract_lets +onlyGivenNames -merge -useContext x3
  have h4 : Keeps 1056769 s x3.2 := by
    unfold x3
    exact Keeps.mono rfl (recordCrc_fr ..)
  try clear_value x3
  extract_lets +onlyGivenNames -merge -useContext x5
  have h6 : Keeps 1056769 s x5 := by
    unfold x5
    exact h4
  try clear_value x5
  extract_lets +onlyGivenNames -merge -useContext x7
  try clear_value x7
  extract_lets +onlyGivenNames -merge -useContext x8
  try clear_value x8
  refine Keeps.ite2 ?_ ?_
  · refine Keeps.pair ?_
    refine Keeps.ite ?_ ?_
    · exact Keeps.tr h6 (Keeps.mono rfl (State_setB_fr ..))
    · exact h6
  · extract_lets +onlyGivenNames -merge -useContext x9
    have h10 : Keeps 1056769 s x9 := by
      unfold x9
      exact Keeps.tr h6 (Keeps.mono rfl (journalAdd_fr ..))
    try clear_value x9
    extract_lets +onlyGivenNames -merge -useContext y11 x12
    have h13 : Keeps 1056769 s x12 := by
      unfold x12
      exact Keeps.tr h10 (Keeps.mono rfl (setFrame_fr ..))
    try clear_value x12
    split
    · refine Keeps.pair ?_
      exact Keeps.tr h13 (Keeps.mono rfl (Keeps.put_heart _ _))
    · refine Keeps.pair ?_
      refine Keeps.tr ?_ (Keeps.mono rfl (showSel_fr ..))
      refine Keeps.tr ?_ (Keeps.mono rfl (setFrame_fr ..))
      exact Keeps.tr h13 (Keeps.mono rfl (Keeps.put_heart _ _))
    · refine Keeps.pair ?_
      refine Keeps.tr ?_ (Keeps.mono rfl (showSuspect_fr ..))
      refine Keeps.tr ?_ (Keeps.mono rfl (showSel_fr ..))
      refine Keeps.tr ?_ (Keeps.mono rfl (journalAdd_fr ..))
      exact Keeps.tr h13 (Keeps.mono rfl (setFrame_fr ..))
    · refine Keeps.pair ?_
      refine Keeps.tr ?_ (Keeps.mono rfl (showSel_fr ..))
      refine Keeps.tr ?_ (Keeps.mono rfl (journalAdd_fr ..))
      exact Keeps.tr h13 (Keeps.mono rfl (State_setB_fr ..))

theorem recoverJournal_fr (a0) (s : State) : Keeps 8193 s (recoverJournal a0 s) := by
  unfold recoverJournal
  extract_lets +onlyGivenNames -merge -useContext x1
  have h2 : Keeps 8193 s x1 := by
    unfold x1
    refine Keeps.ite ?_ ?_
    · exact Keeps.mono rfl (State_setF_fr ..)
    · exact Keeps.refl _ _
  try clear_value x1
  refine Keeps.tr ?_ (forEach_fr _ _ (fun iz3 sz3 => ?_) _)
  · exact Keeps.tr h2 (Keeps.mono rfl (Keeps.put_heart _ _))
  · extract_lets +onlyGivenNames -merge -useContext x4
    try clear_value x4
    refine Keeps.ite ?_ ?_
    · extract_lets +onlyGivenNames -merge -useContext x5
      have h6 : Keeps 8193 sz3 x5 := by
        unfold x5
        exact Keeps.mono rfl (journalAdd_fr ..)
      try clear_value x5
      refine Keeps.ite ?_ ?_
      · exact Keeps.tr h6 (Keeps.mono rfl (State_bump_fr ..))
      · exact h6
    · extract_lets +onlyGivenNames -merge -useContext x7
      have h8 : Keeps 8193 sz3 x7 := by
        unfold x7
        exact Keeps.mono rfl (setFrame_fr ..)
      try clear_value x7
      extract_lets +onlyGivenNames -merge -useContext x9
      have h10 : Keeps 8193 sz3 x9 := by
        unfold x9
        exact Keeps.tr h8 (Keeps.mono rfl (journalAdd_fr ..))
      try clear_value x9
      refine Keeps.ite ?_ ?_
      · exact Keeps.tr h10 (Keeps.mono rfl (State_bump_fr ..))
      · exact h10

theorem chooseRecords_fr (s : State) : Keeps 40961 s (chooseRecords s) := by
  unfold chooseRecords
  refine Keeps.tr ?_ (forRange_fr _ _ (fun iz1 sz1 => ?_) _)
  · exact Keeps.refl _ _
  · extract_lets +onlyGivenNames -merge -useContext x2
    have h3 : Keeps 40961 sz1 x2 := by
      unfold x2
      exact Keeps.mono rfl (showSel_fr ..)
    try clear_value x2
    refine Keeps.ite ?_ ?_
    · extract_lets +onlyGivenNames -merge -useContext x4
      try clear_value x4
      refine Keeps.tr ?_ (Keeps.mono rfl (healthCount_fr ..))
      refine Keeps.tr ?_ (Keeps.mono rfl (State_setB_fr ..))
      exact Keeps.tr h3 (Keeps.mono rfl (setFrame_fr ..))
    · exact h3

theorem rollBackStopped_fr (s : State) : Keeps 8201 s (rollBackStopped s) := by
  unfold rollBackStopped
  split
  · exact Keeps.refl _ _
  · extract_lets +onlyGivenNames -merge -useContext x1
    have h2 : Keeps 8201 s x1 := by
      unfold x1
      exact Keeps.mono rfl (recoverJournal_fr ..)
    try clear_value x1
    extract_lets +onlyGivenNames -merge -useContext x3
    have h4 : Keeps 8201 s x3 := by
      unfold x3
      exact Keeps.tr h2 (Keeps.mono rfl (showSel_fr ..))
    try clear_value x3
    split
    · exact Keeps.tr h4 (Keeps.mono rfl (finishCmd_fr ..))
    · exact h4

theorem execHeartwoodScrub_fr (a0) (a1) (a2) (a3) (s : State) : KeepsOut 532481 s (execHeartwoodScrub a0 a1 a2 a3 s) := by
  unfold execHeartwoodScrub
  refine KeepsOut.next ?_
  refine Keeps.ite ?_ ?_
  · exact Keeps.refl _ _
  · extract_lets +onlyGivenNames -merge -useContext x1
    have h2 : Keeps 532481 s x1 := by
      unfold x1
      exact Keeps.mono rfl (State_advTo_fr ..)
    try clear_value x1
    extract_lets +onlyGivenNames -merge -useContext y3 x4
    have h5 : Keeps 532481 s x4 := by
      unfold x4
      exact Keeps.tr h2 (Keeps.mono rfl (Keeps.put_heart _ _))
    try clear_value x4
    extract_lets +onlyGivenNames -merge -useContext x6
    have h7 : Keeps 532481 s x6 := by
      unfold x6
      exact Keeps.tr h5 (Keeps.mono rfl (State_setF_fr ..))
    try clear_value x6
    extract_lets +onlyGivenNames -merge -useContext x8
    have h9 : Keeps 532481 s x8 := by
      unfold x8
      exact Keeps.tr h7 (Keeps.mono rfl (State_setF_fr ..))
    try clear_value x8
    extract_lets +onlyGivenNames -merge -useContext x10
    have h11 : Keeps 532481 s x10 := by
      unfold x10
      exact Keeps.tr h9 (Keeps.mono rfl (State_setF_fr ..))
    try clear_value x10
    extract_lets +onlyGivenNames -merge -useContext x12
    have h13 : Keeps 532481 s x12 := by
      unfold x12
      exact Keeps.tr h11 (Keeps.mono rfl (State_setF_fr ..))
    try clear_value x12
    refine Keeps.ite ?_ ?_
    · exact h13
    · exact Keeps.tr h13 (Keeps.mono rfl (State_setB_fr ..))

theorem counterWrite_fr (a0) (a1) (s : State) : Keeps 8192 s (counterWrite a0 a1 s) := by
  unfold counterWrite
  extract_lets +onlyGivenNames -merge -useContext x1
  try clear_value x1
  exact Keeps.mono rfl (Keeps.put_heart _ _)

theorem slotWriteBy_fr (a0) (a1) (a2) (s : State) : Keeps 8193 s (slotWriteBy a0 a1 a2 s) := by
  unfold slotWriteBy
  split
  · exact Keeps.mono rfl (counterWrite_fr ..)
  · exact Keeps.mono rfl (State_setB_fr ..)
  · extract_lets +onlyGivenNames -merge -useContext x1
    have h2 : Keeps 8193 s x1 := by
      unfold x1
      refine Keeps.ite ?_ ?_
      · exact Keeps.mono rfl (State_setB_fr ..)
      · exact Keeps.refl _ _
    try clear_value x1
    exact Keeps.tr h2 (Keeps.mono rfl (Keeps.put_heart _ _))

theorem flushOne_fr (a0) (s : State) : Keeps 8193 s (flushOne a0 s) := by
  unfold flushOne
  split
  · exact Keeps.refl _ _
  · refine Keeps.tr ?_ (Keeps.mono rfl (slotWriteBy_fr ..))
    exact Keeps.mono rfl (Keeps.put_heart _ _)

theorem flushCounters_fr (s : State) : Keeps 8193 s (flushCounters s) := by
  unfold flushCounters
  refine Keeps.tr ?_ (forRange_fr _ _ (fun iz1 sz1 => ?_) _)
  · exact Keeps.refl _ _
  · exact Keeps.mono rfl (flushOne_fr ..)

theorem execCounterSlotWrite_fr (s : State) : KeepsOut 1056769 s (execCounterSlotWrite s) := by
  unfold execCounterSlotWrite
  refine KeepsOut.next ?_
  refine Keeps.ite ?_ ?_
  · refine Keeps.tr ?_ (Keeps.mono rfl (flushOne_fr ..))
    exact Keeps.mono rfl (State_draw_fr ..)
  · exact Keeps.refl _ _

theorem setMark_fr (a0) (a1) (s : State) : Keeps 8192 s (setMark a0 a1 s) := by
  unfold setMark
  exact Keeps.mono rfl (Keeps.put_heart _ _)

theorem countSource_fr (a0) (s : State) : Keeps 8192 s (countSource a0 s) := by
  unfold countSource
  extract_lets +onlyGivenNames -merge -useContext x1
  try clear_value x1
  refine Keeps.ite ?_ ?_
  · exact Keeps.mono rfl (Keeps.put_heart _ _)
  · exact Keeps.mono rfl (Keeps.put_heart _ _)

theorem execCounterEvent_fr (a0) (s : State) : KeepsOut 532480 s (execCounterEvent a0 s) := by
  unfold execCounterEvent
  refine KeepsOut.next ?_
  refine Keeps.ite ?_ ?_
  · exact Keeps.refl _ _
  · extract_lets +onlyGivenNames -merge -useContext x1
    try clear_value x1
    extract_lets +onlyGivenNames -merge -useContext x2
    try clear_value x2
    refine Keeps.ite ?_ ?_
    · extract_lets +onlyGivenNames -merge -useContext x3
      try clear_value x3
      refine Keeps.ite ?_ ?_
      · refine Keeps.tr ?_ (Keeps.mono rfl (countSource_fr ..))
        exact Keeps.mono rfl (setMark_fr ..)
      · refine Keeps.ite ?_ ?_
        · exact Keeps.mono rfl (countSource_fr ..)
        · exact Keeps.mono rfl (setMark_fr ..)
    · extract_lets +onlyGivenNames -merge -useContext x4
      try clear_value x4
      extract_lets +onlyGivenNames -merge -useContext x5
      try clear_value x5
      refine Keeps.tr ?_ (Keeps.mono rfl (countSource_fr ..))
      refine Keeps.tr ?_ (Keeps.mono rfl (setMark_fr ..))
      exact Keeps.mono rfl (State_advTo_fr ..)

theorem saveSections_fr (a0) (s : State) : Keeps 1089537 s (saveSections a0 s).2 := by
  unfold saveSections
  extract_lets +onlyGivenNames -merge -useContext x1
  try clear_value x1
  extract_lets +onlyGivenNames -merge -useContext y2 x3
  have h4 : Keeps 1089537 s x3 := by
    unfold x3
    exact Keeps.mono rfl (Keeps.put_heart _ _)
  try clear_value x3
  extract_lets +onlyGivenNames -merge -useContext x5
  have h6 : Keeps 1089537 s x5.2 := by
    unfold x5
    exact Keeps.tr h4 (Keeps.mono rfl (writeRecord_fr ..))
  try clear_value x5
  refine Keeps.ite2 ?_ ?_
  · refine Keeps.pair ?_
    exact h6
  · extract_lets +onlyGivenNames -merge -useContext x7
    have h8 : Keeps 1089537 s x7.2 := by
      unfold x7
      refine Keeps.pair ?_
      refine Keeps.ite ?_ ?_
      · exact Keeps.tr h6 (Keeps.mono rfl (State_setB_fr ..))
      · exact h6
    try clear_value x7
    extract_lets +onlyGivenNames -merge -useContext x9
    have h10 : Keeps 1089537 s x9.2 := by
      unfold x9
      exact Keeps.tr h8 (Keeps.mono rfl (writeRecord_fr ..))
    try clear_value x9
    refine Keeps.ite2 ?_ ?_
    · refine Keeps.pair ?_
      exact h10
    · extract_lets +onlyGivenNames -merge -useContext x11
      have h12 : Keeps 1089537 s x11 := by
        unfold x11
        refine Keeps.ite ?_ ?_
        · exact Keeps.tr h10 (Keeps.mono rfl (flushCounters_fr ..))
        · exact h10
      try clear_value x11
      refine Keeps.ite2 ?_ ?_
      · refine Keeps.pair ?_
        exact h12
      · extract_lets +onlyGivenNames -merge -useContext x13
        have h14 : Keeps 1089537 s x13.2 := by
          unfold x13
          exact Keeps.tr h12 (Keeps.mono rfl (writeRecord_fr ..))
        try clear_value x13
        refine Keeps.ite2 ?_ ?_
        · refine Keeps.pair ?_
          exact h14
        · extract_lets +onlyGivenNames -merge -useContext x15
          have h16 : Keeps 1089537 s x15 := by
            unfold x15
            refine Keeps.ite ?_ ?_
            · exact h14
            · exact Keeps.tr h14 (Keeps.mono rfl (healthCount_fr ..))
          try clear_value x15
          refine Keeps.pair ?_
          exact h16

theorem showDuration_fr (s : State) : Keeps 1048577 s (showDuration s) := by
  unfold showDuration
  extract_lets +onlyGivenNames -merge -useContext x1
  have h2 : Keeps 1048577 s x1.2 := by
    unfold x1
    exact Keeps.mono rfl (State_draw_fr ..)
  try clear_value x1
  exact Keeps.tr h2 (Keeps.mono rfl (State_setF_fr ..))

theorem execPeriodicSave_fr (a0) (s : State) : KeepsOut 1613825 s (execPeriodicSave a0 s) := by
  unfold execPeriodicSave
  refine KeepsOut.next ?_
  refine Keeps.ite ?_ ?_
  · exact Keeps.refl _ _
  · extract_lets +onlyGivenNames -merge -useContext x1
    have h2 : Keeps 1613825 s x1 := by
      unfold x1
      exact Keeps.mono rfl (State_advTo_fr ..)
    try clear_value x1
    extract_lets +onlyGivenNames -merge -useContext y3 x4
    have h5 : Keeps 1613825 s x4 := by
      unfold x4
      exact Keeps.tr h2 (Keeps.mono rfl (Keeps.put_heart _ _))
    try clear_value x4
    extract_lets +onlyGivenNames -merge -useContext x6
    have h7 : Keeps 1613825 s x6.2 := by
      unfold x6
      exact Keeps.tr h5 (Keeps.mono rfl (saveSections_fr ..))
    try clear_value x6
    split
    · exact h7
    · refine Keeps.ite ?_ ?_
      · refine Keeps.ite ?_ ?_
        · exact h7
        · extract_lets +onlyGivenNames -merge -useContext x8
          have h9 : Keeps 1613825 s x8 := by
            unfold x8
            exact h7
          try clear_value x8
          exact Keeps.tr h9 (Keeps.mono rfl (Keeps.put_grr _ _))
      · exact Keeps.tr h7 (Keeps.mono rfl (showDuration_fr ..))

theorem saveParams_fr (a0) (s : State) : Keeps 1056769 s (saveParams a0 s) := by
  unfold saveParams
  refine Keeps.tr ?_ (Keeps.mono rfl (writeRecord_fr ..))
  exact Keeps.mono rfl (Keeps.put_heart _ _)

theorem execParametersSave_fr (a0) (s : State) : KeepsOut 1581057 s (execParametersSave a0 s) := by
  unfold execParametersSave
  refine KeepsOut.next ?_
  refine Keeps.ite ?_ ?_
  · exact Keeps.refl _ _
  · refine Keeps.tr ?_ (Keeps.mono rfl (saveParams_fr ..))
    exact Keeps.mono rfl (State_advTo_fr ..)

theorem execModelSave_fr (a0) (s : State) : KeepsOut 1581057 s (execModelSave a0 s) := by
  unfold execModelSave
  refine KeepsOut.next ?_
  refine Keeps.ite ?_ ?_
  · exact Keeps.refl _ _
  · refine Keeps.tr ?_ (Keeps.mono rfl (saveParams_fr ..))
    exact Keeps.mono rfl (State_advTo_fr ..)

theorem bramWritten_fr (s : State) : Keeps 1048577 s (bramWritten s) := by
  unfold bramWritten
  refine Keeps.tr ?_ (forRange_fr _ _ (fun iz1 sz1 => ?_) _)
  · exact Keeps.refl _ _
  · extract_lets +onlyGivenNames -merge -useContext x2
    have h3 : Keeps 1048577 sz1 x2.2 := by
      unfold x2
      exact Keeps.mono rfl (State_draw_fr ..)
    try clear_value x2
    exact Keeps.tr h3 (Keeps.mono rfl (State_setReg_fr ..))

theorem setFails_fr (a0) (a1) (a2) (s : State) : Keeps 1056769 s (setFails a0 a1 a2 s) := by
  unfold setFails
  refine Keeps.tr ?_ (Keeps.mono rfl (bramWritten_fr ..))
  exact Keeps.mono rfl (Keeps.put_heart _ _)

theorem checkPassword_fr (a0) (a1) (a2) (s : State) : Keeps 1056769 s (checkPassword a0 a1 a2 s).2 := by
  unfold checkPassword
  extract_lets +onlyGivenNames -merge -useContext x1
  try clear_value x1
  refine Keeps.ite2 ?_ ?_
  · refine Keeps.pair ?_
    exact Keeps.refl _ _
  · refine Keeps.ite2 ?_ ?_
    · refine Keeps.pair ?_
      exact Keeps.refl _ _
    · refine Keeps.ite2 ?_ ?_
      · refine Keeps.pair ?_
        refine Keeps.ite ?_ ?_
        · exact Keeps.refl _ _
        · exact Keeps.mono rfl (setFails_fr ..)
      · extract_lets +onlyGivenNames -merge -useContext x2
        try clear_value x2
        refine Keeps.pair ?_
        exact Keeps.mono rfl (setFails_fr ..)

theorem execLockoutEnd_fr (a0) (s : State) : KeepsOut 532480 s (execLockoutEnd a0 s) := by
  unfold execLockoutEnd
  refine KeepsOut.next ?_
  split
  · beta_reduce
    refine Keeps.tr ?_ (Keeps.mono rfl (Keeps.put_heart _ _))
    exact Keeps.mono rfl (State_advTo_fr ..)
  · exact Keeps.refl _ _

theorem initPasswords_fr (s : State) : Keeps 1056769 s (initPasswords s) := by
  unfold initPasswords
  refine Keeps.ite ?_ ?_
  · extract_lets +onlyGivenNames -merge -useContext y1 x2
    have h3 : Keeps 1056769 s x2 := by
      unfold x2
      exact Keeps.mono rfl (Keeps.put_heart _ _)
    try clear_value x2
    refine Keeps.tr ?_ (forRange_fr _ _ (fun iz4 sz4 => ?_) _)
    · exact h3
    · refine Keeps.ite ?_ ?_
      · exact Keeps.refl _ _
      · exact Keeps.mono rfl (setFails_fr ..)
  · exact Keeps.refl _ _

theorem hwdSaveWrite_fr (a0) (s : State) : Keeps 1 s (hwdSaveWrite a0 s) := by
  unfold hwdSaveWrite
  refine Keeps.ite ?_ ?_
  · exact Keeps.mono rfl (plainWrite_fr ..)
  · exact Keeps.mono rfl (State_setB_fr ..)

theorem cntcfgWrite_fr (a0) (a1) (s : State) : Keeps 8193 s (cntcfgWrite a0 a1 s) := by
  unfold cntcfgWrite
  refine Keeps.ite ?_ ?_
  · exact Keeps.mono rfl (State_setB_fr ..)
  · extract_lets +onlyGivenNames -merge -useContext x1
    have h2 : Keeps 8193 s x1 := by
      unfold x1
      exact Keeps.mono rfl (plainWrite_fr ..)
    try clear_value x1
    exact Keeps.tr h2 (Keeps.mono rfl (setMark_fr ..))

theorem execStoreRead_fr (a0) (a1) (s : State) : KeepsOut 1056777 s (execStoreRead a0 a1 s) := by
  unfold execStoreRead
  refine KeepsOut.next ?_
  refine Keeps.tr ?_ (runCmd_fr rfl _ _ _ (fun iz1 sz1 => ?_) _)
  · exact Keeps.refl _ _
  · extract_lets +onlyGivenNames -merge -useContext x2
    try clear_value x2
    extract_lets +onlyGivenNames -merge -useContext x3
    try clear_value x3
    split
    · refine Keeps.pair ?_
      exact Keeps.refl _ _
    · refine checked_fr ?_ ?_
      · exact Keeps.refl _ _
      · refine Keeps.ite2 ?_ ?_
        · refine Keeps.pair ?_
          exact Keeps.refl _ _
        · refine Keeps.ite2 ?_ ?_
          · refine Keeps.pair ?_
            refine Keeps.tr ?_ (Keeps.mono rfl (State_bump_fr ..))
            exact Keeps.mono rfl (State_setB_fr ..)
          · extract_lets +onlyGivenNames -merge -useContext x4
            try clear_value x4
            refine Keeps.pair ?_
            exact Keeps.refl _ _
    · refine checked_fr ?_ ?_
      · exact Keeps.refl _ _
      · refine Keeps.ite2 ?_ ?_
        · refine Keeps.pair ?_
          exact Keeps.refl _ _
        · extract_lets +onlyGivenNames -merge -useContext x5
          have h6 : Keeps 1056777 sz1 x5.2 := by
            unfold x5
            exact Keeps.mono rfl (checkPassword_fr ..)
          try clear_value x5
          refine Keeps.ite2 ?_ ?_
          · refine Keeps.pair ?_
            exact h6
          · refine Keeps.pair ?_
            exact h6

theorem execStoreWrite_fr (a0) (s : State) : KeepsOut 1056777 s (execStoreWrite a0 s) := by
  unfold execStoreWrite
  refine KeepsOut.next ?_
  refine Keeps.tr ?_ (runCmd_fr rfl _ _ _ (fun iz1 sz1 => ?_) _)
  · exact Keeps.refl _ _
  · extract_lets +onlyGivenNames -merge -useContext x2
    try clear_value x2
    extract_lets +onlyGivenNames -merge -useContext x3
    try clear_value x3
    extract_lets +onlyGivenNames -merge -useContext x4
    try clear_value x4
    split
    · refine Keeps.pair ?_
      exact Keeps.refl _ _
    · refine checked_fr ?_ ?_
      · exact Keeps.refl _ _
      · refine Keeps.ite2 ?_ ?_
        · refine Keeps.pair ?_
          exact Keeps.refl _ _
        · extract_lets +onlyGivenNames -merge -useContext x5
          have h6 : Keeps 1056777 sz1 x5 := by
            unfold x5
            exact Keeps.mono rfl (slotWriteBy_fr ..)
          try clear_value x5
          split
          · refine Keeps.pair ?_
            exact h6
          · refine Keeps.pair ?_
            exact h6
          · refine Keeps.pair ?_
            exact h6
          · refine Keeps.pair ?_
            exact h6
    · refine checked_fr ?_ ?_
      · exact Keeps.refl _ _
      · refine Keeps.ite2 ?_ ?_
        · refine Keeps.pair ?_
          exact Keeps.refl _ _
        · extract_lets +onlyGivenNames -merge -useContext x7
          have h8 : Keeps 1056777 sz1 x7.2 := by
            unfold x7
            exact Keeps.mono rfl (checkPassword_fr ..)
          try clear_value x7
          refine Keeps.ite2 ?_ ?_
          · refine Keeps.pair ?_
            refine Keeps.tr ?_ (forRange_fr _ _ (fun iz9 sz9 => ?_) _)
            · exact h8
            · exact Keeps.mono rfl (Keeps.put_heart _ _)
          · refine Keeps.pair ?_
            exact h8

theorem execStoreCommit_fr (a0) (a1) (s : State) : KeepsOut 1056777 s (execStoreCommit a0 a1 s) := by
  unfold execStoreCommit
  refine KeepsOut.next ?_
  refine Keeps.ite ?_ ?_
  · exact Keeps.refl _ _
  · refine Keeps.tr ?_ (runCmd_fr rfl _ _ _ (fun iz1 sz1 => ?_) _)
    · exact Keeps.refl _ _
    · split
      · refine Keeps.pair ?_
        exact Keeps.refl _ _
      · refine Keeps.pair ?_
        exact Keeps.refl _ _
      · refine checked_fr ?_ ?_
        · exact Keeps.refl _ _
        · refine Keeps.ite2 ?_ ?_
          · refine Keeps.pair ?_
            exact Keeps.refl _ _
          · extract_lets +onlyGivenNames -merge -useContext x2
            have h3 : Keeps 1056777 sz1 x2.2 := by
              unfold x2
              exact Keeps.mono rfl (checkPassword_fr ..)
            try clear_value x2
            refine Keeps.ite2 ?_ ?_
            · refine Keeps.pair ?_
              exact h3
            · extract_lets +onlyGivenNames -merge -useContext x4
              have h5 : Keeps 1056777 sz1 x4.2 := by
                unfold x4
                exact Keeps.tr h3 (Keeps.mono rfl (writeRecord_fr ..))
              try clear_value x4
              split
              · refine Keeps.pair ?_
                exact h5
              · refine Keeps.pair ?_
                exact h5
              · refine Keeps.pair ?_
                exact h5

theorem execStorePassword_fr (a0) (a1) (s : State) : KeepsOut 1056777 s (execStorePassword a0 a1 s) := by
  unfold execStorePassword
  refine KeepsOut.next ?_
  refine Keeps.ite ?_ ?_
  · exact Keeps.refl _ _
  · refine Keeps.tr ?_ (runCmd_fr rfl _ _ _ (fun iz1 sz1 => ?_) _)
    · exact Keeps.refl _ _
    · extract_lets +onlyGivenNames -merge -useContext x2
      try clear_value x2
      extract_lets +onlyGivenNames -merge -useContext x3
      try clear_value x3
      refine checked_fr ?_ ?_
      · exact Keeps.refl _ _
      · extract_lets +onlyGivenNames -merge -useContext x4
        try clear_value x4
        extract_lets +onlyGivenNames -merge -useContext x5
        have h6 : Keeps 1056777 sz1 x5.2 := by
          unfold x5
          exact Keeps.mono rfl (writeRecord_fr ..)
        try clear_value x5
        split
        · refine Keeps.pair ?_
          refine Keeps.tr ?_ (Keeps.mono rfl (setFails_fr ..))
          exact Keeps.tr h6 (Keeps.mono rfl (State_setB_fr ..))
        · refine Keeps.pair ?_
          exact h6
        · refine Keeps.pair ?_
          exact h6

theorem execStoreStatus_fr (a0) (s : State) : KeepsOut 8 s (execStoreStatus a0 s) := by
  unfold execStoreStatus
  refine KeepsOut.next ?_
  refine Keeps.tr ?_ (runCmd_fr rfl _ _ _ (fun iz1 sz1 => ?_) _)
  · exact Keeps.refl _ _
  · extract_lets +onlyGivenNames -merge -useContext x2
    try clear_value x2
    refine checked_fr ?_ ?_
    · exact Keeps.refl _ _
    · refine Keeps.pair ?_
      exact Keeps.refl _ _

end Sys2Proof.Machine
end

