-- ==== Sys2Proof/Laws/FrameTrend.lean ====
section
/-! SUPPORT. Sys2Proof/Laws/FrameTrend.lean: for each operation of Machine/Trend.lean, what it leaves (Laws/Frame.lean). -/

namespace Sys2Proof.Machine

open Sys2Proof

theorem trendRecord_fr (a0) (s : State) : Keeps 16384 s (trendRecord a0 s) := by
  unfold trendRecord
  split
  · exact Keeps.refl _ _
  · split
    · exact Keeps.refl _ _
    · extract_lets +onlyGivenNames -merge -useContext x1
      try clear_value x1
      extract_lets +onlyGivenNames -merge -useContext x2
      try clear_value x2
      refine Keeps.ite ?_ ?_
      · exact Keeps.refl _ _
      · refine Keeps.ite ?_ ?_
        · exact Keeps.mono rfl (Keeps.put_trend _ _)
        · extract_lets +onlyGivenNames -merge -useContext x3
          try clear_value x3
          extract_lets +onlyGivenNames -merge -useContext x4
          try clear_value x4
          exact Keeps.mono rfl (Keeps.put_trend _ _)

theorem execTrendRecord_fr (a0) (s : State) : KeepsOut 16457 s (execTrendRecord a0 s) := by
  unfold execTrendRecord
  refine KeepsOut.next ?_
  refine Keeps.ite ?_ ?_
  · refine Keeps.tr ?_ (Keeps.mono rfl (trendRecord_fr ..))
    exact Keeps.mono rfl (crownDrain_fr ..)
  · exact Keeps.refl _ _

theorem discard_fr (a0) (s : State) : Keeps 16384 s (discard a0 s) := by
  unfold discard
  refine Keeps.tr ?_ (forEach_fr _ _ (fun iz1 sz1 => ?_) _)
  · exact Keeps.refl _ _
  · extract_lets +onlyGivenNames -merge -useContext x2
    try clear_value x2
    extract_lets +onlyGivenNames -merge -useContext x3
    try clear_value x3
    extract_lets +onlyGivenNames -merge -useContext x4
    try clear_value x4
    extract_lets +onlyGivenNames -merge -useContext x5
    have h6 : Keeps 16384 sz1 x5 := by
      unfold x5
      exact Keeps.mono rfl (Keeps.put_trend _ _)
    try clear_value x5
    extract_lets +onlyGivenNames -merge -useContext x7
    try clear_value x7
    extract_lets +onlyGivenNames -merge -useContext x8
    try clear_value x8
    exact Keeps.tr h6 (Keeps.mono rfl (Keeps.put_trend _ _))

theorem eraseAfter_fr (a0) (s : State) : Keeps 16384 s (eraseAfter a0 s) := by
  unfold eraseAfter
  extract_lets +onlyGivenNames -merge -useContext x1
  try clear_value x1
  exact Keeps.mono rfl (discard_fr ..)

theorem sectorFails_fr (a0) (s : State) : Keeps 16384 s (sectorFails a0 s) := by
  unfold sectorFails
  extract_lets +onlyGivenNames -merge -useContext x1
  try clear_value x1
  exact Keeps.mono rfl (Keeps.put_trend _ _)

theorem advanceHead_fr (a0) (s : State) : Keeps 16384 s (advanceHead a0 s) := by
  unfold advanceHead
  extract_lets +onlyGivenNames -merge -useContext x1
  try clear_value x1
  extract_lets +onlyGivenNames -merge -useContext x2
  try clear_value x2
  extract_lets +onlyGivenNames -merge -useContext x3
  try clear_value x3
  extract_lets +onlyGivenNames -merge -useContext x4
  try clear_value x4
  extract_lets +onlyGivenNames -merge -useContext x5
  have h6 : Keeps 16384 s x5 := by
    unfold x5
    exact Keeps.mono rfl (discard_fr ..)
  try clear_value x5
  extract_lets +onlyGivenNames -merge -useContext y7 x8
  have h9 : Keeps 16384 s x8 := by
    unfold x8
    exact Keeps.tr h6 (Keeps.mono rfl (Keeps.put_trend _ _))
  try clear_value x8
  extract_lets +onlyGivenNames -merge -useContext x10
  try clear_value x10
  refine Keeps.ite ?_ ?_
  · exact Keeps.tr h9 (Keeps.mono rfl (eraseAfter_fr ..))
  · refine Keeps.tr ?_ (Keeps.mono rfl (eraseAfter_fr ..))
    exact Keeps.tr h9 (Keeps.mono rfl (sectorFails_fr ..))

theorem programPage_fr (a0) (a1) (s : State) : Keeps 16384 s (programPage a0 a1 s) := by
  unfold programPage
  split
  · exact Keeps.refl _ _
  · extract_lets +onlyGivenNames -merge -useContext x1
    try clear_value x1
    refine Keeps.ite ?_ ?_
    · extract_lets +onlyGivenNames -merge -useContext x2
      try clear_value x2
      extract_lets +onlyGivenNames -merge -useContext x3
      try clear_value x3
      extract_lets +onlyGivenNames -merge -useContext x4
      have h5 : Keeps 16384 s x4 := by
        unfold x4
        exact Keeps.mono rfl (Keeps.put_trend _ _)
      try clear_value x4
      refine Keeps.ite ?_ ?_
      · exact Keeps.tr h5 (Keeps.mono rfl (advanceHead_fr ..))
      · exact h5
    · extract_lets +onlyGivenNames -merge -useContext x6
      have h7 : Keeps 16384 s x6 := by
        unfold x6
        exact Keeps.mono rfl (sectorFails_fr ..)
      try clear_value x6
      refine Keeps.ite ?_ ?_
      · exact h7
      · exact Keeps.tr h7 (Keeps.mono rfl (advanceHead_fr ..))

theorem execTrendProgram_fr (a0) (s : State) : KeepsOut 540672 s (execTrendProgram a0 s) := by
  unfold execTrendProgram
  refine KeepsOut.next ?_
  refine Keeps.ite ?_ ?_
  · exact Keeps.refl _ _
  · split
    · exact Keeps.refl _ _
    · refine Keeps.tr ?_ (Keeps.mono rfl (programPage_fr ..))
      refine Keeps.ite ?_ ?_
      · exact Keeps.mono rfl (State_advTo_fr ..)
      · exact Keeps.refl _ _

theorem openStore_fr (s : State) : Keeps 16384 s (openStore s) := by
  unfold openStore
  extract_lets +onlyGivenNames -merge -useContext y1 x2
  have h3 : Keeps 16384 s x2 := by
    unfold x2
    exact Keeps.mono rfl (Keeps.put_trend _ _)
  try clear_value x2
  refine Keeps.ite ?_ ?_
  · exact Keeps.tr h3 (Keeps.mono rfl (advanceHead_fr ..))
  · exact h3

theorem execTrendOpen_fr (s : State) : KeepsOut 16384 s (execTrendOpen s) := by
  unfold execTrendOpen
  refine KeepsOut.next ?_
  refine Keeps.ite ?_ ?_
  · exact Keeps.mono rfl (openStore_fr ..)
  · exact Keeps.refl _ _

theorem loseBuffer_fr (s : State) : Keeps 16384 s (loseBuffer s) := by
  unfold loseBuffer
  extract_lets +onlyGivenNames -merge -useContext x1
  try clear_value x1
  exact Keeps.mono rfl (Keeps.put_trend _ _)

theorem trendCmd_fr {m : Nat} {s0 s : State} {form : List (Bool × Nat)} {run : Reply × State} (h1 : Keeps m s0 s)
    (h2 : Keeps m s0 run.2) : Keeps m s0 (trendCmd s form run).2 := checked_fr h1 h2

theorem execTrendStatus_fr (a0) (s : State) : KeepsOut 8 s (execTrendStatus a0 s) := by
  unfold execTrendStatus
  refine KeepsOut.next ?_
  refine Keeps.tr ?_ (runCmd_fr rfl _ _ _ (fun iz1 sz1 => ?_) _)
  · exact Keeps.refl _ _
  · refine trendCmd_fr ?_ ?_
    · exact Keeps.refl _ _
    · extract_lets +onlyGivenNames -merge -useContext x2
      try clear_value x2
      refine Keeps.pair ?_
      exact Keeps.refl _ _

theorem execTrendSnapshot_fr (a0) (s : State) : KeepsOut 16392 s (execTrendSnapshot a0 s) := by
  unfold execTrendSnapshot
  refine KeepsOut.next ?_
  refine Keeps.tr ?_ (runCmd_fr rfl _ _ _ (fun iz1 sz1 => ?_) _)
  · exact Keeps.refl _ _
  · refine trendCmd_fr ?_ ?_
    · exact Keeps.refl _ _
    · extract_lets +onlyGivenNames -merge -useContext x2
      try clear_value x2
      extract_lets +onlyGivenNames -merge -useContext x3
      try clear_value x3
      extract_lets +onlyGivenNames -merge -useContext y4 x5
      have h6 : Keeps 16392 sz1 x5 := by
        unfold x5
        exact Keeps.mono rfl (Keeps.put_trend _ _)
      try clear_value x5
      refine Keeps.pair ?_
      exact h6

theorem trendOut_fr (a0) (a1) (s : State) : Keeps 16384 s (trendOut a0 a1 s).2 := by
  unfold trendOut
  extract_lets +onlyGivenNames -merge -useContext x1
  try clear_value x1
  extract_lets +onlyGivenNames -merge -useContext x2
  try clear_value x2
  extract_lets +onlyGivenNames -merge -useContext x3
  try clear_value x3
  extract_lets +onlyGivenNames -merge -useContext x4
  try clear_value x4
  extract_lets +onlyGivenNames -merge -useContext x5
  try clear_value x5
  extract_lets +onlyGivenNames -merge -useContext x6
  try clear_value x6
  refine Keeps.pair ?_
  exact Keeps.mono rfl (Keeps.put_trend _ _)

theorem trendReady_fr (a0) (a1) (s : State) : Keeps 16392 s (trendReady a0 a1 s) := by
  unfold trendReady
  split
  · refine Keeps.ite ?_ ?_
    · extract_lets +onlyGivenNames -merge -useContext x1
      have h2 : Keeps 16392 s x1.2 := by
        unfold x1
        exact Keeps.mono rfl (trendOut_fr ..)
      try clear_value x1
      exact Keeps.tr h2 (Keeps.mono rfl (updCmd_fr ..))
    · exact Keeps.refl _ _
  · exact Keeps.refl _ _

theorem execTrendDrain_fr (a0) (s : State) : KeepsOut 16392 s (execTrendDrain a0 s) := by
  unfold execTrendDrain
  refine KeepsOut.next ?_
  extract_lets +onlyGivenNames -merge -useContext x1
  have h2 : Keeps 16392 s x1 := by
    unfold x1
    refine Keeps.ite ?_ ?_
    · exact Keeps.mono rfl (trendReady_fr ..)
    · exact Keeps.refl _ _
  try clear_value x1
  refine Keeps.tr ?_ (runCmd_fr rfl _ _ _ (fun iz3 sz3 => ?_) _)
  · exact h2
  · extract_lets +onlyGivenNames -merge -useContext x4
    try clear_value x4
    refine trendCmd_fr ?_ ?_
    · exact Keeps.refl _ _
    · refine Keeps.pair ?_
      exact Keeps.refl _ _

theorem execTrendAdvance_fr (a0) (s : State) : KeepsOut 16392 s (execTrendAdvance a0 s) := by
  unfold execTrendAdvance
  refine KeepsOut.next ?_
  refine Keeps.tr ?_ (runCmd_fr rfl _ _ _ (fun iz1 sz1 => ?_) _)
  · exact Keeps.refl _ _
  · extract_lets +onlyGivenNames -merge -useContext x2
    try clear_value x2
    extract_lets +onlyGivenNames -merge -useContext x3
    try clear_value x3
    extract_lets +onlyGivenNames -merge -useContext x4
    try clear_value x4
    refine trendCmd_fr ?_ ?_
    · exact Keeps.refl _ _
    · refine checked_fr ?_ ?_
      · exact Keeps.refl _ _
      · refine Keeps.pair ?_
        exact Keeps.mono rfl (Keeps.put_trend _ _)

end Sys2Proof.Machine
end

