-- ==== Sys2Proof/Laws/FrameDomains.lean ====
section
/-! SUPPORT. Sys2Proof/Laws/FrameDomains.lean: for each operation of Machine/Domains.lean, what it leaves (Laws/Frame.lean). -/

namespace Sys2Proof.Machine

open Sys2Proof

theorem resetFabric_fr (a0) (s : State) : Keeps 2 s (resetFabric a0 s) := by
  unfold resetFabric
  extract_lets +onlyGivenNames -merge -useContext x1
  try clear_value x1
  extract_lets +onlyGivenNames -merge -useContext x2
  try clear_value x2
  exact Keeps.mono rfl (Keeps.put_fab _ _)

theorem resetCamb_fr (s : State) : Keeps 256 s (resetCamb s) := by
  unfold resetCamb
  exact Keeps.mono rfl (Keeps.put_camb _ _)

theorem resetRta_fr (s : State) : Keeps 112 s (resetRta s) := by
  unfold resetRta
  extract_lets +onlyGivenNames -merge -useContext x1
  try clear_value x1
  extract_lets +onlyGivenNames -merge -useContext y2 x3
  try clear_value x3
  exact Keeps.mono rfl (Keeps.put_inp_cnv_rq _ _ _ _)

theorem resetRtb_fr (s : State) : Keeps 48 s (resetRtb s) := by
  unfold resetRtb
  extract_lets +onlyGivenNames -merge -useContext y1 x2
  try clear_value x2
  exact Keeps.mono rfl (Keeps.put_inp_cnv _ _ _)

theorem resetRtp_fr (s : State) : Keeps 32 s (resetRtp s) := by
  unfold resetRtp
  exact Keeps.mono rfl (Keeps.put_cnv _ _)

theorem resetGrr_fr (s : State) : Keeps 32768 s (resetGrr s) := by
  unfold resetGrr
  exact Keeps.mono rfl (Keeps.put_grr _ _)

theorem resetBus_fr (s : State) : Keeps 18568 s (resetBus s) := by
  unfold resetBus
  extract_lets +onlyGivenNames -merge -useContext x1
  have h2 : Keeps 18568 s x1 := by
    unfold x1
    refine Keeps.tr ?_ (forRange_fr _ _ (fun iz3 sz3 => ?_) _)
    · exact Keeps.refl _ _
    · exact Keeps.mono rfl (endRun_fr ..)
  try clear_value x1
  extract_lets +onlyGivenNames -merge -useContext y4 x5
  try clear_value x5
  exact Keeps.tr h2 (Keeps.mono rfl (Keeps.put_field_bus_trend _ _ _ _))

theorem resetBrk_fr (s : State) : Keeps 1050115 s (resetBrk s) := by
  unfold resetBrk
  extract_lets +onlyGivenNames -merge -useContext y1 x2
  have h3 : Keeps 1050115 s x2 := by
    unfold x2
    refine Keeps.tr ?_ (forRange_fr _ _ (fun iz4 sz4 => ?_) _)
    · exact Keeps.refl _ _
    · extract_lets +onlyGivenNames -merge -useContext x5
      have h6 : Keeps 1050115 sz4 x5 := by
        unfold x5
        exact Keeps.mono rfl (dropRequests_fr ..)
      try clear_value x5
      exact Keeps.tr h6 (Keeps.mono rfl (setChan_fr ..))
  try clear_value x2
  extract_lets +onlyGivenNames -merge -useContext y7 x8
  have h9 : Keeps 1050115 s x8 := by
    unfold x8
    exact Keeps.tr h3 (Keeps.mono rfl (Keeps.put_drv _ _))
  try clear_value x8
  refine Keeps.tr ?_ (forRange_fr _ _ (fun iz10 sz10 => ?_) _)
  · exact h9
  · exact Keeps.mono rfl (setFan_fr ..)

theorem resetDomain_fr (a0) (s : State) : Keeps 1105915 s (resetDomain a0 s) := by
  unfold resetDomain
  extract_lets +onlyGivenNames -merge -useContext x1
  have h2 : Keeps 1105915 s x1 := by
    unfold x1
    split
    · exact Keeps.mono rfl (resetCamb_fr ..)
    · exact Keeps.mono rfl (resetRta_fr ..)
    · exact Keeps.mono rfl (resetRtb_fr ..)
    · exact Keeps.mono rfl (resetRtp_fr ..)
    · exact Keeps.mono rfl (resetGrr_fr ..)
    · exact Keeps.mono rfl (resetBus_fr ..)
    · exact Keeps.mono rfl (Keeps.put_gft _ _)
    · exact Keeps.mono rfl (resetBrk_fr ..)
    · exact Keeps.refl _ _
    · exact Keeps.refl _ _
    · exact Keeps.refl _ _
    · exact Keeps.refl _ _
  try clear_value x1
  refine Keeps.tr ?_ (Keeps.mono rfl (resetDomRegs_fr ..))
  exact Keeps.tr h2 (Keeps.mono rfl (resetFabric_fr ..))

theorem domainOff_fr (a0) (s : State) : Keeps 1105915 s (domainOff a0 s) := by
  unfold domainOff
  split
  · refine Keeps.ite ?_ ?_
    · refine Keeps.tr ?_ (Keeps.mono rfl (resetDomain_fr ..))
      exact Keeps.mono rfl (State_setB_fr ..)
    · exact Keeps.refl _ _
  · exact Keeps.refl _ _

theorem domainOn_fr (a0) (s : State) : Keeps 1105915 s (domainOn a0 s) := by
  unfold domainOn
  split
  · refine Keeps.ite ?_ ?_
    · exact Keeps.refl _ _
    · extract_lets +onlyGivenNames -merge -useContext x1
      have h2 : Keeps 1105915 s x1 := by
        unfold x1
        refine Keeps.tr ?_ (Keeps.mono rfl (State_setB_fr ..))
        exact Keeps.mono rfl (resetDomain_fr ..)
      try clear_value x1
      split
      · refine Keeps.ite ?_ ?_
        · exact Keeps.tr h2 (Keeps.mono rfl (State_setReg_fr ..))
        · exact h2
      · exact h2
  · exact Keeps.refl _ _

theorem pwrctlWrite_fr (a0) (s : State) : Keeps 1236987 s (pwrctlWrite a0 s) := by
  unfold pwrctlWrite
  extract_lets +onlyGivenNames -merge -useContext x1
  have h2 : Keeps 1236987 s x1 := by
    unfold x1
    exact Keeps.mono rfl (State_setReg_fr ..)
  try clear_value x1
  refine Keeps.tr ?_ (forEach_fr _ _ (fun iz3 sz3 => ?_) _)
  · exact h2
  · split
    · refine Keeps.ite ?_ ?_
      · refine Keeps.tr ?_ (Keeps.mono rfl (domainOff_fr ..))
        exact Keeps.mono rfl (Keeps.put_pwr _ _)
      · refine Keeps.ite ?_ ?_
        · exact Keeps.refl _ _
        · exact Keeps.mono rfl (Keeps.put_pwr _ _)
    · exact Keeps.refl _ _

theorem execSysPwrctlWrite_fr (a0) (s : State) : KeepsOut 1236987 s (execSysPwrctlWrite a0 s) := by
  unfold execSysPwrctlWrite
  refine KeepsOut.next ?_
  exact Keeps.mono rfl (pwrctlWrite_fr ..)

theorem oppStep_fr (a0) (s : State) : Keeps 1 s (oppStep a0 s) := by
  unfold oppStep
  extract_lets +onlyGivenNames -merge -useContext x1
  try clear_value x1
  extract_lets +onlyGivenNames -merge -useContext x2
  try clear_value x2
  extract_lets +onlyGivenNames -merge -useContext x3
  try clear_value x3
  refine Keeps.ite ?_ ?_
  · exact Keeps.mono rfl (State_setB_fr ..)
  · refine Keeps.ite ?_ ?_
    · exact Keeps.mono rfl (State_setF_fr ..)
    · refine Keeps.ite ?_ ?_
      · exact Keeps.mono rfl (State_setB_fr ..)
      · exact Keeps.refl _ _

theorem oppWrite_fr (a0) (a1) (s : State) : Keeps 1 s (oppWrite a0 a1 s) := by
  unfold oppWrite
  refine Keeps.ite ?_ ?_
  · refine Keeps.tr ?_ (Keeps.mono rfl (oppStep_fr ..))
    exact Keeps.mono rfl (plainWrite_fr ..)
  · extract_lets +onlyGivenNames -merge -useContext x1
    have h2 : Keeps 1 s x1 := by
      unfold x1
      exact Keeps.mono rfl (plainWrite_fr ..)
    try clear_value x1
    exact Keeps.tr h2 (Keeps.mono rfl (State_setB_fr ..))

theorem execSysOppWrite_fr (a0) (a1) (s : State) : KeepsOut 1 s (execSysOppWrite a0 a1 s) := by
  unfold execSysOppWrite
  refine KeepsOut.next ?_
  exact Keeps.mono rfl (oppWrite_fr ..)

theorem execOppStepComplete_fr (a0) (s : State) : KeepsOut 1 s (execOppStepComplete a0 s) := by
  unfold execOppStepComplete
  refine KeepsOut.next ?_
  exact Keeps.mono rfl (oppStep_fr ..)

end Sys2Proof.Machine
end

