-- ==== Sys2Proof/Laws/FrameReset.lean ====
section
/-! SUPPORT. Sys2Proof/Laws/FrameReset.lean: for each operation of Machine/Reset.lean, what it leaves (Laws/Frame.lean). -/

namespace Sys2Proof.Machine

open Sys2Proof

theorem barkSafe_fr (a0) (s : State) : Keeps 1050123 s (barkSafe a0 s) := by
  unfold barkSafe
  refine Keeps.tr ?_ (Keeps.mono rfl (fansSafe_fr ..))
  exact Keeps.mono rfl (applySafe_fr ..)

theorem judgeSafe_fr (s : State) : Keeps 262145 s (judgeSafe s) := by
  unfold judgeSafe
  extract_lets +onlyGivenNames -merge -useContext x1
  have h2 : Keeps 262145 s x1 := by
    unfold x1
    exact Keeps.mono rfl (State_setB_fr ..)
  try clear_value x1
  refine Keeps.ite ?_ ?_
  · extract_lets +onlyGivenNames -merge -useContext y3 x4
    have h5 : Keeps 262145 s x4 := by
      unfold x4
      exact Keeps.tr h2 (Keeps.mono rfl (Keeps.put_ther _ _))
    try clear_value x4
    refine Keeps.ite ?_ ?_
    · exact h5
    · refine Keeps.tr ?_ (Keeps.mono rfl (State_bump_fr ..))
      refine Keeps.tr ?_ (Keeps.mono rfl (State_setB_fr ..))
      refine Keeps.tr ?_ (Keeps.mono rfl (State_setB_fr ..))
      exact Keeps.tr h5 (Keeps.mono rfl (State_setB_fr ..))
  · refine Keeps.ite ?_ ?_
    · exact Keeps.tr h2 (Keeps.mono rfl (Keeps.put_ther _ _))
    · exact h2

/-- The fields that enterReset replaces at once. -/
theorem enterReset_put_fr {s t : State} (hq : t.pending = s.pending) (hn : t.now = s.now) (hf : t.free = s.free)
    (hr : tblWf regReset s.regs = true → tblWf regReset t.regs = true) (hc : t.rtc = s.rtc) : Keeps 458751 s t := by
  constructor <;> intros <;> first | assumption | exact hn ▸ Nat.le_refl _ | exact hf ▸ Nat.le_refl _ | (apply hr; assumption) | (rename_i h; exact absurd h (by decide))

theorem enterReset_fr (a0) (s : State) : Keeps 458751 s (enterReset a0 s) := by
  show Keeps 458751 s (judgeSafe ((State.setF _ aSysStrap 8 3 _).setB aThermSafestat 30 false))
  refine Keeps.tr (Keeps.tr (Keeps.tr (enterReset_put_fr ?_ ?_ ?_ ?_ ?_) (Keeps.mono rfl (State_setF_fr ..))) (Keeps.mono rfl (State_setB_fr ..)))
    (Keeps.mono rfl (judgeSafe_fr ..))
  iterate 3 exact rfl
  · exact tblWf_filter _
  · exact rfl

theorem releaseHold_fr (s : State) : Keeps 131072 s (releaseHold s) := by
  unfold releaseHold
  exact Keeps.mono rfl (Keeps.put_pwr _ _)

theorem resetCause_fr (a0) (s : State) : Keeps 1 s (resetCause a0 s) := by
  unfold resetCause
  exact Keeps.mono rfl (State_setB_fr ..)

theorem cwdWrite_fr (a0) (s : State) : Keeps 131073 s (cwdWrite a0 s) := by
  unfold cwdWrite
  extract_lets +onlyGivenNames -merge -useContext y1 x2
  have h3 : Keeps 131073 s x2 := by
    unfold x2
    refine Keeps.ite ?_ ?_
    · exact Keeps.mono rfl (Keeps.put_pwr _ _)
    · exact Keeps.refl _ _
  try clear_value x2
  refine Keeps.ite ?_ ?_
  · exact h3
  · extract_lets +onlyGivenNames -merge -useContext x4
    try clear_value x4
    extract_lets +onlyGivenNames -merge -useContext x5
    try clear_value x5
    extract_lets +onlyGivenNames -merge -useContext x6
    have h7 : Keeps 131073 s x6 := by
      unfold x6
      exact Keeps.tr h3 (Keeps.mono rfl (State_setF_fr ..))
    try clear_value x6
    exact Keeps.tr h7 (Keeps.mono rfl (Keeps.put_pwr _ _))

theorem execWatchdogKick_fr (a0) (s : State) : KeepsOut 131073 s (execWatchdogKick a0 s) := by
  unfold execWatchdogKick
  refine KeepsOut.next ?_
  refine Keeps.ite ?_ ?_
  · exact Keeps.refl _ _
  · exact Keeps.mono rfl (cwdWrite_fr ..)

theorem pfcfgWrite_fr (a0) (s : State) : Keeps 1 s (pfcfgWrite a0 s) := by
  unfold pfcfgWrite
  refine Keeps.ite ?_ ?_
  · exact Keeps.mono rfl (State_setB_fr ..)
  · exact Keeps.mono rfl (plainWrite_fr ..)

theorem execVflow_fr (s : State) : KeepsOut 137 s (execVflow s) := by
  unfold execVflow
  refine KeepsOut.next ?_
  refine Keeps.ite ?_ ?_
  · exact Keeps.refl _ _
  · refine Keeps.tr ?_ (forRange_fr _ _ (fun iz1 sz1 => ?_) _)
    · exact Keeps.mono rfl (State_setB_fr ..)
    · refine Keeps.ite ?_ ?_
      · refine Keeps.tr ?_ (Keeps.mono rfl (endRun_fr ..))
        refine Keeps.tr ?_ (Keeps.mono rfl (twIdle_fr ..))
        exact Keeps.mono rfl (State_setF_fr ..)
      · exact Keeps.refl _ _

theorem execVflowClear_fr (s : State) : KeepsOut 129 s (execVflowClear s) := by
  unfold execVflowClear
  refine KeepsOut.next ?_
  refine Keeps.ite ?_ ?_
  · exact Keeps.refl _ _
  · refine Keeps.tr ?_ (forRange_fr _ _ (fun iz1 sz1 => ?_) _)
    · exact Keeps.mono rfl (State_setB_fr ..)
    · refine Keeps.ite ?_ ?_
      · exact Keeps.mono rfl (twOn_fr ..)
      · exact Keeps.refl _ _

end Sys2Proof.Machine
end

