-- ==== Sys2Proof/Laws/FrameThermal.lean ====
section
/-! SUPPORT. Sys2Proof/Laws/FrameThermal.lean: for each operation of Machine/Thermal.lean, what it leaves (Laws/Frame.lean). -/

namespace Sys2Proof.Machine

open Sys2Proof

theorem judgeSensor_fr (a0) (a1) (a2) (s : State) : Keeps 262145 s (judgeSensor a0 a1 a2 s) := by
  unfold judgeSensor
  extract_lets +onlyGivenNames -merge -useContext x1
  try clear_value x1
  extract_lets +onlyGivenNames -merge -useContext x2
  have h3 : ∀ a4 a5, Keeps 262145 a5 (x2 a4 a5) := by
    intro a4 a5
    unfold x2
    exact Keeps.mono rfl (Keeps.put_ther _ _)
  try clear_value x2
  extract_lets +onlyGivenNames -merge -useContext x6
  have h7 : Keeps 262145 s x6 := by
    unfold x6
    refine Keeps.ite ?_ ?_
    · refine Keeps.ite ?_ ?_
      · refine Keeps.tr ?_ (Keeps.mono rfl (State_bump_fr ..))
        refine Keeps.tr ?_ (Keeps.mono rfl (State_setB_fr ..))
        exact h3 _ _
      · exact h3 _ _
    · refine Keeps.ite ?_ ?_
      · exact Keeps.refl _ _
      · refine Keeps.ite ?_ ?_
        · exact h3 _ _
        · exact h3 _ _
  try clear_value x6
  extract_lets +onlyGivenNames -merge -useContext x8
  have h9 : Keeps 262145 s x8 := by
    unfold x8
    split
    · exact Keeps.tr h7 (Keeps.mono rfl (State_setF_fr ..))
    · exact h7
  try clear_value x8
  exact Keeps.tr h9 (Keeps.mono rfl (State_setB_fr ..))

theorem judgeSensors_fr (a0) (s : State) : Keeps 262145 s (judgeSensors a0 s) := by
  unfold judgeSensors
  extract_lets +onlyGivenNames -merge -useContext x1
  have h2 : Keeps 262145 s x1 := by
    unfold x1
    exact Keeps.refl _ _
  try clear_value x1
  extract_lets +onlyGivenNames -merge -useContext x3
  have h4 : Keeps 262145 s x3 := by
    unfold x3
    refine Keeps.tr ?_ (forRange_fr _ _ (fun iz5 sz5 => ?_) _)
    · exact Keeps.refl _ _
    · exact Keeps.mono rfl (judgeSensor_fr ..)
  try clear_value x3
  extract_lets +onlyGivenNames -merge -useContext x6
  try clear_value x6
  extract_lets +onlyGivenNames -merge -useContext x7
  try clear_value x7
  exact Keeps.tr h4 (Keeps.mono rfl (judgeSensor_fr ..))

theorem thermalShutdown_fr (a0) (s : State) : Keeps 458751 s (thermalShutdown a0 s) := by
  unfold thermalShutdown
  extract_lets +onlyGivenNames -merge -useContext x1
  have h2 : Keeps 458751 s x1 := by
    unfold x1
    refine Keeps.tr ?_ (Keeps.mono rfl (resetCause_fr ..))
    exact Keeps.mono rfl (State_bump_fr ..)
  try clear_value x1
  extract_lets +onlyGivenNames -merge -useContext x3
  have h4 : Keeps 458751 s x3 := by
    unfold x3
    exact Keeps.tr h2 (Keeps.mono rfl (enterReset_fr ..))
  try clear_value x3
  exact Keeps.tr h4 (Keeps.mono rfl (Keeps.put_pwr_ther _ _ _))

theorem judgeDie_fr (a0) (a1) (s : State) : Keeps 262153 s (judgeDie a0 a1 s) := by
  unfold judgeDie
  extract_lets +onlyGivenNames -merge -useContext x1
  try clear_value x1
  extract_lets +onlyGivenNames -merge -useContext x2
  try clear_value x2
  extract_lets +onlyGivenNames -merge -useContext x3
  try clear_value x3
  extract_lets +onlyGivenNames -merge -useContext x4
  try clear_value x4
  extract_lets +onlyGivenNames -merge -useContext y5 x6
  have h7 : Keeps 262153 s x6 := by
    unfold x6
    exact Keeps.mono rfl (Keeps.put_ther _ _)
  try clear_value x6
  extract_lets +onlyGivenNames -merge -useContext x8
  have h9 : Keeps 262153 s x8 := by
    unfold x8
    refine Keeps.tr ?_ (Keeps.mono rfl (State_setB_fr ..))
    exact Keeps.tr h7 (Keeps.mono rfl (State_setF_fr ..))
  try clear_value x8
  extract_lets +onlyGivenNames -merge -useContext x10
  have h11 : Keeps 262153 s x10 := by
    unfold x10
    exact Keeps.tr h9 (Keeps.mono rfl (State_setF_fr ..))
  try clear_value x10
  extract_lets +onlyGivenNames -merge -useContext x12
  have h13 : Keeps 262153 s x12 := by
    unfold x12
    split
    · exact Keeps.tr h11 (Keeps.mono rfl (State_setF_fr ..))
    · exact h11
  try clear_value x12
  extract_lets +onlyGivenNames -merge -useContext x14
  have h15 : Keeps 262153 s x14 := by
    unfold x14
    refine Keeps.ite ?_ ?_
    · refine Keeps.tr ?_ (Keeps.mono rfl (ringEvent_fr ..))
      exact Keeps.tr h13 (Keeps.mono rfl (State_setB_fr ..))
    · exact h13
  try clear_value x14
  refine Keeps.ite ?_ ?_
  · refine Keeps.tr ?_ (Keeps.mono rfl (ringEvent_fr ..))
    refine Keeps.tr ?_ (Keeps.mono rfl (State_bump_fr ..))
    exact Keeps.tr h15 (Keeps.mono rfl (State_setB_fr ..))
  · exact h15

theorem judgeRate_fr (a0) (s : State) : Keeps 262145 s (judgeRate a0 s) := by
  unfold judgeRate
  extract_lets +onlyGivenNames -merge -useContext x1
  try clear_value x1
  refine Keeps.ite ?_ ?_
  · extract_lets +onlyGivenNames -merge -useContext x2
    have h3 : Keeps 262145 s x2 := by
      unfold x2
      exact Keeps.mono rfl (State_setB_fr ..)
    try clear_value x2
    exact Keeps.tr h3 (Keeps.mono rfl (Keeps.put_ther _ _))
  · refine Keeps.ite ?_ ?_
    · split
      · exact Keeps.mono rfl (Keeps.put_ther _ _)
      · refine Keeps.ite ?_ ?_
        · exact Keeps.mono rfl (State_setB_fr ..)
        · exact Keeps.refl _ _
    · exact Keeps.mono rfl (Keeps.put_ther _ _)

theorem thermSample_fr (a0) (s : State) : Keeps 262153 s (thermSample a0 s) := by
  unfold thermSample
  extract_lets +onlyGivenNames -merge -useContext y1 x2
  have h3 : Keeps 262153 s x2 := by
    unfold x2
    exact Keeps.mono rfl (Keeps.put_ther _ _)
  try clear_value x2
  extract_lets +onlyGivenNames -merge -useContext x4
  have h5 : Keeps 262153 s x4 := by
    unfold x4
    refine Keeps.tr ?_ (Keeps.mono rfl (judgeRate_fr ..))
    refine Keeps.tr ?_ (Keeps.mono rfl (judgeDie_fr ..))
    refine Keeps.tr ?_ (Keeps.mono rfl (judgeDie_fr ..))
    refine Keeps.tr ?_ (Keeps.mono rfl (judgeDie_fr ..))
    exact Keeps.tr h3 (Keeps.mono rfl (judgeSensors_fr ..))
  try clear_value x4
  refine Keeps.tr ?_ (Keeps.mono rfl (oppStep_fr ..))
  exact Keeps.tr h5 (Keeps.mono rfl (oppStep_fr ..))

theorem holdSample_fr (a0) (a1) (s : State) : Keeps 262153 s (holdSample a0 a1 s) := by
  unfold holdSample
  extract_lets +onlyGivenNames -merge -useContext x1
  have h2 : Keeps 262153 s x1 := by
    unfold x1
    refine Keeps.tr ?_ (Keeps.mono rfl (thermSample_fr ..))
    exact Keeps.mono rfl (State_setB_fr ..)
  try clear_value x1
  exact Keeps.tr h2 (Keeps.mono rfl (Keeps.put_ther _ _))

theorem execThermalSample_fr (a0) (s : State) : KeepsOut 983039 s (execThermalSample a0 s) := by
  unfold execThermalSample
  refine KeepsOut.next ?_
  split
  · refine Keeps.tr ?_ (Keeps.mono rfl (holdSample_fr ..))
    exact Keeps.mono rfl (State_advTo_fr ..)
  · exact Keeps.refl _ _
  · extract_lets +onlyGivenNames -merge -useContext x1
    have h2 : Keeps 983039 s x1 := by
      unfold x1
      refine Keeps.tr ?_ (Keeps.mono rfl (thermSample_fr ..))
      exact Keeps.mono rfl (State_advTo_fr ..)
    try clear_value x1
    refine Keeps.ite ?_ ?_
    · exact Keeps.tr h2 (Keeps.mono rfl (thermalShutdown_fr ..))
    · refine Keeps.ite ?_ ?_
      · exact Keeps.tr h2 (Keeps.mono rfl (thermalShutdown_fr ..))
      · exact h2

theorem execShutdownHoldEnd_fr (a0) (s : State) : KeepsOut 917513 s (execShutdownHoldEnd a0 s) := by
  unfold execShutdownHoldEnd
  refine KeepsOut.next ?_
  split
  · extract_lets +onlyGivenNames -merge -useContext x1
    have h2 : Keeps 917513 s x1 := by
      unfold x1
      refine Keeps.tr ?_ (forRange_fr _ _ (fun iz3 sz3 => ?_) _)
      · exact Keeps.refl _ _
      · refine Keeps.tr ?_ (Keeps.mono rfl (holdSample_fr ..))
        exact Keeps.mono rfl (State_advTo_fr ..)
    try clear_value x1
    extract_lets +onlyGivenNames -merge -useContext x4
    have h5 : ∀ a6 a7, Keeps 917513 a7 (x4 a6 a7) := by
      intro a6 a7
      unfold x4
      refine Keeps.tr ?_ (Keeps.mono rfl (releaseHold_fr ..))
      exact Keeps.mono rfl (State_advTo_fr ..)
    try clear_value x4
    split
    · refine Keeps.ite ?_ ?_
      · exact Keeps.tr h2 (h5 _ _)
      · exact h2
    · exact Keeps.tr h2 (h5 _ _)
  · exact Keeps.refl _ _

theorem showPin_fr (a0) (a1) (s : State) : Keeps 1 s (showPin a0 a1 s) := by
  unfold showPin
  exact Keeps.mono rfl (State_setF_fr ..)

theorem execFb_fr (a0) (s : State) : KeepsOut 524289 s (execFb a0 s) := by
  unfold execFb
  refine KeepsOut.next ?_
  refine Keeps.ite ?_ ?_
  · refine Keeps.tr ?_ (Keeps.mono rfl (State_setB_fr ..))
    exact Keeps.mono rfl (State_advTo_fr ..)
  · exact Keeps.refl _ _

theorem safectlWrite_fr (a0) (a1) (s : State) : Keeps 262145 s (safectlWrite a0 a1 s) := by
  unfold safectlWrite
  extract_lets +onlyGivenNames -merge -useContext x1
  try clear_value x1
  extract_lets +onlyGivenNames -merge -useContext y2 x3
  have h4 : Keeps 262145 s x3 := by
    unfold x3
    refine Keeps.ite ?_ ?_
    · exact Keeps.refl _ _
    · exact Keeps.mono rfl (Keeps.put_ther _ _)
  try clear_value x3
  refine Keeps.tr ?_ (Keeps.mono rfl (judgeSafe_fr ..))
  refine Keeps.tr ?_ (Keeps.mono rfl (State_setB_fr ..))
  exact Keeps.tr h4 (Keeps.mono rfl (State_setB_fr ..))

theorem thermCfgWrite_fr (a0) (s : State) : Keeps 1 s (thermCfgWrite a0 s) := by
  unfold thermCfgWrite
  refine Keeps.ite ?_ ?_
  · exact Keeps.mono rfl (State_setB_fr ..)
  · exact Keeps.mono rfl (plainWrite_fr ..)

theorem endPinForce_fr (s : State) : Keeps 262145 s (endPinForce s) := by
  unfold endPinForce
  refine Keeps.tr ?_ (Keeps.mono rfl (judgeSafe_fr ..))
  refine Keeps.tr ?_ (Keeps.mono rfl (State_setB_fr ..))
  exact Keeps.mono rfl (Keeps.put_ther _ _)

end Sys2Proof.Machine
end

