-- ==== Sys2Proof/Laws/FrameHostRegs.lean ====
section
/-! SUPPORT. Sys2Proof/Laws/FrameHostRegs.lean: for each operation of Machine/HostRegs.lean, what it leaves (Laws/Frame.lean). -/

namespace Sys2Proof.Machine

open Sys2Proof

theorem putStat_fr (a0) (a1) (a2) (a3) (a4) (a5) (s : State) : Keeps 1 s (putStat a0 a1 a2 a3 a4 a5 s) := by
  unfold putStat
  exact Keeps.mono rfl (State_setReg_fr ..)

theorem setIempty_fr (a0) (s : State) : Keeps 1 s (setIempty a0 s) := by
  unfold setIempty
  exact Keeps.mono rfl (State_setReg_fr ..)

theorem goSend_fr (a0) (s : State) : Keeps 5 s (goSend a0 s) := by
  unfold goSend
  extract_lets +onlyGivenNames -merge -useContext x1
  have h2 : Keeps 5 s x1 := by
    unfold x1
    exact Keeps.mono rfl (putStat_fr ..)
  try clear_value x1
  extract_lets +onlyGivenNames -merge -useContext x3
  try clear_value x3
  exact Keeps.tr h2 (Keeps.mono rfl (Keeps.put_hp _ _))

theorem withdraw_fr (a0) (a1) (s : State) : Keeps 1 s (withdraw a0 a1 s) := by
  unfold withdraw
  extract_lets +onlyGivenNames -merge -useContext x1
  try clear_value x1
  refine Keeps.tr ?_ (Keeps.mono rfl (setIempty_fr ..))
  exact Keeps.mono rfl (putStat_fr ..)

theorem abortSend_fr (a0) (s : State) : Keeps 1 s (abortSend a0 s) := by
  unfold abortSend
  refine Keeps.ite ?_ ?_
  · exact Keeps.mono rfl (withdraw_fr ..)
  · exact Keeps.refl _ _

theorem resetReleased_fr (a0) (s : State) : Keeps 8 s (resetReleased a0 s) := by
  unfold resetReleased
  split
  · refine Keeps.ite ?_ ?_
    · exact Keeps.mono rfl (Keeps.put_fw _ _)
    · exact Keeps.refl _ _
  · exact Keeps.refl _ _

theorem releaseReply_fr (a0) (s : State) : Keeps 9 s (releaseReply a0 s) := by
  unfold releaseReply
  extract_lets +onlyGivenNames -merge -useContext x1
  try clear_value x1
  refine Keeps.ite ?_ ?_
  · refine Keeps.tr ?_ (Keeps.mono rfl (resetReleased_fr ..))
    exact Keeps.mono rfl (putStat_fr ..)
  · exact Keeps.refl _ _

theorem epochWrite_fr (a0) (a1) (s : State) : Keeps 1 s (epochWrite a0 a1 s) := by
  unfold epochWrite
  refine Keeps.ite ?_ ?_
  · exact Keeps.refl _ _
  · extract_lets +onlyGivenNames -merge -useContext x1
    have h2 : Keeps 1 s x1 := by
      unfold x1
      refine Keeps.tr ?_ (Keeps.mono rfl (State_setB_fr ..))
      exact Keeps.mono rfl (State_setF_fr ..)
    try clear_value x1
    refine Keeps.tr ?_ (forEach_fr _ _ (fun iz3 sz3 => ?_) _)
    · exact h2
    · refine Keeps.ite ?_ ?_
      · exact Keeps.mono rfl (withdraw_fr ..)
      · exact Keeps.refl _ _

theorem hostwdWrite_fr (a0) (a1) (s : State) : Keeps 5 s (hostwdWrite a0 a1 s) := by
  unfold hostwdWrite
  refine Keeps.ite ?_ ?_
  · extract_lets +onlyGivenNames -merge -useContext x1
    have h2 : Keeps 5 s x1 := by
      unfold x1
      exact Keeps.mono rfl (State_setF_fr ..)
    try clear_value x1
    exact Keeps.tr h2 (Keeps.mono rfl (Keeps.put_hp _ _))
  · exact Keeps.refl _ _

theorem dbinWrite_fr (a0) (a1) (s : State) : Keeps 1 s (dbinWrite a0 a1 s) := by
  unfold dbinWrite
  exact Keeps.mono rfl (State_setReg_fr ..)

theorem storeWord_fr (a0) (a1) (s : State) : Keeps 5 s (storeWord a0 a1 s) := by
  unfold storeWord
  extract_lets +onlyGivenNames -merge -useContext x1
  have h2 : Keeps 5 s x1 := by
    unfold x1
    exact Keeps.mono rfl (State_setReg_fr ..)
  try clear_value x1
  exact Keeps.tr h2 (Keeps.mono rfl (Keeps.put_hp _ _))

theorem upsetWords_fr (a0) (s : State) : Keeps 4 s (upsetWords a0 s) := by
  unfold upsetWords
  extract_lets +onlyGivenNames -merge -useContext x1
  try clear_value x1
  exact Keeps.mono rfl (Keeps.put_hp _ _)

theorem hpWriteWord_fr (a0) (a1) (a2) (s : State) : Keeps 5 s (hpWriteWord a0 a1 a2 s) := by
  unfold hpWriteWord
  split
  · exact Keeps.mono rfl (storeWord_fr ..)
  · exact Keeps.mono rfl (storeWord_fr ..)
  · exact Keeps.mono rfl (plainWrite_fr ..)
  · exact Keeps.mono rfl (plainWrite_fr ..)
  · exact Keeps.mono rfl (plainWrite_fr ..)
  · exact Keeps.mono rfl (plainWrite_fr ..)
  · exact Keeps.refl _ _
  · exact Keeps.refl _ _
  · exact Keeps.refl _ _
  · exact Keeps.refl _ _
  · extract_lets +onlyGivenNames -merge -useContext x1
    try clear_value x1
    refine Keeps.ite ?_ ?_
    · extract_lets +onlyGivenNames -merge -useContext x2
      have h3 : Keeps 5 s x2 := by
        unfold x2
        exact Keeps.mono rfl (epochWrite_fr ..)
      try clear_value x2
      refine Keeps.ite ?_ ?_
      · exact Keeps.tr h3 (Keeps.mono rfl (epochWrite_fr ..))
      · exact h3
    · refine Keeps.ite ?_ ?_
      · exact Keeps.mono rfl (hostwdWrite_fr ..)
      · refine Keeps.ite ?_ ?_
        · exact Keeps.mono rfl (dbinWrite_fr ..)
        · refine Keeps.ite ?_ ?_
          · exact Keeps.mono rfl (plainWrite_fr ..)
          · refine Keeps.ite ?_ ?_
            · exact Keeps.mono rfl (plainWrite_fr ..)
            · refine Keeps.ite ?_ ?_
              · exact Keeps.mono rfl (State_setReg_fr ..)
              · exact Keeps.mono rfl (plainWrite_fr ..)

theorem hpCtlWord_fr (a0) (a1) (s : State) : Keeps 13 s (hpCtlWord a0 a1 s) := by
  unfold hpCtlWord
  split
  · refine Keeps.ite ?_ ?_
    · exact Keeps.mono rfl (goSend_fr ..)
    · refine Keeps.ite ?_ ?_
      · exact Keeps.mono rfl (abortSend_fr ..)
      · exact Keeps.refl _ _
  · refine Keeps.ite ?_ ?_
    · exact Keeps.mono rfl (releaseReply_fr ..)
    · exact Keeps.refl _ _
  · exact Keeps.refl _ _

end Sys2Proof.Machine
end

