-- ==== Sys2Proof/Laws/FrameAccess.lean ====
section
/-! SUPPORT. Sys2Proof/Laws/FrameAccess.lean: for each operation of Machine/Access.lean, what it leaves (Laws/Frame.lean). -/

namespace Sys2Proof.Machine

open Sys2Proof

theorem recordRequest_fr {p : Packet} {s t : State} (h : recordRequest p s = some t) : Keeps 2 s t := by
  unfold recordRequest at h
  extract_lets +onlyGivenNames -merge -useContext src mine at h
  split at h
  · cases h
  · cases h
    exact Keeps.put_fab s _

theorem regRead_fr (a0) (a1) (a2) (s : State) : Keeps 69755 s (regRead a0 a1 a2 s).2 := by
  unfold regRead
  refine Keeps.ite2 ?_ ?_
  · refine Keeps.pair ?_
    exact Keeps.refl _ _
  · refine Keeps.ite2 ?_ ?_
    · extract_lets +onlyGivenNames -merge -useContext x1
      try clear_value x1
      refine Keeps.ite2 ?_ ?_
      · refine Keeps.pair ?_
        exact Keeps.mono rfl (Keeps.put_rq _ _)
      · refine Keeps.pair ?_
        exact Keeps.refl _ _
    · refine Keeps.ite2 ?_ ?_
      · refine Keeps.pair ?_
        exact Keeps.refl _ _
      · refine Keeps.ite2 ?_ ?_
        · extract_lets +onlyGivenNames -merge -useContext x2
          try clear_value x2
          refine Keeps.pair ?_
          exact Keeps.refl _ _
        · refine Keeps.ite2 ?_ ?_
          · extract_lets +onlyGivenNames -merge -useContext x3
            have h4 : Keeps 69755 s x3 := by
              unfold x3
              exact Keeps.mono rfl (settleMode_fr ..)
            try clear_value x3
            refine Keeps.pair ?_
            exact h4
          · refine Keeps.ite2 ?_ ?_
            · extract_lets +onlyGivenNames -merge -useContext x5
              have h6 : Keeps 69755 s x5 := by
                unfold x5
                exact Keeps.mono rfl (catchUp_fr ..)
              try clear_value x5
              refine Keeps.pair ?_
              exact h6
            · refine Keeps.ite2 ?_ ?_
              · refine Keeps.pair ?_
                exact Keeps.refl _ _
              · refine Keeps.ite2 ?_ ?_
                · refine Keeps.pair ?_
                  exact Keeps.refl _ _
                · refine Keeps.ite2 ?_ ?_
                  · refine Keeps.pair ?_
                    exact Keeps.refl _ _
                  · refine Keeps.ite2 ?_ ?_
                    · refine Keeps.pair ?_
                      exact Keeps.refl _ _
                    · refine Keeps.ite2 ?_ ?_
                      · refine Keeps.pair ?_
                        exact Keeps.refl _ _
                      · refine Keeps.ite2 ?_ ?_
                        · extract_lets +onlyGivenNames -merge -useContext x7
                          have h8 : Keeps 69755 s x7 := by
                            unfold x7
                            exact Keeps.mono rfl (rtcCapture_fr ..)
                          try clear_value x7
                          refine Keeps.pair ?_
                          exact h8
                        · refine Keeps.ite2 ?_ ?_
                          · refine Keeps.pair ?_
                            exact Keeps.refl _ _
                          · refine Keeps.ite2 ?_ ?_
                            · refine Keeps.pair ?_
                              exact Keeps.refl _ _
                            · refine Keeps.ite2 ?_ ?_
                              · refine Keeps.pair ?_
                                exact Keeps.refl _ _
                              · refine Keeps.pair ?_
                                exact Keeps.refl _ _

theorem sysWrite_fr (a0) (a1) (s : State) : Keeps 1236987 s (sysWrite a0 a1 s) := by
  unfold sysWrite
  refine Keeps.ite ?_ ?_
  · exact Keeps.mono rfl (cwdWrite_fr ..)
  · refine Keeps.ite ?_ ?_
    · exact Keeps.mono rfl (pwrctlWrite_fr ..)
    · refine Keeps.ite ?_ ?_
      · exact Keeps.mono rfl (pfcfgWrite_fr ..)
      · refine Keeps.ite ?_ ?_
        · exact Keeps.mono rfl (oppWrite_fr ..)
        · refine Keeps.ite ?_ ?_
          · exact Keeps.mono rfl (oppWrite_fr ..)
          · exact Keeps.mono rfl (plainWrite_fr ..)

theorem rootWrite_fr (a0) (a1) (s : State) : Keeps 49 s (rootWrite a0 a1 s) := by
  unfold rootWrite
  refine Keeps.ite ?_ ?_
  · exact Keeps.refl _ _
  · refine Keeps.ite ?_ ?_
    · exact Keeps.mono rfl (seqWrite_fr ..)
    · refine Keeps.ite ?_ ?_
      · extract_lets +onlyGivenNames -merge -useContext x1
        try clear_value x1
        refine Keeps.ite ?_ ?_
        · exact Keeps.mono rfl (cnvctlWrite_fr ..)
        · refine Keeps.ite ?_ ?_
          · exact Keeps.mono rfl (urgentRequest_fr ..)
          · exact Keeps.mono rfl (plainWrite_fr ..)
      · refine Keeps.ite ?_ ?_
        · exact Keeps.mono rfl (aincfgWrite_fr ..)
        · refine Keeps.ite ?_ ?_
          · exact Keeps.mono rfl (pircfgWrite_fr ..)
          · exact Keeps.mono rfl (plainWrite_fr ..)

theorem cambWrite_fr (a0) (a1) (s : State) : Keeps 257 s (cambWrite a0 a1 s) := by
  unfold cambWrite
  refine Keeps.ite ?_ ?_
  · exact Keeps.mono rfl (slotWrite_fr ..)
  · refine Keeps.ite ?_ ?_
    · exact Keeps.mono rfl (gctlWrite_fr ..)
    · refine Keeps.ite ?_ ?_
      · exact Keeps.mono rfl (tunerWrite_fr ..)
      · exact Keeps.mono rfl (plainWrite_fr ..)

theorem safeclrWrite_fr (a0) (a1) (s : State) : Keeps 1050115 s (safeclrWrite a0 a1 s) := by
  unfold safeclrWrite
  refine Keeps.tr ?_ (forRange_fr _ _ (fun iz1 sz1 => ?_) _)
  · exact Keeps.refl _ _
  · refine Keeps.ite ?_ ?_
    · exact Keeps.mono rfl (releaseSafe_fr ..)
    · exact Keeps.refl _ _

theorem drvBlockWrite_fr (a0) (a1) (s : State) : Keeps 1050123 s (drvBlockWrite a0 a1 s) := by
  unfold drvBlockWrite
  refine Keeps.ite ?_ ?_
  · extract_lets +onlyGivenNames -merge -useContext x1
    try clear_value x1
    extract_lets +onlyGivenNames -merge -useContext x2
    try clear_value x2
    refine Keeps.ite ?_ ?_
    · exact Keeps.mono rfl (drvCtlWrite_fr ..)
    · refine Keeps.ite ?_ ?_
      · exact Keeps.mono rfl (manWrite_fr ..)
      · exact Keeps.mono rfl (drvWrite_fr ..)
  · refine Keeps.ite ?_ ?_
    · exact Keeps.mono rfl (safeclrWrite_fr ..)
    · refine Keeps.ite ?_ ?_
      · exact Keeps.mono rfl (safeclrWrite_fr ..)
      · refine Keeps.ite ?_ ?_
        · exact Keeps.mono rfl (pwmWrite_fr ..)
        · exact Keeps.mono rfl (plainWrite_fr ..)

theorem fanBlockWrite_fr (a0) (a1) (s : State) : Keeps 1537 s (fanBlockWrite a0 a1 s) := by
  unfold fanBlockWrite
  refine Keeps.ite ?_ ?_
  · refine Keeps.ite ?_ ?_
    · exact Keeps.mono rfl (fanWrite_fr ..)
    · exact Keeps.mono rfl (plainWrite_fr ..)
  · refine Keeps.ite ?_ ?_
    · refine Keeps.tr ?_ (forRange_fr _ _ (fun iz1 sz1 => ?_) _)
      · exact Keeps.refl _ _
      · refine Keeps.ite ?_ ?_
        · exact Keeps.mono rfl (fanRelease_fr ..)
        · exact Keeps.refl _ _
    · exact Keeps.mono rfl (plainWrite_fr ..)

theorem busBlockWrite_fr (a0) (a1) (s : State) : Keeps 2185 s (busBlockWrite a0 a1 s) := by
  unfold busBlockWrite
  refine Keeps.ite ?_ ?_
  · exact Keeps.mono rfl (pcfgWrite_fr ..)
  · refine Keeps.ite ?_ ?_
    · exact Keeps.mono rfl (i2cctlWrite_fr ..)
    · refine Keeps.ite ?_ ?_
      · exact Keeps.mono rfl (xWrite_fr ..)
      · refine Keeps.ite ?_ ?_
        · extract_lets +onlyGivenNames -merge -useContext x1
          try clear_value x1
          extract_lets +onlyGivenNames -merge -useContext x2
          try clear_value x2
          refine Keeps.ite ?_ ?_
          · exact Keeps.mono rfl (trWrite_fr ..)
          · exact Keeps.mono rfl (plainWrite_fr ..)
        · refine Keeps.ite ?_ ?_
          · exact Keeps.mono rfl (segctlWrite_fr ..)
          · exact Keeps.mono rfl (plainWrite_fr ..)

theorem hwdBlockWrite_fr (a0) (a1) (s : State) : Keeps 8193 s (hwdBlockWrite a0 a1 s) := by
  unfold hwdBlockWrite
  refine Keeps.ite ?_ ?_
  · exact Keeps.mono rfl (hwdSaveWrite_fr ..)
  · refine Keeps.ite ?_ ?_
    · exact Keeps.mono rfl (cntcfgWrite_fr ..)
    · exact Keeps.mono rfl (plainWrite_fr ..)

theorem grrBlockWrite_fr (a0) (a1) (a2) (s : State) : Keeps 32769 s (grrBlockWrite a0 a1 a2 s) := by
  unfold grrBlockWrite
  refine Keeps.ite ?_ ?_
  · exact Keeps.mono rfl (cursorWrite_fr ..)
  · refine Keeps.ite ?_ ?_
    · exact Keeps.mono rfl (preswr_fr ..)
    · refine Keeps.ite ?_ ?_
      · exact Keeps.mono rfl (chcfgWrite_fr ..)
      · refine Keeps.ite ?_ ?_
        · exact Keeps.mono rfl (edgeWrite_fr ..)
        · exact Keeps.mono rfl (plainWrite_fr ..)

theorem rtcBlockWrite_fr (a0) (a1) (a2) (s : State) : Keeps 102475 s (rtcBlockWrite a0 a1 a2 s) := by
  unfold rtcBlockWrite
  refine Keeps.ite ?_ ?_
  · exact Keeps.refl _ _
  · refine Keeps.ite ?_ ?_
    · exact Keeps.mono rfl (rtcTimeWrite_fr ..)
    · refine Keeps.ite ?_ ?_
      · exact Keeps.mono rfl (rtcCtlWrite_fr ..)
      · refine Keeps.ite ?_ ?_
        · exact Keeps.mono rfl (rtcCalWrite_fr ..)
        · refine Keeps.ite ?_ ?_
          · exact Keeps.mono rfl (trickleWrite_fr ..)
          · refine Keeps.ite ?_ ?_
            · exact Keeps.mono rfl (fsoarmWrite_fr ..)
            · exact Keeps.mono rfl (plainWrite_fr ..)

theorem regWrite_fr (a0) (a1) (a2) (a3) (s : State) : Keeps 1572859 s (regWrite a0 a1 a2 a3 s) := by
  unfold regWrite
  refine Keeps.ite ?_ ?_
  · exact Keeps.mono rfl (sysWrite_fr ..)
  · refine Keeps.ite ?_ ?_
    · exact Keeps.refl _ _
    · refine Keeps.ite ?_ ?_
      · exact Keeps.mono rfl (rootWrite_fr ..)
      · refine Keeps.ite ?_ ?_
        · exact Keeps.mono rfl (plainWrite_fr ..)
        · refine Keeps.ite ?_ ?_
          · exact Keeps.mono rfl (cambWrite_fr ..)
          · refine Keeps.ite ?_ ?_
            · refine Keeps.ite ?_ ?_
              · exact Keeps.mono rfl (modelWrite_fr ..)
              · exact Keeps.refl _ _
            · refine Keeps.ite ?_ ?_
              · exact Keeps.mono rfl (drvBlockWrite_fr ..)
              · refine Keeps.ite ?_ ?_
                · exact Keeps.mono rfl (fanBlockWrite_fr ..)
                · refine Keeps.ite ?_ ?_
                  · exact Keeps.mono rfl (eschWrite_fr ..)
                  · refine Keeps.ite ?_ ?_
                    · exact Keeps.mono rfl (busBlockWrite_fr ..)
                    · refine Keeps.ite ?_ ?_
                      · exact Keeps.mono rfl (graftWrite_fr ..)
                      · refine Keeps.ite ?_ ?_
                        · exact Keeps.mono rfl (hwdBlockWrite_fr ..)
                        · refine Keeps.ite ?_ ?_
                          · exact Keeps.mono rfl (grrBlockWrite_fr ..)
                          · refine Keeps.ite ?_ ?_
                            · exact Keeps.mono rfl (rtcBlockWrite_fr ..)
                            · refine Keeps.ite ?_ ?_
                              · exact Keeps.mono rfl (safectlWrite_fr ..)
                              · refine Keeps.ite ?_ ?_
                                · exact Keeps.mono rfl (thermCfgWrite_fr ..)
                                · exact Keeps.mono rfl (plainWrite_fr ..)

theorem readWords_fr (sec : Bool) (r : Nat) : ∀ (a n : Nat) (s : State), Keeps 69755 s (readWords sec r a n s).2.2
  | _, 0, s => Keeps.refl _ s
  | a, n + 1, s => by
    unfold readWords
    extract_lets +onlyGivenNames -merge -useContext st x y
    split
    · exact Keeps.refl _ _
    · exact Keeps.tr (Keeps.mono rfl (regRead_fr ..)) (readWords_fr sec r (a + 4) n _)

theorem writeWords_fr (sec : Bool) (r : Nat) : ∀ (a : Nat) (ws : List Word) (s : State), Keeps 1572859 s (writeWords sec r a ws s).2.2
  | _, [], s => Keeps.refl _ s
  | a, v :: t, s => by
    unfold writeWords
    extract_lets +onlyGivenNames -merge -useContext st y
    split
    · exact Keeps.refl _ _
    · exact Keeps.tr (Keeps.mono rfl (regWrite_fr ..)) (writeWords_fr sec r (a + 4) t _)

theorem writeRequest_fr (sec : Bool) (r a : Nat) (ws : List Word) (s : State) : Keeps 1572859 s (writeRequest sec r a ws s).2.2 := by
  unfold writeRequest
  have h : Keeps 1572859 s (writeWords sec r a ws s).2.2 := Keeps.mono rfl (writeWords_fr ..)
  refine Keeps.ite ?_ h
  unfold forEach
  generalize pointsIn a ws.length = l
  generalize (writeWords sec r a ws s).2.2 = u at h ⊢
  induction l generalizing u with
  | nil => exact h
  | cons p t ih => exact ih _ (settlePoint_fr rfl (Keeps.refl _ _) h)

theorem hwFlags_fr (a0) (a1) (s : State) : Keeps 1 s (hwFlags a0 a1 s) := by
  unfold hwFlags
  refine Keeps.ite ?_ ?_
  · refine Keeps.ite ?_ ?_
    · extract_lets +onlyGivenNames -merge -useContext x1
      have h2 : Keeps 1 s x1 := by
        unfold x1
        exact Keeps.mono rfl (State_bump_fr ..)
      try clear_value x1
      refine Keeps.ite ?_ ?_
      · exact h2
      · exact Keeps.tr h2 (Keeps.mono rfl (State_setReg_fr ..))
    · exact Keeps.refl _ _
  · split
    · exact Keeps.refl _ _
    · refine Keeps.tr ?_ (forRange_fr _ _ (fun iz3 sz3 => ?_) _)
      · exact Keeps.refl _ _
      · refine Keeps.ite ?_ ?_
        · extract_lets +onlyGivenNames -merge -useContext x4
          have h5 : Keeps 1 sz3 x4 := by
            unfold x4
            exact Keeps.mono rfl (State_setB_fr ..)
          try clear_value x4
          split
          · exact Keeps.tr h5 (Keeps.mono rfl (State_bump_fr ..))
          · exact h5
        · exact Keeps.refl _ _

theorem execRegisterWrite_fr (a0) (a1) (a2) (a3) (s : State) : KeepsOut 1572859 s (execRegisterWrite a0 a1 a2 a3 s) := by
  unfold execRegisterWrite
  refine KeepsOut.next ?_
  refine Keeps.ite ?_ ?_
  · exact Keeps.refl _ _
  · extract_lets +onlyGivenNames -merge -useContext x1
    have h2 : Keeps 1572859 s x1 := by
      unfold x1
      refine Keeps.tr ?_ (Keeps.mono rfl (hwFlags_fr ..))
      exact Keeps.mono rfl (regWrite_fr ..)
    try clear_value x1
    refine Keeps.ite ?_ ?_
    · refine settlePoint_fr rfl ?_ ?_
      · exact Keeps.refl _ _
      · exact h2
    · exact h2

theorem linkFailure_fr (a0) (a1) (s : State) : Keeps 3 s (linkFailure a0 a1 s) := by
  unfold linkFailure
  refine Keeps.ite ?_ ?_
  · exact Keeps.mono rfl (State_setReg_fr ..)
  · refine Keeps.tr ?_ (Keeps.mono rfl (fabricError_fr ..))
    exact Keeps.mono rfl (Keeps.put_fab _ _)

theorem requestError_fr (a0) (a1) (a2) (s : State) : Keeps 3 s (requestError a0 a1 a2 s) := by
  unfold requestError
  refine Keeps.ite ?_ ?_
  · exact Keeps.mono rfl (fabricError_fr ..)
  · refine Keeps.ite ?_ ?_
    · exact Keeps.mono rfl (linkFailure_fr ..)
    · exact Keeps.refl _ _

theorem respond_fr (a0) (a1) (a2) (a3) (a4) (a5) (s : State) : Keeps 2 s (respond a0 a1 a2 a3 a4 a5 s) := by
  unfold respond
  exact Keeps.mono rfl (Keeps.put_fab _ _)

theorem requestLeft_fr (a0) (a1) (s : State) : Keeps 2 s (requestLeft a0 a1 s) := by
  unfold requestLeft
  extract_lets +onlyGivenNames -merge -useContext x1
  try clear_value x1
  exact Keeps.mono rfl (Keeps.put_fab _ _)

theorem serveRequest_fr (a0) (s : State) : Keeps 1572859 s (serveRequest a0 s) := by
  unfold serveRequest
  extract_lets +onlyGivenNames -merge -useContext x1
  try clear_value x1
  extract_lets +onlyGivenNames -merge -useContext x2
  try clear_value x2
  extract_lets +onlyGivenNames -merge -useContext x3
  try clear_value x3
  extract_lets +onlyGivenNames -merge -useContext x4
  try clear_value x4
  extract_lets +onlyGivenNames -merge -useContext x5
  try clear_value x5
  extract_lets +onlyGivenNames -merge -useContext x6
  try clear_value x6
  extract_lets +onlyGivenNames -merge -useContext x7
  try clear_value x7
  extract_lets +onlyGivenNames -merge -useContext x8
  have h9 : Keeps 1572859 s x8 := by
    unfold x8
    exact Keeps.mono rfl (requestLeft_fr ..)
  try clear_value x8
  split
  · exact h9
  · refine Keeps.ite ?_ ?_
    · refine Keeps.tr ?_ (Keeps.mono rfl (respond_fr ..))
      exact Keeps.tr h9 (Keeps.mono rfl (fabricError_fr ..))
    · refine Keeps.ite ?_ ?_
      · exact h9
      · refine Keeps.ite ?_ ?_
        · extract_lets +onlyGivenNames -merge -useContext x10
          have h11 : Keeps 1572859 s x10.2 := by
            unfold x10
            exact Keeps.tr h9 (Keeps.mono rfl (State_draw_fr ..))
          try clear_value x10
          exact Keeps.tr h11 (Keeps.mono rfl (respond_fr ..))
        · refine Keeps.ite ?_ ?_
          · extract_lets +onlyGivenNames -merge -useContext x12
            have h13 : Keeps 1572859 s x12.2.2 := by
              unfold x12
              exact Keeps.tr h9 (Keeps.mono rfl (writeRequest_fr ..))
            try clear_value x12
            refine Keeps.tr ?_ (Keeps.mono rfl (respond_fr ..))
            exact Keeps.tr h13 (Keeps.mono rfl (requestError_fr ..))
          · extract_lets +onlyGivenNames -merge -useContext x14
            have h15 : Keeps 1572859 s x14.2.2 := by
              unfold x14
              exact Keeps.tr h9 (Keeps.mono rfl (readWords_fr ..))
            try clear_value x14
            refine Keeps.tr ?_ (Keeps.mono rfl (respond_fr ..))
            exact Keeps.tr h15 (Keeps.mono rfl (requestError_fr ..))

theorem forwardFrom_fr : ∀ (n a : Nat) (p : Packet) (s : State), Keeps 1572859 s (forwardFrom n a p s)
  | 0, _, p, s => Keeps.mono rfl (serveRequest_fr p s)
  | n + 1, a, p, s => by
    have hw : ∀ w : FabState, Keeps 1572859 s { s with fab := w } := fun w => Keeps.mono rfl (Keeps.put_fab s w)
    unfold forwardFrom
    extract_lets +onlyGivenNames -merge -useContext dst
    refine Keeps.ite (Keeps.mono rfl (serveRequest_fr p s)) ?_
    extract_lets +onlyGivenNames -merge -useContext b
    split
    · exact Keeps.mono rfl (serveRequest_fr p s)
    · refine Keeps.ite (hw _) (Keeps.ite (Keeps.tr (hw _) (forwardFrom_fr n _ p _)) (Keeps.tr (hw _) (Keeps.mono rfl (Keeps.put_fab _ _))))

theorem forwardRequest_fr (a0) (s : State) : Keeps 1572859 s (forwardRequest a0 s) := by
  unfold forwardRequest
  exact Keeps.mono rfl (forwardFrom_fr ..)

theorem execRouterReceive_fr (a0) (a1) (s : State) : KeepsOut 1572859 s (execRouterReceive a0 a1 s) := by
  unfold execRouterReceive
  refine KeepsOut.next ?_
  extract_lets +onlyGivenNames -merge -useContext x1
  try clear_value x1
  extract_lets +onlyGivenNames -merge -useContext x2
  try clear_value x2
  extract_lets +onlyGivenNames -merge -useContext x3
  try clear_value x3
  refine Keeps.ite ?_ ?_
  · exact Keeps.mono rfl (fabricError_fr ..)
  · refine Keeps.ite ?_ ?_
    · exact Keeps.mono rfl (fabricError_fr ..)
    · refine Keeps.ite ?_ ?_
      · exact Keeps.mono rfl (fabricError_fr ..)
      · refine Keeps.ite ?_ ?_
        · exact Keeps.refl _ _
        · split
          · split
            · exact Keeps.refl _ _
            · rename_i y6 e5
              have h4 : Keeps 1572859 s y6 := by
                exact Keeps.mono rfl (recordRequest_fr e5)
              exact Keeps.tr h4 (Keeps.mono rfl (forwardRequest_fr ..))
          · exact Keeps.mono rfl (respond_fr ..)
          · split
            · refine Keeps.ite ?_ ?_
              · exact Keeps.mono rfl (streamDrop_fr ..)
              · refine Keeps.ite ?_ ?_
                · exact Keeps.mono rfl (Keeps.put_fab _ _)
                · exact Keeps.mono rfl (sinkTag_fr ..)
            · exact Keeps.refl _ _

theorem execCreditReturn_fr (a0) (a1) (s : State) : KeepsOut 1572859 s (execCreditReturn a0 a1 s) := by
  unfold execCreditReturn
  refine KeepsOut.next ?_
  extract_lets +onlyGivenNames -merge -useContext x1
  try clear_value x1
  extract_lets +onlyGivenNames -merge -useContext x2
  try clear_value x2
  refine Keeps.ite ?_ ?_
  · exact Keeps.refl _ _
  · split
    · refine Keeps.ite ?_ ?_
      · refine Keeps.tr ?_ (Keeps.mono rfl (forwardFrom_fr ..))
        exact Keeps.mono rfl (Keeps.put_fab _ _)
      · exact Keeps.mono rfl (Keeps.put_fab _ _)
    · exact Keeps.mono rfl (Keeps.put_fab _ _)

theorem execFabricResponse_fr (a0) (a1) (s : State) : KeepsOut 2 s (execFabricResponse a0 a1 s) := by
  unfold execFabricResponse
  refine KeepsOut.next ?_
  split
  · exact Keeps.refl _ _
  · refine Keeps.ite ?_ ?_
    · exact Keeps.refl _ _
    · extract_lets +onlyGivenNames -merge -useContext x1
      try clear_value x1
      exact Keeps.mono rfl (Keeps.put_fab _ _)

theorem failRequest_fr (a0) (s : State) : Keeps 2 s (failRequest a0 s) := by
  unfold failRequest
  extract_lets +onlyGivenNames -merge -useContext x1
  try clear_value x1
  extract_lets +onlyGivenNames -merge -useContext x2
  have h3 : Keeps 2 s x2 := by
    unfold x2
    exact Keeps.mono rfl (Keeps.put_fab _ _)
  try clear_value x2
  exact Keeps.tr h3 (Keeps.mono rfl (respond_fr ..))

theorem failRequests_fr (a0) (s : State) : Keeps 3 s (failRequests a0 s) := by
  unfold failRequests
  refine Keeps.tr ?_ (forEach_fr _ _ (fun iz1 sz1 => ?_) _)
  · exact Keeps.refl _ _
  · refine Keeps.tr ?_ (Keeps.mono rfl (failRequest_fr ..))
    exact Keeps.mono rfl (linkFailure_fr ..)

theorem execFlitCrcFail_fr (a0) (s : State) : KeepsOut 3 s (execFlitCrcFail a0 s) := by
  unfold execFlitCrcFail
  refine KeepsOut.next ?_
  extract_lets +onlyGivenNames -merge -useContext x1
  try clear_value x1
  extract_lets +onlyGivenNames -merge -useContext x2
  try clear_value x2
  extract_lets +onlyGivenNames -merge -useContext x3
  try clear_value x3
  refine Keeps.ite ?_ ?_
  · exact Keeps.mono rfl (Keeps.put_fab _ _)
  · extract_lets +onlyGivenNames -merge -useContext x4
    have h5 : Keeps 3 s x4 := by
      unfold x4
      exact Keeps.mono rfl (Keeps.put_fab _ _)
    try clear_value x4
    split
    · refine Keeps.tr ?_ (Keeps.mono rfl (failRequest_fr ..))
      exact Keeps.tr h5 (Keeps.mono rfl (fabricError_fr ..))
    · exact Keeps.tr h5 (Keeps.mono rfl (fabricError_fr ..))

theorem execBridgeLinkTimeout_fr (a0) (s : State) : KeepsOut 524291 s (execBridgeLinkTimeout a0 s) := by
  unfold execBridgeLinkTimeout
  refine KeepsOut.next ?_
  refine Keeps.ite ?_ ?_
  · exact Keeps.refl _ _
  · extract_lets +onlyGivenNames -merge -useContext x1
    have h2 : Keeps 524291 s x1 := by
      unfold x1
      exact Keeps.mono rfl (State_advTo_fr ..)
    try clear_value x1
    extract_lets +onlyGivenNames -merge -useContext x3
    have h4 : Keeps 524291 s x3 := by
      unfold x3
      exact Keeps.tr h2 (Keeps.mono rfl (failRequests_fr ..))
    try clear_value x3
    exact Keeps.tr h4 (Keeps.mono rfl (Keeps.put_fab _ _))

theorem execLinkValidWordsReturn_fr (a0) (s : State) : KeepsOut 1050115 s (execLinkValidWordsReturn a0 s) := by
  unfold execLinkValidWordsReturn
  refine KeepsOut.next ?_
  extract_lets +onlyGivenNames -merge -useContext x1
  try clear_value x1
  extract_lets +onlyGivenNames -merge -useContext x2
  try clear_value x2
  extract_lets +onlyGivenNames -merge -useContext x3
  try clear_value x3
  extract_lets +onlyGivenNames -merge -useContext x4
  have h5 : Keeps 1050115 s x4 := by
    unfold x4
    exact Keeps.mono rfl (Keeps.put_fab _ _)
  try clear_value x4
  refine Keeps.ite ?_ ?_
  · refine Keeps.tr ?_ (Keeps.mono rfl (releaseAllFans_fr ..))
    exact Keeps.tr h5 (Keeps.mono rfl (releaseAllSafe_fr ..))
  · exact h5

theorem execIdleWord_fr (a0) (a1) (s : State) : KeepsOut 2 s (execIdleWord a0 a1 s) := by
  unfold execIdleWord
  refine KeepsOut.next ?_
  exact Keeps.mono rfl (Keeps.put_fab _ _)

theorem execBarkLinkLoss_fr (s : State) : KeepsOut 1574411 s (execBarkLinkLoss s) := by
  unfold execBarkLinkLoss
  refine KeepsOut.next ?_
  refine Keeps.ite ?_ ?_
  · exact Keeps.refl _ _
  · extract_lets +onlyGivenNames -merge -useContext y1 x2
    have h3 : Keeps 1574411 s x2 := by
      unfold x2
      exact Keeps.mono rfl (Keeps.put_fab _ _)
    try clear_value x2
    refine Keeps.tr ?_ (Keeps.mono rfl (barkSafe_fr ..))
    exact Keeps.tr h3 (Keeps.mono rfl (State_advTo_fr ..))

end Sys2Proof.Machine
end

