-- ==== Sys2Proof/Laws/FrameLayers.lean ====
section
/-! SUPPORT. Sys2Proof/Laws/FrameLayers.lean: for each operation of Machine/Layers.lean, what it leaves (Laws/Frame.lean). -/

namespace Sys2Proof.Machine

open Sys2Proof

theorem writeField_fr (a0) (a1) (s : State) : Keeps 1572859 s (writeField a0 a1 s) := by
  unfold writeField
  refine Keeps.ite ?_ ?_
  · exact Keeps.refl _ _
  · refine Keeps.ite ?_ ?_
    · exact Keeps.mono rfl (Keeps.put_fw _ _)
    · refine Keeps.ite ?_ ?_
      · exact Keeps.refl _ _
      · exact Keeps.mono rfl (writeRequest_fr ..)

theorem putField_fr (a0) (a1) (s : State) : Keeps 1572859 s (putField a0 a1 s) := by
  unfold putField
  refine Keeps.ite ?_ ?_
  · refine Keeps.ite ?_ ?_
    · exact Keeps.mono rfl (stage_fr ..)
    · exact Keeps.mono rfl (State_setReg_fr ..)
  · exact Keeps.mono rfl (writeField_fr ..)

theorem putMerged_fr (a0) (a1) (a2) (a3) (s : State) : Keeps 1572859 s (putMerged a0 a1 a2 a3 s) := by
  unfold putMerged
  extract_lets +onlyGivenNames -merge -useContext x1
  try clear_value x1
  extract_lets +onlyGivenNames -merge -useContext x2
  try clear_value x2
  refine Keeps.ite ?_ ?_
  · exact Keeps.refl _ _
  · extract_lets +onlyGivenNames -merge -useContext x3
    have h4 : Keeps 1572859 s x3 := by
      unfold x3
      exact Keeps.mono rfl (putField_fr ..)
    try clear_value x3
    refine Keeps.ite ?_ ?_
    · exact h4
    · exact Keeps.refl _ _

theorem lockSlots_fr (a0) (a1) (s : State) : Keeps 1 s (lockSlots a0 a1 s) := by
  unfold lockSlots
  refine Keeps.ite ?_ ?_
  · refine Keeps.tr ?_ (forEach_fr _ _ (fun iz1 sz1 => ?_) _)
    · exact Keeps.refl _ _
    · exact Keeps.mono rfl (State_setB_fr ..)
  · exact Keeps.refl _ _

theorem rewriteRefs_fr (a0) (a1) (s : State) : Keeps 1572859 s (rewriteRefs a0 a1 s) := by
  unfold rewriteRefs
  extract_lets +onlyGivenNames -merge -useContext x1
  try clear_value x1
  extract_lets +onlyGivenNames -merge -useContext y2 x3
  have h4 : Keeps 1572859 s x3 := by
    unfold x3
    exact Keeps.mono rfl (Keeps.put_fw _ _)
  try clear_value x3
  extract_lets +onlyGivenNames -merge -useContext x5
  try clear_value x5
  extract_lets +onlyGivenNames -merge -useContext x6
  have h7 : ∀ a8 a9 a10, Keeps 1572859 a10 (x6 a8 a9 a10) := by
    intro a8 a9 a10
    unfold x6
    refine Keeps.tr ?_ (forEach_fr _ _ (fun iz11 sz11 => ?_) _)
    · exact Keeps.refl _ _
    · extract_lets +onlyGivenNames -merge -useContext x12
      try clear_value x12
      refine Keeps.tr ?_ (forEach_fr _ _ (fun iz13 sz13 => ?_) _)
      · exact Keeps.refl _ _
      · exact Keeps.mono rfl (putMerged_fr ..)
  try clear_value x6
  extract_lets +onlyGivenNames -merge -useContext x14
  have h15 : ∀ a16 a17, Keeps 1572859 a17 (x14 a16 a17) := by
    intro a16 a17
    unfold x14
    refine Keeps.tr ?_ (h7 _ _ _)
    refine Keeps.tr ?_ (h7 _ _ _)
    exact h7 _ _ _
  try clear_value x14
  extract_lets +onlyGivenNames -merge -useContext x18
  have h19 : Keeps 1572859 s x18 := by
    unfold x18
    refine Keeps.tr ?_ (forEach_fr _ _ (fun iz20 sz20 => ?_) _)
    · exact Keeps.tr h4 (Keeps.mono rfl (lockSlots_fr ..))
    · exact Keeps.mono rfl (writeField_fr ..)
  try clear_value x18
  extract_lets +onlyGivenNames -merge -useContext x21
  have h22 : Keeps 1572859 s x21 := by
    unfold x21
    refine Keeps.tr ?_ (h15 _ _)
    exact Keeps.tr h19 (h15 _ _)
  try clear_value x21
  extract_lets +onlyGivenNames -merge -useContext x23
  have h24 : Keeps 1572859 s x23 := by
    unfold x23
    refine Keeps.tr ?_ (forEach_fr _ _ (fun iz25 sz25 => ?_) _)
    · exact h22
    · refine Keeps.ite ?_ ?_
      · exact Keeps.refl _ _
      · exact Keeps.mono rfl (writeField_fr ..)
  try clear_value x23
  exact Keeps.tr h24 (Keeps.mono rfl (lockSlots_fr ..))

theorem stopTune_fr (a0) (a1) (s : State) : Keeps 257 s (stopTune a0 a1 s) := by
  unfold stopTune
  split
  · extract_lets +onlyGivenNames -merge -useContext y1 x2
    have h3 : Keeps 257 s x2 := by
      unfold x2
      exact Keeps.mono rfl (Keeps.put_camb _ _)
    try clear_value x2
    exact Keeps.tr h3 (Keeps.mono rfl (stopTuner_fr ..))
  · exact Keeps.refl _ _

theorem stopPush_fr (a0) (a1) (s : State) : Keeps 4104 s (stopPush a0 a1 s) := by
  unfold stopPush
  extract_lets +onlyGivenNames -merge -useContext y1 y2 x3
  have h4 : Keeps 4104 s x3 := by
    unfold x3
    exact Keeps.mono rfl (Keeps.put_fw_gft _ _ _)
  try clear_value x3
  exact Keeps.tr h4 (Keeps.mono rfl (finishCmd_fr ..))

theorem stopService_fr (a0) (a1) (a2) (s : State) : Keeps 1053579 s (stopService a0 a1 a2 s) := by
  unfold stopService
  split
  · split
    · exact Keeps.mono rfl (stopTune_fr ..)
    · exact Keeps.refl _ _
  · split
    · exact Keeps.mono rfl (calFail_fr ..)
    · exact Keeps.refl _ _
  · exact Keeps.mono rfl (endRun_fr ..)
  · split
    · exact Keeps.mono rfl (stopPush_fr ..)
    · exact Keeps.refl _ _

theorem endOverride_fr (a0) (s : State) : Keeps 8 s (endOverride a0 s) := by
  unfold endOverride
  split
  · exact Keeps.mono rfl (Keeps.put_fw _ _)
  · exact Keeps.mono rfl (Keeps.put_fw _ _)
  · exact Keeps.refl _ _

theorem claimEnds_fr (a0) (s : State) : Keeps 1151563 s (claimEnds a0 s) := by
  unfold claimEnds
  extract_lets +onlyGivenNames -merge -useContext y1 x2
  have h3 : Keeps 1151563 s x2 := by
    unfold x2
    exact Keeps.mono rfl (Keeps.put_fw _ _)
  try clear_value x2
  extract_lets +onlyGivenNames -merge -useContext y4 y5 x7
  have h6 : Keeps 1151563 s y5 := by
    unfold y5
    refine Keeps.ite ?_ ?_
    · exact Keeps.tr h3 (Keeps.mono rfl (State_setReg_fr ..))
    · exact h3
  have h8 : Keeps 1151563 s x7 := by
    unfold x7
    refine Keeps.ite ?_ ?_
    · refine Keeps.ite ?_ ?_
      · exact Keeps.tr h6 (Keeps.mono rfl (stageStop_fr ..))
      · exact h6
    · exact h3
  try clear_value x7
  extract_lets +onlyGivenNames -merge -useContext y9 x10
  have h11 : Keeps 1151563 s x10 := by
    unfold x10
    refine Keeps.ite ?_ ?_
    · refine Keeps.tr ?_ (forEach_fr _ _ (fun iz12 sz12 => ?_) _)
      · exact Keeps.tr h8 (Keeps.mono rfl (Keeps.put_grr _ _))
      · exact Keeps.mono rfl (preswrWrite_fr ..)
    · exact h8
  try clear_value x10
  refine Keeps.ite ?_ ?_
  · exact Keeps.tr h11 (Keeps.mono rfl (applyWaitingTime_fr ..))
  · exact h11

theorem takeResource_fr (a0) (s : State) : Keeps 1151947 s (takeResource a0 s) := by
  unfold takeResource
  extract_lets +onlyGivenNames -merge -useContext x1
  try clear_value x1
  refine Keeps.ite ?_ ?_
  · extract_lets +onlyGivenNames -merge -useContext x2
    have h3 : Keeps 1151947 s x2 := by
      unfold x2
      exact Keeps.mono rfl (endOverride_fr ..)
    try clear_value x2
    extract_lets +onlyGivenNames -merge -useContext x4
    have h5 : Keeps 1151947 s x4 := by
      unfold x4
      refine Keeps.ite ?_ ?_
      · refine Keeps.tr ?_ (Keeps.mono rfl (ringEvent_fr ..))
        exact Keeps.tr h3 (Keeps.mono rfl (claimEnds_fr ..))
      · exact h3
    try clear_value x4
    split
    · exact Keeps.tr h5 (Keeps.mono rfl (stopService_fr ..))
    · exact h5
  · exact Keeps.refl _ _

theorem writeOrder_fr (s : State) : Keeps 1 s (writeOrder s) := by
  unfold writeOrder
  refine Keeps.ite ?_ ?_
  · extract_lets +onlyGivenNames -merge -useContext x1
    try clear_value x1
    refine Keeps.tr ?_ (forRange_fr _ _ (fun iz2 sz2 => ?_) _)
    · exact Keeps.refl _ _
    · exact Keeps.mono rfl (State_setReg_fr ..)
  · exact Keeps.refl _ _

theorem refreshDblk_fr (s : State) : Keeps 1 s (refreshDblk s) := by
  unfold refreshDblk
  refine Keeps.ite ?_ ?_
  · refine Keeps.tr ?_ (forRange_fr _ _ (fun iz1 sz1 => ?_) _)
    · exact Keeps.refl _ _
    · refine Keeps.tr ?_ (forRange_fr _ _ (fun iz2 sz2 => ?_) _)
      · exact Keeps.refl _ _
      · extract_lets +onlyGivenNames -merge -useContext x3
        try clear_value x3
        refine Keeps.ite ?_ ?_
        · extract_lets +onlyGivenNames -merge -useContext x4
          try clear_value x4
          extract_lets +onlyGivenNames -merge -useContext x5
          try clear_value x5
          exact Keeps.mono rfl (State_setB_fr ..)
        · exact Keeps.mono rfl (State_setB_fr ..)
  · exact Keeps.refl _ _

theorem refreshDemand_fr (a0) (s : State) : Keeps 1537 s (refreshDemand a0 s) := by
  unfold refreshDemand
  split
  · exact Keeps.mono rfl (applyDemand_fr ..)
  · exact Keeps.mono rfl (applyFan_fr ..)
  · exact Keeps.refl _ _

theorem refreshSp_fr (a0) (s : State) : Keeps 8 s (refreshSp a0 s) := by
  unfold refreshSp
  exact Keeps.mono rfl (setZone_fr ..)

theorem refreshSetpoints_fr (s : State) : Keeps 8 s (refreshSetpoints s) := by
  unfold refreshSetpoints
  refine Keeps.ite ?_ ?_
  · refine Keeps.tr ?_ (forRange_fr _ _ (fun iz1 sz1 => ?_) _)
    · exact Keeps.refl _ _
    · exact Keeps.mono rfl (refreshSp_fr ..)
  · exact Keeps.refl _ _

theorem setMotors_fr (s : State) : Keeps 1 s (setMotors s) := by
  unfold setMotors
  refine Keeps.tr ?_ (forRange_fr _ _ (fun iz1 sz1 => ?_) _)
  · exact Keeps.refl _ _
  · split
    · refine Keeps.ite ?_ ?_
      · exact Keeps.refl _ _
      · exact Keeps.mono rfl (State_setB_fr ..)
    · exact Keeps.refl _ _

theorem applyRefs_fr (a0) (a1) (s : State) : Keeps 1572859 s (applyRefs a0 a1 s) := by
  unfold applyRefs
  extract_lets +onlyGivenNames -merge -useContext x1
  have h2 : Keeps 1572859 s x1 := by
    unfold x1
    refine Keeps.tr ?_ (forEach_fr _ _ (fun iz3 sz3 => ?_) _)
    · exact Keeps.refl _ _
    · exact Keeps.mono rfl (takeResource_fr ..)
  try clear_value x1
  extract_lets +onlyGivenNames -merge -useContext x4
  try clear_value x4
  extract_lets +onlyGivenNames -merge -useContext x5
  have h6 : Keeps 1572859 s x5 := by
    unfold x5
    refine Keeps.tr ?_ (Keeps.mono rfl (setMotors_fr ..))
    refine Keeps.tr ?_ (Keeps.mono rfl (refreshSetpoints_fr ..))
    refine Keeps.tr ?_ (Keeps.mono rfl (writeOrder_fr ..))
    exact Keeps.tr h2 (Keeps.mono rfl (rewriteRefs_fr ..))
  try clear_value x5
  refine Keeps.tr ?_ (Keeps.mono rfl (refreshDblk_fr ..))
  refine Keeps.tr ?_ (forEach_fr _ _ (fun iz7 sz7 => ?_) _)
  · exact h6
  · exact Keeps.mono rfl (refreshDemand_fr ..)

theorem switchLayers_fr (a0) (s : State) : Keeps 1572859 s (switchLayers a0 s) := by
  unfold switchLayers
  exact Keeps.mono rfl (applyRefs_fr ..)

theorem putOvlen_fr (s : State) : Keeps 1 s (putOvlen s) := by
  unfold putOvlen
  split
  · refine Keeps.ite ?_ ?_
    · exact Keeps.refl _ _
    · exact Keeps.mono rfl (State_setB_fr ..)
  · exact Keeps.refl _ _

theorem passBack_fr (a0) (s : State) : Keeps 1572859 s (passBack a0 s) := by
  unfold passBack
  refine Keeps.ite ?_ ?_
  · extract_lets +onlyGivenNames -merge -useContext x1
    have h2 : Keeps 1572859 s x1 := by
      unfold x1
      refine Keeps.tr ?_ (Keeps.mono rfl (rewriteRefs_fr ..))
      refine Keeps.ite ?_ ?_
      · exact Keeps.mono rfl (putOvlen_fr ..)
      · exact Keeps.refl _ _
    try clear_value x1
    extract_lets +onlyGivenNames -merge -useContext x3
    have h4 : Keeps 1572859 s x3 := by
      unfold x3
      refine Keeps.ite ?_ ?_
      · exact Keeps.tr h2 (Keeps.mono rfl (writeOrder_fr ..))
      · exact h2
    try clear_value x3
    extract_lets +onlyGivenNames -merge -useContext x5
    have h6 : Keeps 1572859 s x5 := by
      unfold x5
      refine Keeps.ite ?_ ?_
      · exact Keeps.tr h4 (Keeps.mono rfl (refreshSp_fr ..))
      · exact h4
    try clear_value x5
    refine Keeps.tr ?_ (Keeps.mono rfl (refreshDblk_fr ..))
    refine Keeps.tr ?_ (Keeps.mono rfl (refreshDemand_fr ..))
    exact Keeps.tr h6 (Keeps.mono rfl (setMotors_fr ..))
  · exact Keeps.mono rfl (refreshDblk_fr ..)

theorem setTrig_fr (a0) (a1) (a2) (s : State) : Keeps 8 s (setTrig a0 a1 a2 s) := by
  unfold setTrig
  exact Keeps.mono rfl (Keeps.put_fw _ _)

theorem evalTrig_fr (a0) (a1) (s : State) : Keeps 8 s (evalTrig a0 a1 s) := by
  unfold evalTrig
  split
  · exact Keeps.refl _ _
  · extract_lets +onlyGivenNames -merge -useContext x1
    try clear_value x1
    extract_lets +onlyGivenNames -merge -useContext x2
    try clear_value x2
    split
    · exact Keeps.mono rfl (setTrig_fr ..)
    · exact Keeps.mono rfl (setTrig_fr ..)

theorem startTriggers_fr (s : State) : Keeps 8 s (startTriggers s) := by
  unfold startTriggers
  extract_lets +onlyGivenNames -merge -useContext y1 x2
  have h3 : Keeps 8 s x2 := by
    unfold x2
    exact Keeps.mono rfl (Keeps.put_fw _ _)
  try clear_value x2
  refine Keeps.tr ?_ (forRange_fr _ _ (fun iz4 sz4 => ?_) _)
  · exact h3
  · refine Keeps.tr ?_ (forRange_fr _ _ (fun iz5 sz5 => ?_) _)
    · exact Keeps.refl _ _
    · split
      · refine Keeps.tr ?_ (Keeps.mono rfl (evalTrig_fr ..))
        exact Keeps.mono rfl (setTrig_fr ..)
      · exact Keeps.refl _ _

theorem refreshLayers_fr (s : State) : Keeps 1572859 s (refreshLayers s) := by
  unfold refreshLayers
  extract_lets +onlyGivenNames -merge -useContext x1
  try clear_value x1
  extract_lets +onlyGivenNames -merge -useContext x2
  try clear_value x2
  extract_lets +onlyGivenNames -merge -useContext x3
  try clear_value x3
  refine Keeps.ite ?_ ?_
  · exact Keeps.refl _ _
  · refine Keeps.tr ?_ (Keeps.mono rfl (ringEvent_fr ..))
    refine Keeps.tr ?_ (Keeps.mono rfl (switchLayers_fr ..))
    exact Keeps.mono rfl (Keeps.put_fw _ _)

theorem execTriggerEvaluation_fr (s : State) : KeepsOut 1572859 s (execTriggerEvaluation s) := by
  unfold execTriggerEvaluation
  refine KeepsOut.next ?_
  refine Keeps.ite ?_ ?_
  · refine Keeps.tr ?_ (Keeps.mono rfl (refreshLayers_fr ..))
    refine Keeps.tr ?_ (forRange_fr _ _ (fun iz1 sz1 => ?_) _)
    · exact Keeps.refl _ _
    · refine Keeps.tr ?_ (forRange_fr _ _ (fun iz2 sz2 => ?_) _)
      · exact Keeps.refl _ _
      · exact Keeps.mono rfl (evalTrig_fr ..)
  · exact Keeps.refl _ _

theorem execTriggerDelayExpiry_fr (a0) (a1) (s : State) : KeepsOut 2097147 s (execTriggerDelayExpiry a0 a1 s) := by
  unfold execTriggerDelayExpiry
  refine KeepsOut.next ?_
  split
  · refine Keeps.tr ?_ (Keeps.mono rfl (refreshLayers_fr ..))
    refine Keeps.tr ?_ (Keeps.mono rfl (evalTrig_fr ..))
    exact Keeps.mono rfl (State_advTo_fr ..)
  · exact Keeps.refl _ _

theorem execTriggerStartupTimeout_fr (a0) (a1) (s : State) : KeepsOut 2097147 s (execTriggerStartupTimeout a0 a1 s) := by
  unfold execTriggerStartupTimeout
  refine KeepsOut.next ?_
  split
  · extract_lets +onlyGivenNames -merge -useContext x1
    have h2 : Keeps 2097147 s x1 := by
      unfold x1
      exact Keeps.mono rfl (State_advTo_fr ..)
    try clear_value x1
    refine Keeps.tr ?_ (Keeps.mono rfl (refreshLayers_fr ..))
    refine Keeps.tr ?_ (Keeps.mono rfl (evalTrig_fr ..))
    exact Keeps.tr h2 (Keeps.mono rfl (setTrig_fr ..))
  · exact Keeps.refl _ _

theorem handBackAll_fr (s : State) : Keeps 1572859 s (handBackAll s) := by
  unfold handBackAll
  refine Keeps.tr ?_ (forEach_fr _ _ (fun iz1 sz1 => ?_) _)
  · exact Keeps.mono rfl (Keeps.put_fw _ _)
  · exact Keeps.mono rfl (passBack_fr ..)

theorem endService_fr (a0) (a1) (s : State) : Keeps 1572859 s (endService a0 a1 s) := by
  unfold endService
  extract_lets +onlyGivenNames -merge -useContext x1
  try clear_value x1
  extract_lets +onlyGivenNames -merge -useContext y2 x3
  have h4 : Keeps 1572859 s x3 := by
    unfold x3
    exact Keeps.mono rfl (Keeps.put_fw _ _)
  try clear_value x3
  refine Keeps.tr ?_ (forEach_fr _ _ (fun iz5 sz5 => ?_) _)
  · exact h4
  · exact Keeps.mono rfl (passBack_fr ..)

end Sys2Proof.Machine
end

