-- ==== Sys2Proof/Laws/FrameSchedules.lean ====
section
/-! SUPPORT. Sys2Proof/Laws/FrameSchedules.lean: for each operation of Machine/Schedules.lean, what it leaves (Laws/Frame.lean). -/

namespace Sys2Proof.Machine

open Sys2Proof

theorem notePresence_fr (a0) (s : State) : Keeps 8 s (notePresence a0 s) := by
  unfold notePresence
  extract_lets +onlyGivenNames -merge -useContext x1
  try clear_value x1
  extract_lets +onlyGivenNames -merge -useContext x2
  try clear_value x2
  extract_lets +onlyGivenNames -merge -useContext x3
  try clear_value x3
  exact Keeps.mono rfl (setZone_fr ..)

theorem recomputeZone_fr (a0) (s : State) : Keeps 8 s (recomputeZone a0 s) := by
  unfold recomputeZone
  extract_lets +onlyGivenNames -merge -useContext x1
  try clear_value x1
  extract_lets +onlyGivenNames -merge -useContext x2
  try clear_value x2
  split
  · exact Keeps.mono rfl (setZone_fr ..)
  · split
    · exact Keeps.mono rfl (setZone_fr ..)
    · exact Keeps.mono rfl (setZone_fr ..)

theorem recomputeModes_fr (a0) (s : State) : Keeps 1572859 s (recomputeModes a0 s) := by
  unfold recomputeModes
  refine Keeps.ite ?_ ?_
  · exact Keeps.refl _ _
  · extract_lets +onlyGivenNames -merge -useContext x1
    have h2 : Keeps 1572859 s x1 := by
      unfold x1
      refine Keeps.tr ?_ (forEach_fr _ _ (fun iz3 sz3 => ?_) _)
      · exact Keeps.refl _ _
      · exact Keeps.mono rfl (recomputeZone_fr ..)
    try clear_value x1
    refine Keeps.ite ?_ ?_
    · refine Keeps.tr ?_ (forEach_fr _ _ (fun iz4 sz4 => ?_) _)
      · exact h2
      · exact Keeps.mono rfl (refreshSp_fr ..)
    · refine Keeps.tr ?_ (Keeps.mono rfl (switchLayers_fr ..))
      exact Keeps.tr h2 (Keeps.mono rfl (ringEvent_fr ..))

theorem levelSchedules_fr (a0) (s : State) : Keeps 73 s (levelSchedules a0 s) := by
  unfold levelSchedules
  refine Keeps.tr ?_ (forRange_fr _ _ (fun iz1 sz1 => ?_) _)
  · exact Keeps.refl _ _
  · extract_lets +onlyGivenNames -merge -useContext x2
    refine Keeps.ite ?_ ?_
    · extract_lets +onlyGivenNames -merge -useContext x3
      refine Keeps.ite ?_ ?_
      · exact Keeps.refl _ _
      · extract_lets +onlyGivenNames -merge -useContext y4 x5
        have h6 : Keeps 73 sz1 x5 := by
          unfold x5
          exact Keeps.mono rfl (Keeps.put_fw _ _)
        refine Keeps.ite ?_ ?_
        · exact Keeps.tr h6 (Keeps.mono rfl (publishVirtual_fr ..))
        · exact h6
    · exact Keeps.refl _ _

theorem evalSchedules_fr (s : State) : Keeps 1572859 s (evalSchedules s) := by
  unfold evalSchedules
  extract_lets +onlyGivenNames -merge -useContext x1
  have h2 : Keeps 1572859 s x1 := by
    unfold x1
    split
    · exact Keeps.mono rfl (levelSchedules_fr ..)
    · exact Keeps.refl _ _
  try clear_value x1
  exact Keeps.tr h2 (Keeps.mono rfl (recomputeModes_fr ..))

theorem execScheduleEvaluation_fr (s : State) : KeepsOut 1572859 s (execScheduleEvaluation s) := by
  unfold execScheduleEvaluation
  refine KeepsOut.next ?_
  refine Keeps.ite ?_ ?_
  · exact Keeps.mono rfl (evalSchedules_fr ..)
  · exact Keeps.refl _ _

theorem execPresenceChange_fr (a0) (s : State) : KeepsOut 1572859 s (execPresenceChange a0 s) := by
  unfold execPresenceChange
  refine KeepsOut.next ?_
  refine Keeps.ite ?_ ?_
  · refine Keeps.tr ?_ (Keeps.mono rfl (recomputeModes_fr ..))
    exact Keeps.mono rfl (notePresence_fr ..)
  · exact Keeps.refl _ _

theorem endBin_fr (a0) (a1) (s : State) : Keeps 32777 s (endBin a0 a1 s) := by
  unfold endBin
  extract_lets +onlyGivenNames -merge -useContext x1
  have h2 : Keeps 32777 s x1 := by
    unfold x1
    exact Keeps.mono rfl (notePresence_fr ..)
  try clear_value x1
  extract_lets +onlyGivenNames -merge -useContext x3
  try clear_value x3
  extract_lets +onlyGivenNames -merge -useContext x4
  try clear_value x4
  extract_lets +onlyGivenNames -merge -useContext x5
  try clear_value x5
  extract_lets +onlyGivenNames -merge -useContext x6
  try clear_value x6
  extract_lets +onlyGivenNames -merge -useContext x7
  try clear_value x7
  extract_lets +onlyGivenNames -merge -useContext x8
  try clear_value x8
  extract_lets +onlyGivenNames -merge -useContext x9
  try clear_value x9
  extract_lets +onlyGivenNames -merge -useContext x10
  have h11 : Keeps 32777 s x10 := by
    unfold x10
    exact Keeps.tr h2 (Keeps.mono rfl (setZone_fr ..))
  try clear_value x10
  extract_lets +onlyGivenNames -merge -useContext x12
  try clear_value x12
  refine Keeps.ite ?_ ?_
  · exact h11
  · refine Keeps.ite ?_ ?_
    · exact Keeps.tr h11 (Keeps.mono rfl (Keeps.put_grr _ _))
    · exact Keeps.tr h11 (Keeps.mono rfl (preswr_fr ..))

theorem execPresenceBinEnd_fr (a0) (s : State) : KeepsOut 32777 s (execPresenceBinEnd a0 s) := by
  unfold execPresenceBinEnd
  refine KeepsOut.next ?_
  split
  · refine Keeps.ite ?_ ?_
    · exact Keeps.mono rfl (endBin_fr ..)
    · exact Keeps.refl _ _
  · exact Keeps.refl _ _

theorem showLeads_fr (a0) (a1) (s : State) : Keeps 257 s (showLeads a0 a1 s) := by
  unfold showLeads
  refine Keeps.tr ?_ (Keeps.mono rfl (State_setReg_fr ..))
  exact Keeps.mono rfl (setMod_fr ..)

theorem judgeLeads_fr (a0) (s : State) : Keeps 265 s (judgeLeads a0 s) := by
  unfold judgeLeads
  refine Keeps.ite ?_ ?_
  · exact Keeps.mono rfl (showLeads_fr ..)
  · split
    · exact Keeps.refl _ _
    · extract_lets +onlyGivenNames -merge -useContext y1 y2 y4 x5
      have h3 : Keeps 265 s y2 := by
        unfold y2
        exact Keeps.mono rfl (showLeads_fr ..)
      have h6 : Keeps 265 s x5 := by
        unfold x5
        refine Keeps.ite ?_ ?_
        · split
          · refine Keeps.ite ?_ ?_
            · exact Keeps.tr h3 (Keeps.mono rfl (setZone_fr ..))
            · exact h3
          · exact Keeps.refl _ _
        · exact Keeps.refl _ _
      try clear_value x5
      refine Keeps.ite ?_ ?_
      · split
        · extract_lets +onlyGivenNames -merge -useContext x7
          try clear_value x7
          extract_lets +onlyGivenNames -merge -useContext x8
          have h9 : Keeps 265 s x8 := by
            unfold x8
            exact Keeps.tr h6 (Keeps.mono rfl (showLeads_fr ..))
          try clear_value x8
          refine Keeps.ite ?_ ?_
          · exact Keeps.tr h9 (Keeps.mono rfl (setZone_fr ..))
          · exact h9
        · exact h6
      · exact h6

theorem execModelUpdate_fr (a0) (s : State) : KeepsOut 2097147 s (execModelUpdate a0 s) := by
  unfold execModelUpdate
  refine KeepsOut.next ?_
  refine Keeps.ite ?_ ?_
  · extract_lets +onlyGivenNames -merge -useContext x1
    have h2 : Keeps 2097147 s x1 := by
      unfold x1
      exact Keeps.mono rfl (State_advTo_fr ..)
    try clear_value x1
    extract_lets +onlyGivenNames -merge -useContext x3
    have h4 : Keeps 2097147 s x3 := by
      unfold x3
      exact Keeps.tr h2 (Keeps.mono rfl (modelBoundary_fr ..))
    try clear_value x3
    refine Keeps.ite ?_ ?_
    · refine Keeps.tr ?_ (Keeps.mono rfl (recomputeModes_fr ..))
      exact Keeps.tr h4 (Keeps.mono rfl (judgeLeads_fr ..))
    · exact h4
  · exact Keeps.refl _ _

theorem execZoneRead_fr (a0) (s : State) : KeepsOut 8 s (execZoneRead a0 s) := by
  unfold execZoneRead
  refine KeepsOut.next ?_
  refine Keeps.tr ?_ (runCmd_fr rfl _ _ _ (fun iz1 sz1 => ?_) _)
  · exact Keeps.refl _ _
  · extract_lets +onlyGivenNames -merge -useContext x2
    try clear_value x2
    extract_lets +onlyGivenNames -merge -useContext x3
    try clear_value x3
    refine checked_fr ?_ ?_
    · exact Keeps.refl _ _
    · extract_lets +onlyGivenNames -merge -useContext x4
      try clear_value x4
      extract_lets +onlyGivenNames -merge -useContext x5
      try clear_value x5
      extract_lets +onlyGivenNames -merge -useContext x6
      try clear_value x6
      refine Keeps.pair ?_
      exact Keeps.refl _ _

theorem execZoneSetpoint_fr (a0) (s : State) : KeepsOut 8 s (execZoneSetpoint a0 s) := by
  unfold execZoneSetpoint
  refine KeepsOut.next ?_
  refine Keeps.tr ?_ (runCmd_fr rfl _ _ _ (fun iz1 sz1 => ?_) _)
  · exact Keeps.refl _ _
  · extract_lets +onlyGivenNames -merge -useContext x2
    try clear_value x2
    extract_lets +onlyGivenNames -merge -useContext x3
    try clear_value x3
    extract_lets +onlyGivenNames -merge -useContext x4
    try clear_value x4
    extract_lets +onlyGivenNames -merge -useContext x5
    try clear_value x5
    refine checked_fr ?_ ?_
    · exact Keeps.refl _ _
    · refine Keeps.ite2 ?_ ?_
      · refine Keeps.pair ?_
        exact Keeps.refl _ _
      · refine checked_fr ?_ ?_
        · exact Keeps.refl _ _
        · extract_lets +onlyGivenNames -merge -useContext y6 x7
          have h8 : Keeps 8 sz1 x7 := by
            unfold x7
            exact Keeps.mono rfl (Keeps.put_fw _ _)
          try clear_value x7
          refine Keeps.pair ?_
          exact Keeps.tr h8 (Keeps.mono rfl (refreshSp_fr ..))

theorem execZoneModel_fr (a0) (s : State) : KeepsOut 8 s (execZoneModel a0 s) := by
  unfold execZoneModel
  refine KeepsOut.next ?_
  refine Keeps.tr ?_ (runCmd_fr rfl _ _ _ (fun iz1 sz1 => ?_) _)
  · exact Keeps.refl _ _
  · extract_lets +onlyGivenNames -merge -useContext x2
    try clear_value x2
    extract_lets +onlyGivenNames -merge -useContext x3
    try clear_value x3
    refine checked_fr ?_ ?_
    · exact Keeps.refl _ _
    · refine Keeps.pair ?_
      exact Keeps.refl _ _

theorem execZoneModelReset_fr (a0) (s : State) : KeepsOut 8457 s (execZoneModelReset a0 s) := by
  unfold execZoneModelReset
  refine KeepsOut.next ?_
  refine Keeps.tr ?_ (runCmd_fr rfl _ _ _ (fun iz1 sz1 => ?_) _)
  · exact Keeps.refl _ _
  · extract_lets +onlyGivenNames -merge -useContext x2
    try clear_value x2
    refine checked_fr ?_ ?_
    · exact Keeps.refl _ _
    · refine Keeps.ite2 ?_ ?_
      · refine Keeps.pair ?_
        exact Keeps.refl _ _
      · extract_lets +onlyGivenNames -merge -useContext x3
        have h4 : Keeps 8457 sz1 x3 := by
          unfold x3
          refine Keeps.tr ?_ (Keeps.mono rfl (showLeads_fr ..))
          exact Keeps.mono rfl (resetModel_fr ..)
        try clear_value x3
        refine Keeps.pair ?_
        exact Keeps.tr h4 (Keeps.mono rfl (Keeps.put_heart _ _))

theorem putSched_fr (a0) (a1) (a2) (a3) (s : State) : Keeps 8 s (putSched a0 a1 a2 a3 s) := by
  unfold putSched
  extract_lets +onlyGivenNames -merge -useContext x1
  try clear_value x1
  exact Keeps.mono rfl (Keeps.put_fw _ _)

theorem putCal_fr (a0) (a1) (s : State) : Keeps 8 s (putCal a0 a1 s) := by
  unfold putCal
  exact Keeps.mono rfl (Keeps.put_fw _ _)

theorem sendSchedTo_fr (a0) (a1) (a2) (s : State) : Keeps 4096 s (sendSchedTo a0 a1 a2 s) := by
  unfold sendSchedTo
  refine Keeps.tr ?_ (forRange_fr _ _ (fun iz1 sz1 => ?_) _)
  · exact Keeps.refl _ _
  · exact Keeps.mono rfl (sendReliable_fr ..)

theorem sendCalTo_fr (a0) (a1) (s : State) : Keeps 4096 s (sendCalTo a0 a1 s) := by
  unfold sendCalTo
  refine Keeps.tr ?_ (forRange_fr _ _ (fun iz1 sz1 => ?_) _)
  · exact Keeps.refl _ _
  · exact Keeps.mono rfl (sendReliable_fr ..)

theorem distributeSched_fr (a0) (s : State) : Keeps 4096 s (distributeSched a0 s) := by
  unfold distributeSched
  refine Keeps.ite ?_ ?_
  · refine Keeps.tr ?_ (forEach_fr _ _ (fun iz1 sz1 => ?_) _)
    · exact Keeps.mono rfl (freshLine_fr ..)
    · exact Keeps.mono rfl (sendSchedTo_fr ..)
  · exact Keeps.refl _ _

theorem distributeCal_fr (s : State) : Keeps 4096 s (distributeCal s) := by
  unfold distributeCal
  refine Keeps.ite ?_ ?_
  · refine Keeps.tr ?_ (forEach_fr _ _ (fun iz1 sz1 => ?_) _)
    · exact Keeps.mono rfl (freshLine_fr ..)
    · exact Keeps.mono rfl (sendCalTo_fr ..)
  · exact Keeps.refl _ _

theorem execSchedRead_fr (a0) (s : State) : KeepsOut 8 s (execSchedRead a0 s) := by
  unfold execSchedRead
  refine KeepsOut.next ?_
  refine Keeps.tr ?_ (runCmd_fr rfl _ _ _ (fun iz1 sz1 => ?_) _)
  · exact Keeps.refl _ _
  · extract_lets +onlyGivenNames -merge -useContext x2
    try clear_value x2
    extract_lets +onlyGivenNames -merge -useContext x3
    try clear_value x3
    extract_lets +onlyGivenNames -merge -useContext x4
    try clear_value x4
    refine checked_fr ?_ ?_
    · exact Keeps.refl _ _
    · refine Keeps.pair ?_
      exact Keeps.refl _ _

theorem execSchedWrite_fr (a0) (s : State) : KeepsOut 1572859 s (execSchedWrite a0 s) := by
  unfold execSchedWrite
  refine KeepsOut.next ?_
  refine Keeps.tr ?_ (runCmd_fr rfl _ _ _ (fun iz1 sz1 => ?_) _)
  · exact Keeps.refl _ _
  · extract_lets +onlyGivenNames -merge -useContext x2
    try clear_value x2
    extract_lets +onlyGivenNames -merge -useContext x3
    try clear_value x3
    extract_lets +onlyGivenNames -merge -useContext x4
    try clear_value x4
    extract_lets +onlyGivenNames -merge -useContext x5
    try clear_value x5
    refine checked_fr ?_ ?_
    · exact Keeps.refl _ _
    · refine Keeps.ite2 ?_ ?_
      · refine Keeps.pair ?_
        exact Keeps.refl _ _
      · refine checked_fr ?_ ?_
        · exact Keeps.refl _ _
        · refine Keeps.pair ?_
          refine Keeps.tr ?_ (Keeps.mono rfl (evalSchedules_fr ..))
          refine Keeps.tr ?_ (Keeps.mono rfl (distributeSched_fr ..))
          refine Keeps.tr ?_ (Keeps.mono rfl (ringEvent_fr ..))
          exact Keeps.mono rfl (putSched_fr ..)

theorem execSchedCalendar_fr (a0) (s : State) : KeepsOut 1572859 s (execSchedCalendar a0 s) := by
  unfold execSchedCalendar
  refine KeepsOut.next ?_
  refine Keeps.tr ?_ (runCmd_fr rfl _ _ _ (fun iz1 sz1 => ?_) _)
  · exact Keeps.refl _ _
  · extract_lets +onlyGivenNames -merge -useContext x2
    try clear_value x2
    extract_lets +onlyGivenNames -merge -useContext x3
    try clear_value x3
    extract_lets +onlyGivenNames -merge -useContext x4
    try clear_value x4
    extract_lets +onlyGivenNames -merge -useContext x5
    try clear_value x5
    extract_lets +onlyGivenNames -merge -useContext x6
    try clear_value x6
    refine checked_fr ?_ ?_
    · exact Keeps.refl _ _
    · refine Keeps.ite2 ?_ ?_
      · refine Keeps.pair ?_
        exact Keeps.refl _ _
      · refine Keeps.ite2 ?_ ?_
        · refine Keeps.pair ?_
          exact Keeps.refl _ _
        · refine checked_fr ?_ ?_
          · exact Keeps.refl _ _
          · extract_lets +onlyGivenNames -merge -useContext x7
            have h8 : Keeps 1572859 sz1 x7 := by
              unfold x7
              refine Keeps.tr ?_ (Keeps.mono rfl (evalSchedules_fr ..))
              refine Keeps.tr ?_ (Keeps.mono rfl (distributeCal_fr ..))
              refine Keeps.tr ?_ (Keeps.mono rfl (ringEvent_fr ..))
              exact Keeps.mono rfl (putCal_fr ..)
            try clear_value x7
            refine Keeps.pair ?_
            exact h8

theorem execSchedOccupancy_fr (a0) (s : State) : KeepsOut 8 s (execSchedOccupancy a0 s) := by
  unfold execSchedOccupancy
  refine KeepsOut.next ?_
  refine Keeps.tr ?_ (runCmd_fr rfl _ _ _ (fun iz1 sz1 => ?_) _)
  · exact Keeps.refl _ _
  · extract_lets +onlyGivenNames -merge -useContext x2
    try clear_value x2
    extract_lets +onlyGivenNames -merge -useContext x3
    try clear_value x3
    extract_lets +onlyGivenNames -merge -useContext x4
    try clear_value x4
    refine checked_fr ?_ ?_
    · exact Keeps.refl _ _
    · extract_lets +onlyGivenNames -merge -useContext x5
      try clear_value x5
      extract_lets +onlyGivenNames -merge -useContext x6
      try clear_value x6
      refine Keeps.pair ?_
      exact Keeps.refl _ _

end Sys2Proof.Machine
end

