-- ==== Sys2Proof/Laws/FrameConfigLoad.lean ====
section
/-! SUPPORT. Sys2Proof/Laws/FrameConfigLoad.lean: for each operation of Machine/ConfigLoad.lean, what it leaves (Laws/Frame.lean). -/

namespace Sys2Proof.Machine

open Sys2Proof

theorem execCfgLoadBegin_fr (a0) (s : State) : KeepsOut 8 s (execCfgLoadBegin a0 s) := by
  unfold execCfgLoadBegin
  refine KeepsOut.next ?_
  refine Keeps.tr ?_ (runCmd_fr rfl _ _ _ (fun iz1 sz1 => ?_) _)
  · exact Keeps.refl _ _
  · extract_lets +onlyGivenNames -merge -useContext x2
    try clear_value x2
    extract_lets +onlyGivenNames -merge -useContext x3
    try clear_value x3
    extract_lets +onlyGivenNames -merge -useContext x4
    try clear_value x4
    refine checked_fr ?_ ?_
    · exact Keeps.refl _ _
    · refine Keeps.pair ?_
      exact Keeps.mono rfl (Keeps.put_fw _ _)

theorem execCfgLoadData_fr (a0) (s : State) : KeepsOut 8 s (execCfgLoadData a0 s) := by
  unfold execCfgLoadData
  refine KeepsOut.next ?_
  refine Keeps.tr ?_ (runCmd_fr rfl _ _ _ (fun iz1 sz1 => ?_) _)
  · exact Keeps.refl _ _
  · extract_lets +onlyGivenNames -merge -useContext x2
    try clear_value x2
    extract_lets +onlyGivenNames -merge -useContext x3
    try clear_value x3
    split
    · refine checked_fr ?_ ?_
      · exact Keeps.refl _ _
      · refine Keeps.pair ?_
        exact Keeps.refl _ _
    · refine checked_fr ?_ ?_
      · exact Keeps.refl _ _
      · extract_lets +onlyGivenNames -merge -useContext x4
        try clear_value x4
        refine Keeps.pair ?_
        exact Keeps.mono rfl (Keeps.put_fw _ _)

theorem dropCommandRegs_fr (a0) (s : State) : Keeps 1572859 s (dropCommandRegs a0 s) := by
  unfold dropCommandRegs
  refine Keeps.tr ?_ (forEach_fr _ _ (fun iz1 sz1 => ?_) _)
  · exact Keeps.refl _ _
  · refine Keeps.ite ?_ ?_
    · exact Keeps.refl _ _
    · refine Keeps.ite ?_ ?_
      · exact Keeps.mono rfl (Keeps.put_fw _ _)
      · exact Keeps.mono rfl (putField_fr ..)

theorem noteHeld_fr (a0) (s : State) : Keeps 264 s (noteHeld a0 s) := by
  unfold noteHeld
  extract_lets +onlyGivenNames -merge -useContext x1
  try clear_value x1
  exact Keeps.mono rfl (Keeps.put_fw_camb _ _ _)

theorem activate_fr (a0) (a1) (a2) (a3) (s : State) : Keeps 1572859 s (activate a0 a1 a2 a3 s) := by
  unfold activate
  extract_lets +onlyGivenNames -merge -useContext x1
  try clear_value x1
  extract_lets +onlyGivenNames -merge -useContext x2
  try clear_value x2
  extract_lets +onlyGivenNames -merge -useContext x3
  have h4 : Keeps 1572859 s x3 := by
    unfold x3
    exact Keeps.refl _ _
  try clear_value x3
  extract_lets +onlyGivenNames -merge -useContext y5 x6
  have h7 : Keeps 1572859 s x6 := by
    unfold x6
    exact Keeps.mono rfl (Keeps.put_fw _ _)
  try clear_value x6
  extract_lets +onlyGivenNames -merge -useContext x8
  try clear_value x8
  extract_lets +onlyGivenNames -merge -useContext x9
  have h10 : Keeps 1572859 s x9 := by
    unfold x9
    refine Keeps.tr ?_ (forRange_fr _ _ (fun iz11 sz11 => ?_) _)
    · exact h7
    · refine Keeps.ite ?_ ?_
      · exact Keeps.refl _ _
      · exact Keeps.mono rfl (setPort_fr ..)
  try clear_value x9
  extract_lets +onlyGivenNames -merge -useContext x12
  have h13 : Keeps 1572859 s x12 := by
    unfold x12
    exact Keeps.tr h10 (Keeps.mono rfl (putOvlen_fr ..))
  try clear_value x12
  extract_lets +onlyGivenNames -merge -useContext x14
  try clear_value x14
  extract_lets +onlyGivenNames -merge -useContext x15
  have h16 : Keeps 1572859 s x15 := by
    unfold x15
    exact Keeps.tr h13 (Keeps.mono rfl (rewriteRefs_fr ..))
  try clear_value x15
  extract_lets +onlyGivenNames -merge -useContext x17
  have h18 : Keeps 1572859 s x17 := by
    unfold x17
    refine Keeps.tr ?_ (forEach_fr _ _ (fun iz19 sz19 => ?_) _)
    · exact h16
    · exact Keeps.mono rfl (recomputeZone_fr ..)
  try clear_value x17
  extract_lets +onlyGivenNames -merge -useContext x20
  have h21 : Keeps 1572859 s x20 := by
    unfold x20
    refine Keeps.ite ?_ ?_
    · exact Keeps.tr h18 (Keeps.mono rfl (startTriggers_fr ..))
    · refine Keeps.tr ?_ (forRange_fr _ _ (fun iz22 sz22 => ?_) _)
      · exact h18
      · refine Keeps.tr ?_ (forRange_fr _ _ (fun iz23 sz23 => ?_) _)
        · exact Keeps.refl _ _
        · exact Keeps.mono rfl (evalTrig_fr ..)
  try clear_value x20
  extract_lets +onlyGivenNames -merge -useContext x24
  try clear_value x24
  extract_lets +onlyGivenNames -merge -useContext y25 x26
  have h27 : Keeps 1572859 s x26 := by
    unfold x26
    exact Keeps.tr h21 (Keeps.mono rfl (Keeps.put_fw _ _))
  try clear_value x26
  extract_lets +onlyGivenNames -merge -useContext x28
  have h29 : Keeps 1572859 s x28 := by
    unfold x28
    refine Keeps.ite ?_ ?_
    · exact h27
    · exact Keeps.tr h27 (Keeps.mono rfl (ringEvent_fr ..))
  try clear_value x28
  extract_lets +onlyGivenNames -merge -useContext x30
  have h31 : Keeps 1572859 s x30 := by
    unfold x30
    refine Keeps.ite ?_ ?_
    · exact h29
    · exact Keeps.tr h29 (Keeps.mono rfl (ringEvent_fr ..))
  try clear_value x30
  extract_lets +onlyGivenNames -merge -useContext x32
  have h33 : Keeps 1572859 s x32 := by
    unfold x32
    refine Keeps.tr ?_ (Keeps.mono rfl (applyRefs_fr ..))
    refine Keeps.tr ?_ (Keeps.mono rfl (noteHeld_fr ..))
    exact Keeps.tr h31 (Keeps.mono rfl (dropCommandRegs_fr ..))
  try clear_value x32
  extract_lets +onlyGivenNames -merge -useContext x34
  have h35 : Keeps 1572859 s x34 := by
    unfold x34
    refine Keeps.tr ?_ (forRange_fr _ _ (fun iz36 sz36 => ?_) _)
    · exact h33
    · exact Keeps.mono rfl (applyDemand_fr ..)
  try clear_value x34
  exact Keeps.tr h35 (Keeps.mono rfl (evalSchedules_fr ..))

theorem loadEnd_fr (a0) (a1) (a2) (a3) (s : State) : Keeps 1572859 s (loadEnd a0 a1 a2 a3 s).2 := by
  unfold loadEnd
  extract_lets +onlyGivenNames -merge -useContext x1
  try clear_value x1
  refine Keeps.ite2 ?_ ?_
  · refine Keeps.pair ?_
    exact Keeps.refl _ _
  · extract_lets +onlyGivenNames -merge -useContext x2
    try clear_value x2
    split
    · extract_lets +onlyGivenNames -merge -useContext x3
      try clear_value x3
      split
      · refine Keeps.pair ?_
        exact Keeps.refl _ _
      · split
        · refine Keeps.pair ?_
          exact Keeps.refl _ _
        · refine Keeps.ite2 ?_ ?_
          · refine Keeps.pair ?_
            exact Keeps.refl _ _
          · extract_lets +onlyGivenNames -merge -useContext x4
            have h5 : Keeps 1572859 s x4.2 := by
              unfold x4
              exact Keeps.mono rfl (writeRecord_fr ..)
            try clear_value x4
            split
            · refine Keeps.pair ?_
              exact h5
            · refine Keeps.pair ?_
              exact h5
            · extract_lets +onlyGivenNames -merge -useContext x6
              have h7 : Keeps 1572859 s x6 := by
                unfold x6
                exact Keeps.tr h5 (Keeps.mono rfl (activate_fr ..))
              try clear_value x6
              extract_lets +onlyGivenNames -merge -useContext x8
              have h9 : Keeps 1572859 s x8 := by
                unfold x8
                refine Keeps.ite ?_ ?_
                · exact h7
                · exact Keeps.tr h7 (Keeps.mono rfl (pwrctlWrite_fr ..))
              try clear_value x8
              extract_lets +onlyGivenNames -merge -useContext x10
              have h11 : Keeps 1572859 s x10 := by
                unfold x10
                refine Keeps.tr ?_ (forRange_fr _ _ (fun iz12 sz12 => ?_) _)
                · exact h9
                · exact Keeps.mono rfl (distributeSched_fr ..)
              try clear_value x10
              refine Keeps.pair ?_
              exact Keeps.tr h11 (Keeps.mono rfl (distributeCal_fr ..))
    · refine Keeps.pair ?_
      exact Keeps.refl _ _

theorem execCfgLoadEnd_fr (a0) (a1) (s : State) : KeepsOut 1572859 s (execCfgLoadEnd a0 a1 s) := by
  unfold execCfgLoadEnd
  refine KeepsOut.next ?_
  refine Keeps.ite ?_ ?_
  · exact Keeps.refl _ _
  · refine Keeps.tr ?_ (runCmd_fr rfl _ _ _ (fun iz1 sz1 => ?_) _)
    · exact Keeps.refl _ _
    · refine checked_fr ?_ ?_
      · exact Keeps.refl _ _
      · split
        · refine Keeps.pair ?_
          exact Keeps.refl _ _
        · extract_lets +onlyGivenNames -merge -useContext x2
          have h3 : Keeps 1572859 sz1 x2.2 := by
            unfold x2
            exact Keeps.mono rfl (loadEnd_fr ..)
          try clear_value x2
          refine Keeps.pair ?_
          extract_lets +onlyGivenNames -merge -useContext x4
          have h5 : Keeps 1572859 sz1 x4 := by
            unfold x4
            exact h3
          try clear_value x4
          exact Keeps.tr h5 (Keeps.mono rfl (Keeps.put_fw _ _))

theorem setModeOvr_fr (a0) (a1) (s : State) : Keeps 1572859 s (setModeOvr a0 a1 s) := by
  unfold setModeOvr
  refine Keeps.tr ?_ (Keeps.mono rfl (recomputeModes_fr ..))
  exact Keeps.mono rfl (Keeps.put_fw _ _)

theorem execCfgMode_fr (a0) (s : State) : KeepsOut 1572859 s (execCfgMode a0 s) := by
  unfold execCfgMode
  refine KeepsOut.next ?_
  refine Keeps.tr ?_ (runCmd_fr rfl _ _ _ (fun iz1 sz1 => ?_) _)
  · exact Keeps.refl _ _
  · extract_lets +onlyGivenNames -merge -useContext x2
    try clear_value x2
    extract_lets +onlyGivenNames -merge -useContext x3
    try clear_value x3
    extract_lets +onlyGivenNames -merge -useContext x4
    try clear_value x4
    extract_lets +onlyGivenNames -merge -useContext x5
    try clear_value x5
    extract_lets +onlyGivenNames -merge -useContext x6
    try clear_value x6
    extract_lets +onlyGivenNames -merge -useContext x7
    try clear_value x7
    refine checked_fr ?_ ?_
    · exact Keeps.refl _ _
    · refine Keeps.ite2 ?_ ?_
      · refine Keeps.pair ?_
        exact Keeps.refl _ _
      · refine checked_fr ?_ ?_
        · exact Keeps.refl _ _
        · refine Keeps.pair ?_
          exact Keeps.mono rfl (setModeOvr_fr ..)

theorem setCmdTrig_fr (a0) (a1) (s : State) : Keeps 1572859 s (setCmdTrig a0 a1 s) := by
  unfold setCmdTrig
  refine Keeps.tr ?_ (Keeps.mono rfl (refreshLayers_fr ..))
  exact Keeps.mono rfl (Keeps.put_fw _ _)

theorem execCfgCondition_fr (a0) (s : State) : KeepsOut 1572859 s (execCfgCondition a0 s) := by
  unfold execCfgCondition
  refine KeepsOut.next ?_
  refine Keeps.tr ?_ (runCmd_fr rfl _ _ _ (fun iz1 sz1 => ?_) _)
  · exact Keeps.refl _ _
  · extract_lets +onlyGivenNames -merge -useContext x2
    try clear_value x2
    extract_lets +onlyGivenNames -merge -useContext x3
    try clear_value x3
    extract_lets +onlyGivenNames -merge -useContext x4
    try clear_value x4
    extract_lets +onlyGivenNames -merge -useContext x5
    try clear_value x5
    refine checked_fr ?_ ?_
    · exact Keeps.refl _ _
    · refine Keeps.pair ?_
      exact Keeps.mono rfl (setCmdTrig_fr ..)

theorem judgeExpiries_fr (s : State) : Keeps 1572859 s (judgeExpiries s) := by
  unfold judgeExpiries
  extract_lets +onlyGivenNames -merge -useContext x1
  have h2 : Keeps 1572859 s x1 := by
    unfold x1
    refine Keeps.tr ?_ (forEach_fr _ _ (fun iz3 sz3 => ?_) _)
    · exact Keeps.refl _ _
    · exact Keeps.mono rfl (setModeOvr_fr ..)
  try clear_value x1
  extract_lets +onlyGivenNames -merge -useContext x4
  have h5 : Keeps 1572859 s x4 := by
    unfold x4
    refine Keeps.tr ?_ (forEach_fr _ _ (fun iz6 sz6 => ?_) _)
    · exact h2
    · refine Keeps.tr ?_ (Keeps.mono rfl (refreshSp_fr ..))
      exact Keeps.mono rfl (Keeps.put_fw _ _)
  try clear_value x4
  extract_lets +onlyGivenNames -merge -useContext x7
  have h8 : Keeps 1572859 s x7 := by
    unfold x7
    refine Keeps.tr ?_ (forEach_fr _ _ (fun iz9 sz9 => ?_) _)
    · exact h5
    · exact Keeps.mono rfl (setCmdTrig_fr ..)
  try clear_value x7
  extract_lets +onlyGivenNames -merge -useContext x10
  have h11 : Keeps 1572859 s x10 := by
    unfold x10
    refine Keeps.tr ?_ (forEach_fr _ _ (fun iz12 sz12 => ?_) _)
    · exact h8
    · refine Keeps.tr ?_ (Keeps.mono rfl (refreshDemand_fr ..))
      exact Keeps.mono rfl (endOverride_fr ..)
  try clear_value x10
  extract_lets +onlyGivenNames -merge -useContext x13
  have h14 : Keeps 1572859 s x13 := by
    unfold x13
    refine Keeps.tr ?_ (forEach_fr _ _ (fun iz15 sz15 => ?_) _)
    · exact h11
    · refine Keeps.tr ?_ (Keeps.mono rfl (refreshDemand_fr ..))
      exact Keeps.mono rfl (endOverride_fr ..)
  try clear_value x13
  extract_lets +onlyGivenNames -merge -useContext y16 x17
  have h18 : Keeps 1572859 s x17 := by
    unfold x17
    split
    · refine Keeps.ite ?_ ?_
      · refine Keeps.tr ?_ (Keeps.mono rfl (refreshLayers_fr ..))
        exact Keeps.tr h14 (Keeps.mono rfl (Keeps.put_fw _ _))
      · exact h14
    · exact h14
  try clear_value x17
  split
  · refine Keeps.ite ?_ ?_
    · refine Keeps.tr ?_ (Keeps.mono rfl (refreshLayers_fr ..))
      exact Keeps.tr h18 (Keeps.mono rfl (endPinForce_fr ..))
    · exact h18
  · exact h18

theorem execOverrideExpiry_fr (s : State) : KeepsOut 1572859 s (execOverrideExpiry s) := by
  unfold execOverrideExpiry
  refine KeepsOut.next ?_
  refine Keeps.ite ?_ ?_
  · exact Keeps.mono rfl (judgeExpiries_fr ..)
  · exact Keeps.refl _ _

theorem timeWanted_fr (s : State) : Keeps 4096 s (timeWanted s) := by
  unfold timeWanted
  refine Keeps.ite ?_ ?_
  · exact Keeps.mono rfl (Keeps.put_gft _ _)
  · exact Keeps.refl _ _

theorem execClockChange_fr (s : State) : KeepsOut 1572859 s (execClockChange s) := by
  unfold execClockChange
  refine KeepsOut.next ?_
  refine Keeps.ite ?_ ?_
  · refine Keeps.tr ?_ (Keeps.mono rfl (judgeExpiries_fr ..))
    refine Keeps.tr ?_ (Keeps.mono rfl (timeWanted_fr ..))
    refine Keeps.tr ?_ (Keeps.mono rfl (evalSchedules_fr ..))
    refine Keeps.tr ?_ (Keeps.mono rfl (recorderChange_fr ..))
    exact Keeps.mono rfl (Keeps.put_rtc _ _)
  · exact Keeps.refl _ _

theorem nextSwitch_fr (a0) (s : State) : Keeps 1048576 s (nextSwitch a0 s).2 := by
  unfold nextSwitch
  extract_lets +onlyGivenNames -merge -useContext x1
  try clear_value x1
  split
  · refine Keeps.pair ?_
    exact Keeps.refl _ _
  · extract_lets +onlyGivenNames -merge -useContext x2
    have h3 : Keeps 1048576 s x2.2 := by
      unfold x2
      exact Keeps.mono rfl (State_draw_fr ..)
    try clear_value x2
    extract_lets +onlyGivenNames -merge -useContext x4
    have h5 : Keeps 1048576 s x4.2 := by
      unfold x4
      exact Keeps.tr h3 (Keeps.mono rfl (State_draw_fr ..))
    try clear_value x4
    refine Keeps.pair ?_
    exact h5

theorem queryZone_fr (a0) (s : State) : Keeps 1048576 s (queryZone a0 s).2 := by
  unfold queryZone
  extract_lets +onlyGivenNames -merge -useContext x1
  try clear_value x1
  extract_lets +onlyGivenNames -merge -useContext x2
  try clear_value x2
  extract_lets +onlyGivenNames -merge -useContext x3
  try clear_value x3
  extract_lets +onlyGivenNames -merge -useContext x4
  try clear_value x4
  extract_lets +onlyGivenNames -merge -useContext x5
  try clear_value x5
  extract_lets +onlyGivenNames -merge -useContext x6
  have h7 : Keeps 1048576 s x6.2 := by
    unfold x6
    exact Keeps.mono rfl (nextSwitch_fr ..)
  try clear_value x6
  refine Keeps.pair ?_
  exact h7

theorem execCfgQuery_fr (a0) (s : State) : KeepsOut 1048584 s (execCfgQuery a0 s) := by
  unfold execCfgQuery
  refine KeepsOut.next ?_
  refine Keeps.tr ?_ (runCmd_fr rfl _ _ _ (fun iz1 sz1 => ?_) _)
  · exact Keeps.refl _ _
  · extract_lets +onlyGivenNames -merge -useContext x2
    try clear_value x2
    refine Keeps.ite2 ?_ ?_
    · extract_lets +onlyGivenNames -merge -useContext x3
      try clear_value x3
      split
      · refine Keeps.pair ?_
        exact Keeps.refl _ _
      · extract_lets +onlyGivenNames -merge -useContext x4
        have h5 : Keeps 1048584 sz1 x4.2 := by
          unfold x4
          exact Keeps.mono rfl (State_draw_fr ..)
        try clear_value x4
        extract_lets +onlyGivenNames -merge -useContext x6
        have h7 : Keeps 1048584 sz1 x6.2 := by
          unfold x6
          exact Keeps.tr h5 (Keeps.mono rfl (State_draw_fr ..))
        try clear_value x6
        extract_lets +onlyGivenNames -merge -useContext x8
        have h9 : Keeps 1048584 sz1 x8.2 := by
          unfold x8
          exact Keeps.tr h7 (Keeps.mono rfl (State_draw_fr ..))
        try clear_value x8
        refine Keeps.pair ?_
        exact h9
    · refine Keeps.ite2 ?_ ?_
      · refine checked_fr ?_ ?_
        · exact Keeps.refl _ _
        · extract_lets +onlyGivenNames -merge -useContext x10
          have h11 : Keeps 1048584 sz1 x10.2 := by
            unfold x10
            exact Keeps.mono rfl (queryZone_fr ..)
          try clear_value x10
          refine Keeps.pair ?_
          exact h11
      · refine checked_fr ?_ ?_
        · exact Keeps.refl _ _
        · split
          · refine Keeps.pair ?_
            exact Keeps.refl _ _
          · refine Keeps.pair ?_
            exact Keeps.refl _ _

theorem doAction_fr (a0) (s : State) : Keeps 1572859 s (doAction a0 s) := by
  unfold doAction
  extract_lets +onlyGivenNames -merge -useContext x1
  try clear_value x1
  split
  · refine Keeps.ite ?_ ?_
    · exact Keeps.mono rfl (setCmdTrig_fr ..)
    · exact Keeps.refl _ _
  · refine Keeps.ite ?_ ?_
    · exact Keeps.mono rfl (setCmdTrig_fr ..)
    · exact Keeps.refl _ _
  · refine Keeps.tr ?_ (forEach_fr _ _ (fun iz2 sz2 => ?_) _)
    · exact Keeps.refl _ _
    · refine Keeps.ite ?_ ?_
      · exact Keeps.mono rfl (setModeOvr_fr ..)
      · exact Keeps.refl _ _
  · refine Keeps.tr ?_ (forEach_fr _ _ (fun iz3 sz3 => ?_) _)
    · exact Keeps.refl _ _
    · refine Keeps.ite ?_ ?_
      · exact Keeps.mono rfl (setModeOvr_fr ..)
      · exact Keeps.refl _ _

theorem execDoorbellAction_fr (a0) (s : State) : KeepsOut 1572859 s (execDoorbellAction a0 s) := by
  unfold execDoorbellAction
  refine KeepsOut.next ?_
  refine Keeps.ite ?_ ?_
  · extract_lets +onlyGivenNames -merge -useContext x1
    have h2 : Keeps 1572859 s x1 := by
      unfold x1
      exact Keeps.mono rfl (State_setB_fr ..)
    try clear_value x1
    split
    · exact Keeps.tr h2 (Keeps.mono rfl (doAction_fr ..))
    · exact h2
  · exact Keeps.refl _ _

end Sys2Proof.Machine
end

