-- ==== Sys2Proof/Laws/FrameSafeCmds.lean ====
section
/-! SUPPORT. Sys2Proof/Laws/FrameSafeCmds.lean: for each operation of Machine/SafeCmds.lean, what it leaves (Laws/Frame.lean). -/

namespace Sys2Proof.Machine

open Sys2Proof

theorem followSafe_fr (s : State) : Keeps 1572859 s (followSafe s) := by
  unfold followSafe
  extract_lets +onlyGivenNames -merge -useContext x1
  have h2 : Keeps 1572859 s x1 := by
    unfold x1
    exact Keeps.mono rfl (judgeSafe_fr ..)
  try clear_value x1
  refine Keeps.ite ?_ ?_
  · exact Keeps.tr h2 (Keeps.mono rfl (refreshLayers_fr ..))
  · exact h2

theorem execSafetyInputFault_fr (a0) (a1) (s : State) : KeepsOut 2097147 s (execSafetyInputFault a0 a1 s) := by
  unfold execSafetyInputFault
  refine KeepsOut.next ?_
  refine Keeps.ite ?_ ?_
  · exact Keeps.refl _ _
  · extract_lets +onlyGivenNames -merge -useContext x1
    have h2 : Keeps 2097147 s x1 := by
      unfold x1
      exact Keeps.mono rfl (State_advTo_fr ..)
    try clear_value x1
    extract_lets +onlyGivenNames -merge -useContext x3
    try clear_value x3
    refine Keeps.ite ?_ ?_
    · exact h2
    · refine Keeps.tr ?_ (Keeps.mono rfl (followSafe_fr ..))
      refine Keeps.tr ?_ (Keeps.mono rfl (showPin_fr ..))
      exact Keeps.tr h2 (Keeps.mono rfl (State_setF_fr ..))

theorem execSafetyFaultEnd_fr (a0) (a1) (s : State) : KeepsOut 2097147 s (execSafetyFaultEnd a0 a1 s) := by
  unfold execSafetyFaultEnd
  refine KeepsOut.next ?_
  refine Keeps.ite ?_ ?_
  · exact Keeps.refl _ _
  · extract_lets +onlyGivenNames -merge -useContext x1
    have h2 : Keeps 2097147 s x1 := by
      unfold x1
      exact Keeps.mono rfl (State_advTo_fr ..)
    try clear_value x1
    extract_lets +onlyGivenNames -merge -useContext x3
    try clear_value x3
    extract_lets +onlyGivenNames -merge -useContext x4
    try clear_value x4
    extract_lets +onlyGivenNames -merge -useContext x5
    have h6 : Keeps 2097147 s x5 := by
      unfold x5
      exact Keeps.tr h2 (Keeps.mono rfl (showPin_fr ..))
    try clear_value x5
    refine Keeps.ite ?_ ?_
    · exact h6
    · refine Keeps.ite ?_ ?_
      · refine Keeps.ite ?_ ?_
        · refine Keeps.tr ?_ (Keeps.mono rfl (followSafe_fr ..))
          exact Keeps.tr h6 (Keeps.mono rfl (State_setF_fr ..))
        · exact h6
      · refine Keeps.ite ?_ ?_
        · refine Keeps.tr ?_ (Keeps.mono rfl (followSafe_fr ..))
          exact Keeps.tr h6 (Keeps.mono rfl (State_setF_fr ..))
        · refine Keeps.tr ?_ (Keeps.mono rfl (followSafe_fr ..))
          exact Keeps.tr h6 (Keeps.mono rfl (State_setF_fr ..))

theorem execSafeStopHoldEnd_fr (s : State) : KeepsOut 2097147 s (execSafeStopHoldEnd s) := by
  unfold execSafeStopHoldEnd
  refine KeepsOut.next ?_
  split
  · extract_lets +onlyGivenNames -merge -useContext x1
    have h2 : Keeps 2097147 s x1 := by
      unfold x1
      exact Keeps.mono rfl (State_advTo_fr ..)
    try clear_value x1
    refine Keeps.ite ?_ ?_
    · exact h2
    · refine Keeps.tr ?_ (Keeps.mono rfl (followSafe_fr ..))
      extract_lets +onlyGivenNames -merge -useContext x3
      have h4 : Keeps 2097147 s x3 := by
        unfold x3
        refine Keeps.tr ?_ (Keeps.mono rfl (State_setB_fr ..))
        exact Keeps.tr h2 (Keeps.mono rfl (State_setB_fr ..))
      try clear_value x3
      exact Keeps.tr h4 (Keeps.mono rfl (Keeps.put_ther _ _))
  · exact Keeps.refl _ _

theorem execSafectlWrite_fr (a0) (a1) (s : State) : KeepsOut 1572859 s (execSafectlWrite a0 a1 s) := by
  unfold execSafectlWrite
  refine KeepsOut.next ?_
  refine Keeps.ite ?_ ?_
  · exact Keeps.refl _ _
  · refine Keeps.tr ?_ (Keeps.mono rfl (followSafe_fr ..))
    exact Keeps.mono rfl (safectlWrite_fr ..)

theorem execSafeStatus_fr (a0) (s : State) : KeepsOut 8 s (execSafeStatus a0 s) := by
  unfold execSafeStatus
  refine KeepsOut.next ?_
  refine Keeps.tr ?_ (runCmd_fr rfl _ _ _ (fun iz1 sz1 => ?_) _)
  · exact Keeps.refl _ _
  · refine Keeps.pair ?_
    exact Keeps.refl _ _

theorem execSafeForce_fr (a0) (s : State) : KeepsOut 1572859 s (execSafeForce a0 s) := by
  unfold execSafeForce
  refine KeepsOut.next ?_
  refine Keeps.tr ?_ (runCmd_fr rfl _ _ _ (fun iz1 sz1 => ?_) _)
  · exact Keeps.refl _ _
  · extract_lets +onlyGivenNames -merge -useContext x2
    try clear_value x2
    extract_lets +onlyGivenNames -merge -useContext x3
    try clear_value x3
    refine checked_fr ?_ ?_
    · exact Keeps.refl _ _
    · extract_lets +onlyGivenNames -merge -useContext y4 x5
      have h6 : Keeps 1572859 sz1 x5 := by
        unfold x5
        refine Keeps.ite ?_ ?_
        · exact Keeps.mono rfl (Keeps.put_fw _ _)
        · exact Keeps.refl _ _
      try clear_value x5
      extract_lets +onlyGivenNames -merge -useContext y7 x8
      have h9 : Keeps 1572859 sz1 x8 := by
        unfold x8
        refine Keeps.ite ?_ ?_
        · refine Keeps.tr ?_ (Keeps.mono rfl (judgeSafe_fr ..))
          refine Keeps.tr ?_ (Keeps.mono rfl (State_setB_fr ..))
          exact Keeps.tr h6 (Keeps.mono rfl (Keeps.put_ther _ _))
        · exact h6
      try clear_value x8
      refine Keeps.pair ?_
      exact Keeps.tr h9 (Keeps.mono rfl (followSafe_fr ..))

theorem execSafeRelease_fr (a0) (s : State) : KeepsOut 1572859 s (execSafeRelease a0 s) := by
  unfold execSafeRelease
  refine KeepsOut.next ?_
  refine Keeps.tr ?_ (runCmd_fr rfl _ _ _ (fun iz1 sz1 => ?_) _)
  · exact Keeps.refl _ _
  · extract_lets +onlyGivenNames -merge -useContext x2
    try clear_value x2
    extract_lets +onlyGivenNames -merge -useContext x3
    try clear_value x3
    extract_lets +onlyGivenNames -merge -useContext x4
    try clear_value x4
    refine checked_fr ?_ ?_
    · exact Keeps.refl _ _
    · extract_lets +onlyGivenNames -merge -useContext y5 x6
      have h7 : Keeps 1572859 sz1 x6 := by
        unfold x6
        refine Keeps.ite ?_ ?_
        · exact Keeps.mono rfl (Keeps.put_fw _ _)
        · exact Keeps.refl _ _
      try clear_value x6
      refine Keeps.pair ?_
      refine Keeps.tr ?_ (Keeps.mono rfl (followSafe_fr ..))
      refine Keeps.ite ?_ ?_
      · exact Keeps.tr h7 (Keeps.mono rfl (endPinForce_fr ..))
      · exact h7

end Sys2Proof.Machine
end

