-- ==== Sys2Proof/Laws/FrameExpert.lean ====
section
/-! SUPPORT. Sys2Proof/Laws/FrameExpert.lean: for each operation of Machine/Expert.lean, what it leaves (Laws/Frame.lean). -/

namespace Sys2Proof.Machine

open Sys2Proof

theorem windowError_fr (a0) (a1) (s : State) : Keeps 1048579 s (windowError a0 a1 s) := by
  unfold windowError
  refine Keeps.ite ?_ ?_
  · extract_lets +onlyGivenNames -merge -useContext x1
    have h2 : Keeps 1048579 s x1.2 := by
      unfold x1
      exact Keeps.mono rfl (State_draw_fr ..)
    try clear_value x1
    exact Keeps.tr h2 (Keeps.mono rfl (requestError_fr ..))
  · exact Keeps.refl _ _

theorem overBark_fr {m : Nat} (hm : 1048579 &&& m = 1048579) {b s : State} {k : State → Reply × State} (h1 : Keeps m b s)
    (h2 : ∀ s, Keeps m s (k s).2) : Keeps m b (overBark s k).2 := by
  unfold overBark
  exact Keeps.ite2 (Keeps.pair (Keeps.tr h1 (Keeps.mono (mask_sub hm rfl) (windowError_fr ..)))) (Keeps.tr h1 (h2 s))

theorem execExpertRead_fr (a0) (s : State) : KeepsOut 1118331 s (execExpertRead a0 s) := by
  unfold execExpertRead
  refine KeepsOut.next ?_
  refine Keeps.tr ?_ (runCmd_fr rfl _ _ _ (fun iz1 sz1 => ?_) _)
  · exact Keeps.refl _ _
  · extract_lets +onlyGivenNames -merge -useContext x2
    try clear_value x2
    extract_lets +onlyGivenNames -merge -useContext x3
    try clear_value x3
    extract_lets +onlyGivenNames -merge -useContext x4
    try clear_value x4
    refine checked_fr ?_ ?_
    · exact Keeps.refl _ _
    · extract_lets +onlyGivenNames -merge -useContext x5
      have h6 : Keeps 1118331 sz1 x5.2.2 := by
        unfold x5
        exact Keeps.mono rfl (readWords_fr ..)
      try clear_value x5
      refine Keeps.ite2 ?_ ?_
      · refine Keeps.pair ?_
        exact h6
      · refine Keeps.pair ?_
        exact Keeps.tr h6 (Keeps.mono rfl (windowError_fr ..))

theorem noteWrites_fr (a0) (a1) (s : State) : Keeps 8 s (noteWrites a0 a1 s) := by
  unfold noteWrites
  extract_lets +onlyGivenNames -merge -useContext x1
  try clear_value x1
  exact Keeps.mono rfl (Keeps.put_fw _ _)

theorem execExpertWrite_fr (a0) (s : State) : KeepsOut 1572859 s (execExpertWrite a0 s) := by
  unfold execExpertWrite
  refine KeepsOut.next ?_
  refine Keeps.tr ?_ (runCmd_fr rfl _ _ _ (fun iz1 sz1 => ?_) _)
  · exact Keeps.refl _ _
  · extract_lets +onlyGivenNames -merge -useContext x2
    try clear_value x2
    extract_lets +onlyGivenNames -merge -useContext x3
    try clear_value x3
    extract_lets +onlyGivenNames -merge -useContext x4
    try clear_value x4
    refine checked_fr ?_ ?_
    · exact Keeps.refl _ _
    · split
      · refine Keeps.pair ?_
        exact Keeps.refl _ _
      · extract_lets +onlyGivenNames -merge -useContext x5
        have h6 : Keeps 1572859 sz1 x5.2.2 := by
          unfold x5
          refine Keeps.tr ?_ (Keeps.mono rfl (writeRequest_fr ..))
          exact Keeps.mono rfl (noteWrites_fr ..)
        try clear_value x5
        refine Keeps.ite2 ?_ ?_
        · refine Keeps.pair ?_
          refine Keeps.ite ?_ ?_
          · exact Keeps.tr h6 (Keeps.mono rfl (refreshLayers_fr ..))
          · refine Keeps.ite ?_ ?_
            · exact Keeps.tr h6 (Keeps.mono rfl (refreshDblk_fr ..))
            · exact h6
        · refine Keeps.pair ?_
          exact Keeps.tr h6 (Keeps.mono rfl (windowError_fr ..))

theorem grantClaim_fr (a0) (a1) (a2) (s : State) : Keeps 1545 s (grantClaim a0 a1 a2 s) := by
  unfold grantClaim
  refine Keeps.ite ?_ ?_
  · exact Keeps.refl _ _
  · extract_lets +onlyGivenNames -merge -useContext y1 x2
    have h3 : Keeps 1545 s x2 := by
      unfold x2
      refine Keeps.tr ?_ (Keeps.mono rfl (endOverride_fr ..))
      exact Keeps.mono rfl (Keeps.put_fw _ _)
    try clear_value x2
    refine Keeps.tr ?_ (Keeps.mono rfl (refreshDemand_fr ..))
    refine Keeps.ite ?_ ?_
    · exact Keeps.tr h3 (Keeps.mono rfl (cancel_fr ..))
    · exact h3

theorem execExpertClaim_fr (a0) (s : State) : KeepsOut 1545 s (execExpertClaim a0 s) := by
  unfold execExpertClaim
  refine KeepsOut.next ?_
  refine Keeps.tr ?_ (runCmd_fr rfl _ _ _ (fun iz1 sz1 => ?_) _)
  · exact Keeps.refl _ _
  · extract_lets +onlyGivenNames -merge -useContext x2
    try clear_value x2
    extract_lets +onlyGivenNames -merge -useContext x3
    try clear_value x3
    refine checked_fr ?_ ?_
    · exact Keeps.refl _ _
    · split
      · refine Keeps.pair ?_
        exact Keeps.refl _ _
      · refine Keeps.pair ?_
        refine Keeps.tr ?_ (Keeps.mono rfl (refreshDblk_fr ..))
        refine Keeps.tr ?_ (forEach_fr _ _ (fun iz4 sz4 => ?_) _)
        · exact Keeps.refl _ _
        · exact Keeps.mono rfl (grantClaim_fr ..)

theorem endClaim_fr (a0) (s : State) : Keeps 1572859 s (endClaim a0 s) := by
  unfold endClaim
  refine Keeps.tr ?_ (Keeps.mono rfl (passBack_fr ..))
  exact Keeps.mono rfl (claimEnds_fr ..)

theorem execExpertRelease_fr (a0) (s : State) : KeepsOut 1572859 s (execExpertRelease a0 s) := by
  unfold execExpertRelease
  refine KeepsOut.next ?_
  refine Keeps.tr ?_ (runCmd_fr rfl _ _ _ (fun iz1 sz1 => ?_) _)
  · exact Keeps.refl _ _
  · extract_lets +onlyGivenNames -merge -useContext x2
    try clear_value x2
    refine checked_fr ?_ ?_
    · exact Keeps.refl _ _
    · refine Keeps.pair ?_
      refine Keeps.tr ?_ (forEach_fr _ _ (fun iz3 sz3 => ?_) _)
      · exact Keeps.refl _ _
      · exact Keeps.mono rfl (endClaim_fr ..)

theorem execExpertClaims_fr (a0) (s : State) : KeepsOut 8 s (execExpertClaims a0 s) := by
  unfold execExpertClaims
  refine KeepsOut.next ?_
  refine Keeps.tr ?_ (runCmd_fr rfl _ _ _ (fun iz1 sz1 => ?_) _)
  · exact Keeps.refl _ _
  · extract_lets +onlyGivenNames -merge -useContext x2
    try clear_value x2
    refine Keeps.pair ?_
    exact Keeps.refl _ _

end Sys2Proof.Machine
end

