-- ==== Sys2Proof/Laws/FrameHostPort.lean ====
section
/-! SUPPORT. Sys2Proof/Laws/FrameHostPort.lean: for each operation of Machine/HostPort.lean, what it leaves (Laws/Frame.lean). -/

namespace Sys2Proof.Machine

open Sys2Proof

theorem applyFans_fr (s : State) : Keeps 1537 s (applyFans s) := by
  unfold applyFans
  refine Keeps.tr ?_ (forRange_fr _ _ (fun iz1 sz1 => ?_) _)
  · exact Keeps.refl _ _
  · exact Keeps.mono rfl (applyFan_fr ..)

theorem enterHostLoss_fr (s : State) : Keeps 1572863 s (enterHostLoss s) := by
  unfold enterHostLoss
  refine Keeps.tr ?_ (Keeps.mono rfl (ringBit_fr ..))
  refine Keeps.tr ?_ (Keeps.mono rfl (applyFans_fr ..))
  refine Keeps.tr ?_ (Keeps.mono rfl (refreshLayers_fr ..))
  exact Keeps.mono rfl (Keeps.put_hp _ _)

theorem leaveHostLoss_fr (s : State) : Keeps 1572863 s (leaveHostLoss s) := by
  unfold leaveHostLoss
  extract_lets +onlyGivenNames -merge -useContext x1
  have h2 : Keeps 1572863 s x1 := by
    unfold x1
    exact Keeps.mono rfl (State_setB_fr ..)
  try clear_value x1
  refine Keeps.tr ?_ (Keeps.mono rfl (ringBit_fr ..))
  refine Keeps.tr ?_ (Keeps.mono rfl (applyFans_fr ..))
  refine Keeps.tr ?_ (Keeps.mono rfl (refreshLayers_fr ..))
  exact Keeps.tr h2 (Keeps.mono rfl (Keeps.put_hp _ _))

theorem goodFrame_fr (s : State) : Keeps 1572863 s (goodFrame s) := by
  unfold goodFrame
  extract_lets +onlyGivenNames -merge -useContext y1 x2
  have h3 : Keeps 1572863 s x2 := by
    unfold x2
    exact Keeps.mono rfl (Keeps.put_hp _ _)
  try clear_value x2
  refine Keeps.ite ?_ ?_
  · exact h3
  · refine Keeps.ite ?_ ?_
    · exact Keeps.tr h3 (Keeps.mono rfl (leaveHostLoss_fr ..))
    · exact Keeps.tr h3 (Keeps.mono rfl (Keeps.put_hp _ _))

theorem execHostWatchdogExpiry_fr (s : State) : KeepsOut 2097151 s (execHostWatchdogExpiry s) := by
  unfold execHostWatchdogExpiry
  refine KeepsOut.next ?_
  extract_lets +onlyGivenNames -merge -useContext x1
  try clear_value x1
  refine Keeps.ite ?_ ?_
  · exact Keeps.refl _ _
  · extract_lets +onlyGivenNames -merge -useContext x2
    have h3 : Keeps 2097151 s x2 := by
      unfold x2
      exact Keeps.mono rfl (State_advTo_fr ..)
    try clear_value x2
    extract_lets +onlyGivenNames -merge -useContext x4
    have h5 : Keeps 2097151 s x4 := by
      unfold x4
      refine Keeps.tr ?_ (Keeps.mono rfl (State_setB_fr ..))
      exact Keeps.tr h3 (Keeps.mono rfl (State_setB_fr ..))
    try clear_value x4
    extract_lets +onlyGivenNames -merge -useContext y6 x7
    have h8 : Keeps 2097151 s x7 := by
      unfold x7
      exact Keeps.tr h5 (Keeps.mono rfl (Keeps.put_hp _ _))
    try clear_value x7
    refine Keeps.ite ?_ ?_
    · exact Keeps.tr h8 (Keeps.mono rfl (enterHostLoss_fr ..))
    · exact h8

theorem putHstat_fr (a0) (a1) (s : State) : Keeps 4 s (putHstat a0 a1 s) := by
  unfold putHstat
  refine Keeps.ite ?_ ?_
  · exact Keeps.mono rfl (Keeps.put_hp _ _)
  · exact Keeps.mono rfl (Keeps.put_hp _ _)

theorem logFrame_fr (a0) (a1) (a2) (a3) (s : State) : Keeps 1 s (logFrame a0 a1 a2 a3 s) := by
  unfold logFrame
  refine Keeps.tr ?_ (Keeps.mono rfl (State_setB_fr ..))
  exact Keeps.mono rfl (State_setReg_fr ..)

theorem readFrameWords_fr (a0) (a1) (s : State) : Keeps 1 s (readFrameWords a0 a1 s).2 := by
  unfold readFrameWords
  extract_lets +onlyGivenNames -merge -useContext x1
  try clear_value x1
  extract_lets +onlyGivenNames -merge -useContext x2
  try clear_value x2
  extract_lets +onlyGivenNames -merge -useContext x3
  have h4 : ∀ a5 a6, Keeps 1 a6 (x3 a5 a6) := by
    intro a5 a6
    unfold x3
    refine Keeps.ite ?_ ?_
    · split
      · exact Keeps.mono rfl (State_setB_fr ..)
      · exact Keeps.mono rfl (State_setB_fr ..)
      · exact Keeps.refl _ _
    · exact Keeps.refl _ _
  try clear_value x3
  refine Keeps.pair ?_
  refine Keeps.tr ?_ (forEach_fr _ _ (fun iz7 sz7 => ?_) _)
  · exact Keeps.refl _ _
  · exact h4 _ _

theorem freeBytes_fr : ∀ (n : Nat) (s : State), Keeps 1048576 s (freeBytes n s).2
  | 0, s => Keeps.refl _ s
  | n + 1, s => Keeps.tr (Keeps.mono rfl (State_draw_fr s)) (freeBytes_fr n _)

theorem applyWrite_fr (a0) (a1) (s : State) : Keeps 13 s (applyWrite a0 a1 s) := by
  unfold applyWrite
  extract_lets +onlyGivenNames -merge -useContext x1
  try clear_value x1
  refine Keeps.tr ?_ (forEach_fr _ _ (fun iz2 sz2 => ?_) _)
  · refine Keeps.tr ?_ (forEach_fr _ _ (fun iz3 sz3 => ?_) _)
    · exact Keeps.refl _ _
    · exact Keeps.mono rfl (hpWriteWord_fr ..)
  · exact Keeps.mono rfl (hpCtlWord_fr ..)

theorem rejectFrame_fr (a0) (a1) (a2) (a3) (a4) (s : State) : Keeps 1048581 s (rejectFrame a0 a1 a2 a3 a4 s) := by
  unfold rejectFrame
  extract_lets +onlyGivenNames -merge -useContext x1
  have h2 : Keeps 1048581 s x1.2 := by
    unfold x1
    refine Keeps.ite2 ?_ ?_
    · refine Keeps.pair ?_
      exact Keeps.refl _ _
    · refine Keeps.ite2 ?_ ?_
      · refine Keeps.pair ?_
        exact Keeps.refl _ _
      · exact Keeps.mono rfl (freeBytes_fr ..)
  try clear_value x1
  extract_lets +onlyGivenNames -merge -useContext x3
  have h4 : Keeps 1048581 s x3 := by
    unfold x3
    exact h2
  try clear_value x3
  extract_lets +onlyGivenNames -merge -useContext y5 x6
  have h7 : Keeps 1048581 s x6 := by
    unfold x6
    exact Keeps.tr h4 (Keeps.mono rfl (Keeps.put_hp _ _))
  try clear_value x6
  refine Keeps.tr ?_ (Keeps.mono rfl (putHstat_fr ..))
  exact Keeps.tr h7 (Keeps.mono rfl (logFrame_fr ..))

theorem frame_fr (a0) (a1) (a2) (a3) (s : State) : Keeps 2097151 s (frame a0 a1 a2 a3 s) := by
  unfold frame
  refine Keeps.ite ?_ ?_
  · exact Keeps.refl _ _
  · extract_lets +onlyGivenNames -merge -useContext x1
    try clear_value x1
    extract_lets +onlyGivenNames -merge -useContext x2
    have h3 : Keeps 2097151 s x2 := by
      unfold x2
      exact Keeps.mono rfl (State_advTo_fr ..)
    try clear_value x2
    extract_lets +onlyGivenNames -merge -useContext x4
    try clear_value x4
    extract_lets +onlyGivenNames -merge -useContext x5
    try clear_value x5
    extract_lets +onlyGivenNames -merge -useContext x6
    have h7 : Keeps 2097151 s x6 := by
      unfold x6
      exact Keeps.tr h3 (Keeps.mono rfl (State_advTo_fr ..))
    try clear_value x6
    extract_lets +onlyGivenNames -merge -useContext y8 x9
    have h10 : Keeps 2097151 s x9 := by
      unfold x9
      refine Keeps.ite ?_ ?_
      · exact Keeps.tr h7 (Keeps.mono rfl (Keeps.put_hp _ _))
      · exact h7
    try clear_value x9
    split
    · exact Keeps.tr h10 (Keeps.mono rfl (rejectFrame_fr ..))
    · refine Keeps.ite ?_ ?_
      · extract_lets +onlyGivenNames -merge -useContext y11 x12
        have h13 : Keeps 2097151 s x12 := by
          unfold x12
          exact Keeps.tr h10 (Keeps.mono rfl (Keeps.put_hp _ _))
        try clear_value x12
        refine Keeps.tr ?_ (Keeps.mono rfl (goodFrame_fr ..))
        refine Keeps.tr ?_ (Keeps.mono rfl (applyWrite_fr ..))
        exact Keeps.tr h13 (Keeps.mono rfl (putHstat_fr ..))
      · refine Keeps.ite ?_ ?_
        · extract_lets +onlyGivenNames -merge -useContext x14
          have h15 : Keeps 2097151 s x14.2 := by
            unfold x14
            exact Keeps.tr h10 (Keeps.mono rfl (readFrameWords_fr ..))
          try clear_value x14
          extract_lets +onlyGivenNames -merge -useContext x16
          have h17 : Keeps 2097151 s x16 := by
            unfold x16
            exact h15
          try clear_value x16
          extract_lets +onlyGivenNames -merge -useContext y18 x19
          have h20 : Keeps 2097151 s x19 := by
            unfold x19
            exact Keeps.tr h17 (Keeps.mono rfl (Keeps.put_hp _ _))
          try clear_value x19
          extract_lets +onlyGivenNames -merge -useContext x21
          try clear_value x21
          split
          · refine Keeps.tr ?_ (Keeps.mono rfl (goodFrame_fr ..))
            refine Keeps.tr ?_ (Keeps.mono rfl (putHstat_fr ..))
            exact Keeps.tr h20 (Keeps.mono rfl (logFrame_fr ..))
          · refine Keeps.tr ?_ (Keeps.mono rfl (goodFrame_fr ..))
            exact Keeps.tr h20 (Keeps.mono rfl (putHstat_fr ..))
        · refine Keeps.tr ?_ (Keeps.mono rfl (goodFrame_fr ..))
          refine Keeps.tr ?_ (Keeps.mono rfl (putHstat_fr ..))
          exact Keeps.tr h10 (Keeps.mono rfl (Keeps.put_hp _ _))

theorem execStatusFrame_fr (a0) (a1) (a2) (a3) (s : State) : KeepsOut 2097151 s (execStatusFrame a0 a1 a2 a3 s) := by
  unfold execStatusFrame
  refine KeepsOut.next ?_
  refine Keeps.ite ?_ ?_
  · exact Keeps.refl _ _
  · exact Keeps.mono rfl (frame_fr ..)

theorem execReadFrame_fr (a0) (a1) (a2) (a3) (s : State) : KeepsOut 2097151 s (execReadFrame a0 a1 a2 a3 s) := by
  unfold execReadFrame
  refine KeepsOut.next ?_
  refine Keeps.ite ?_ ?_
  · exact Keeps.refl _ _
  · refine Keeps.tr ?_ (Keeps.mono rfl (frame_fr ..))
    exact Keeps.mono rfl (upsetWords_fr ..)

theorem execWriteFrame_fr (a0) (a1) (a2) (a3) (s : State) : KeepsOut 2097151 s (execWriteFrame a0 a1 a2 a3 s) := by
  unfold execWriteFrame
  refine KeepsOut.next ?_
  refine Keeps.ite ?_ ?_
  · exact Keeps.refl _ _
  · refine Keeps.tr ?_ (Keeps.mono rfl (upsetWords_fr ..))
    refine Keeps.tr ?_ (forEach_fr _ _ (fun iz1 sz1 => ?_) _)
    · exact Keeps.mono rfl (frame_fr ..)
    · exact Keeps.mono rfl (hwFlags_fr ..)

theorem execBothcs_fr (s : State) : KeepsOut 5 s (execBothcs s) := by
  unfold execBothcs
  refine KeepsOut.next ?_
  refine Keeps.ite ?_ ?_
  · exact Keeps.refl _ _
  · refine Keeps.tr ?_ (Keeps.mono rfl (logFrame_fr ..))
    exact Keeps.mono rfl (Keeps.put_hp _ _)

theorem execGo_fr (a0) (s : State) : KeepsOut 5 s (execGo a0 s) := by
  unfold execGo
  refine KeepsOut.next ?_
  refine Keeps.ite ?_ ?_
  · exact Keeps.refl _ _
  · exact Keeps.mono rfl (goSend_fr ..)

theorem execAbort_fr (a0) (s : State) : KeepsOut 1 s (execAbort a0 s) := by
  unfold execAbort
  refine KeepsOut.next ?_
  refine Keeps.ite ?_ ?_
  · exact Keeps.refl _ _
  · exact Keeps.mono rfl (abortSend_fr ..)

theorem execReplyRelease_fr (a0) (s : State) : KeepsOut 9 s (execReplyRelease a0 s) := by
  unfold execReplyRelease
  refine KeepsOut.next ?_
  refine Keeps.ite ?_ ?_
  · exact Keeps.refl _ _
  · exact Keeps.mono rfl (releaseReply_fr ..)

theorem execNepochWrite_fr (a0) (a1) (s : State) : KeepsOut 1 s (execNepochWrite a0 a1 s) := by
  unfold execNepochWrite
  refine KeepsOut.next ?_
  refine Keeps.ite ?_ ?_
  · exact Keeps.refl _ _
  · exact Keeps.mono rfl (epochWrite_fr ..)

theorem execSepochWrite_fr (a0) (s : State) : KeepsOut 1 s (execSepochWrite a0 s) := by
  unfold execSepochWrite
  refine KeepsOut.next ?_
  refine Keeps.ite ?_ ?_
  · exact Keeps.refl _ _
  · exact Keeps.mono rfl (epochWrite_fr ..)

theorem execHostwdWrite_fr (a0) (a1) (s : State) : KeepsOut 5 s (execHostwdWrite a0 a1 s) := by
  unfold execHostwdWrite
  refine KeepsOut.next ?_
  refine Keeps.ite ?_ ?_
  · exact Keeps.refl _ _
  · exact Keeps.mono rfl (hostwdWrite_fr ..)

theorem execDbinWrite_fr (a0) (a1) (s : State) : KeepsOut 1 s (execDbinWrite a0 a1 s) := by
  unfold execDbinWrite
  refine KeepsOut.next ?_
  refine Keeps.ite ?_ ?_
  · exact Keeps.refl _ _
  · exact Keeps.mono rfl (dbinWrite_fr ..)

theorem execInboundTimeout_fr (a0) (s : State) : KeepsOut 524289 s (execInboundTimeout a0 s) := by
  unfold execInboundTimeout
  refine KeepsOut.next ?_
  extract_lets +onlyGivenNames -merge -useContext x1
  try clear_value x1
  refine Keeps.ite ?_ ?_
  · refine Keeps.tr ?_ (Keeps.mono rfl (withdraw_fr ..))
    exact Keeps.mono rfl (State_advTo_fr ..)
  · exact Keeps.refl _ _

theorem execReplyTimeout_fr (a0) (s : State) : KeepsOut 524289 s (execReplyTimeout a0 s) := by
  unfold execReplyTimeout
  refine KeepsOut.next ?_
  extract_lets +onlyGivenNames -merge -useContext x1
  try clear_value x1
  refine Keeps.ite ?_ ?_
  · extract_lets +onlyGivenNames -merge -useContext x2
    have h3 : Keeps 524289 s x2 := by
      unfold x2
      exact Keeps.mono rfl (State_advTo_fr ..)
    try clear_value x2
    extract_lets +onlyGivenNames -merge -useContext x4
    try clear_value x4
    refine Keeps.tr ?_ (Keeps.mono rfl (ringBit_fr ..))
    exact Keeps.tr h3 (Keeps.mono rfl (putStat_fr ..))
  · exact Keeps.refl _ _

end Sys2Proof.Machine
end

