-- ==== Sys2Proof/Laws/FramePoints.lean ====
section
/-! SUPPORT. Sys2Proof/Laws/FramePoints.lean: for each operation of Machine/Points.lean, what it leaves (Laws/Frame.lean). -/

namespace Sys2Proof.Machine

open Sys2Proof

theorem runOp_fr {m : Nat} (hm : 8 &&& m = 8) (id code : Nat) (op : Cmd → Nat) (mine : Nat) (valid : List Nat)
    (body : Cmd → State → Reply × State) (h : ∀ c s, Keeps m s (body c s).2) (s : State) :
    Keeps m s (runOp id code op mine valid body s) := by
  unfold runOp
  split
  · exact Keeps.refl _ _
  · refine Keeps.ite (runCmd_fr (mask_sub hm rfl) _ _ _ h _) (Keeps.ite (Keeps.refl _ _) ?_)
    exact runCmd_fr (mask_sub hm rfl) _ _ _ (fun _ s => Keeps.refl _ s) _

theorem execPointRead_fr (a0) (s : State) : KeepsOut 8 s (execPointRead a0 s) := by
  unfold execPointRead
  refine KeepsOut.next ?_
  refine Keeps.tr ?_ (runCmd_fr rfl _ _ _ (fun iz1 sz1 => ?_) _)
  · exact Keeps.refl _ _
  · extract_lets +onlyGivenNames -merge -useContext x2
    try clear_value x2
    refine checked_fr ?_ ?_
    · exact Keeps.refl _ _
    · extract_lets +onlyGivenNames -merge -useContext x3
      try clear_value x3
      extract_lets +onlyGivenNames -merge -useContext x4
      try clear_value x4
      refine Keeps.pair ?_
      exact Keeps.refl _ _

theorem execPointWrite_fr (a0) (s : State) : KeepsOut 73 s (execPointWrite a0 s) := by
  unfold execPointWrite
  refine KeepsOut.next ?_
  refine Keeps.tr ?_ (runCmd_fr rfl _ _ _ (fun iz1 sz1 => ?_) _)
  · exact Keeps.refl _ _
  · extract_lets +onlyGivenNames -merge -useContext x2
    try clear_value x2
    extract_lets +onlyGivenNames -merge -useContext x3
    try clear_value x3
    extract_lets +onlyGivenNames -merge -useContext x4
    try clear_value x4
    refine checked_fr ?_ ?_
    · exact Keeps.refl _ _
    · refine Keeps.ite2 ?_ ?_
      · refine Keeps.pair ?_
        exact Keeps.refl _ _
      · refine checked_fr ?_ ?_
        · exact Keeps.refl _ _
        · refine Keeps.pair ?_
          exact Keeps.mono rfl (publishVirtual_fr ..)

theorem popMany_fr (p : Nat) : ∀ (k : Nat) (s : State), Keeps 65 s (popMany p k s).2
  | 0, s => Keeps.refl _ s
  | k + 1, s => by
    unfold popMany
    split
    · exact Keeps.refl _ _
    · next e t hp => exact Keeps.tr (Keeps.mono rfl (popPart_fr hp)) (popMany_fr p k t)

theorem execPointStreamDrain_fr (a0) (s : State) : KeepsOut 73 s (execPointStreamDrain a0 s) := by
  unfold execPointStreamDrain
  refine KeepsOut.next ?_
  refine Keeps.tr ?_ (runOp_fr rfl _ _ _ _ _ _ (fun iz1 sz1 => ?_) _)
  · exact Keeps.refl _ _
  · extract_lets +onlyGivenNames -merge -useContext x2
    try clear_value x2
    refine checked_fr ?_ ?_
    · exact Keeps.refl _ _
    · extract_lets +onlyGivenNames -merge -useContext x3
      have h4 : Keeps 73 sz1 x3.2 := by
        unfold x3
        exact Keeps.mono rfl (popMany_fr ..)
      try clear_value x3
      extract_lets +onlyGivenNames -merge -useContext x5
      have h6 : Keeps 73 sz1 x5 := by
        unfold x5
        exact h4
      try clear_value x5
      extract_lets +onlyGivenNames -merge -useContext x7
      try clear_value x7
      extract_lets +onlyGivenNames -merge -useContext y8 x9
      have h10 : Keeps 73 sz1 x9 := by
        unfold x9
        exact Keeps.tr h6 (Keeps.mono rfl (Keeps.put_fw _ _))
      try clear_value x9
      refine Keeps.pair ?_
      exact h10

theorem streamChange_fr (a0) (a1) (s : State) : Keeps 1 s (streamChange a0 a1 s).2 := by
  unfold streamChange
  extract_lets +onlyGivenNames -merge -useContext x1
  try clear_value x1
  refine checked_fr ?_ ?_
  · exact Keeps.refl _ _
  · refine Keeps.pair ?_
    refine Keeps.tr ?_ (forEach_fr _ _ (fun iz2 sz2 => ?_) _)
    · exact Keeps.refl _ _
    · exact Keeps.mono rfl (State_setB_fr ..)

theorem execPointStreamAdd_fr (a0) (s : State) : KeepsOut 9 s (execPointStreamAdd a0 s) := by
  unfold execPointStreamAdd
  refine KeepsOut.next ?_
  refine Keeps.tr ?_ (runOp_fr rfl _ _ _ _ _ _ (fun iz1 sz1 => ?_) _)
  · exact Keeps.refl _ _
  · exact Keeps.mono rfl (streamChange_fr ..)

theorem execPointStreamRemove_fr (a0) (s : State) : KeepsOut 9 s (execPointStreamRemove a0 s) := by
  unfold execPointStreamRemove
  refine KeepsOut.next ?_
  refine Keeps.tr ?_ (runOp_fr rfl _ _ _ _ _ _ (fun iz1 sz1 => ?_) _)
  · exact Keeps.refl _ _
  · exact Keeps.mono rfl (streamChange_fr ..)

theorem execPointInfo_fr (a0) (s : State) : KeepsOut 8 s (execPointInfo a0 s) := by
  unfold execPointInfo
  refine KeepsOut.next ?_
  refine Keeps.tr ?_ (runCmd_fr rfl _ _ _ (fun iz1 sz1 => ?_) _)
  · exact Keeps.refl _ _
  · extract_lets +onlyGivenNames -merge -useContext x2
    try clear_value x2
    extract_lets +onlyGivenNames -merge -useContext x3
    try clear_value x3
    refine checked_fr ?_ ?_
    · exact Keeps.refl _ _
    · refine Keeps.pair ?_
      exact Keeps.refl _ _

end Sys2Proof.Machine
end

