-- ==== Sys2Proof/Laws/FrameLoops.lean ====
section
/-! SUPPORT. Sys2Proof/Laws/FrameLoops.lean: for each operation of Machine/Loops.lean, what it leaves (Laws/Frame.lean). -/

namespace Sys2Proof.Machine

open Sys2Proof

theorem execLoopRead_fr (a0) (s : State) : KeepsOut 8 s (execLoopRead a0 s) := by
  unfold execLoopRead
  refine KeepsOut.next ?_
  refine Keeps.tr ?_ (runCmd_fr rfl _ _ _ (fun iz1 sz1 => ?_) _)
  · exact Keeps.refl _ _
  · extract_lets +onlyGivenNames -merge -useContext x2
    try clear_value x2
    extract_lets +onlyGivenNames -merge -useContext x3
    try clear_value x3
    refine checked_fr ?_ ?_
    · exact Keeps.refl _ _
    · refine Keeps.pair ?_
      exact Keeps.refl _ _

theorem stageAll_fr (a0) (a1) (s : State) : Keeps 257 s (stageAll a0 a1 s) := by
  unfold stageAll
  refine Keeps.tr ?_ (forEach_fr _ _ (fun iz1 sz1 => ?_) _)
  · exact Keeps.refl _ _
  · exact Keeps.mono rfl (stage_fr ..)

theorem execLoopSet_fr (a0) (s : State) : KeepsOut 265 s (execLoopSet a0 s) := by
  unfold execLoopSet
  refine KeepsOut.next ?_
  refine Keeps.tr ?_ (runCmd_fr rfl _ _ _ (fun iz1 sz1 => ?_) _)
  · exact Keeps.refl _ _
  · extract_lets +onlyGivenNames -merge -useContext x2
    try clear_value x2
    extract_lets +onlyGivenNames -merge -useContext x3
    try clear_value x3
    extract_lets +onlyGivenNames -merge -useContext x4
    try clear_value x4
    extract_lets +onlyGivenNames -merge -useContext x5
    try clear_value x5
    extract_lets +onlyGivenNames -merge -useContext x6
    try clear_value x6
    refine checked_fr ?_ ?_
    · exact Keeps.refl _ _
    · refine Keeps.ite2 ?_ ?_
      · refine Keeps.pair ?_
        exact Keeps.refl _ _
      · refine checked_fr ?_ ?_
        · exact Keeps.refl _ _
        · refine Keeps.pair ?_
          exact Keeps.mono rfl (stageAll_fr ..)

theorem execLoopMode_fr (a0) (s : State) : KeepsOut 265 s (execLoopMode a0 s) := by
  unfold execLoopMode
  refine KeepsOut.next ?_
  refine Keeps.tr ?_ (runCmd_fr rfl _ _ _ (fun iz1 sz1 => ?_) _)
  · exact Keeps.refl _ _
  · extract_lets +onlyGivenNames -merge -useContext x2
    try clear_value x2
    extract_lets +onlyGivenNames -merge -useContext x3
    try clear_value x3
    extract_lets +onlyGivenNames -merge -useContext x4
    try clear_value x4
    refine checked_fr ?_ ?_
    · exact Keeps.refl _ _
    · refine Keeps.ite2 ?_ ?_
      · refine Keeps.pair ?_
        exact Keeps.refl _ _
      · extract_lets +onlyGivenNames -merge -useContext x5
        try clear_value x5
        refine Keeps.pair ?_
        exact Keeps.mono rfl (stageAll_fr ..)

theorem grantService_fr (a0) (a1) (a2) (a3) (s : State) : Keeps 1545 s (grantService a0 a1 a2 a3 s) := by
  unfold grantService
  extract_lets +onlyGivenNames -merge -useContext x1
  have h2 : Keeps 1545 s x1 := by
    unfold x1
    refine Keeps.tr ?_ (forEach_fr _ _ (fun iz3 sz3 => ?_) _)
    · exact Keeps.refl _ _
    · refine Keeps.tr ?_ (Keeps.mono rfl (endOverride_fr ..))
      exact Keeps.mono rfl (Keeps.put_fw _ _)
  try clear_value x1
  refine Keeps.tr ?_ (Keeps.mono rfl (refreshDblk_fr ..))
  refine Keeps.tr ?_ (forEach_fr _ _ (fun iz4 sz4 => ?_) _)
  · exact h2
  · exact Keeps.mono rfl (refreshDemand_fr ..)

theorem startTune_fr (a0) (a1) (a2) (s : State) : Keeps 1801 s (startTune a0 a1 a2 s) := by
  unfold startTune
  extract_lets +onlyGivenNames -merge -useContext x1
  try clear_value x1
  extract_lets +onlyGivenNames -merge -useContext x2
  try clear_value x2
  extract_lets +onlyGivenNames -merge -useContext x3
  have h4 : Keeps 1801 s x3 := by
    unfold x3
    refine Keeps.tr ?_ (Keeps.mono rfl (State_setReg_fr ..))
    refine Keeps.tr ?_ (Keeps.mono rfl (State_setReg_fr ..))
    exact Keeps.mono rfl (State_setReg_fr ..)
  try clear_value x3
  extract_lets +onlyGivenNames -merge -useContext x5
  have h6 : Keeps 1801 s x5 := by
    unfold x5
    exact Keeps.tr h4 (Keeps.mono rfl (State_setReg_fr ..))
  try clear_value x5
  extract_lets +onlyGivenNames -merge -useContext x7
  have h8 : Keeps 1801 s x7 := by
    unfold x7
    exact Keeps.tr h6 (Keeps.mono rfl (armTuner_fr ..))
  try clear_value x7
  extract_lets +onlyGivenNames -merge -useContext y9 x10
  have h11 : Keeps 1801 s x10 := by
    unfold x10
    exact Keeps.tr h8 (Keeps.mono rfl (Keeps.put_camb _ _))
  try clear_value x10
  exact Keeps.tr h11 (Keeps.mono rfl (grantService_fr ..))

theorem execLoopTune_fr (a0) (s : State) : KeepsOut 1801 s (execLoopTune a0 s) := by
  unfold execLoopTune
  refine KeepsOut.next ?_
  refine Keeps.tr ?_ (runCmd_fr rfl _ _ _ (fun iz1 sz1 => ?_) _)
  · exact Keeps.refl _ _
  · extract_lets +onlyGivenNames -merge -useContext x2
    try clear_value x2
    extract_lets +onlyGivenNames -merge -useContext x3
    try clear_value x3
    extract_lets +onlyGivenNames -merge -useContext x4
    try clear_value x4
    extract_lets +onlyGivenNames -merge -useContext x5
    try clear_value x5
    extract_lets +onlyGivenNames -merge -useContext x6
    try clear_value x6
    extract_lets +onlyGivenNames -merge -useContext x7
    try clear_value x7
    refine checked_fr ?_ ?_
    · exact Keeps.refl _ _
    · split
      · refine Keeps.pair ?_
        exact Keeps.refl _ _
      · split
        · refine Keeps.pair ?_
          exact Keeps.refl _ _
        · refine checked_fr ?_ ?_
          · exact Keeps.refl _ _
          · refine Keeps.pair ?_
            exact Keeps.mono rfl (startTune_fr ..)

theorem returnTune_fr (a0) (s : State) : Keeps 1572859 s (returnTune a0 s) := by
  unfold returnTune
  extract_lets +onlyGivenNames -merge -useContext y1 x2
  have h3 : Keeps 1572859 s x2 := by
    unfold x2
    exact Keeps.mono rfl (Keeps.put_fw _ _)
  try clear_value x2
  extract_lets +onlyGivenNames -merge -useContext x4
  have h5 : Keeps 1572859 s x4 := by
    unfold x4
    refine Keeps.tr ?_ (forEach_fr _ _ (fun iz6 sz6 => ?_) _)
    · exact h3
    · refine Keeps.ite ?_ ?_
      · exact Keeps.refl _ _
      · exact Keeps.mono rfl (passBack_fr ..)
  try clear_value x4
  refine Keeps.tr ?_ (Keeps.mono rfl (refreshDblk_fr ..))
  refine Keeps.tr ?_ (forEach_fr _ _ (fun iz7 sz7 => ?_) _)
  · exact h5
  · exact Keeps.mono rfl (refreshDemand_fr ..)

theorem finishTune_fr (a0) (s : State) : Keeps 1572859 s (finishTune a0 s) := by
  unfold finishTune
  extract_lets +onlyGivenNames -merge -useContext x1
  try clear_value x1
  extract_lets +onlyGivenNames -merge -useContext x2
  try clear_value x2
  extract_lets +onlyGivenNames -merge -useContext x3
  try clear_value x3
  extract_lets +onlyGivenNames -merge -useContext x4
  try clear_value x4
  extract_lets +onlyGivenNames -merge -useContext x5
  try clear_value x5
  extract_lets +onlyGivenNames -merge -useContext x6
  try clear_value x6
  extract_lets +onlyGivenNames -merge -useContext x7
  try clear_value x7
  extract_lets +onlyGivenNames -merge -useContext x8
  try clear_value x8
  extract_lets +onlyGivenNames -merge -useContext y9 x10
  have h11 : Keeps 1572859 s x10 := by
    unfold x10
    exact Keeps.mono rfl (Keeps.put_camb _ _)
  try clear_value x10
  extract_lets +onlyGivenNames -merge -useContext x12
  have h13 : Keeps 1572859 s x12 := by
    unfold x12
    exact Keeps.tr h11 (Keeps.mono rfl (returnTune_fr ..))
  try clear_value x12
  extract_lets +onlyGivenNames -merge -useContext x14
  have h15 : Keeps 1572859 s x14 := by
    unfold x14
    refine Keeps.ite ?_ ?_
    · exact Keeps.tr h13 (Keeps.mono rfl (stageAll_fr ..))
    · exact h13
  try clear_value x14
  exact Keeps.tr h15 (Keeps.mono rfl (finishCmd_fr ..))

theorem execTuneRunEnd_fr (a0) (s : State) : KeepsOut 1572859 s (execTuneRunEnd a0 s) := by
  unfold execTuneRunEnd
  refine KeepsOut.next ?_
  split
  · refine Keeps.ite ?_ ?_
    · exact Keeps.mono rfl (finishTune_fr ..)
    · exact Keeps.refl _ _
  · exact Keeps.refl _ _

end Sys2Proof.Machine
end

