-- ==== Sys2Proof/Laws/FrameDriveCmds.lean ====
section
/-! SUPPORT. Sys2Proof/Laws/FrameDriveCmds.lean: for each operation of Machine/DriveCmds.lean, what it leaves (Laws/Frame.lean). -/

namespace Sys2Proof.Machine

open Sys2Proof

theorem execDriveRead_fr (a0) (s : State) : KeepsOut 1048587 s (execDriveRead a0 s) := by
  unfold execDriveRead
  refine KeepsOut.next ?_
  refine Keeps.tr ?_ (runCmd_fr rfl _ _ _ (fun iz1 sz1 => ?_) _)
  · exact Keeps.refl _ _
  · extract_lets +onlyGivenNames -merge -useContext x2
    try clear_value x2
    extract_lets +onlyGivenNames -merge -useContext x3
    try clear_value x3
    refine checked_fr ?_ ?_
    · exact Keeps.refl _ _
    · refine overBark_fr rfl ?_ (fun sb4 => ?_)
      · exact Keeps.refl _ _
      · extract_lets +onlyGivenNames -merge -useContext x5
        try clear_value x5
        refine Keeps.pair ?_
        exact Keeps.refl _ _

theorem execDriveCommand_fr (a0) (s : State) : KeepsOut 1545 s (execDriveCommand a0 s) := by
  unfold execDriveCommand
  refine KeepsOut.next ?_
  refine Keeps.tr ?_ (runCmd_fr rfl _ _ _ (fun iz1 sz1 => ?_) _)
  · exact Keeps.refl _ _
  · refine checked_fr ?_ ?_
    · exact Keeps.refl _ _
    · extract_lets +onlyGivenNames -merge -useContext x2
      try clear_value x2
      extract_lets +onlyGivenNames -merge -useContext x3
      try clear_value x3
      refine Keeps.ite2 ?_ ?_
      · refine Keeps.pair ?_
        exact Keeps.refl _ _
      · refine Keeps.ite2 ?_ ?_
        · refine Keeps.pair ?_
          refine Keeps.tr ?_ (Keeps.mono rfl (refreshDblk_fr ..))
          refine Keeps.tr ?_ (Keeps.mono rfl (refreshDemand_fr ..))
          exact Keeps.mono rfl (endOverride_fr ..)
        · refine checked_fr ?_ ?_
          · exact Keeps.refl _ _
          · extract_lets +onlyGivenNames -merge -useContext y4 x5
            have h6 : Keeps 1545 sz1 x5 := by
              unfold x5
              exact Keeps.mono rfl (Keeps.put_fw _ _)
            try clear_value x5
            refine Keeps.pair ?_
            refine Keeps.tr ?_ (Keeps.mono rfl (refreshDblk_fr ..))
            exact Keeps.tr h6 (Keeps.mono rfl (refreshDemand_fr ..))

theorem execDriveDiag_fr (a0) (s : State) : KeepsOut 1048587 s (execDriveDiag a0 s) := by
  unfold execDriveDiag
  refine KeepsOut.next ?_
  refine Keeps.tr ?_ (runCmd_fr rfl _ _ _ (fun iz1 sz1 => ?_) _)
  · exact Keeps.refl _ _
  · extract_lets +onlyGivenNames -merge -useContext x2
    try clear_value x2
    extract_lets +onlyGivenNames -merge -useContext x3
    try clear_value x3
    refine checked_fr ?_ ?_
    · exact Keeps.refl _ _
    · refine Keeps.ite2 ?_ ?_
      · refine Keeps.pair ?_
        exact Keeps.refl _ _
      · refine overBark_fr rfl ?_ (fun sb4 => ?_)
        · exact Keeps.refl _ _
        · extract_lets +onlyGivenNames -merge -useContext x5
          try clear_value x5
          extract_lets +onlyGivenNames -merge -useContext x6
          try clear_value x6
          refine Keeps.pair ?_
          refine Keeps.ite ?_ ?_
          · exact Keeps.mono rfl (drvWrite_fr ..)
          · exact Keeps.refl _ _

theorem execDriveSafeval_fr (a0) (s : State) : KeepsOut 1048587 s (execDriveSafeval a0 s) := by
  unfold execDriveSafeval
  refine KeepsOut.next ?_
  refine Keeps.tr ?_ (runCmd_fr rfl _ _ _ (fun iz1 sz1 => ?_) _)
  · exact Keeps.refl _ _
  · extract_lets +onlyGivenNames -merge -useContext x2
    try clear_value x2
    extract_lets +onlyGivenNames -merge -useContext x3
    try clear_value x3
    extract_lets +onlyGivenNames -merge -useContext x4
    try clear_value x4
    refine checked_fr ?_ ?_
    · exact Keeps.refl _ _
    · refine Keeps.ite2 ?_ ?_
      · refine Keeps.pair ?_
        exact Keeps.refl _ _
      · refine overBark_fr rfl ?_ (fun sb5 => ?_)
        · exact Keeps.refl _ _
        · refine Keeps.pair ?_
          exact Keeps.mono rfl (State_setReg_fr ..)

theorem execDriveCalibrate_fr (a0) (s : State) : KeepsOut 1545 s (execDriveCalibrate a0 s) := by
  unfold execDriveCalibrate
  refine KeepsOut.next ?_
  refine Keeps.tr ?_ (runCmd_fr rfl _ _ _ (fun iz1 sz1 => ?_) _)
  · exact Keeps.refl _ _
  · extract_lets +onlyGivenNames -merge -useContext x2
    try clear_value x2
    refine checked_fr ?_ ?_
    · exact Keeps.refl _ _
    · extract_lets +onlyGivenNames -merge -useContext x3
      try clear_value x3
      extract_lets +onlyGivenNames -merge -useContext x4
      try clear_value x4
      extract_lets +onlyGivenNames -merge -useContext x5
      try clear_value x5
      split
      · refine Keeps.pair ?_
        exact Keeps.refl _ _
      · refine checked_fr ?_ ?_
        · exact Keeps.refl _ _
        · extract_lets +onlyGivenNames -merge -useContext x6
          try clear_value x6
          extract_lets +onlyGivenNames -merge -useContext x7
          have h8 : Keeps 1545 sz1 x7 := by
            unfold x7
            exact Keeps.mono rfl (grantService_fr ..)
          try clear_value x7
          extract_lets +onlyGivenNames -merge -useContext y9 x10
          have h11 : Keeps 1545 sz1 x10 := by
            unfold x10
            refine Keeps.tr ?_ (Keeps.mono rfl (cancel_fr ..))
            exact Keeps.tr h8 (Keeps.mono rfl (Keeps.put_drv _ _))
          try clear_value x10
          extract_lets +onlyGivenNames -merge -useContext x12
          try clear_value x12
          refine Keeps.pair ?_
          refine Keeps.ite ?_ ?_
          · exact h11
          · exact Keeps.tr h11 (Keeps.mono rfl (calRequest_fr ..))

theorem execDriveBudget_fr (a0) (s : State) : KeepsOut 1049096 s (execDriveBudget a0 s) := by
  unfold execDriveBudget
  refine KeepsOut.next ?_
  refine Keeps.tr ?_ (runCmd_fr rfl _ _ _ (fun iz1 sz1 => ?_) _)
  · exact Keeps.refl _ _
  · extract_lets +onlyGivenNames -merge -useContext x2
    have h3 : Keeps 1049096 sz1 x2 := by
      unfold x2
      exact Keeps.mono rfl (settleTa_fr ..)
    try clear_value x2
    extract_lets +onlyGivenNames -merge -useContext x4
    try clear_value x4
    extract_lets +onlyGivenNames -merge -useContext x5
    try clear_value x5
    refine Keeps.pair ?_
    exact h3

theorem execFanRead_fr (a0) (s : State) : KeepsOut 1048587 s (execFanRead a0 s) := by
  unfold execFanRead
  refine KeepsOut.next ?_
  refine Keeps.tr ?_ (runCmd_fr rfl _ _ _ (fun iz1 sz1 => ?_) _)
  · exact Keeps.refl _ _
  · extract_lets +onlyGivenNames -merge -useContext x2
    try clear_value x2
    extract_lets +onlyGivenNames -merge -useContext x3
    try clear_value x3
    refine checked_fr ?_ ?_
    · exact Keeps.refl _ _
    · refine overBark_fr rfl ?_ (fun sb4 => ?_)
      · exact Keeps.refl _ _
      · refine Keeps.pair ?_
        exact Keeps.refl _ _

theorem execFanCommand_fr (a0) (s : State) : KeepsOut 1545 s (execFanCommand a0 s) := by
  unfold execFanCommand
  refine KeepsOut.next ?_
  refine Keeps.tr ?_ (runCmd_fr rfl _ _ _ (fun iz1 sz1 => ?_) _)
  · exact Keeps.refl _ _
  · refine checked_fr ?_ ?_
    · exact Keeps.refl _ _
    · extract_lets +onlyGivenNames -merge -useContext x2
      try clear_value x2
      extract_lets +onlyGivenNames -merge -useContext x3
      try clear_value x3
      refine Keeps.ite2 ?_ ?_
      · refine Keeps.pair ?_
        exact Keeps.refl _ _
      · refine Keeps.ite2 ?_ ?_
        · refine Keeps.pair ?_
          refine Keeps.tr ?_ (Keeps.mono rfl (refreshDblk_fr ..))
          refine Keeps.tr ?_ (Keeps.mono rfl (refreshDemand_fr ..))
          exact Keeps.mono rfl (endOverride_fr ..)
        · refine checked_fr ?_ ?_
          · exact Keeps.refl _ _
          · extract_lets +onlyGivenNames -merge -useContext y4 x5
            have h6 : Keeps 1545 sz1 x5 := by
              unfold x5
              exact Keeps.mono rfl (Keeps.put_fw _ _)
            try clear_value x5
            refine Keeps.pair ?_
            refine Keeps.tr ?_ (Keeps.mono rfl (refreshDblk_fr ..))
            exact Keeps.tr h6 (Keeps.mono rfl (refreshDemand_fr ..))

theorem execFanFailsafe_fr (a0) (s : State) : KeepsOut 1050123 s (execFanFailsafe a0 s) := by
  unfold execFanFailsafe
  refine KeepsOut.next ?_
  refine Keeps.tr ?_ (runCmd_fr rfl _ _ _ (fun iz1 sz1 => ?_) _)
  · exact Keeps.refl _ _
  · extract_lets +onlyGivenNames -merge -useContext x2
    try clear_value x2
    extract_lets +onlyGivenNames -merge -useContext x3
    try clear_value x3
    extract_lets +onlyGivenNames -merge -useContext x4
    try clear_value x4
    refine checked_fr ?_ ?_
    · exact Keeps.refl _ _
    · refine Keeps.ite2 ?_ ?_
      · refine Keeps.pair ?_
        exact Keeps.refl _ _
      · refine overBark_fr rfl ?_ (fun sb5 => ?_)
        · exact Keeps.refl _ _
        · refine Keeps.pair ?_
          refine Keeps.tr ?_ (Keeps.mono rfl (refreshDemand_fr ..))
          exact Keeps.mono rfl (State_setReg_fr ..)

theorem execFanClearFail_fr (a0) (s : State) : KeepsOut 1050123 s (execFanClearFail a0 s) := by
  unfold execFanClearFail
  refine KeepsOut.next ?_
  refine Keeps.tr ?_ (runCmd_fr rfl _ _ _ (fun iz1 sz1 => ?_) _)
  · exact Keeps.refl _ _
  · extract_lets +onlyGivenNames -merge -useContext x2
    try clear_value x2
    refine checked_fr ?_ ?_
    · exact Keeps.refl _ _
    · refine Keeps.ite2 ?_ ?_
      · refine Keeps.pair ?_
        exact Keeps.refl _ _
      · refine overBark_fr rfl ?_ (fun sb3 => ?_)
        · exact Keeps.refl _ _
        · refine Keeps.pair ?_
          exact Keeps.mono rfl (clearFail_fr ..)

end Sys2Proof.Machine
end

