-- ==== Sys2Proof/Laws/FrameBusCmds.lean ====
section
/-! SUPPORT. Sys2Proof/Laws/FrameBusCmds.lean: for each operation of Machine/BusCmds.lean, what it leaves (Laws/Frame.lean). -/

namespace Sys2Proof.Machine

open Sys2Proof

theorem execBusPort_fr (a0) (s : State) : KeepsOut 2057 s (execBusPort a0 s) := by
  unfold execBusPort
  refine KeepsOut.next ?_
  refine Keeps.tr ?_ (runCmd_fr rfl _ _ _ (fun iz1 sz1 => ?_) _)
  · exact Keeps.refl _ _
  · extract_lets +onlyGivenNames -merge -useContext x2
    try clear_value x2
    extract_lets +onlyGivenNames -merge -useContext x3
    try clear_value x3
    extract_lets +onlyGivenNames -merge -useContext x4
    try clear_value x4
    extract_lets +onlyGivenNames -merge -useContext x5
    try clear_value x5
    extract_lets +onlyGivenNames -merge -useContext x6
    try clear_value x6
    refine checked_fr ?_ ?_
    · exact Keeps.refl _ _
    · refine Keeps.ite2 ?_ ?_
      · refine Keeps.pair ?_
        exact Keeps.refl _ _
      · refine checked_fr ?_ ?_
        · exact Keeps.refl _ _
        · extract_lets +onlyGivenNames -merge -useContext x7
          have h8 : Keeps 2057 sz1 x7 := by
            unfold x7
            exact Keeps.mono rfl (pcfgWrite_fr ..)
          try clear_value x7
          refine Keeps.pair ?_
          refine Keeps.ite ?_ ?_
          · exact Keeps.tr h8 (Keeps.mono rfl (setPort_fr ..))
          · exact h8

theorem execBusStatus_fr (a0) (s : State) : KeepsOut 8 s (execBusStatus a0 s) := by
  unfold execBusStatus
  refine KeepsOut.next ?_
  refine Keeps.tr ?_ (runCmd_fr rfl _ _ _ (fun iz1 sz1 => ?_) _)
  · exact Keeps.refl _ _
  · extract_lets +onlyGivenNames -merge -useContext x2
    try clear_value x2
    extract_lets +onlyGivenNames -merge -useContext x3
    try clear_value x3
    extract_lets +onlyGivenNames -merge -useContext x4
    try clear_value x4
    refine checked_fr ?_ ?_
    · exact Keeps.refl _ _
    · refine Keeps.pair ?_
      exact Keeps.refl _ _

theorem drainTx_fr (a0) (s : State) : Keeps 2048 s (drainTx a0 s) := by
  unfold drainTx
  extract_lets +onlyGivenNames -merge -useContext x1
  try clear_value x1
  extract_lets +onlyGivenNames -merge -useContext x2
  try clear_value x2
  extract_lets +onlyGivenNames -merge -useContext x3
  try clear_value x3
  exact Keeps.mono rfl (setPort_fr ..)

theorem execBusRaw_fr (a0) (s : State) : KeepsOut 2057 s (execBusRaw a0 s) := by
  unfold execBusRaw
  refine KeepsOut.next ?_
  refine Keeps.tr ?_ (runCmd_fr rfl _ _ _ (fun iz1 sz1 => ?_) _)
  · exact Keeps.refl _ _
  · extract_lets +onlyGivenNames -merge -useContext x2
    try clear_value x2
    extract_lets +onlyGivenNames -merge -useContext x3
    try clear_value x3
    extract_lets +onlyGivenNames -merge -useContext x4
    try clear_value x4
    extract_lets +onlyGivenNames -merge -useContext x5
    try clear_value x5
    extract_lets +onlyGivenNames -merge -useContext x6
    try clear_value x6
    refine checked_fr ?_ ?_
    · exact Keeps.refl _ _
    · extract_lets +onlyGivenNames -merge -useContext x7
      have h8 : Keeps 2057 sz1 x7 := by
        unfold x7
        exact Keeps.mono rfl (drainTx_fr ..)
      try clear_value x7
      extract_lets +onlyGivenNames -merge -useContext x9
      try clear_value x9
      refine Keeps.ite2 ?_ ?_
      · refine Keeps.pair ?_
        exact Keeps.refl _ _
      · refine Keeps.ite2 ?_ ?_
        · refine Keeps.pair ?_
          exact Keeps.refl _ _
        · extract_lets +onlyGivenNames -merge -useContext x10
          try clear_value x10
          extract_lets +onlyGivenNames -merge -useContext x11
          try clear_value x11
          extract_lets +onlyGivenNames -merge -useContext x12
          try clear_value x12
          extract_lets +onlyGivenNames -merge -useContext x13
          try clear_value x13
          refine Keeps.pair ?_
          refine Keeps.tr ?_ (Keeps.mono rfl (showFill_fr ..))
          exact Keeps.tr h8 (Keeps.mono rfl (setPort_fr ..))

theorem execBusTwigDiscover_fr (a0) (s : State) : KeepsOut 137 s (execBusTwigDiscover a0 s) := by
  unfold execBusTwigDiscover
  refine KeepsOut.next ?_
  refine Keeps.tr ?_ (runCmd_fr rfl _ _ _ (fun iz1 sz1 => ?_) _)
  · exact Keeps.refl _ _
  · extract_lets +onlyGivenNames -merge -useContext x2
    try clear_value x2
    extract_lets +onlyGivenNames -merge -useContext x3
    try clear_value x3
    refine checked_fr ?_ ?_
    · exact Keeps.refl _ _
    · split
      · refine Keeps.pair ?_
        exact Keeps.refl _ _
      · refine Keeps.pair ?_
        exact Keeps.mono rfl (startRun_fr ..)

theorem stageTrans_fr (a0) (a1) (a2) (s : State) : Keeps 128 s (stageTrans a0 a1 a2 s) := by
  unfold stageTrans
  extract_lets +onlyGivenNames -merge -useContext x1
  try clear_value x1
  extract_lets +onlyGivenNames -merge -useContext x2
  try clear_value x2
  extract_lets +onlyGivenNames -merge -useContext x3
  try clear_value x3
  extract_lets +onlyGivenNames -merge -useContext x4
  try clear_value x4
  exact Keeps.mono rfl (setI2c_fr ..)

theorem commitScript_fr (a0) (a1) (s : State) : Keeps 129 s (commitScript a0 a1 s) := by
  unfold commitScript
  extract_lets +onlyGivenNames -merge -useContext x1
  try clear_value x1
  extract_lets +onlyGivenNames -merge -useContext y2 x3
  have h4 : Keeps 129 s x3 := by
    unfold x3
    exact Keeps.mono rfl (setI2c_fr ..)
  try clear_value x3
  extract_lets +onlyGivenNames -merge -useContext x5
  have h6 : ∀ a7 a8, Keeps 129 a8 (x5 a7 a8) := by
    intro a7 a8
    unfold x5
    extract_lets +onlyGivenNames -merge -useContext x9
    try clear_value x9
    refine Keeps.ite ?_ ?_
    · exact Keeps.mono rfl (trWrite_fr ..)
    · exact Keeps.mono rfl (State_setReg_fr ..)
  try clear_value x5
  refine Keeps.tr ?_ (Keeps.mono rfl (State_setF_fr ..))
  refine Keeps.tr ?_ (forEach_fr _ _ (fun iz10 sz10 => ?_) _)
  · exact h4
  · exact h6 _ _

theorem execBusI2cScript_fr (a0) (s : State) : KeepsOut 137 s (execBusI2cScript a0 s) := by
  unfold execBusI2cScript
  refine KeepsOut.next ?_
  refine Keeps.tr ?_ (runCmd_fr rfl _ _ _ (fun iz1 sz1 => ?_) _)
  · exact Keeps.refl _ _
  · extract_lets +onlyGivenNames -merge -useContext x2
    try clear_value x2
    extract_lets +onlyGivenNames -merge -useContext x3
    try clear_value x3
    extract_lets +onlyGivenNames -merge -useContext x4
    try clear_value x4
    extract_lets +onlyGivenNames -merge -useContext x5
    try clear_value x5
    refine checked_fr ?_ ?_
    · exact Keeps.refl _ _
    · refine Keeps.ite2 ?_ ?_
      · refine Keeps.pair ?_
        exact Keeps.refl _ _
      · refine checked_fr ?_ ?_
        · exact Keeps.refl _ _
        · extract_lets +onlyGivenNames -merge -useContext x6
          have h7 : Keeps 137 sz1 x6 := by
            unfold x6
            exact Keeps.mono rfl (stageTrans_fr ..)
          try clear_value x6
          refine Keeps.pair ?_
          refine Keeps.ite ?_ ?_
          · exact Keeps.tr h7 (Keeps.mono rfl (commitScript_fr ..))
          · exact h7

end Sys2Proof.Machine
end

