-- ==== Sys2Proof/Laws/FrameModbus.lean ====
section
/-! SUPPORT. Sys2Proof/Laws/FrameModbus.lean: for each operation of Machine/Modbus.lean, what it leaves (Laws/Frame.lean). -/

namespace Sys2Proof.Machine

open Sys2Proof

theorem busPoint_fr (a0) (a1) (s : State) : Keeps 73 s (busPoint a0 a1 s).2 := by
  unfold busPoint
  refine Keeps.ite2 ?_ ?_
  · refine Keeps.pair ?_
    exact Keeps.refl _ _
  · refine Keeps.ite2 ?_ ?_
    · refine Keeps.pair ?_
      exact Keeps.refl _ _
    · refine Keeps.ite2 ?_ ?_
      · refine Keeps.pair ?_
        exact Keeps.refl _ _
      · refine Keeps.ite2 ?_ ?_
        · refine Keeps.pair ?_
          exact Keeps.refl _ _
        · refine Keeps.pair ?_
          exact Keeps.mono rfl (publishVirtual_fr ..)

theorem busDrive_fr (a0) (a1) (s : State) : Keeps 1545 s (busDrive a0 a1 s).2 := by
  unfold busDrive
  extract_lets +onlyGivenNames -merge -useContext x1
  try clear_value x1
  extract_lets +onlyGivenNames -merge -useContext x2
  try clear_value x2
  refine Keeps.ite2 ?_ ?_
  · refine Keeps.pair ?_
    exact Keeps.refl _ _
  · refine Keeps.ite2 ?_ ?_
    · refine Keeps.pair ?_
      exact Keeps.refl _ _
    · split
      · refine Keeps.pair ?_
        refine Keeps.tr ?_ (Keeps.mono rfl (refreshDblk_fr ..))
        refine Keeps.tr ?_ (Keeps.mono rfl (refreshDemand_fr ..))
        exact Keeps.mono rfl (endOverride_fr ..)
      · refine Keeps.ite2 ?_ ?_
        · refine Keeps.pair ?_
          exact Keeps.refl _ _
        · refine Keeps.pair ?_
          refine Keeps.tr ?_ (Keeps.mono rfl (refreshDblk_fr ..))
          refine Keeps.tr ?_ (Keeps.mono rfl (refreshDemand_fr ..))
          exact Keeps.mono rfl (Keeps.put_fw _ _)

theorem busFan_fr (a0) (a1) (s : State) : Keeps 1545 s (busFan a0 a1 s).2 := by
  unfold busFan
  extract_lets +onlyGivenNames -merge -useContext x1
  try clear_value x1
  refine Keeps.ite2 ?_ ?_
  · refine Keeps.pair ?_
    exact Keeps.refl _ _
  · refine Keeps.ite2 ?_ ?_
    · refine Keeps.pair ?_
      exact Keeps.refl _ _
    · refine Keeps.ite2 ?_ ?_
      · refine Keeps.pair ?_
        exact Keeps.refl _ _
      · split
        · refine Keeps.pair ?_
          refine Keeps.tr ?_ (Keeps.mono rfl (refreshDblk_fr ..))
          refine Keeps.tr ?_ (Keeps.mono rfl (refreshDemand_fr ..))
          exact Keeps.mono rfl (endOverride_fr ..)
        · refine Keeps.ite2 ?_ ?_
          · refine Keeps.pair ?_
            exact Keeps.refl _ _
          · refine Keeps.pair ?_
            refine Keeps.tr ?_ (Keeps.mono rfl (refreshDblk_fr ..))
            refine Keeps.tr ?_ (Keeps.mono rfl (refreshDemand_fr ..))
            exact Keeps.mono rfl (Keeps.put_fw _ _)

theorem busSetpoint_fr (a0) (a1) (s : State) : Keeps 8 s (busSetpoint a0 a1 s).2 := by
  unfold busSetpoint
  extract_lets +onlyGivenNames -merge -useContext x1
  try clear_value x1
  refine Keeps.ite2 ?_ ?_
  · refine Keeps.pair ?_
    exact Keeps.refl _ _
  · refine Keeps.ite2 ?_ ?_
    · refine Keeps.pair ?_
      exact Keeps.refl _ _
    · refine Keeps.ite2 ?_ ?_
      · refine Keeps.pair ?_
        exact Keeps.refl _ _
      · refine Keeps.pair ?_
        refine Keeps.tr ?_ (Keeps.mono rfl (refreshSp_fr ..))
        exact Keeps.mono rfl (Keeps.put_fw _ _)

theorem writePair_fr (a0) (a1) (s : State) : Keeps 1609 s (writePair a0 a1 s).2 := by
  unfold writePair
  extract_lets +onlyGivenNames -merge -useContext x1
  try clear_value x1
  refine Keeps.ite2 ?_ ?_
  · exact Keeps.mono rfl (busPoint_fr ..)
  · refine Keeps.ite2 ?_ ?_
    · exact Keeps.mono rfl (busSetpoint_fr ..)
    · refine Keeps.ite2 ?_ ?_
      · exact Keeps.mono rfl (busDrive_fr ..)
      · exact Keeps.mono rfl (busFan_fr ..)

theorem readBits_fr (a0) (a1) (s : State) : Keeps 0 s (readBits a0 a1 s).2 := by
  unfold readBits
  refine Keeps.ite2 ?_ ?_
  · refine Keeps.pair ?_
    exact Keeps.refl _ _
  · split
    · refine Keeps.pair ?_
      exact Keeps.refl _ _
    · refine Keeps.pair ?_
      exact Keeps.refl _ _

theorem readRegs_fr (a0) (a1) (s : State) : Keeps 0 s (readRegs a0 a1 s).2 := by
  unfold readRegs
  refine Keeps.ite2 ?_ ?_
  · refine Keeps.pair ?_
    exact Keeps.refl _ _
  · split
    · refine Keeps.pair ?_
      exact Keeps.refl _ _
    · refine Keeps.pair ?_
      exact Keeps.refl _ _

theorem writeAll_fr {α : Type} {m : Nat} (put : α → State → Nat × State) (h : ∀ x s, Keeps m s (put x s).2) :
    ∀ (l : List α) {b s0 s : State}, Keeps m b s0 → Keeps m b s → Keeps m b (writeAll put l s0 s).2
  | [], _, _, _, _, hs => hs
  | x :: t, b, s0, s, h0, hs => by
    unfold writeAll
    exact Keeps.ite2 (writeAll_fr put h t h0 (Keeps.tr hs (h x s))) h0

theorem writeCoils_fr (a0) (a1) (s : State) : Keeps 1545 s (writeCoils a0 a1 s).2 := by
  unfold writeCoils
  refine Keeps.ite2 ?_ ?_
  · extract_lets +onlyGivenNames -merge -useContext x1
    have h2 : Keeps 1545 s x1.2 := by
      unfold x1
      refine writeAll_fr _ (fun xw sw => ?_) _ ?_ ?_
      · exact Keeps.mono rfl (busDrive_fr ..)
      · exact Keeps.refl _ _
      · exact Keeps.refl _ _
    try clear_value x1
    refine Keeps.pair ?_
    exact h2
  · refine Keeps.pair ?_
    exact Keeps.refl _ _

theorem mbWriteCoil_fr (a0) (s : State) : Keeps 1545 s (mbWriteCoil a0 s).2 := by
  unfold mbWriteCoil
  refine Keeps.ite2 ?_ ?_
  · refine Keeps.pair ?_
    exact Keeps.refl _ _
  · exact Keeps.mono rfl (writeCoils_fr ..)

theorem mbWriteReg_fr (a0) (s : State) : Keeps 0 s (mbWriteReg a0 s).2 := by
  unfold mbWriteReg
  refine Keeps.ite2 ?_ ?_
  · refine Keeps.pair ?_
    exact Keeps.refl _ _
  · refine Keeps.pair ?_
    exact Keeps.refl _ _

theorem mbWriteCoils_fr (a0) (s : State) : Keeps 1545 s (mbWriteCoils a0 s).2 := by
  unfold mbWriteCoils
  extract_lets +onlyGivenNames -merge -useContext x1
  try clear_value x1
  extract_lets +onlyGivenNames -merge -useContext x2
  try clear_value x2
  extract_lets +onlyGivenNames -merge -useContext x3
  try clear_value x3
  refine Keeps.ite2 ?_ ?_
  · refine Keeps.pair ?_
    exact Keeps.refl _ _
  · exact Keeps.mono rfl (writeCoils_fr ..)

theorem mbWriteRegs_fr (a0) (s : State) : Keeps 1609 s (mbWriteRegs a0 s).2 := by
  unfold mbWriteRegs
  extract_lets +onlyGivenNames -merge -useContext x1
  try clear_value x1
  extract_lets +onlyGivenNames -merge -useContext x2
  try clear_value x2
  extract_lets +onlyGivenNames -merge -useContext x3
  try clear_value x3
  refine Keeps.ite2 ?_ ?_
  · refine Keeps.pair ?_
    exact Keeps.refl _ _
  · refine Keeps.ite2 ?_ ?_
    · refine Keeps.pair ?_
      exact Keeps.refl _ _
    · extract_lets +onlyGivenNames -merge -useContext x4
      try clear_value x4
      extract_lets +onlyGivenNames -merge -useContext x5
      have h6 : Keeps 1609 s x5.2 := by
        unfold x5
        refine writeAll_fr _ (fun xw sw => ?_) _ ?_ ?_
        · exact Keeps.mono rfl (writePair_fr ..)
        · exact Keeps.refl _ _
        · exact Keeps.refl _ _
      try clear_value x5
      refine Keeps.pair ?_
      exact h6

theorem mbAnswer_fr (a0) (a1) (a2) (s : State) : Keeps 2048 s (mbAnswer a0 a1 a2 s) := by
  unfold mbAnswer
  refine Keeps.ite ?_ ?_
  · exact Keeps.mono rfl (busSend_fr ..)
  · extract_lets +onlyGivenNames -merge -useContext x1
    try clear_value x1
    split
    · exact Keeps.mono rfl (busSend_fr ..)
    · exact Keeps.mono rfl (busSend_fr ..)

theorem slaveFrame_fr {m : Nat} (hm : 2049 &&& m = 2049) (p : Nat) (mine : Nat → Bool) (bcast : Bool) (f : SerialFrame)
    (run : List Byte → State → MbOut × State) (h : ∀ b s, Keeps m s (run b s).2) (s : State) :
    Keeps m s (slaveFrame p mine bcast f run s) := by
  unfold slaveFrame
  refine Keeps.ite ?_ (Keeps.refl _ _)
  extract_lets +onlyGivenNames -merge -useContext x
  have hx : Keeps m s x := Keeps.mono (mask_sub hm rfl) (countErrs_fr ..)
  clear_value x
  split
  · exact Keeps.tr hx (Keeps.mono (mask_sub hm rfl) (badFrame_fr ..))
  · refine Keeps.ite hx (Keeps.ite hx (Keeps.ite ?_ ?_))
    · exact Keeps.tr hx (Keeps.mono (mask_sub hm rfl) (mbAnswer_fr ..))
    · exact Keeps.tr (Keeps.tr hx (h _ x)) (Keeps.mono (mask_sub hm rfl) (mbAnswer_fr ..))

theorem execModbusFunction01_fr (a0) (a1) (s : State) : KeepsOut 2049 s (execModbusFunction01 a0 a1 s) := by
  unfold execModbusFunction01
  refine KeepsOut.next ?_
  refine Keeps.tr ?_ (slaveFrame_fr rfl _ _ _ _ _ (fun iz1 sz1 => ?_) _)
  · exact Keeps.refl _ _
  · exact Keeps.mono rfl (readBits_fr ..)

theorem execModbusFunction02_fr (a0) (a1) (s : State) : KeepsOut 2049 s (execModbusFunction02 a0 a1 s) := by
  unfold execModbusFunction02
  refine KeepsOut.next ?_
  refine Keeps.tr ?_ (slaveFrame_fr rfl _ _ _ _ _ (fun iz1 sz1 => ?_) _)
  · exact Keeps.refl _ _
  · exact Keeps.mono rfl (readBits_fr ..)

theorem execModbusFunction03_fr (a0) (a1) (s : State) : KeepsOut 2049 s (execModbusFunction03 a0 a1 s) := by
  unfold execModbusFunction03
  refine KeepsOut.next ?_
  refine Keeps.tr ?_ (slaveFrame_fr rfl _ _ _ _ _ (fun iz1 sz1 => ?_) _)
  · exact Keeps.refl _ _
  · exact Keeps.mono rfl (readRegs_fr ..)

theorem execModbusFunction04_fr (a0) (a1) (s : State) : KeepsOut 2049 s (execModbusFunction04 a0 a1 s) := by
  unfold execModbusFunction04
  refine KeepsOut.next ?_
  refine Keeps.tr ?_ (slaveFrame_fr rfl _ _ _ _ _ (fun iz1 sz1 => ?_) _)
  · exact Keeps.refl _ _
  · exact Keeps.mono rfl (readRegs_fr ..)

theorem execModbusFunction05_fr (a0) (a1) (s : State) : KeepsOut 3593 s (execModbusFunction05 a0 a1 s) := by
  unfold execModbusFunction05
  refine KeepsOut.next ?_
  refine Keeps.tr ?_ (slaveFrame_fr rfl _ _ _ _ _ (fun iz1 sz1 => ?_) _)
  · exact Keeps.refl _ _
  · exact Keeps.mono rfl (mbWriteCoil_fr ..)

theorem execModbusFunction06_fr (a0) (a1) (s : State) : KeepsOut 2049 s (execModbusFunction06 a0 a1 s) := by
  unfold execModbusFunction06
  refine KeepsOut.next ?_
  refine Keeps.tr ?_ (slaveFrame_fr rfl _ _ _ _ _ (fun iz1 sz1 => ?_) _)
  · exact Keeps.refl _ _
  · exact Keeps.mono rfl (mbWriteReg_fr ..)

theorem execModbusFunction15_fr (a0) (a1) (s : State) : KeepsOut 3593 s (execModbusFunction15 a0 a1 s) := by
  unfold execModbusFunction15
  refine KeepsOut.next ?_
  refine Keeps.tr ?_ (slaveFrame_fr rfl _ _ _ _ _ (fun iz1 sz1 => ?_) _)
  · exact Keeps.refl _ _
  · exact Keeps.mono rfl (mbWriteCoils_fr ..)

theorem execModbusFunction16_fr (a0) (a1) (s : State) : KeepsOut 3657 s (execModbusFunction16 a0 a1 s) := by
  unfold execModbusFunction16
  refine KeepsOut.next ?_
  refine Keeps.tr ?_ (slaveFrame_fr rfl _ _ _ _ _ (fun iz1 sz1 => ?_) _)
  · exact Keeps.refl _ _
  · exact Keeps.mono rfl (mbWriteRegs_fr ..)

theorem execModbusOtherFunction_fr (a0) (a1) (s : State) : KeepsOut 2049 s (execModbusOtherFunction a0 a1 s) := by
  unfold execModbusOtherFunction
  refine KeepsOut.next ?_
  refine Keeps.tr ?_ (slaveFrame_fr rfl _ _ _ _ _ (fun iz1 sz1 => ?_) _)
  · exact Keeps.refl _ _
  · refine Keeps.pair ?_
    exact Keeps.refl _ _

end Sys2Proof.Machine
end

