-- ==== Sys2Proof/Laws/FrameBacnet.lean ====
section
/-! SUPPORT. Sys2Proof/Laws/FrameBacnet.lean: for each operation of Machine/Bacnet.lean, what it leaves (Laws/Frame.lean). -/

namespace Sys2Proof.Machine

open Sys2Proof

theorem readProp_fr (a0) (s : State) : Keeps 1048576 s (readProp a0 s).2 := by
  unfold readProp
  extract_lets +onlyGivenNames -merge -useContext x1
  have h2 : ∀ a3, Keeps 1048576 s (x1 a3).2 := by
    intro a3
    unfold x1
    refine Keeps.pair ?_
    exact Keeps.refl _ _
  try clear_value x1
  refine Keeps.ite2 ?_ ?_
  · refine Keeps.pair ?_
    exact Keeps.refl _ _
  · split
    · exact h2 _
    · exact h2 _
    · refine Keeps.ite2 ?_ ?_
      · exact h2 _
      · refine Keeps.pair ?_
        exact Keeps.refl _ _
    · refine Keeps.ite2 ?_ ?_
      · exact h2 _
      · refine Keeps.pair ?_
        exact Keeps.refl _ _
    · refine Keeps.ite2 ?_ ?_
      · exact h2 _
      · refine Keeps.pair ?_
        exact Keeps.refl _ _
    · refine Keeps.ite2 ?_ ?_
      · split
        · exact h2 _
        · refine Keeps.pair ?_
          exact Keeps.mono rfl (State_draw_fr ..)
      · refine Keeps.pair ?_
        exact Keeps.refl _ _
    · refine Keeps.ite2 ?_ ?_
      · exact h2 _
      · refine Keeps.pair ?_
        exact Keeps.refl _ _
    · refine Keeps.ite2 ?_ ?_
      · exact h2 _
      · refine Keeps.pair ?_
        exact Keeps.refl _ _
    · refine Keeps.ite2 ?_ ?_
      · exact h2 _
      · refine Keeps.pair ?_
        exact Keeps.refl _ _
    · refine Keeps.ite2 ?_ ?_
      · split
        · refine Keeps.pair ?_
          exact Keeps.refl _ _
        · exact h2 _
        · refine Keeps.ite2 ?_ ?_
          · refine Keeps.pair ?_
            exact Keeps.refl _ _
          · split
            · refine Keeps.pair ?_
              exact Keeps.refl _ _
            · refine Keeps.pair ?_
              exact Keeps.refl _ _
      · refine Keeps.pair ?_
        exact Keeps.refl _ _
    · refine Keeps.ite2 ?_ ?_
      · refine Keeps.pair ?_
        exact Keeps.refl _ _
      · refine Keeps.pair ?_
        exact Keeps.refl _ _
    · refine Keeps.ite2 ?_ ?_
      · split
        · exact h2 _
        · refine Keeps.pair ?_
          exact Keeps.refl _ _
      · refine Keeps.pair ?_
        exact Keeps.refl _ _

theorem bacSend_fr (a0) (s : State) : Keeps 2048 s (bacSend a0 s) := by
  unfold bacSend
  exact Keeps.mono rfl (Keeps.put_bus _ _)

theorem bacQueue_fr (a0) (s : State) : Keeps 2048 s (bacQueue a0 s) := by
  unfold bacQueue
  exact Keeps.mono rfl (setPort_fr ..)

theorem answer_fr (a0) (a1) (s : State) : Keeps 2048 s (answer a0 a1 s) := by
  unfold answer
  refine Keeps.tr ?_ (Keeps.mono rfl (bacSend_fr ..))
  exact Keeps.mono rfl (setPort_fr ..)

theorem serve_fr {m : Nat} (hm : 2121 &&& m = 2121) (r : BacReq) (always : Bool) (f : State → BacBody × State)
    (h : ∀ s, Keeps m s (f s).2) (s : State) : Keeps m s (serve r always f s) := by
  unfold serve
  refine Keeps.ite ?_ (Keeps.refl _ _)
  exact Keeps.tr (Keeps.tr (Keeps.mono (mask_sub hm rfl) (crownDrain_fr ..)) (h (crownDrain s))) (Keeps.mono (mask_sub hm rfl) (answer_fr ..))

theorem execReadProperty_fr (a0) (a1) (s : State) : KeepsOut 1050697 s (execReadProperty a0 a1 s) := by
  unfold execReadProperty
  refine KeepsOut.next ?_
  refine Keeps.tr ?_ (serve_fr rfl _ _ _ (fun sz1 => ?_) _)
  · exact Keeps.refl _ _
  · extract_lets +onlyGivenNames -merge -useContext x2
    have h3 : Keeps 1050697 sz1 x2.2 := by
      unfold x2
      exact Keeps.mono rfl (readProp_fr ..)
    try clear_value x2
    refine Keeps.pair ?_
    exact h3

theorem readProps_fr : ∀ (l : List BacRef) (s : State), Keeps 1048576 s (readProps l s).2
  | [], s => Keeps.refl _ s
  | r :: t, s => Keeps.tr (Keeps.mono rfl (readProp_fr r s)) (readProps_fr t _)

theorem execReadPropertyMultiple_fr (a0) (a1) (s : State) : KeepsOut 1050697 s (execReadPropertyMultiple a0 a1 s) := by
  unfold execReadPropertyMultiple
  refine KeepsOut.next ?_
  refine Keeps.tr ?_ (serve_fr rfl _ _ _ (fun sz1 => ?_) _)
  · exact Keeps.refl _ _
  · extract_lets +onlyGivenNames -merge -useContext x2
    have h3 : Keeps 1050697 sz1 x2.2 := by
      unfold x2
      exact Keeps.mono rfl (readProps_fr ..)
    try clear_value x2
    refine Keeps.ite2 ?_ ?_
    · refine Keeps.pair ?_
      exact Keeps.refl _ _
    · refine Keeps.pair ?_
      exact h3

theorem writePrio_fr (a0) (s : State) : Keeps 3593 s (writePrio a0 s).2 := by
  unfold writePrio
  extract_lets +onlyGivenNames -merge -useContext x1
  try clear_value x1
  extract_lets +onlyGivenNames -merge -useContext x2
  try clear_value x2
  extract_lets +onlyGivenNames -merge -useContext x3
  try clear_value x3
  extract_lets +onlyGivenNames -merge -useContext y4 x5
  have h6 : Keeps 3593 s x5 := by
    unfold x5
    exact Keeps.mono rfl (Keeps.put_bus _ _)
  try clear_value x5
  refine Keeps.ite2 ?_ ?_
  · refine Keeps.pair ?_
    exact Keeps.refl _ _
  · extract_lets +onlyGivenNames -merge -useContext x7
    have h8 : Keeps 3593 s x7.2 := by
      unfold x7
      refine Keeps.ite2 ?_ ?_
      · exact Keeps.mono rfl (busDrive_fr ..)
      · exact Keeps.mono rfl (busFan_fr ..)
    try clear_value x7
    refine Keeps.ite2 ?_ ?_
    · refine Keeps.pair ?_
      exact Keeps.refl _ _
    · extract_lets +onlyGivenNames -merge -useContext x9
      have h10 : Keeps 3593 s x9.2 := by
        unfold x9
        refine Keeps.ite2 ?_ ?_
        · exact Keeps.tr h6 (Keeps.mono rfl (busDrive_fr ..))
        · exact Keeps.tr h6 (Keeps.mono rfl (busFan_fr ..))
      try clear_value x9
      refine Keeps.ite2 ?_ ?_
      · refine Keeps.pair ?_
        exact Keeps.refl _ _
      · exact h10

theorem writeLoop_fr {n prop : Nat} {v : Word} {s : State} {r : Nat × State} (h : writeLoop n prop v s = some r) : Keeps 257 s r.2 := by
  have hst : ∀ l, Keeps 257 s (stageAll n l s) := fun l => Keeps.mono rfl (stageAll_fr ..)
  unfold writeLoop at h
  extract_lets p e at h
  have hp : ∀ m, Keeps 257 s (p m) := fun m => hst _
  clear_value p e
  split at h
  · cases h
    cases e
    · exact Keeps.ite2 (Keeps.refl _ _) (hp _)
    · exact Keeps.refl _ _
  · cases ha : loopProp n prop with
    | none => simp [ha] at h
    | some a =>
      simp only [ha, Option.map_some, Option.some.injEq] at h
      cases h
      refine Keeps.ite2 (Keeps.refl _ _) ?_
      cases e
      · exact Keeps.ite2 (Keeps.refl _ _) (hst _)
      · exact Keeps.refl _ _

theorem writeProp_fr {w : BacWrite} {s t : State} (h : writeProp w s = .ok t) : Keeps 1572859 s t := by
  have hfin : ∀ (r : Nat × State) (b : BacBody), Keeps 1572859 s r.2 → ∀ t, (if r.1 = 0 then Except.ok r.2 else Except.error b) = Except.ok t → Keeps 1572859 s t := by
    intro r b hr t ht
    split at ht
    · cases ht; exact hr
    · cases ht
  unfold writeProp at h
  extract_lets +onlyGivenNames -merge -useContext o i fin at h
  clear_value o i
  split at h
  · cases h
  · split at h
    · split at h
      · cases h
      · split at h
        · next hw => exact hfin _ _ (Keeps.mono rfl (writeLoop_fr hw)) _ h
        · cases h
    · split at h
      · cases h
      · split at h
        · exact hfin _ _ (Keeps.mono rfl (writePrio_fr ..)) _ h
        · split at h
          · cases h
          · exact hfin _ _ (Keeps.mono rfl (busPoint_fr ..)) _ h
          · split at h
            · cases h
            · cases h; exact Keeps.mono rfl (setCmdTrig_fr ..)
          · split at h
            · cases h
            · split at h
              · cases h
              · cases h; exact Keeps.mono rfl (setModeOvr_fr ..)
          · cases h

theorem writeProps_fr : ∀ (l : List BacWrite) (s : State), Keeps 1572859 s (writeProps l s).2
  | [], s => Keeps.refl _ s
  | w :: t, s => by
    unfold writeProps
    split
    · next s' hw => exact Keeps.tr (Keeps.mono rfl (writeProp_fr hw)) (writeProps_fr t _)
    · exact Keeps.refl _ _

theorem execWriteProperty_fr (a0) (a1) (s : State) : KeepsOut 1572859 s (execWriteProperty a0 a1 s) := by
  unfold execWriteProperty
  refine KeepsOut.next ?_
  refine Keeps.tr ?_ (serve_fr rfl _ _ _ (fun sz1 => ?_) _)
  · exact Keeps.refl _ _
  · exact Keeps.mono rfl (writeProps_fr ..)

theorem execWritePropertyMultiple_fr (a0) (a1) (s : State) : KeepsOut 1572859 s (execWritePropertyMultiple a0 a1 s) := by
  unfold execWritePropertyMultiple
  refine KeepsOut.next ?_
  refine Keeps.tr ?_ (serve_fr rfl _ _ _ (fun sz1 => ?_) _)
  · exact Keeps.refl _ _
  · exact Keeps.mono rfl (writeProps_fr ..)

theorem execReadRange_fr (a0) (a1) (s : State) : KeepsOut 2121 s (execReadRange a0 a1 s) := by
  unfold execReadRange
  refine KeepsOut.next ?_
  refine Keeps.tr ?_ (serve_fr rfl _ _ _ (fun sz1 => ?_) _)
  · exact Keeps.refl _ _
  · refine Keeps.ite2 ?_ ?_
    · refine Keeps.pair ?_
      exact Keeps.refl _ _
    · refine Keeps.ite2 ?_ ?_
      · refine Keeps.pair ?_
        exact Keeps.refl _ _
      · extract_lets +onlyGivenNames -merge -useContext x2
        try clear_value x2
        refine Keeps.pair ?_
        exact Keeps.refl _ _

theorem setCov_fr (a0) (a1) (s : State) : Keeps 2048 s (setCov a0 a1 s) := by
  unfold setCov
  exact Keeps.mono rfl (Keeps.put_bus _ _)

theorem execSubscribeCov_fr (a0) (a1) (s : State) : KeepsOut 2121 s (execSubscribeCov a0 a1 s) := by
  unfold execSubscribeCov
  refine KeepsOut.next ?_
  refine Keeps.tr ?_ (serve_fr rfl _ _ _ (fun sz1 => ?_) _)
  · exact Keeps.refl _ _
  · extract_lets +onlyGivenNames -merge -useContext x2
    try clear_value x2
    extract_lets +onlyGivenNames -merge -useContext x3
    try clear_value x3
    refine Keeps.ite2 ?_ ?_
    · refine Keeps.pair ?_
      split
      · exact Keeps.mono rfl (setCov_fr ..)
      · exact Keeps.refl _ _
    · refine Keeps.ite2 ?_ ?_
      · refine Keeps.pair ?_
        exact Keeps.refl _ _
      · refine Keeps.ite2 ?_ ?_
        · refine Keeps.pair ?_
          exact Keeps.refl _ _
        · split
          · refine Keeps.pair ?_
            exact Keeps.refl _ _
          · extract_lets +onlyGivenNames -merge -useContext x4
            try clear_value x4
            refine Keeps.pair ?_
            exact Keeps.mono rfl (setCov_fr ..)

theorem execCovNotification_fr (a0) (s : State) : KeepsOut 2121 s (execCovNotification a0 s) := by
  unfold execCovNotification
  refine KeepsOut.next ?_
  split
  · exact Keeps.refl _ _
  · extract_lets +onlyGivenNames -merge -useContext x1
    have h2 : Keeps 2121 s x1 := by
      unfold x1
      refine Keeps.ite ?_ ?_
      · exact Keeps.mono rfl (crownDrain_fr ..)
      · exact Keeps.refl _ _
    try clear_value x1
    split
    · exact h2
    · refine Keeps.ite ?_ ?_
      · extract_lets +onlyGivenNames -merge -useContext x3
        try clear_value x3
        refine Keeps.tr ?_ (Keeps.mono rfl (bacQueue_fr ..))
        exact Keeps.tr h2 (Keeps.mono rfl (setCov_fr ..))
      · exact h2

theorem execCovSubscriptionExpiry_fr (a0) (s : State) : KeepsOut 526336 s (execCovSubscriptionExpiry a0 s) := by
  unfold execCovSubscriptionExpiry
  refine KeepsOut.next ?_
  split
  · refine Keeps.tr ?_ (Keeps.mono rfl (setCov_fr ..))
    exact Keeps.mono rfl (State_advTo_fr ..)
  · exact Keeps.refl _ _

theorem broadcastReply_fr (a0) (s : State) : Keeps 2048 s (broadcastReply a0 s) := by
  unfold broadcastReply
  split
  · refine Keeps.ite ?_ ?_
    · exact Keeps.mono rfl (bacQueue_fr ..)
    · exact Keeps.refl _ _
  · exact Keeps.refl _ _

theorem execWhoIs_fr (a0) (s : State) : KeepsOut 2048 s (execWhoIs a0 s) := by
  unfold execWhoIs
  refine KeepsOut.next ?_
  refine Keeps.ite ?_ ?_
  · exact Keeps.mono rfl (broadcastReply_fr ..)
  · exact Keeps.refl _ _

theorem execWhoHas_fr (a0) (a1) (a2) (s : State) : KeepsOut 2048 s (execWhoHas a0 a1 a2 s) := by
  unfold execWhoHas
  refine KeepsOut.next ?_
  refine Keeps.ite ?_ ?_
  · exact Keeps.mono rfl (broadcastReply_fr ..)
  · exact Keeps.refl _ _

theorem syncTime_fr (a0) (s : State) : Keeps 102475 s (syncTime a0 s) := by
  unfold syncTime
  split
  · refine Keeps.ite ?_ ?_
    · exact Keeps.mono rfl (setClock_fr ..)
    · exact Keeps.refl _ _
  · exact Keeps.refl _ _

theorem execTimeSynchronization_fr (a0) (s : State) : KeepsOut 102475 s (execTimeSynchronization a0 s) := by
  unfold execTimeSynchronization
  refine KeepsOut.next ?_
  exact Keeps.mono rfl (syncTime_fr ..)

theorem execUtcTimeSynchronization_fr (a0) (s : State) : KeepsOut 102475 s (execUtcTimeSynchronization a0 s) := by
  unfold execUtcTimeSynchronization
  refine KeepsOut.next ?_
  exact Keeps.mono rfl (syncTime_fr ..)

theorem withPassword_fr {m : Nat} (hm : 1056769 &&& m = 1056769) (pw : List Byte) (run : State → BacBody × State)
    (h : ∀ s, Keeps m s (run s).2) (s : State) : Keeps m s (withPassword pw run s).2 := by
  unfold withPassword
  have h1 : Keeps m s (checkPassword 0 true (bacPassword pw) s).2 := Keeps.mono (mask_sub hm rfl) (checkPassword_fr ..)
  exact Keeps.ite2 (Keeps.tr h1 (h _)) h1

theorem execDeviceCommunicationControl_fr (a0) (a1) (a2) (a3) (s : State) : KeepsOut 1058889 s (execDeviceCommunicationControl a0 a1 a2 a3 s) := by
  unfold execDeviceCommunicationControl
  refine KeepsOut.next ?_
  refine Keeps.tr ?_ (serve_fr rfl _ _ _ (fun sz1 => ?_) _)
  · exact Keeps.refl _ _
  · refine Keeps.tr ?_ (withPassword_fr rfl _ _ (fun sz2 => ?_) _)
    · exact Keeps.refl _ _
    · extract_lets +onlyGivenNames -merge -useContext x3
      try clear_value x3
      refine Keeps.pair ?_
      exact Keeps.mono rfl (Keeps.put_bus _ _)

theorem execReinitializeDevice_fr (a0) (a1) (a2) (s : State) : KeepsOut 1058889 s (execReinitializeDevice a0 a1 a2 s) := by
  unfold execReinitializeDevice
  refine KeepsOut.next ?_
  refine Keeps.tr ?_ (serve_fr rfl _ _ _ (fun sz1 => ?_) _)
  · exact Keeps.refl _ _
  · refine Keeps.tr ?_ (withPassword_fr rfl _ _ (fun sz2 => ?_) _)
    · exact Keeps.refl _ _
    · refine Keeps.ite2 ?_ ?_
      · refine Keeps.pair ?_
        refine Keeps.ite ?_ ?_
        · exact Keeps.refl _ _
        · exact Keeps.mono rfl (Keeps.put_fw _ _)
      · refine Keeps.pair ?_
        exact Keeps.refl _ _

theorem execUnrecognizedService_fr (a0) (a1) (s : State) : KeepsOut 2121 s (execUnrecognizedService a0 a1 s) := by
  unfold execUnrecognizedService
  refine KeepsOut.next ?_
  refine Keeps.ite ?_ ?_
  · refine Keeps.tr ?_ (serve_fr rfl _ _ _ (fun sz1 => ?_) _)
    · exact Keeps.refl _ _
    · refine Keeps.pair ?_
      exact Keeps.refl _ _
  · exact Keeps.refl _ _

end Sys2Proof.Machine
end

