-- ==== Sys2Proof/Laws/FrameService.lean ====
section
/-! SUPPORT. Sys2Proof/Laws/FrameService.lean: for each operation of Machine/Service.lean, what it leaves (Laws/Frame.lean). -/

namespace Sys2Proof.Machine

open Sys2Proof

theorem svcSend_fr (a0) (s : State) : Keeps 2048 s (svcSend a0 s) := by
  unfold svcSend
  exact Keeps.mono rfl (Keeps.put_bus _ _)

theorem svcBusy_fr (a0) (a1) (s : State) : Keeps 2048 s (svcBusy a0 a1 s) := by
  unfold svcBusy
  extract_lets +onlyGivenNames -merge -useContext x1
  try clear_value x1
  exact Keeps.mono rfl (svcSend_fr ..)

theorem execServiceFrame_fr (a0) (s : State) : KeepsOut 2053 s (execServiceFrame a0 s) := by
  unfold execServiceFrame
  refine KeepsOut.next ?_
  refine Keeps.ite ?_ ?_
  · exact Keeps.refl _ _
  · split
    · exact Keeps.refl _ _
    · refine Keeps.ite ?_ ?_
      · exact Keeps.mono rfl (svcBusy_fr ..)
      · extract_lets +onlyGivenNames -merge -useContext x1
        have h2 : Keeps 2053 s x1 := by
          unfold x1
          refine Keeps.tr ?_ (forEach_fr _ _ (fun iz3 sz3 => ?_) _)
          · exact Keeps.refl _ _
          · exact Keeps.mono rfl (storeWord_fr ..)
        try clear_value x1
        extract_lets +onlyGivenNames -merge -useContext x4
        have h5 : Keeps 2053 s x4 := by
          unfold x4
          refine Keeps.tr ?_ (Keeps.mono rfl (goSend_fr ..))
          exact Keeps.tr h2 (Keeps.mono rfl (storeWord_fr ..))
        try clear_value x4
        exact Keeps.tr h5 (Keeps.mono rfl (Keeps.put_hp _ _))

end Sys2Proof.Machine
end

