-- ==== Sys2Proof/Laws/FrameGrove.lean ====
section
/-! SUPPORT. Sys2Proof/Laws/FrameGrove.lean: for each operation of Machine/Grove.lean, what it leaves (Laws/Frame.lean). -/

namespace Sys2Proof.Machine

open Sys2Proof

theorem pushAnswered_fr (a0) (a1) (a2) (s : State) : Keeps 1572859 s (pushAnswered a0 a1 a2 s) := by
  unfold pushAnswered
  split
  · exact Keeps.refl _ _
  · extract_lets +onlyGivenNames -merge -useContext x1
    try clear_value x1
    extract_lets +onlyGivenNames -merge -useContext x2
    try clear_value x2
    extract_lets +onlyGivenNames -merge -useContext x3
    try clear_value x3
    refine Keeps.ite ?_ ?_
    · extract_lets +onlyGivenNames -merge -useContext y4 x5
      have h6 : Keeps 1572859 s x5 := by
        unfold x5
        refine Keeps.tr ?_ (Keeps.mono rfl (endService_fr ..))
        exact Keeps.mono rfl (Keeps.put_gft _ _)
      try clear_value x5
      exact Keeps.tr h6 (Keeps.mono rfl (finishCmd_fr ..))
    · exact Keeps.mono rfl (Keeps.put_gft _ _)

theorem putAllots_fr (a0) (s : State) : Keeps 1 s (putAllots a0 s) := by
  unfold putAllots
  refine Keeps.tr ?_ (forEach_fr _ _ (fun iz1 sz1 => ?_) _)
  · exact Keeps.refl _ _
  · exact Keeps.mono rfl (State_setF_fr ..)

theorem adoptAllots_fr (s : State) : Keeps 4097 s (adoptAllots s) := by
  unfold adoptAllots
  extract_lets +onlyGivenNames -merge -useContext x1
  try clear_value x1
  refine Keeps.tr ?_ (Keeps.mono rfl (putAllots_fr ..))
  exact Keeps.mono rfl (Keeps.put_gft _ _)

theorem frameAnswered_fr (a0) (a1) (s : State) : Keeps 1572859 s (frameAnswered a0 a1 s) := by
  unfold frameAnswered
  extract_lets +onlyGivenNames -merge -useContext y1 x2
  have h3 : Keeps 1572859 s x2 := by
    unfold x2
    exact Keeps.mono rfl (Keeps.put_gft _ _)
  try clear_value x2
  extract_lets +onlyGivenNames -merge -useContext x4
  try clear_value x4
  extract_lets +onlyGivenNames -merge -useContext y5 y7 x8
  have h6 : Keeps 1572859 s y5 := by
    unfold y5
    refine Keeps.tr ?_ (Keeps.mono rfl (State_setB_fr ..))
    refine Keeps.tr ?_ (Keeps.mono rfl (State_setF_fr ..))
    exact Keeps.tr h3 (Keeps.mono rfl (State_setB_fr ..))
  have h9 : Keeps 1572859 s x8 := by
    unfold x8
    split
    · refine Keeps.ite ?_ ?_
      · refine Keeps.ite ?_ ?_
        · exact Keeps.tr h3 (Keeps.mono rfl (finishCmd_fr ..))
        · exact h3
      · refine Keeps.ite ?_ ?_
        · exact Keeps.tr h3 (Keeps.mono rfl (finishCmd_fr ..))
        · exact Keeps.tr h3 (Keeps.mono rfl (pushAnswered_fr ..))
    · refine Keeps.ite ?_ ?_
      · refine Keeps.tr ?_ (Keeps.mono rfl (adoptAllots_fr ..))
        exact Keeps.tr h6 (Keeps.mono rfl (Keeps.put_gft _ _))
      · exact h3
  try clear_value x8
  exact Keeps.tr h9 (Keeps.mono rfl (pump_fr ..))

theorem execAck_fr (a0) (a1) (s : State) : KeepsOut 1572859 s (execAck a0 a1 s) := by
  unfold execAck
  refine KeepsOut.next ?_
  refine Keeps.tr ?_ (receive_fr rfl _ _ _ _ (fun iz1 sz1 => ?_) _)
  · exact Keeps.refl _ _
  · refine Keeps.pair ?_
    refine Keeps.ite ?_ ?_
    · exact Keeps.refl _ _
    · split
      · exact Keeps.mono rfl (frameAnswered_fr ..)
      · exact Keeps.refl _ _

theorem execAckTimeout_fr (a0) (a1) (s : State) : KeepsOut 2097147 s (execAckTimeout a0 a1 s) := by
  unfold execAckTimeout
  refine KeepsOut.next ?_
  split
  · exact Keeps.refl _ _
  · refine Keeps.ite ?_ ?_
    · exact Keeps.refl _ _
    · extract_lets +onlyGivenNames -merge -useContext x1
      try clear_value x1
      extract_lets +onlyGivenNames -merge -useContext x2
      have h3 : Keeps 2097147 s x2 := by
        unfold x2
        refine Keeps.tr ?_ (Keeps.mono rfl (freshLine_fr ..))
        exact Keeps.mono rfl (State_advTo_fr ..)
      try clear_value x2
      extract_lets +onlyGivenNames -merge -useContext x4
      try clear_value x4
      refine Keeps.ite ?_ ?_
      · extract_lets +onlyGivenNames -merge -useContext x5
        try clear_value x5
        refine Keeps.tr ?_ (Keeps.mono rfl (launch_fr ..))
        exact Keeps.tr h3 (Keeps.mono rfl (Keeps.put_gft _ _))
      · exact Keeps.tr h3 (Keeps.mono rfl (frameAnswered_fr ..))

theorem receiveFw_fr {m : Nat} (hm : 4097 &&& m = 4097) (ty p : Nat) (f : List Byte) (h : GrParsed → State → Nat × State)
    (hh : ∀ g s, Keeps m s (h g s).2) (s : State) : Keeps m s (receiveFw ty p f h s) := by
  unfold receiveFw
  split
  · refine Keeps.ite ?_ ?_
    · exact Keeps.tr (Keeps.mono (mask_sub hm rfl) (freshLine_fr ..)) (Keeps.mono (mask_sub hm rfl) (sendSet_fr ..))
    · refine receive_fr (mask_sub hm rfl) _ _ _ _ (fun g s => ?_) _
      split
      · exact hh g s
      · exact Keeps.refl _ _
  · exact receive_fr (mask_sub hm rfl) _ _ _ _ hh _

theorem distributeTo_fr (a0) (s : State) : Keeps 4096 s (distributeTo a0 s) := by
  unfold distributeTo
  split
  · extract_lets +onlyGivenNames -merge -useContext x1
    have h2 : Keeps 4096 s x1 := by
      unfold x1
      refine Keeps.tr ?_ (forRange_fr _ _ (fun iz3 sz3 => ?_) _)
      · exact Keeps.refl _ _
      · refine Keeps.ite ?_ ?_
        · exact Keeps.mono rfl (sendSchedTo_fr ..)
        · exact Keeps.refl _ _
    try clear_value x1
    refine Keeps.ite ?_ ?_
    · exact Keeps.tr h2 (Keeps.mono rfl (sendCalTo_fr ..))
    · exact h2
  · exact Keeps.refl _ _

theorem nodeJoined_fr (a0) (s : State) : Keeps 4096 s (nodeJoined a0 s) := by
  unfold nodeJoined
  refine Keeps.ite ?_ ?_
  · refine Keeps.tr ?_ (Keeps.mono rfl (distributeTo_fr ..))
    exact Keeps.mono rfl (Keeps.put_gft _ _)
  · exact Keeps.refl _ _

theorem takeBack_fr (a0) (s : State) : Keeps 4096 s (takeBack a0 s) := by
  unfold takeBack
  extract_lets +onlyGivenNames -merge -useContext x1
  try clear_value x1
  extract_lets +onlyGivenNames -merge -useContext x2
  try clear_value x2
  extract_lets +onlyGivenNames -merge -useContext x3
  try clear_value x3
  refine Keeps.ite ?_ ?_
  · exact Keeps.mono rfl (sendReliable_fr ..)
  · exact Keeps.refl _ _

theorem execHello_fr (a0) (a1) (s : State) : KeepsOut 4097 s (execHello a0 a1 s) := by
  unfold execHello
  refine KeepsOut.next ?_
  split
  · refine Keeps.tr ?_ (receive_fr rfl _ _ _ _ (fun iz1 sz1 => ?_) _)
    · exact Keeps.refl _ _
    · refine Keeps.pair ?_
      exact Keeps.refl _ _
  · extract_lets +onlyGivenNames -merge -useContext x2
    try clear_value x2
    refine Keeps.ite ?_ ?_
    · exact Keeps.mono rfl (noteHello_fr ..)
    · refine Keeps.ite ?_ ?_
      · refine Keeps.tr ?_ (Keeps.mono rfl (judgeHello_fr ..))
        refine Keeps.tr ?_ (Keeps.mono rfl (sendSet_fr ..))
        exact Keeps.mono rfl (freshLine_fr ..)
      · extract_lets +onlyGivenNames -merge -useContext x3
        try clear_value x3
        extract_lets +onlyGivenNames -merge -useContext x4
        have h5 : Keeps 4097 s x4 := by
          unfold x4
          refine Keeps.ite ?_ ?_
          · exact Keeps.mono rfl (noteHello_fr ..)
          · exact Keeps.refl _ _
        try clear_value x4
        refine Keeps.tr ?_ (receive_fr rfl _ _ _ _ (fun iz6 sz6 => ?_) _)
        · exact h5
        · refine Keeps.pair ?_
          refine Keeps.ite ?_ ?_
          · exact Keeps.refl _ _
          · extract_lets +onlyGivenNames -merge -useContext x7
            have h8 : Keeps 4097 sz6 x7 := by
              unfold x7
              refine Keeps.tr ?_ (Keeps.mono rfl (takeBack_fr ..))
              exact Keeps.mono rfl (judgeHello_fr ..)
            try clear_value x7
            refine Keeps.ite ?_ ?_
            · exact Keeps.tr h8 (Keeps.mono rfl (nodeJoined_fr ..))
            · exact h8

theorem judgeTime_fr (s : State) : Keeps 102475 s (judgeTime s) := by
  unfold judgeTime
  split
  · extract_lets +onlyGivenNames -merge -useContext x1
    try clear_value x1
    refine Keeps.ite ?_ ?_
    · exact Keeps.refl _ _
    · refine Keeps.tr ?_ (Keeps.mono rfl (applyTime_fr ..))
      exact Keeps.mono rfl (Keeps.put_gft _ _)
  · exact Keeps.refl _ _

theorem execTick_fr (a0) (a1) (a2) (s : State) : KeepsOut 102475 s (execTick a0 a1 a2 s) := by
  unfold execTick
  refine KeepsOut.next ?_
  refine Keeps.ite ?_ ?_
  · exact Keeps.mono rfl (Keeps.put_gft _ _)
  · refine Keeps.ite ?_ ?_
    · refine Keeps.tr ?_ (Keeps.mono rfl (judgeTime_fr ..))
      refine Keeps.tr ?_ (Keeps.mono rfl (takeTick_fr ..))
      exact Keeps.mono rfl (freshLine_fr ..)
    · exact Keeps.refl _ _

theorem execTickSend_fr (s : State) : KeepsOut 528385 s (execTickSend s) := by
  unfold execTickSend
  refine KeepsOut.next ?_
  refine Keeps.ite ?_ ?_
  · extract_lets +onlyGivenNames -merge -useContext x1
    have h2 : Keeps 528385 s x1 := by
      unfold x1
      refine Keeps.tr ?_ (Keeps.mono rfl (freshLine_fr ..))
      exact Keeps.mono rfl (State_advTo_fr ..)
    try clear_value x1
    extract_lets +onlyGivenNames -merge -useContext x3
    have h4 : Keeps 528385 s x3 := by
      unfold x3
      exact Keeps.tr h2 (Keeps.mono rfl (groveTicks_fr ..))
    try clear_value x3
    refine Keeps.tr ?_ (forRange_fr _ _ (fun iz5 sz5 => ?_) _)
    · exact h4
    · refine Keeps.ite ?_ ?_
      · exact Keeps.mono rfl (sendSet_fr ..)
      · exact Keeps.refl _ _
  · exact Keeps.refl _ _

theorem execTickLoss_fr (s : State) : KeepsOut 626763 s (execTickLoss s) := by
  unfold execTickLoss
  refine KeepsOut.next ?_
  refine Keeps.ite ?_ ?_
  · extract_lets +onlyGivenNames -merge -useContext x1
    have h2 : Keeps 626763 s x1 := by
      unfold x1
      exact Keeps.mono rfl (State_advTo_fr ..)
    try clear_value x1
    extract_lets +onlyGivenNames -merge -useContext x3
    try clear_value x3
    extract_lets +onlyGivenNames -merge -useContext x4
    have h5 : Keeps 626763 s x4 := by
      unfold x4
      exact Keeps.tr h2 (Keeps.mono rfl (groveTicks_fr ..))
    try clear_value x4
    refine Keeps.tr ?_ (Keeps.mono rfl (judgeTime_fr ..))
    exact Keeps.tr h5 (Keeps.mono rfl (Keeps.put_gft _ _))
  · exact Keeps.refl _ _

theorem execTime_fr (a0) (a1) (s : State) : KeepsOut 102475 s (execTime a0 a1 s) := by
  unfold execTime
  refine KeepsOut.next ?_
  refine Keeps.tr ?_ (receive_fr rfl _ _ _ _ (fun iz1 sz1 => ?_) _)
  · exact Keeps.refl _ _
  · refine Keeps.pair ?_
    refine Keeps.ite ?_ ?_
    · exact Keeps.refl _ _
    · extract_lets +onlyGivenNames -merge -useContext x2
      try clear_value x2
      refine Keeps.tr ?_ (Keeps.mono rfl (judgeTime_fr ..))
      exact Keeps.mono rfl (Keeps.put_gft _ _)

theorem execTimeSend_fr (s : State) : KeepsOut 1052672 s (execTimeSend s) := by
  unfold execTimeSend
  refine KeepsOut.next ?_
  split
  · refine Keeps.ite ?_ ?_
    · extract_lets +onlyGivenNames -merge -useContext x1
      have h2 : Keeps 1052672 s x1.2 := by
        unfold x1
        exact Keeps.mono rfl (State_draw_fr ..)
      try clear_value x1
      extract_lets +onlyGivenNames -merge -useContext x3
      try clear_value x3
      extract_lets +onlyGivenNames -merge -useContext x4
      have h5 : Keeps 1052672 s x4 := by
        unfold x4
        exact Keeps.tr h2 (Keeps.mono rfl (freshLine_fr ..))
      try clear_value x4
      extract_lets +onlyGivenNames -merge -useContext x6
      try clear_value x6
      extract_lets +onlyGivenNames -merge -useContext y7 x8
      have h9 : Keeps 1052672 s x8 := by
        unfold x8
        exact Keeps.tr h5 (Keeps.mono rfl (Keeps.put_gft _ _))
      try clear_value x8
      exact Keeps.tr h9 (Keeps.mono rfl (sendFrame_fr ..))
    · exact Keeps.refl _ _
  · exact Keeps.refl _ _

theorem execDemandSend_fr (s : State) : KeepsOut 528385 s (execDemandSend s) := by
  unfold execDemandSend
  refine KeepsOut.next ?_
  split
  · refine Keeps.ite ?_ ?_
    · extract_lets +onlyGivenNames -merge -useContext x1
      have h2 : Keeps 528385 s x1 := by
        unfold x1
        refine Keeps.tr ?_ (Keeps.mono rfl (freshLine_fr ..))
        exact Keeps.mono rfl (State_advTo_fr ..)
      try clear_value x1
      extract_lets +onlyGivenNames -merge -useContext y3 x4
      have h5 : Keeps 528385 s x4 := by
        unfold x4
        exact Keeps.tr h2 (Keeps.mono rfl (Keeps.put_gft _ _))
      try clear_value x4
      extract_lets +onlyGivenNames -merge -useContext x6
      try clear_value x6
      extract_lets +onlyGivenNames -merge -useContext x7
      have h8 : Keeps 528385 s x7 := by
        unfold x7
        refine Keeps.ite ?_ ?_
        · exact Keeps.tr h5 (Keeps.mono rfl (State_setF_fr ..))
        · exact h5
      try clear_value x7
      exact Keeps.tr h8 (Keeps.mono rfl (sendFrame_fr ..))
    · exact Keeps.refl _ _
  · exact Keeps.refl _ _

theorem setRound_fr (a0) (a1) (s : State) : Keeps 4096 s (setRound a0 a1 s) := by
  unfold setRound
  exact Keeps.mono rfl (Keeps.put_gft _ _)

theorem takeAllot_fr (a0) (a1) (a2) (s : State) : Keeps 4609 s (takeAllot a0 a1 a2 s) := by
  unfold takeAllot
  extract_lets +onlyGivenNames -merge -useContext x1
  try clear_value x1
  refine Keeps.ite ?_ ?_
  · extract_lets +onlyGivenNames -merge -useContext x2
    have h3 : Keeps 4609 s x2 := by
      unfold x2
      exact Keeps.mono rfl (allotArrives_fr ..)
    try clear_value x2
    exact Keeps.tr h3 (Keeps.mono rfl (Keeps.put_gft _ _))
  · exact Keeps.refl _ _

theorem sendAllot_fr (a0) (a1) (a2) (s : State) : Keeps 4609 s (sendAllot a0 a1 a2 s) := by
  unfold sendAllot
  extract_lets +onlyGivenNames -merge -useContext x1
  have h2 : Keeps 4609 s x1 := by
    unfold x1
    exact Keeps.mono rfl (sendFrame_fr ..)
  try clear_value x1
  split
  · exact Keeps.tr h2 (Keeps.mono rfl (takeAllot_fr ..))
  · exact h2

theorem sendRaise_fr (a0) (s : State) : Keeps 4609 s (sendRaise a0 s) := by
  unfold sendRaise
  extract_lets +onlyGivenNames -merge -useContext x1
  try clear_value x1
  extract_lets +onlyGivenNames -merge -useContext x2
  have h3 : Keeps 4609 s x2 := by
    unfold x2
    exact Keeps.mono rfl (putAllots_fr ..)
  try clear_value x2
  extract_lets +onlyGivenNames -merge -useContext x4
  try clear_value x4
  extract_lets +onlyGivenNames -merge -useContext x5
  try clear_value x5
  refine Keeps.tr ?_ (Keeps.mono rfl (sendAllot_fr ..))
  exact Keeps.tr h3 (Keeps.mono rfl (setRound_fr ..))

theorem allocate_fr (a0) (s : State) : Keeps 4609 s (allocate a0 s) := by
  unfold allocate
  extract_lets +onlyGivenNames -merge -useContext x1
  try clear_value x1
  extract_lets +onlyGivenNames -merge -useContext x2
  try clear_value x2
  extract_lets +onlyGivenNames -merge -useContext x3
  try clear_value x3
  refine Keeps.ite ?_ ?_
  · exact Keeps.mono rfl (setRound_fr ..)
  · extract_lets +onlyGivenNames -merge -useContext x4
    try clear_value x4
    extract_lets +onlyGivenNames -merge -useContext x5
    try clear_value x5
    refine Keeps.ite ?_ ?_
    · exact Keeps.refl _ _
    · extract_lets +onlyGivenNames -merge -useContext x6
      try clear_value x6
      extract_lets +onlyGivenNames -merge -useContext x7
      try clear_value x7
      extract_lets +onlyGivenNames -merge -useContext x8
      try clear_value x8
      extract_lets +onlyGivenNames -merge -useContext x9
      try clear_value x9
      extract_lets +onlyGivenNames -merge -useContext x10
      try clear_value x10
      extract_lets +onlyGivenNames -merge -useContext x11
      try clear_value x11
      refine Keeps.ite ?_ ?_
      · extract_lets +onlyGivenNames -merge -useContext x12
        try clear_value x12
        extract_lets +onlyGivenNames -merge -useContext x13
        have h14 : Keeps 4609 s x13 := by
          unfold x13
          exact Keeps.mono rfl (setRound_fr ..)
        try clear_value x13
        extract_lets +onlyGivenNames -merge -useContext x15
        have h16 : Keeps 4609 s x15 := by
          unfold x15
          exact Keeps.tr h14 (Keeps.mono rfl (sendAllot_fr ..))
        try clear_value x15
        refine Keeps.ite ?_ ?_
        · refine Keeps.ite ?_ ?_
          · exact Keeps.tr h16 (Keeps.mono rfl (putAllots_fr ..))
          · refine Keeps.tr ?_ (Keeps.mono rfl (sendRaise_fr ..))
            exact Keeps.tr h16 (Keeps.mono rfl (putAllots_fr ..))
        · exact h16
      · refine Keeps.ite ?_ ?_
        · refine Keeps.tr ?_ (Keeps.mono rfl (sendRaise_fr ..))
          exact Keeps.mono rfl (setRound_fr ..)
        · refine Keeps.ite ?_ ?_
          · extract_lets +onlyGivenNames -merge -useContext x17
            try clear_value x17
            refine Keeps.tr ?_ (Keeps.mono rfl (sendAllot_fr ..))
            exact Keeps.mono rfl (setRound_fr ..)
          · exact Keeps.refl _ _

theorem execAllocationCycle_fr (s : State) : KeepsOut 528897 s (execAllocationCycle s) := by
  unfold execAllocationCycle
  refine KeepsOut.next ?_
  refine Keeps.ite ?_ ?_
  · extract_lets +onlyGivenNames -merge -useContext x1
    have h2 : Keeps 528897 s x1 := by
      unfold x1
      refine Keeps.tr ?_ (Keeps.mono rfl (freshLine_fr ..))
      exact Keeps.mono rfl (State_advTo_fr ..)
    try clear_value x1
    refine Keeps.tr ?_ (forRange_fr _ _ (fun iz3 sz3 => ?_) _)
    · exact Keeps.tr h2 (Keeps.mono rfl (Keeps.put_gft _ _))
    · exact Keeps.mono rfl (allocate_fr ..)
  · exact Keeps.refl _ _

theorem execAllotRepeat_fr (a0) (s : State) : KeepsOut 528897 s (execAllotRepeat a0 s) := by
  unfold execAllotRepeat
  refine KeepsOut.next ?_
  extract_lets +onlyGivenNames -merge -useContext x1
  try clear_value x1
  refine Keeps.ite ?_ ?_
  · extract_lets +onlyGivenNames -merge -useContext x2
    have h3 : Keeps 528897 s x2 := by
      unfold x2
      refine Keeps.tr ?_ (Keeps.mono rfl (freshLine_fr ..))
      exact Keeps.mono rfl (State_advTo_fr ..)
    try clear_value x2
    refine Keeps.tr ?_ (Keeps.mono rfl (sendAllot_fr ..))
    exact Keeps.tr h3 (Keeps.mono rfl (setRound_fr ..))
  · exact Keeps.refl _ _

theorem execAllot_fr (a0) (a1) (s : State) : KeepsOut 4609 s (execAllot a0 a1 s) := by
  unfold execAllot
  refine KeepsOut.next ?_
  refine Keeps.tr ?_ (receive_fr rfl _ _ _ _ (fun iz1 sz1 => ?_) _)
  · exact Keeps.refl _ _
  · refine Keeps.pair ?_
    extract_lets +onlyGivenNames -merge -useContext x2
    try clear_value x2
    extract_lets +onlyGivenNames -merge -useContext x3
    try clear_value x3
    refine Keeps.ite ?_ ?_
    · exact Keeps.refl _ _
    · extract_lets +onlyGivenNames -merge -useContext x4
      try clear_value x4
      extract_lets +onlyGivenNames -merge -useContext x5
      try clear_value x5
      extract_lets +onlyGivenNames -merge -useContext y6 x7
      have h8 : Keeps 4609 sz1 x7 := by
        unfold x7
        exact Keeps.mono rfl (Keeps.put_gft _ _)
      try clear_value x7
      split
      · exact Keeps.tr h8 (Keeps.mono rfl (takeAllot_fr ..))
      · exact h8

theorem execDemand_fr (a0) (a1) (s : State) : KeepsOut 4609 s (execDemand a0 a1 s) := by
  unfold execDemand
  refine KeepsOut.next ?_
  refine Keeps.tr ?_ (receive_fr rfl _ _ _ _ (fun iz1 sz1 => ?_) _)
  · exact Keeps.refl _ _
  · refine Keeps.pair ?_
    extract_lets +onlyGivenNames -merge -useContext x2
    try clear_value x2
    extract_lets +onlyGivenNames -merge -useContext x3
    try clear_value x3
    extract_lets +onlyGivenNames -merge -useContext x4
    try clear_value x4
    refine Keeps.ite ?_ ?_
    · exact Keeps.refl _ _
    · extract_lets +onlyGivenNames -merge -useContext y5 x6
      have h7 : Keeps 4609 sz1 x6 := by
        unfold x6
        exact Keeps.mono rfl (Keeps.put_gft _ _)
      try clear_value x6
      extract_lets +onlyGivenNames -merge -useContext x8
      have h9 : Keeps 4609 sz1 x8 := by
        unfold x8
        exact Keeps.tr h7 (Keeps.mono rfl (State_setF_fr ..))
      try clear_value x8
      extract_lets +onlyGivenNames -merge -useContext x10
      try clear_value x10
      refine Keeps.ite ?_ ?_
      · extract_lets +onlyGivenNames -merge -useContext x11
        try clear_value x11
        extract_lets +onlyGivenNames -merge -useContext x12
        have h13 : Keeps 4609 sz1 x12 := by
          unfold x12
          refine Keeps.tr ?_ (Keeps.mono rfl (setRound_fr ..))
          exact Keeps.tr h9 (Keeps.mono rfl (putAllots_fr ..))
        try clear_value x12
        refine Keeps.ite ?_ ?_
        · exact Keeps.tr h13 (Keeps.mono rfl (sendRaise_fr ..))
        · exact h13
      · exact h9

theorem execMasterLoss_fr (s : State) : KeepsOut 528385 s (execMasterLoss s) := by
  unfold execMasterLoss
  refine KeepsOut.next ?_
  refine Keeps.ite ?_ ?_
  · extract_lets +onlyGivenNames -merge -useContext x1
    have h2 : Keeps 528385 s x1 := by
      unfold x1
      refine Keeps.tr ?_ (Keeps.mono rfl (freshLine_fr ..))
      exact Keeps.mono rfl (State_advTo_fr ..)
    try clear_value x1
    extract_lets +onlyGivenNames -merge -useContext x3
    have h4 : Keeps 528385 s x3 := by
      unfold x3
      refine Keeps.tr ?_ (Keeps.mono rfl (State_setB_fr ..))
      exact Keeps.tr h2 (Keeps.mono rfl (State_setB_fr ..))
    try clear_value x3
    refine Keeps.ite ?_ ?_
    · extract_lets +onlyGivenNames -merge -useContext x5
      have h6 : Keeps 528385 s x5 := by
        unfold x5
        refine Keeps.tr ?_ (Keeps.mono rfl (State_setB_fr ..))
        refine Keeps.tr ?_ (Keeps.mono rfl (State_setF_fr ..))
        exact Keeps.tr h4 (Keeps.mono rfl (State_setB_fr ..))
      try clear_value x5
      extract_lets +onlyGivenNames -merge -useContext y7 x8
      have h9 : Keeps 528385 s x8 := by
        unfold x8
        refine Keeps.tr ?_ (Keeps.mono rfl (adoptAllots_fr ..))
        exact Keeps.tr h6 (Keeps.mono rfl (Keeps.put_gft _ _))
      try clear_value x8
      refine Keeps.tr ?_ (forEach_fr _ _ (fun iz10 sz10 => ?_) _)
      · exact Keeps.tr h9 (Keeps.mono rfl (sendFrame_fr ..))
      · exact Keeps.mono rfl (distributeTo_fr ..)
    · exact h4
  · exact Keeps.refl _ _

theorem execTakeback_fr (a0) (a1) (s : State) : KeepsOut 528385 s (execTakeback a0 a1 s) := by
  unfold execTakeback
  refine KeepsOut.next ?_
  refine Keeps.tr ?_ (receive_fr rfl _ _ _ _ (fun iz1 sz1 => ?_) _)
  · exact Keeps.refl _ _
  · refine Keeps.pair ?_
    refine Keeps.ite ?_ ?_
    · extract_lets +onlyGivenNames -merge -useContext x2
      have h3 : Keeps 528385 sz1 x2 := by
        unfold x2
        exact Keeps.mono rfl (State_advTo_fr ..)
      try clear_value x2
      extract_lets +onlyGivenNames -merge -useContext x4
      have h5 : Keeps 528385 sz1 x4 := by
        unfold x4
        exact Keeps.tr h3 (Keeps.mono rfl (groveTicks_fr ..))
      try clear_value x4
      extract_lets +onlyGivenNames -merge -useContext x6
      have h7 : Keeps 528385 sz1 x6 := by
        unfold x6
        refine Keeps.tr ?_ (forRange_fr _ _ (fun iz8 sz8 => ?_) _)
        · exact h5
        · refine Keeps.ite ?_ ?_
          · exact Keeps.mono rfl (sendSet_fr ..)
          · exact Keeps.refl _ _
      try clear_value x6
      extract_lets +onlyGivenNames -merge -useContext x9
      have h10 : Keeps 528385 sz1 x9 := by
        unfold x9
        refine Keeps.tr ?_ (Keeps.mono rfl (State_setB_fr ..))
        refine Keeps.tr ?_ (Keeps.mono rfl (State_setF_fr ..))
        exact Keeps.tr h7 (Keeps.mono rfl (State_setB_fr ..))
      try clear_value x9
      exact Keeps.tr h10 (Keeps.mono rfl (Keeps.put_gft _ _))
    · exact Keeps.refl _ _

theorem execReset_fr (a0) (a1) (s : State) : KeepsOut 4105 s (execReset a0 a1 s) := by
  unfold execReset
  refine KeepsOut.next ?_
  refine Keeps.tr ?_ (receiveFw_fr rfl _ _ _ _ (fun iz1 sz1 => ?_) _)
  · exact Keeps.refl _ _
  · refine Keeps.pair ?_
    refine Keeps.ite ?_ ?_
    · exact Keeps.refl _ _
    · exact Keeps.mono rfl (Keeps.put_fw _ _)

theorem execSched_fr (a0) (a1) (s : State) : KeepsOut 1572859 s (execSched a0 a1 s) := by
  unfold execSched
  refine KeepsOut.next ?_
  refine Keeps.tr ?_ (receiveFw_fr rfl _ _ _ _ (fun iz1 sz1 => ?_) _)
  · exact Keeps.refl _ _
  · extract_lets +onlyGivenNames -merge -useContext x2
    try clear_value x2
    extract_lets +onlyGivenNames -merge -useContext x3
    try clear_value x3
    extract_lets +onlyGivenNames -merge -useContext x4
    try clear_value x4
    extract_lets +onlyGivenNames -merge -useContext x5
    try clear_value x5
    extract_lets +onlyGivenNames -merge -useContext x6
    try clear_value x6
    extract_lets +onlyGivenNames -merge -useContext x7
    try clear_value x7
    refine Keeps.ite2 ?_ ?_
    · refine Keeps.pair ?_
      refine Keeps.tr ?_ (Keeps.mono rfl (evalSchedules_fr ..))
      refine Keeps.tr ?_ (Keeps.mono rfl (ringEvent_fr ..))
      exact Keeps.mono rfl (putSched_fr ..)
    · refine Keeps.pair ?_
      exact Keeps.refl _ _

theorem execCal_fr (a0) (a1) (s : State) : KeepsOut 1572859 s (execCal a0 a1 s) := by
  unfold execCal
  refine KeepsOut.next ?_
  refine Keeps.tr ?_ (receiveFw_fr rfl _ _ _ _ (fun iz1 sz1 => ?_) _)
  · exact Keeps.refl _ _
  · extract_lets +onlyGivenNames -merge -useContext x2
    try clear_value x2
    extract_lets +onlyGivenNames -merge -useContext x3
    try clear_value x3
    extract_lets +onlyGivenNames -merge -useContext x4
    try clear_value x4
    refine Keeps.ite2 ?_ ?_
    · refine Keeps.pair ?_
      refine Keeps.tr ?_ (Keeps.mono rfl (evalSchedules_fr ..))
      refine Keeps.tr ?_ (Keeps.mono rfl (ringEvent_fr ..))
      exact Keeps.mono rfl (putCal_fr ..)
    · refine Keeps.pair ?_
      exact Keeps.refl _ _

theorem importValue_fr (a0) (a1) (a2) (s : State) : Keeps 73 s (importValue a0 a1 a2 s) := by
  unfold importValue
  refine Keeps.ite ?_ ?_
  · extract_lets +onlyGivenNames -merge -useContext x1
    try clear_value x1
    extract_lets +onlyGivenNames -merge -useContext x2
    try clear_value x2
    extract_lets +onlyGivenNames -merge -useContext x3
    try clear_value x3
    exact Keeps.mono rfl (publish_fr ..)
  · exact Keeps.refl _ _

theorem execPoint_fr (a0) (a1) (s : State) : KeepsOut 4169 s (execPoint a0 a1 s) := by
  unfold execPoint
  refine KeepsOut.next ?_
  refine Keeps.tr ?_ (receive_fr rfl _ _ _ _ (fun iz1 sz1 => ?_) _)
  · exact Keeps.refl _ _
  · refine Keeps.pair ?_
    refine Keeps.tr ?_ (forEach_fr _ _ (fun iz2 sz2 => ?_) _)
    · exact Keeps.refl _ _
    · extract_lets +onlyGivenNames -merge -useContext x3
      try clear_value x3
      refine Keeps.ite ?_ ?_
      · extract_lets +onlyGivenNames -merge -useContext y4 x5
        have h6 : Keeps 4169 sz2 x5 := by
          unfold x5
          exact Keeps.mono rfl (Keeps.put_gft _ _)
        try clear_value x5
        exact Keeps.tr h6 (Keeps.mono rfl (importValue_fr ..))
      · exact Keeps.mono rfl (State_bump_fr ..)

theorem execExportDue_fr (a0) (s : State) : KeepsOut 528384 s (execExportDue a0 s) := by
  unfold execExportDue
  refine KeepsOut.next ?_
  refine Keeps.ite ?_ ?_
  · extract_lets +onlyGivenNames -merge -useContext x1
    have h2 : Keeps 528384 s x1 := by
      unfold x1
      refine Keeps.tr ?_ (Keeps.mono rfl (freshLine_fr ..))
      exact Keeps.mono rfl (State_advTo_fr ..)
    try clear_value x1
    extract_lets +onlyGivenNames -merge -useContext x3
    try clear_value x3
    extract_lets +onlyGivenNames -merge -useContext x4
    try clear_value x4
    extract_lets +onlyGivenNames -merge -useContext y5 x6
    have h7 : Keeps 528384 s x6 := by
      unfold x6
      exact Keeps.tr h2 (Keeps.mono rfl (Keeps.put_gft _ _))
    try clear_value x6
    exact Keeps.tr h7 (Keeps.mono rfl (sendFrame_fr ..))
  · exact Keeps.refl _ _

theorem execImportTimeout_fr (a0) (s : State) : KeepsOut 528457 s (execImportTimeout a0 s) := by
  unfold execImportTimeout
  refine KeepsOut.next ?_
  split
  · refine Keeps.ite ?_ ?_
    · extract_lets +onlyGivenNames -merge -useContext x1
      have h2 : Keeps 528457 s x1 := by
        unfold x1
        exact Keeps.mono rfl (State_advTo_fr ..)
      try clear_value x1
      extract_lets +onlyGivenNames -merge -useContext y3 x4
      have h5 : Keeps 528457 s x4 := by
        unfold x4
        exact Keeps.tr h2 (Keeps.mono rfl (Keeps.put_gft _ _))
      try clear_value x4
      exact Keeps.tr h5 (Keeps.mono rfl (importValue_fr ..))
    · exact Keeps.refl _ _
  · exact Keeps.refl _ _

theorem execZone_fr (a0) (a1) (s : State) : KeepsOut 1572859 s (execZone a0 a1 s) := by
  unfold execZone
  refine KeepsOut.next ?_
  refine Keeps.tr ?_ (receiveFw_fr rfl _ _ _ _ (fun iz1 sz1 => ?_) _)
  · exact Keeps.refl _ _
  · extract_lets +onlyGivenNames -merge -useContext x2
    try clear_value x2
    extract_lets +onlyGivenNames -merge -useContext x3
    try clear_value x3
    extract_lets +onlyGivenNames -merge -useContext x4
    have h5 : Keeps 1572859 sz1 x4 := by
      unfold x4
      refine Keeps.tr ?_ (forEach_fr _ _ (fun iz6 sz6 => ?_) _)
      · exact Keeps.refl _ _
      · extract_lets +onlyGivenNames -merge -useContext x7
        try clear_value x7
        extract_lets +onlyGivenNames -merge -useContext y8 x9
        have h10 : Keeps 1572859 sz6 x9 := by
          unfold x9
          exact Keeps.mono rfl (setZone_fr ..)
        try clear_value x9
        extract_lets +onlyGivenNames -merge -useContext x11
        try clear_value x11
        exact Keeps.tr h10 (Keeps.mono rfl (Keeps.put_gft _ _))
    try clear_value x4
    refine Keeps.pair ?_
    exact Keeps.tr h5 (Keeps.mono rfl (recomputeModes_fr ..))

theorem execZoneEntrySend_fr (a0) (s : State) : KeepsOut 528384 s (execZoneEntrySend a0 s) := by
  unfold execZoneEntrySend
  refine KeepsOut.next ?_
  extract_lets +onlyGivenNames -merge -useContext x1
  try clear_value x1
  refine Keeps.ite ?_ ?_
  · extract_lets +onlyGivenNames -merge -useContext x2
    try clear_value x2
    extract_lets +onlyGivenNames -merge -useContext x3
    have h4 : Keeps 528384 s x3 := by
      unfold x3
      split
      · refine Keeps.ite ?_ ?_
        · exact Keeps.mono rfl (State_advTo_fr ..)
        · exact Keeps.refl _ _
      · exact Keeps.refl _ _
    try clear_value x3
    extract_lets +onlyGivenNames -merge -useContext y5 x6
    have h7 : Keeps 528384 s x6 := by
      unfold x6
      exact Keeps.tr h4 (Keeps.mono rfl (Keeps.put_gft _ _))
    try clear_value x6
    refine Keeps.tr ?_ (forEach_fr _ _ (fun iz8 sz8 => ?_) _)
    · exact h7
    · exact Keeps.mono rfl (sendFrame_fr ..)
  · exact Keeps.refl _ _

theorem execZoneLinkTimeout_fr (a0) (s : State) : KeepsOut 2097147 s (execZoneLinkTimeout a0 s) := by
  unfold execZoneLinkTimeout
  refine KeepsOut.next ?_
  extract_lets +onlyGivenNames -merge -useContext x1
  try clear_value x1
  refine Keeps.ite ?_ ?_
  · extract_lets +onlyGivenNames -merge -useContext x2
    have h3 : Keeps 2097147 s x2 := by
      unfold x2
      exact Keeps.mono rfl (State_advTo_fr ..)
    try clear_value x2
    refine Keeps.tr ?_ (Keeps.mono rfl (recomputeModes_fr ..))
    exact Keeps.tr h3 (Keeps.mono rfl (setZone_fr ..))
  · exact Keeps.refl _ _

theorem execGroveStatus_fr (a0) (s : State) : KeepsOut 8 s (execGroveStatus a0 s) := by
  unfold execGroveStatus
  refine KeepsOut.next ?_
  refine Keeps.tr ?_ (runCmd_fr rfl _ _ _ (fun iz1 sz1 => ?_) _)
  · exact Keeps.refl _ _
  · refine Keeps.pair ?_
    exact Keeps.refl _ _

theorem execGroveResetNode_fr (a0) (s : State) : KeepsOut 4104 s (execGroveResetNode a0 s) := by
  unfold execGroveResetNode
  refine KeepsOut.next ?_
  refine Keeps.tr ?_ (runCmd_fr rfl _ _ _ (fun iz1 sz1 => ?_) _)
  · exact Keeps.refl _ _
  · extract_lets +onlyGivenNames -merge -useContext x2
    try clear_value x2
    refine checked_fr ?_ ?_
    · exact Keeps.refl _ _
    · refine Keeps.pair ?_
      refine Keeps.tr ?_ (Keeps.mono rfl (sendReliable_fr ..))
      exact Keeps.mono rfl (freshLine_fr ..)

theorem execGroveAllotment_fr (a0) (s : State) : KeepsOut 9 s (execGroveAllotment a0 s) := by
  unfold execGroveAllotment
  refine KeepsOut.next ?_
  refine Keeps.tr ?_ (runCmd_fr rfl _ _ _ (fun iz1 sz1 => ?_) _)
  · exact Keeps.refl _ _
  · extract_lets +onlyGivenNames -merge -useContext x2
    try clear_value x2
    extract_lets +onlyGivenNames -merge -useContext x3
    try clear_value x3
    extract_lets +onlyGivenNames -merge -useContext x4
    try clear_value x4
    extract_lets +onlyGivenNames -merge -useContext x5
    try clear_value x5
    refine checked_fr ?_ ?_
    · exact Keeps.refl _ _
    · refine Keeps.ite2 ?_ ?_
      · refine Keeps.pair ?_
        exact Keeps.refl _ _
      · refine Keeps.ite2 ?_ ?_
        · refine Keeps.pair ?_
          exact Keeps.refl _ _
        · refine checked_fr ?_ ?_
          · exact Keeps.refl _ _
          · extract_lets +onlyGivenNames -merge -useContext x6
            have h7 : Keeps 9 sz1 x6 := by
              unfold x6
              exact Keeps.mono rfl (State_setReg_fr ..)
            try clear_value x6
            refine Keeps.pair ?_
            exact h7

theorem execGroveSchedPush_fr (a0) (s : State) : KeepsOut 5641 s (execGroveSchedPush a0 s) := by
  unfold execGroveSchedPush
  refine KeepsOut.next ?_
  refine Keeps.tr ?_ (runCmd_fr rfl _ _ _ (fun iz1 sz1 => ?_) _)
  · exact Keeps.refl _ _
  · extract_lets +onlyGivenNames -merge -useContext x2
    try clear_value x2
    extract_lets +onlyGivenNames -merge -useContext x3
    try clear_value x3
    extract_lets +onlyGivenNames -merge -useContext x4
    try clear_value x4
    extract_lets +onlyGivenNames -merge -useContext x5
    try clear_value x5
    refine checked_fr ?_ ?_
    · exact Keeps.refl _ _
    · split
      · refine Keeps.pair ?_
        exact Keeps.refl _ _
      · extract_lets +onlyGivenNames -merge -useContext x6
        try clear_value x6
        extract_lets +onlyGivenNames -merge -useContext x7
        try clear_value x7
        extract_lets +onlyGivenNames -merge -useContext x8
        try clear_value x8
        extract_lets +onlyGivenNames -merge -useContext x9
        try clear_value x9
        refine Keeps.ite2 ?_ ?_
        · refine Keeps.pair ?_
          exact Keeps.refl _ _
        · extract_lets +onlyGivenNames -merge -useContext x10
          have h11 : Keeps 5641 sz1 x10 := by
            unfold x10
            refine Keeps.tr ?_ (Keeps.mono rfl (grantService_fr ..))
            exact Keeps.mono rfl (freshLine_fr ..)
          try clear_value x10
          extract_lets +onlyGivenNames -merge -useContext y12 x13
          have h14 : Keeps 5641 sz1 x13 := by
            unfold x13
            exact Keeps.tr h11 (Keeps.mono rfl (Keeps.put_gft _ _))
          try clear_value x13
          refine Keeps.pair ?_
          refine Keeps.tr ?_ (forEach_fr _ _ (fun iz15 sz15 => ?_) _)
          · exact h14
          · extract_lets +onlyGivenNames -merge -useContext x16
            have h17 : Keeps 5641 sz15 x16 := by
              unfold x16
              refine Keeps.tr ?_ (forEach_fr _ _ (fun iz18 sz18 => ?_) _)
              · exact Keeps.refl _ _
              · exact Keeps.mono rfl (sendSchedTo_fr ..)
            try clear_value x16
            refine Keeps.ite ?_ ?_
            · exact Keeps.tr h17 (Keeps.mono rfl (sendCalTo_fr ..))
            · exact h17

end Sys2Proof.Machine
end

