-- ==== Sys2Proof/Laws/FrameSysCmds.lean ====
section
/-! SUPPORT. Sys2Proof/Laws/FrameSysCmds.lean: for each operation of Machine/SysCmds.lean, what it leaves (Laws/Frame.lean). -/

namespace Sys2Proof.Machine

open Sys2Proof

theorem programWord_fr (a0) (a1) (a2) (s : State) : Keeps 131072 s (programWord a0 a1 a2 s) := by
  unfold programWord
  exact Keeps.mono rfl (Keeps.put_pwr _ _)

theorem programState_fr (a0) (a1) (s : State) : Keeps 131072 s (programState a0 a1 s) := by
  unfold programState
  exact Keeps.mono rfl (programWord_fr ..)

theorem fwUpdate_fr {m : Nat} (hm : 8 &&& m = 8) (id op : Nat) (free : Bool)
    (body : Cmd → State → Reply × State) (h : ∀ c s, Keeps m s (body c s).2) (s : State) :
    Keeps m s (fwUpdate id op free body s) := by
  unfold fwUpdate
  refine runOp_fr (mask_sub hm rfl) _ _ _ _ _ _ (fun c s => checked_fr (Keeps.refl _ _) ?_) _
  exact Keeps.ite2 (Keeps.refl _ _) (Keeps.ite2 (Keeps.refl _ _) (h c s))

theorem execFwUpdateErase_fr (a0) (s : State) : KeepsOut 131080 s (execFwUpdateErase a0 s) := by
  unfold execFwUpdateErase
  refine KeepsOut.next ?_
  refine Keeps.tr ?_ (fwUpdate_fr rfl _ _ _ _ (fun iz1 sz1 => ?_) _)
  · exact Keeps.refl _ _
  · refine Keeps.pair ?_
    exact Keeps.mono rfl (Keeps.put_pwr _ _)

theorem execFwUpdateWrite_fr (a0) (s : State) : KeepsOut 131080 s (execFwUpdateWrite a0 s) := by
  unfold execFwUpdateWrite
  refine KeepsOut.next ?_
  refine Keeps.tr ?_ (fwUpdate_fr rfl _ _ _ _ (fun iz1 sz1 => ?_) _)
  · exact Keeps.refl _ _
  · extract_lets +onlyGivenNames -merge -useContext x2
    try clear_value x2
    extract_lets +onlyGivenNames -merge -useContext x3
    try clear_value x3
    extract_lets +onlyGivenNames -merge -useContext x4
    try clear_value x4
    refine checked_fr ?_ ?_
    · exact Keeps.refl _ _
    · refine Keeps.pair ?_
      refine Keeps.tr ?_ (forEach_fr _ _ (fun iz5 sz5 => ?_) _)
      · exact Keeps.refl _ _
      · exact Keeps.mono rfl (programWord_fr ..)

theorem execFwUpdateVerify_fr (a0) (s : State) : KeepsOut 131080 s (execFwUpdateVerify a0 s) := by
  unfold execFwUpdateVerify
  refine KeepsOut.next ?_
  refine Keeps.tr ?_ (fwUpdate_fr rfl _ _ _ _ (fun iz1 sz1 => ?_) _)
  · exact Keeps.refl _ _
  · extract_lets +onlyGivenNames -merge -useContext x2
    try clear_value x2
    refine Keeps.ite2 ?_ ?_
    · refine Keeps.pair ?_
      exact Keeps.refl _ _
    · refine Keeps.ite2 ?_ ?_
      · refine Keeps.pair ?_
        exact Keeps.refl _ _
      · refine Keeps.pair ?_
        exact Keeps.mono rfl (programState_fr ..)

theorem execFwUpdateConfirm_fr (a0) (s : State) : KeepsOut 131081 s (execFwUpdateConfirm a0 s) := by
  unfold execFwUpdateConfirm
  refine KeepsOut.next ?_
  refine Keeps.tr ?_ (fwUpdate_fr rfl _ _ _ _ (fun iz1 sz1 => ?_) _)
  · exact Keeps.refl _ _
  · extract_lets +onlyGivenNames -merge -useContext x2
    try clear_value x2
    refine Keeps.ite2 ?_ ?_
    · extract_lets +onlyGivenNames -merge -useContext x3
      have h4 : Keeps 131081 sz1 x3 := by
        unfold x3
        refine Keeps.tr ?_ (Keeps.mono rfl (State_setB_fr ..))
        exact Keeps.mono rfl (programState_fr ..)
      try clear_value x3
      extract_lets +onlyGivenNames -merge -useContext x5
      try clear_value x5
      refine Keeps.pair ?_
      exact Keeps.tr h4 (Keeps.mono rfl (Keeps.put_pwr _ _))
    · refine Keeps.pair ?_
      exact Keeps.refl _ _

theorem execFwUpdateStatus_fr (a0) (s : State) : KeepsOut 8 s (execFwUpdateStatus a0 s) := by
  unfold execFwUpdateStatus
  refine KeepsOut.next ?_
  refine Keeps.tr ?_ (fwUpdate_fr rfl _ _ _ _ (fun iz1 sz1 => ?_) _)
  · exact Keeps.refl _ _
  · refine Keeps.pair ?_
    exact Keeps.refl _ _

theorem execSysInfo_fr (a0) (s : State) : KeepsOut 8 s (execSysInfo a0 s) := by
  unfold execSysInfo
  refine KeepsOut.next ?_
  refine Keeps.tr ?_ (runCmd_fr rfl _ _ _ (fun iz1 sz1 => ?_) _)
  · exact Keeps.refl _ _
  · refine Keeps.pair ?_
    exact Keeps.refl _ _

theorem execSysStatus_fr (a0) (s : State) : KeepsOut 524296 s (execSysStatus a0 s) := by
  unfold execSysStatus
  refine KeepsOut.next ?_
  refine Keeps.tr ?_ (runCmd_fr rfl _ _ _ (fun iz1 sz1 => ?_) _)
  · exact Keeps.refl _ _
  · extract_lets +onlyGivenNames -merge -useContext x2
    try clear_value x2
    extract_lets +onlyGivenNames -merge -useContext x3
    try clear_value x3
    refine Keeps.pair ?_
    exact Keeps.refl _ _

theorem execSysOwner_fr (a0) (s : State) : KeepsOut 8 s (execSysOwner a0 s) := by
  unfold execSysOwner
  refine KeepsOut.next ?_
  refine Keeps.tr ?_ (runCmd_fr rfl _ _ _ (fun iz1 sz1 => ?_) _)
  · exact Keeps.refl _ _
  · extract_lets +onlyGivenNames -merge -useContext x2
    try clear_value x2
    refine checked_fr ?_ ?_
    · exact Keeps.refl _ _
    · refine Keeps.pair ?_
      exact Keeps.refl _ _

theorem abortCmd_fr (a0) (a1) (s : State) : Keeps 1572859 s (abortCmd a0 a1 s) := by
  unfold abortCmd
  split
  · exact Keeps.mono rfl (sendReliable_fr ..)
  · split
    · refine Keeps.tr ?_ (Keeps.mono rfl (handBackAll_fr ..))
      exact Keeps.mono rfl (stopService_fr ..)
    · refine Keeps.tr ?_ (Keeps.mono rfl (finishCmd_fr ..))
      refine Keeps.ite ?_ ?_
      · exact Keeps.mono rfl (Keeps.put_fw _ _)
      · exact Keeps.refl _ _

theorem execSysAbort_fr (a0) (s : State) : KeepsOut 1572859 s (execSysAbort a0 s) := by
  unfold execSysAbort
  refine KeepsOut.next ?_
  refine Keeps.tr ?_ (runCmd_fr rfl _ _ _ (fun iz1 sz1 => ?_) _)
  · exact Keeps.refl _ _
  · refine checked_fr ?_ ?_
    · exact Keeps.refl _ _
    · split
      · refine Keeps.pair ?_
        exact Keeps.refl _ _
      · refine Keeps.ite2 ?_ ?_
        · refine Keeps.pair ?_
          exact Keeps.refl _ _
        · refine Keeps.ite2 ?_ ?_
          · refine Keeps.pair ?_
            exact Keeps.refl _ _
          · refine Keeps.ite2 ?_ ?_
            · refine Keeps.pair ?_
              refine Keeps.tr ?_ (Keeps.mono rfl (abortCmd_fr ..))
              exact Keeps.mono rfl (freshLine_fr ..)
            · refine Keeps.pair ?_
              exact Keeps.refl _ _

theorem execSysReset_fr (a0) (s : State) : KeepsOut 1089545 s (execSysReset a0 s) := by
  unfold execSysReset
  refine KeepsOut.next ?_
  refine Keeps.tr ?_ (runCmd_fr rfl _ _ _ (fun iz1 sz1 => ?_) _)
  · exact Keeps.refl _ _
  · extract_lets +onlyGivenNames -merge -useContext x2
    try clear_value x2
    extract_lets +onlyGivenNames -merge -useContext x3
    try clear_value x3
    refine checked_fr ?_ ?_
    · exact Keeps.refl _ _
    · extract_lets +onlyGivenNames -merge -useContext x4
      try clear_value x4
      refine Keeps.ite2 ?_ ?_
      · refine Keeps.pair ?_
        exact Keeps.refl _ _
      · extract_lets +onlyGivenNames -merge -useContext x5
        have h6 : Keeps 1089545 sz1 x5 := by
          unfold x5
          refine Keeps.ite ?_ ?_
          · exact Keeps.mono rfl (saveSections_fr ..)
          · exact Keeps.refl _ _
        try clear_value x5
        refine Keeps.pair ?_
        exact Keeps.tr h6 (Keeps.mono rfl (Keeps.put_fw _ _))

theorem execDiagDumpCollect_fr (a0) (s : State) : KeepsOut 8 s (execDiagDumpCollect a0 s) := by
  unfold execDiagDumpCollect
  refine KeepsOut.next ?_
  refine Keeps.tr ?_ (runOp_fr rfl _ _ _ _ _ _ (fun iz1 sz1 => ?_) _)
  · exact Keeps.refl _ _
  · refine checked_fr ?_ ?_
    · exact Keeps.refl _ _
    · extract_lets +onlyGivenNames -merge -useContext x2
      try clear_value x2
      extract_lets +onlyGivenNames -merge -useContext x3
      try clear_value x3
      refine Keeps.pair ?_
      exact Keeps.mono rfl (Keeps.put_fw _ _)

theorem execDiagDumpRead_fr (a0) (s : State) : KeepsOut 8 s (execDiagDumpRead a0 s) := by
  unfold execDiagDumpRead
  refine KeepsOut.next ?_
  refine Keeps.tr ?_ (runOp_fr rfl _ _ _ _ _ _ (fun iz1 sz1 => ?_) _)
  · exact Keeps.refl _ _
  · extract_lets +onlyGivenNames -merge -useContext x2
    try clear_value x2
    refine checked_fr ?_ ?_
    · exact Keeps.refl _ _
    · extract_lets +onlyGivenNames -merge -useContext x3
      try clear_value x3
      refine Keeps.pair ?_
      exact Keeps.refl _ _

end Sys2Proof.Machine
end

