-- ==== Sys2Proof/Laws/FrameFirmware.lean ====
section
/-! SUPPORT. Sys2Proof/Laws/FrameFirmware.lean: for each operation of Machine/Firmware.lean, what it leaves (Laws/Frame.lean). -/

namespace Sys2Proof.Machine

open Sys2Proof

theorem addCmd_fr (a0) (s : State) : Keeps 8 s (addCmd a0 s) := by
  unfold addCmd
  exact Keeps.mono rfl (Keeps.put_fw _ _)

theorem answerCmd_fr (a0) (a1) (a2) (a3) (s : State) : Keeps 8 s (answerCmd a0 a1 a2 a3 s) := by
  unfold answerCmd
  extract_lets +onlyGivenNames -merge -useContext y1 x2
  have h3 : Keeps 8 s x2 := by
    unfold x2
    exact Keeps.mono rfl (Keeps.put_fw _ _)
  try clear_value x2
  exact Keeps.tr h3 (Keeps.mono rfl (addCmd_fr ..))

theorem forwardCmd_fr (a0) (a1) (s : State) : Keeps 4104 s (forwardCmd a0 a1 s) := by
  unfold forwardCmd
  extract_lets +onlyGivenNames -merge -useContext x1
  try clear_value x1
  extract_lets +onlyGivenNames -merge -useContext x2
  try clear_value x2
  refine Keeps.tr ?_ (Keeps.mono rfl (sendReliable_fr ..))
  refine Keeps.tr ?_ (Keeps.mono rfl (freshLine_fr ..))
  exact Keeps.mono rfl (addCmd_fr ..)

theorem intake_fr (a0) (s : State) : Keeps 4104 s (intake a0 s) := by
  unfold intake
  extract_lets +onlyGivenNames -merge -useContext x1
  try clear_value x1
  extract_lets +onlyGivenNames -merge -useContext x2
  try clear_value x2
  extract_lets +onlyGivenNames -merge -useContext x3
  try clear_value x3
  extract_lets +onlyGivenNames -merge -useContext x4
  try clear_value x4
  split
  · exact Keeps.mono rfl (answerCmd_fr ..)
  · refine Keeps.ite ?_ ?_
    · exact Keeps.mono rfl (answerCmd_fr ..)
    · refine Keeps.ite ?_ ?_
      · exact Keeps.mono rfl (answerCmd_fr ..)
      · extract_lets +onlyGivenNames -merge -useContext x5
        try clear_value x5
        extract_lets +onlyGivenNames -merge -useContext x6
        try clear_value x6
        refine Keeps.ite ?_ ?_
        · exact Keeps.mono rfl (answerCmd_fr ..)
        · refine Keeps.ite ?_ ?_
          · exact Keeps.mono rfl (answerCmd_fr ..)
          · refine Keeps.ite ?_ ?_
            · exact Keeps.mono rfl (answerCmd_fr ..)
            · refine Keeps.ite ?_ ?_
              · exact Keeps.mono rfl (answerCmd_fr ..)
              · refine Keeps.ite ?_ ?_
                · exact Keeps.mono rfl (answerCmd_fr ..)
                · refine Keeps.ite ?_ ?_
                  · refine Keeps.ite ?_ ?_
                    · exact Keeps.mono rfl (forwardCmd_fr ..)
                    · exact Keeps.mono rfl (answerCmd_fr ..)
                  · exact Keeps.mono rfl (addCmd_fr ..)

theorem execMessageTake_fr (s : State) : KeepsOut 4109 s (execMessageTake s) := by
  unfold execMessageTake
  refine KeepsOut.next ?_
  refine Keeps.ite ?_ ?_
  · exact Keeps.refl _ _
  · split
    · exact Keeps.refl _ _
    · extract_lets +onlyGivenNames -merge -useContext x1
      try clear_value x1
      refine Keeps.ite ?_ ?_
      · refine Keeps.tr ?_ (Keeps.mono rfl (setIempty_fr ..))
        exact Keeps.mono rfl (putStat_fr ..)
      · extract_lets +onlyGivenNames -merge -useContext x2
        try clear_value x2
        extract_lets +onlyGivenNames -merge -useContext x3
        try clear_value x3
        extract_lets +onlyGivenNames -merge -useContext x4
        have h5 : Keeps 4109 s x4 := by
          unfold x4
          refine Keeps.tr ?_ (Keeps.mono rfl (setIempty_fr ..))
          exact Keeps.mono rfl (putStat_fr ..)
        try clear_value x4
        extract_lets +onlyGivenNames -merge -useContext y6 x7
        have h8 : Keeps 4109 s x7 := by
          unfold x7
          exact Keeps.tr h5 (Keeps.mono rfl (Keeps.put_hp _ _))
        try clear_value x7
        exact Keeps.tr h8 (Keeps.mono rfl (intake_fr ..))

theorem addRec_fr (a0) (s : State) : Keeps 8 s (addRec a0 s) := by
  unfold addRec
  extract_lets +onlyGivenNames -merge -useContext x1
  try clear_value x1
  exact Keeps.mono rfl (Keeps.put_fw _ _)

theorem noteInternal_fr (a0) (a1) (s : State) : Keeps 1048584 s (noteInternal a0 a1 s) := by
  unfold noteInternal
  refine Keeps.ite ?_ ?_
  · exact Keeps.refl _ _
  · extract_lets +onlyGivenNames -merge -useContext x1
    have h2 : Keeps 1048584 s x1.2 := by
      unfold x1
      exact Keeps.mono rfl (State_draw_fr ..)
    try clear_value x1
    extract_lets +onlyGivenNames -merge -useContext x3
    have h4 : Keeps 1048584 s x3.2 := by
      unfold x3
      exact Keeps.tr h2 (Keeps.mono rfl (State_draw_fr ..))
    try clear_value x3
    extract_lets +onlyGivenNames -merge -useContext x5
    try clear_value x5
    extract_lets +onlyGivenNames -merge -useContext x6
    try clear_value x6
    extract_lets +onlyGivenNames -merge -useContext x7
    have h8 : Keeps 1048584 s x7 := by
      unfold x7
      exact h4
    try clear_value x7
    exact Keeps.tr h8 (Keeps.mono rfl (Keeps.put_fw _ _))

theorem replyPosted_fr (a0) (s : State) : Keeps 1048584 s (replyPosted a0 s) := by
  unfold replyPosted
  split
  · exact Keeps.mono rfl (updCmd_fr ..)
  · extract_lets +onlyGivenNames -merge -useContext x1
    try clear_value x1
    extract_lets +onlyGivenNames -merge -useContext x2
    have h3 : Keeps 1048584 s x2 := by
      unfold x2
      exact Keeps.mono rfl (dropCmd_fr ..)
    try clear_value x2
    extract_lets +onlyGivenNames -merge -useContext x4
    have h5 : Keeps 1048584 s x4 := by
      unfold x4
      refine Keeps.ite ?_ ?_
      · exact h3
      · exact Keeps.tr h3 (Keeps.mono rfl (addRec_fr ..))
    try clear_value x4
    extract_lets +onlyGivenNames -merge -useContext x6
    have h7 : Keeps 1048584 s x6 := by
      unfold x6
      exact Keeps.tr h5 (Keeps.mono rfl (noteInternal_fr ..))
    try clear_value x6
    split
    · refine Keeps.ite ?_ ?_
      · exact Keeps.tr h7 (Keeps.mono rfl (Keeps.put_fw _ _))
      · exact h7
    · exact h7

theorem putReply_fr (a0) (a1) (s : State) : Keeps 5 s (putReply a0 a1 s) := by
  unfold putReply
  extract_lets +onlyGivenNames -merge -useContext x1
  have h2 : Keeps 5 s x1 := by
    unfold x1
    refine Keeps.tr ?_ (forEach_fr _ _ (fun iz3 sz3 => ?_) _)
    · exact Keeps.refl _ _
    · exact Keeps.mono rfl (storeWord_fr ..)
  try clear_value x1
  extract_lets +onlyGivenNames -merge -useContext x4
  have h5 : Keeps 5 s x4 := by
    unfold x4
    exact Keeps.tr h2 (Keeps.mono rfl (storeWord_fr ..))
  try clear_value x4
  extract_lets +onlyGivenNames -merge -useContext x6
  have h7 : Keeps 5 s x6 := by
    unfold x6
    exact Keeps.tr h5 (Keeps.mono rfl (putStat_fr ..))
  try clear_value x6
  extract_lets +onlyGivenNames -merge -useContext y8 x9
  try clear_value x9
  exact Keeps.tr h7 (Keeps.mono rfl (Keeps.put_hp _ _))

theorem sendService_fr (a0) (a1) (s : State) : Keeps 2057 s (sendService a0 a1 s) := by
  unfold sendService
  refine Keeps.ite ?_ ?_
  · refine Keeps.tr ?_ (Keeps.mono rfl (releaseReply_fr ..))
    exact Keeps.mono rfl (svcSend_fr ..)
  · exact Keeps.refl _ _

theorem postForwarded_fr (a0) (s : State) : Keeps 1052680 s (postForwarded a0 s) := by
  unfold postForwarded
  split
  · exact Keeps.refl _ _
  · extract_lets +onlyGivenNames -merge -useContext x1
    try clear_value x1
    extract_lets +onlyGivenNames -merge -useContext x2
    try clear_value x2
    extract_lets +onlyGivenNames -merge -useContext x3
    have h4 : Keeps 1052680 s x3 := by
      unfold x3
      refine Keeps.tr ?_ (Keeps.mono rfl (sendReliable_fr ..))
      exact Keeps.mono rfl (freshLine_fr ..)
    try clear_value x3
    split
    · exact Keeps.tr h4 (Keeps.mono rfl (updCmd_fr ..))
    · refine Keeps.tr ?_ (Keeps.mono rfl (noteInternal_fr ..))
      exact Keeps.tr h4 (Keeps.mono rfl (dropCmd_fr ..))

theorem postNext_fr (a0) (s : State) : Keeps 1050637 s (postNext a0 s) := by
  unfold postNext
  refine Keeps.ite ?_ ?_
  · exact Keeps.refl _ _
  · split
    · exact Keeps.refl _ _
    · extract_lets +onlyGivenNames -merge -useContext x1
      try clear_value x1
      refine Keeps.tr ?_ (Keeps.mono rfl (sendService_fr ..))
      refine Keeps.tr ?_ (Keeps.mono rfl (replyPosted_fr ..))
      exact Keeps.mono rfl (putReply_fr ..)

theorem execReplyPost_fr (a0) (s : State) : KeepsOut 1572863 s (execReplyPost a0 s) := by
  unfold execReplyPost
  refine KeepsOut.next ?_
  refine Keeps.ite ?_ ?_
  · refine Keeps.tr ?_ (Keeps.mono rfl (postNext_fr ..))
    refine Keeps.tr ?_ (Keeps.mono rfl (postForwarded_fr ..))
    exact Keeps.mono rfl (handBackAll_fr ..)
  · exact Keeps.refl _ _

theorem discardCmd_fr (a0) (s : State) : Keeps 1572859 s (discardCmd a0 s) := by
  unfold discardCmd
  extract_lets +onlyGivenNames -merge -useContext y1 x2
  have h3 : Keeps 1572859 s x2 := by
    unfold x2
    split
    · refine Keeps.ite ?_ ?_
      · exact Keeps.mono rfl (Keeps.put_fw _ _)
      · exact Keeps.refl _ _
    · exact Keeps.refl _ _
  try clear_value x2
  refine Keeps.ite ?_ ?_
  · exact Keeps.tr h3 (Keeps.mono rfl (dropCmd_fr ..))
  · extract_lets +onlyGivenNames -merge -useContext x4
    have h5 : Keeps 1572859 s x4 := by
      unfold x4
      exact Keeps.tr h3 (Keeps.mono rfl (updCmd_fr ..))
    try clear_value x4
    refine Keeps.ite ?_ ?_
    · exact Keeps.tr h5 (Keeps.mono rfl (abortCmd_fr ..))
    · exact h5

theorem clearOut_fr (a0) (s : State) : Keeps 5 s (clearOut a0 s) := by
  unfold clearOut
  extract_lets +onlyGivenNames -merge -useContext x1
  try clear_value x1
  extract_lets +onlyGivenNames -merge -useContext x2
  have h3 : Keeps 5 s x2 := by
    unfold x2
    refine Keeps.ite ?_ ?_
    · exact Keeps.mono rfl (putStat_fr ..)
    · exact Keeps.refl _ _
  try clear_value x2
  exact Keeps.tr h3 (Keeps.mono rfl (storeWord_fr ..))

theorem endEpoch_fr (a0) (s : State) : Keeps 1572863 s (endEpoch a0 s) := by
  unfold endEpoch
  extract_lets +onlyGivenNames -merge -useContext x1
  try clear_value x1
  extract_lets +onlyGivenNames -merge -useContext x2
  have h3 : Keeps 1572863 s x2 := by
    unfold x2
    refine Keeps.tr ?_ (forEach_fr _ _ (fun iz4 sz4 => ?_) _)
    · refine Keeps.tr ?_ (forEach_fr _ _ (fun iz5 sz5 => ?_) _)
      · exact Keeps.mono rfl (freshLine_fr ..)
      · exact Keeps.mono rfl (clearOut_fr ..)
    · exact Keeps.mono rfl (discardCmd_fr ..)
  try clear_value x2
  extract_lets +onlyGivenNames -merge -useContext x6
  have h7 : Keeps 1572863 s x6 := by
    unfold x6
    refine Keeps.tr ?_ (forEach_fr _ _ (fun iz8 sz8 => ?_) _)
    · exact h3
    · exact Keeps.mono rfl (endClaim_fr ..)
  try clear_value x6
  extract_lets +onlyGivenNames -merge -useContext y9 x10
  have h11 : Keeps 1572863 s x10 := by
    unfold x10
    exact Keeps.tr h7 (Keeps.mono rfl (Keeps.put_fw _ _))
  try clear_value x10
  refine Keeps.tr ?_ (Keeps.mono rfl (ringBit_fr ..))
  exact Keeps.tr h11 (Keeps.mono rfl (State_setB_fr ..))

theorem execEpochChange_fr (a0) (s : State) : KeepsOut 1572863 s (execEpochChange a0 s) := by
  unfold execEpochChange
  refine KeepsOut.next ?_
  refine Keeps.ite ?_ ?_
  · exact Keeps.mono rfl (endEpoch_fr ..)
  · exact Keeps.refl _ _

theorem execMbox_fr (a0) (a1) (s : State) : KeepsOut 4105 s (execMbox a0 a1 s) := by
  unfold execMbox
  refine KeepsOut.next ?_
  refine Keeps.tr ?_ (receiveFw_fr rfl _ _ _ _ (fun iz1 sz1 => ?_) _)
  · exact Keeps.refl _ _
  · refine Keeps.pair ?_
    extract_lets +onlyGivenNames -merge -useContext x2
    try clear_value x2
    extract_lets +onlyGivenNames -merge -useContext x3
    try clear_value x3
    refine Keeps.ite ?_ ?_
    · exact Keeps.refl _ _
    · refine Keeps.ite ?_ ?_
      · exact Keeps.mono rfl (answerCmd_fr ..)
      · exact Keeps.mono rfl (intake_fr ..)

theorem execMboxReply_fr (a0) (a1) (s : State) : KeepsOut 4105 s (execMboxReply a0 a1 s) := by
  unfold execMboxReply
  refine KeepsOut.next ?_
  refine Keeps.tr ?_ (receiveFw_fr rfl _ _ _ _ (fun iz1 sz1 => ?_) _)
  · exact Keeps.refl _ _
  · refine Keeps.pair ?_
    extract_lets +onlyGivenNames -merge -useContext x2
    try clear_value x2
    extract_lets +onlyGivenNames -merge -useContext x3
    try clear_value x3
    extract_lets +onlyGivenNames -merge -useContext x4
    try clear_value x4
    split
    · exact Keeps.refl _ _
    · refine Keeps.ite ?_ ?_
      · exact Keeps.refl _ _
      · refine Keeps.ite ?_ ?_
        · exact Keeps.mono rfl (queueInterim_fr ..)
        · refine Keeps.ite ?_ ?_
          · exact Keeps.mono rfl (dropCmd_fr ..)
          · extract_lets +onlyGivenNames -merge -useContext y5 x6
            have h7 : Keeps 4105 sz1 x6 := by
              unfold x6
              exact Keeps.mono rfl (Keeps.put_fw _ _)
            try clear_value x6
            exact Keeps.tr h7 (Keeps.mono rfl (updCmd_fr ..))

theorem execAbortFrame_fr (a0) (a1) (s : State) : KeepsOut 1572859 s (execAbortFrame a0 a1 s) := by
  unfold execAbortFrame
  refine KeepsOut.next ?_
  refine Keeps.tr ?_ (receiveFw_fr rfl _ _ _ _ (fun iz1 sz1 => ?_) _)
  · exact Keeps.refl _ _
  · refine Keeps.pair ?_
    split
    · refine Keeps.ite ?_ ?_
      · exact Keeps.mono rfl (abortCmd_fr ..)
      · exact Keeps.refl _ _
    · exact Keeps.refl _ _

theorem execForwardNodeAbsent_fr (a0) (s : State) : KeepsOut 528392 s (execForwardNodeAbsent a0 s) := by
  unfold execForwardNodeAbsent
  refine KeepsOut.next ?_
  split
  · extract_lets +onlyGivenNames -merge -useContext x1
    try clear_value x1
    refine Keeps.ite ?_ ?_
    · extract_lets +onlyGivenNames -merge -useContext x2
      have h3 : Keeps 528392 s x2 := by
        unfold x2
        exact Keeps.mono rfl (State_advTo_fr ..)
      try clear_value x2
      extract_lets +onlyGivenNames -merge -useContext x4
      try clear_value x4
      extract_lets +onlyGivenNames -merge -useContext x5
      try clear_value x5
      extract_lets +onlyGivenNames -merge -useContext y6 x7
      have h8 : Keeps 528392 s x7 := by
        unfold x7
        exact Keeps.tr h3 (Keeps.mono rfl (Keeps.put_gft _ _))
      try clear_value x7
      refine Keeps.tr ?_ (forEach_fr _ _ (fun iz9 sz9 => ?_) _)
      · exact h8
      · exact Keeps.mono rfl (finishCmd_fr ..)
    · exact Keeps.refl _ _
  · exact Keeps.refl _ _

end Sys2Proof.Machine
end

