-- ==== Sys2Proof/Laws/FramePower.lean ====
section
/-! SUPPORT. Sys2Proof/Laws/FramePower.lean: for each operation of Machine/Power.lean, what it leaves (Laws/Frame.lean). -/

namespace Sys2Proof.Machine

open Sys2Proof

theorem putBoot_fr (a0) (a1) (s : State) : Keeps 1 s (putBoot a0 a1 s) := by
  unfold putBoot
  refine Keeps.tr ?_ (Keeps.mono rfl (State_setB_fr ..))
  exact Keeps.mono rfl (State_setF_fr ..)

theorem chooseBoot_fr (s : State) : Keeps 131073 s (chooseBoot s) := by
  unfold chooseBoot
  extract_lets +onlyGivenNames -merge -useContext x1
  try clear_value x1
  refine Keeps.ite ?_ ?_
  · extract_lets +onlyGivenNames -merge -useContext x2
    have h3 : Keeps 131073 s x2 := by
      unfold x2
      exact Keeps.mono rfl (programState_fr ..)
    try clear_value x2
    split
    · exact Keeps.tr h3 (Keeps.mono rfl (putBoot_fr ..))
    · exact Keeps.tr h3 (Keeps.mono rfl (putBoot_fr ..))
  · refine Keeps.ite ?_ ?_
    · refine Keeps.tr ?_ (Keeps.mono rfl (putBoot_fr ..))
      exact Keeps.mono rfl (State_setB_fr ..)
    · split
      · exact Keeps.mono rfl (putBoot_fr ..)
      · split
        · exact Keeps.mono rfl (putBoot_fr ..)
        · exact Keeps.mono rfl (putBoot_fr ..)

theorem releaseUnclaimed_fr (s : State) : Keeps 1050115 s (releaseUnclaimed s) := by
  unfold releaseUnclaimed
  refine Keeps.tr ?_ (Keeps.mono rfl (releaseAllFans_fr ..))
  exact Keeps.mono rfl (releaseAllSafe_fr ..)

theorem pfRestore_fr (s : State) : Keeps 1236987 s (pfRestore s) := by
  unfold pfRestore
  extract_lets +onlyGivenNames -merge -useContext x1
  have h2 : Keeps 1236987 s x1 := by
    unfold x1
    refine Keeps.ite ?_ ?_
    · exact Keeps.refl _ _
    · exact Keeps.mono rfl (pwrctlWrite_fr ..)
  try clear_value x1
  extract_lets +onlyGivenNames -merge -useContext x3
  have h4 : Keeps 1236987 s x3 := by
    unfold x3
    refine Keeps.ite ?_ ?_
    · exact h2
    · refine Keeps.tr ?_ (Keeps.mono rfl (oppStep_fr ..))
      exact Keeps.tr h2 (Keeps.mono rfl (State_setReg_fr ..))
  try clear_value x3
  exact Keeps.tr h4 (Keeps.mono rfl (Keeps.put_pwr _ _))

theorem pfSave_fr (a0) (s : State) : Keeps 1089537 s (pfSave a0 s) := by
  unfold pfSave
  extract_lets +onlyGivenNames -merge -useContext x1
  have h2 : Keeps 1089537 s x1.2 := by
    unfold x1
    exact Keeps.mono rfl (saveSections_fr ..)
  try clear_value x1
  split
  · extract_lets +onlyGivenNames -merge -useContext x3
    have h4 : Keeps 1089537 s x3 := by
      unfold x3
      refine Keeps.tr ?_ (Keeps.mono rfl (bramWritten_fr ..))
      refine Keeps.tr ?_ (Keeps.mono rfl (showDuration_fr ..))
      refine Keeps.tr ?_ (Keeps.mono rfl (State_setB_fr ..))
      exact Keeps.tr h2 (Keeps.mono rfl (State_setB_fr ..))
    try clear_value x3
    exact Keeps.tr h4 (Keeps.mono rfl (Keeps.put_heart _ _))
  · exact h2

theorem pfAct_fr (a0) (s : State) : Keeps 1245179 s (pfAct a0 s) := by
  unfold pfAct
  extract_lets +onlyGivenNames -merge -useContext x1
  try clear_value x1
  extract_lets +onlyGivenNames -merge -useContext y2 x3
  have h4 : Keeps 1245179 s x3 := by
    unfold x3
    refine Keeps.tr ?_ (Keeps.mono rfl (pwrctlWrite_fr ..))
    exact Keeps.mono rfl (Keeps.put_pwr _ _)
  try clear_value x3
  extract_lets +onlyGivenNames -merge -useContext x5
  try clear_value x5
  extract_lets +onlyGivenNames -merge -useContext y6 x7
  have h8 : Keeps 1245179 s x7 := by
    unfold x7
    exact Keeps.tr h4 (Keeps.mono rfl (Keeps.put_pwr _ _))
  try clear_value x7
  extract_lets +onlyGivenNames -merge -useContext x9
  have h10 : Keeps 1245179 s x9 := by
    unfold x9
    refine Keeps.tr ?_ (Keeps.mono rfl (oppStep_fr ..))
    exact Keeps.tr h8 (Keeps.mono rfl (State_setF_fr ..))
  try clear_value x9
  refine Keeps.ite ?_ ?_
  · exact Keeps.tr h10 (Keeps.mono rfl (pfSave_fr ..))
  · exact h10

theorem becomeReady_fr (s : State) : Keeps 1572863 s (becomeReady s) := by
  unfold becomeReady
  extract_lets +onlyGivenNames -merge -useContext x1
  have h2 : Keeps 1572863 s x1 := by
    unfold x1
    refine Keeps.tr ?_ (Keeps.mono rfl (State_setF_fr ..))
    refine Keeps.tr ?_ (Keeps.mono rfl (State_setB_fr ..))
    exact Keeps.mono rfl (State_setB_fr ..)
  try clear_value x1
  extract_lets +onlyGivenNames -merge -useContext x3
  try clear_value x3
  extract_lets +onlyGivenNames -merge -useContext x4
  have h5 : Keeps 1572863 s x4 := by
    unfold x4
    refine Keeps.ite ?_ ?_
    · exact Keeps.tr h2 (Keeps.mono rfl (enterHostLoss_fr ..))
    · exact h2
  try clear_value x4
  extract_lets +onlyGivenNames -merge -useContext x6
  have h7 : Keeps 1572863 s x6 := by
    unfold x6
    refine Keeps.ite ?_ ?_
    · exact Keeps.tr h5 (Keeps.mono rfl (leaveHostLoss_fr ..))
    · exact h5
  try clear_value x6
  extract_lets +onlyGivenNames -merge -useContext x8
  have h9 : Keeps 1572863 s x8 := by
    unfold x8
    exact Keeps.tr h7 (Keeps.mono rfl (applyWaitingTime_fr ..))
  try clear_value x8
  extract_lets +onlyGivenNames -merge -useContext x10
  try clear_value x10
  extract_lets +onlyGivenNames -merge -useContext y11 x12
  have h13 : Keeps 1572863 s x12 := by
    unfold x12
    refine Keeps.tr ?_ (forEach_fr _ _ (fun iz14 sz14 => ?_) _)
    · exact Keeps.tr h9 (Keeps.mono rfl (Keeps.put_fw _ _))
    · exact Keeps.mono rfl (ringEvent_fr ..)
  try clear_value x12
  extract_lets +onlyGivenNames -merge -useContext x15
  have h16 : Keeps 1572863 s x15 := by
    unfold x15
    refine Keeps.ite ?_ ?_
    · refine Keeps.ite ?_ ?_
      · exact Keeps.tr h13 (Keeps.mono rfl (pfAct_fr ..))
      · exact h13
    · exact Keeps.tr h13 (Keeps.mono rfl (pfRestore_fr ..))
  try clear_value x15
  extract_lets +onlyGivenNames -merge -useContext x17
  have h18 : Keeps 1572863 s x17 := by
    unfold x17
    exact Keeps.tr h16 (Keeps.mono rfl (releaseUnclaimed_fr ..))
  try clear_value x17
  exact Keeps.tr h18 (Keeps.mono rfl (Keeps.put_pwr _ _))

theorem loadShadows_fr (s : State) : Keeps 8192 s (loadShadows s) := by
  unfold loadShadows
  extract_lets +onlyGivenNames -merge -useContext x1
  try clear_value x1
  exact Keeps.mono rfl (Keeps.put_heart _ _)

theorem restoreCursor_fr (a0) (s : State) : Keeps 16384 s (restoreCursor a0 s) := by
  unfold restoreCursor
  extract_lets +onlyGivenNames -merge -useContext x1
  try clear_value x1
  exact Keeps.mono rfl (Keeps.put_trend _ _)

theorem restoreOverrides_fr (a0) (s : State) : Keeps 8 s (restoreOverrides a0 s) := by
  unfold restoreOverrides
  extract_lets +onlyGivenNames -merge -useContext y1 y2 x3
  try clear_value x3
  exact Keeps.mono rfl (Keeps.put_fw _ _)

theorem restoreSched_fr (a0) (a1) (a2) (s : State) : Keeps 8 s (restoreSched a0 a1 a2 s) := by
  unfold restoreSched
  extract_lets +onlyGivenNames -merge -useContext x1
  try clear_value x1
  extract_lets +onlyGivenNames -merge -useContext x2
  try clear_value x2
  extract_lets +onlyGivenNames -merge -useContext x3
  try clear_value x3
  extract_lets +onlyGivenNames -merge -useContext x4
  try clear_value x4
  exact Keeps.mono rfl (Keeps.put_fw _ _)

theorem restoreModels_fr (a0) (s : State) : Keeps 257 s (restoreModels a0 s) := by
  unfold restoreModels
  split
  · exact Keeps.refl _ _
  · extract_lets +onlyGivenNames -merge -useContext x1
    try clear_value x1
    refine Keeps.tr ?_ (forRange_fr _ _ (fun iz2 sz2 => ?_) _)
    · exact Keeps.refl _ _
    · split
      · exact Keeps.refl _ _
      · extract_lets +onlyGivenNames -merge -useContext x3
        try clear_value x3
        extract_lets +onlyGivenNames -merge -useContext y4 x5
        have h6 : Keeps 257 sz2 x5 := by
          unfold x5
          exact Keeps.mono rfl (setMod_fr ..)
        try clear_value x5
        extract_lets +onlyGivenNames -merge -useContext x7
        have h8 : Keeps 257 sz2 x7 := by
          unfold x7
          refine Keeps.tr ?_ (forRange_fr _ _ (fun iz9 sz9 => ?_) _)
          · exact h6
          · exact Keeps.mono rfl (State_setReg_fr ..)
        try clear_value x7
        extract_lets +onlyGivenNames -merge -useContext x10
        have h11 : Keeps 257 sz2 x10 := by
          unfold x10
          refine Keeps.tr ?_ (forRange_fr _ _ (fun iz12 sz12 => ?_) _)
          · exact h8
          · exact Keeps.mono rfl (State_setReg_fr ..)
        try clear_value x10
        refine Keeps.tr ?_ (Keeps.mono rfl (State_setF_fr ..))
        exact Keeps.tr h11 (Keeps.mono rfl (State_setReg_fr ..))

theorem restoreSlots_fr (s : State) : Keeps 257 s (restoreSlots s) := by
  unfold restoreSlots
  split
  · refine Keeps.ite ?_ ?_
    · refine Keeps.tr ?_ (forEach_fr _ _ (fun iz1 sz1 => ?_) _)
      · exact Keeps.refl _ _
      · extract_lets +onlyGivenNames -merge -useContext x2
        have h3 : Keeps 257 sz1 x2 := by
          unfold x2
          refine Keeps.tr ?_ (Keeps.mono rfl (State_setReg_fr ..))
          exact Keeps.mono rfl (State_setReg_fr ..)
        try clear_value x2
        exact Keeps.tr h3 (Keeps.mono rfl (setSlot_fr ..))
    · exact Keeps.refl _ _
  · exact Keeps.refl _ _

theorem restoreChans_fr (s : State) : Keeps 1 s (restoreChans s) := by
  unfold restoreChans
  split
  · refine Keeps.tr ?_ (forEach_fr _ _ (fun iz1 sz1 => ?_) _)
    · exact Keeps.refl _ _
    · extract_lets +onlyGivenNames -merge -useContext x2
      have h3 : Keeps 1 sz1 x2 := by
        unfold x2
        refine Keeps.tr ?_ (Keeps.mono rfl (State_setB_fr ..))
        exact Keeps.mono rfl (State_setReg_fr ..)
      try clear_value x2
      refine Keeps.tr ?_ (Keeps.mono rfl (State_setF_fr ..))
      exact Keeps.tr h3 (Keeps.mono rfl (State_setF_fr ..))
  · refine Keeps.tr ?_ (forRange_fr _ _ (fun iz4 sz4 => ?_) _)
    · exact Keeps.refl _ _
    · exact Keeps.mono rfl (State_setB_fr ..)

theorem showSaves_fr (s : State) : Keeps 1 s (showSaves s) := by
  unfold showSaves
  extract_lets +onlyGivenNames -merge -useContext x1
  try clear_value x1
  extract_lets +onlyGivenNames -merge -useContext x2
  have h3 : Keeps 1 s x2 := by
    unfold x2
    exact Keeps.mono rfl (State_setB_fr ..)
  try clear_value x2
  exact Keeps.tr h3 (Keeps.mono rfl (State_setB_fr ..))

theorem powerUp_fr (a0) (s : State) : Keeps 1105915 s (powerUp a0 s) := by
  unfold powerUp
  refine Keeps.tr ?_ (forEach_fr _ _ (fun iz1 sz1 => ?_) _)
  · exact Keeps.refl _ _
  · split
    · refine Keeps.tr ?_ (Keeps.mono rfl (domainOn_fr ..))
      exact Keeps.mono rfl (State_setB_fr ..)
    · exact Keeps.refl _ _

theorem startStraps_fr (a0) (a1) (s : State) : Keeps 1236987 s (startStraps a0 a1 s) := by
  unfold startStraps
  extract_lets +onlyGivenNames -merge -useContext x1
  try clear_value x1
  extract_lets +onlyGivenNames -merge -useContext x2
  have h3 : Keeps 1236987 s x2 := by
    unfold x2
    refine Keeps.tr ?_ (Keeps.mono rfl (State_setF_fr ..))
    exact Keeps.mono rfl (State_setF_fr ..)
  try clear_value x2
  extract_lets +onlyGivenNames -merge -useContext x4
  have h5 : Keeps 1236987 s x4 := by
    unfold x4
    exact Keeps.tr h3 (Keeps.mono rfl (State_setB_fr ..))
  try clear_value x4
  extract_lets +onlyGivenNames -merge -useContext y6 x7
  have h8 : Keeps 1236987 s x7 := by
    unfold x7
    refine Keeps.tr ?_ (Keeps.mono rfl (powerUp_fr ..))
    exact Keeps.tr h5 (Keeps.mono rfl (Keeps.put_pwr _ _))
  try clear_value x7
  extract_lets +onlyGivenNames -merge -useContext x9
  have h10 : Keeps 1236987 s x9 := by
    unfold x9
    refine Keeps.tr ?_ (Keeps.mono rfl (State_setF_fr ..))
    exact Keeps.tr h8 (Keeps.mono rfl (State_setB_fr ..))
  try clear_value x9
  extract_lets +onlyGivenNames -merge -useContext x11
  have h12 : Keeps 1236987 s x11 := by
    unfold x11
    exact Keeps.tr h10 (Keeps.mono rfl (State_setB_fr ..))
  try clear_value x11
  extract_lets +onlyGivenNames -merge -useContext x13
  have h14 : Keeps 1236987 s x13.2 := by
    unfold x13
    exact Keeps.tr h12 (Keeps.mono rfl (State_draw_fr ..))
  try clear_value x13
  extract_lets +onlyGivenNames -merge -useContext x15
  have h16 : Keeps 1236987 s x15 := by
    unfold x15
    refine Keeps.ite ?_ ?_
    · exact Keeps.tr h14 (Keeps.mono rfl (State_setF_fr ..))
    · exact h12
  try clear_value x15
  refine Keeps.ite ?_ ?_
  · extract_lets +onlyGivenNames -merge -useContext x17
    have h18 : Keeps 1236987 s x17 := by
      unfold x17
      refine Keeps.tr ?_ (Keeps.mono rfl (State_setB_fr ..))
      exact Keeps.tr h16 (Keeps.mono rfl (putBoot_fr ..))
    try clear_value x17
    exact Keeps.tr h18 (Keeps.mono rfl (Keeps.put_fw _ _))
  · exact Keeps.tr h16 (Keeps.mono rfl (chooseBoot_fr ..))

theorem startHeart_fr (s : State) : Keeps 1114107 s (startHeart s) := by
  unfold startHeart
  extract_lets +onlyGivenNames -merge -useContext x1
  have h2 : Keeps 1114107 s x1 := by
    unfold x1
    exact Keeps.mono rfl (powerUp_fr ..)
  try clear_value x1
  refine Keeps.ite ?_ ?_
  · extract_lets +onlyGivenNames -merge -useContext x3
    have h4 : Keeps 1114107 s x3 := by
      unfold x3
      refine Keeps.tr ?_ (Keeps.mono rfl (showSaves_fr ..))
      refine Keeps.tr ?_ (Keeps.mono rfl (chooseRecords_fr ..))
      exact Keeps.tr h2 (Keeps.mono rfl (recoverJournal_fr ..))
    try clear_value x3
    exact Keeps.tr h4 (Keeps.mono rfl (State_setB_fr ..))
  · refine Keeps.tr ?_ (forRange_fr _ _ (fun iz5 sz5 => ?_) _)
    · exact Keeps.tr h2 (Keeps.mono rfl (State_setB_fr ..))
    · exact Keeps.mono rfl (State_setB_fr ..)

theorem startVwarn_fr (a0) (a1) (s : State) : Keeps 1 s (startVwarn a0 a1 s) := by
  unfold startVwarn
  extract_lets +onlyGivenNames -merge -useContext x1
  have h2 : Keeps 1 s x1 := by
    unfold x1
    refine Keeps.tr ?_ (Keeps.mono rfl (State_setB_fr ..))
    exact Keeps.mono rfl (State_setF_fr ..)
  try clear_value x1
  extract_lets +onlyGivenNames -merge -useContext x3
  have h4 : Keeps 1 s x3 := by
    unfold x3
    exact Keeps.tr h2 (Keeps.mono rfl (pfcfgWrite_fr ..))
  try clear_value x3
  split
  · exact Keeps.tr h4 (Keeps.mono rfl (pfcfgWrite_fr ..))
  · exact h4

theorem startConfig_fr (a0) (s : State) : Keeps 1572859 s (startConfig a0 s) := by
  unfold startConfig
  extract_lets +onlyGivenNames -merge -useContext x1
  try clear_value x1
  extract_lets +onlyGivenNames -merge -useContext x2
  try clear_value x2
  extract_lets +onlyGivenNames -merge -useContext x3
  try clear_value x3
  extract_lets +onlyGivenNames -merge -useContext x4
  have h5 : Keeps 1572859 s x4 := by
    unfold x4
    refine Keeps.tr ?_ (forEach_fr _ _ (fun iz6 sz6 => ?_) _)
    · exact Keeps.mono rfl (powerUp_fr ..)
    · split
      · refine Keeps.ite ?_ ?_
        · exact Keeps.refl _ _
        · refine Keeps.tr ?_ (Keeps.mono rfl (domainOff_fr ..))
          exact Keeps.mono rfl (State_setB_fr ..)
      · exact Keeps.refl _ _
  try clear_value x4
  extract_lets +onlyGivenNames -merge -useContext x7
  have h8 : Keeps 1572859 s x7 := by
    unfold x7
    exact Keeps.tr h5 (Keeps.mono rfl (startVwarn_fr ..))
  try clear_value x7
  extract_lets +onlyGivenNames -merge -useContext x9
  try clear_value x9
  extract_lets +onlyGivenNames -merge -useContext x10
  have h11 : Keeps 1572859 s x10 := by
    unfold x10
    refine Keeps.tr ?_ (Keeps.mono rfl (restoreCursor_fr ..))
    exact Keeps.tr h8 (Keeps.mono rfl (loadShadows_fr ..))
  try clear_value x10
  extract_lets +onlyGivenNames -merge -useContext x12
  have h13 : Keeps 1572859 s x12 := by
    unfold x12
    split
    · exact Keeps.tr h11 (Keeps.mono rfl (restoreChans_fr ..))
    · extract_lets +onlyGivenNames -merge -useContext x14
      have h15 : Keeps 1572859 s x14 := by
        unfold x14
        split
        · exact Keeps.tr h11 (Keeps.mono rfl (cwdWrite_fr ..))
        · exact h11
      try clear_value x14
      extract_lets +onlyGivenNames -merge -useContext x16
      have h17 : Keeps 1572859 s x16 := by
        unfold x16
        refine Keeps.tr ?_ (Keeps.mono rfl (restoreSched_fr ..))
        exact Keeps.tr h15 (Keeps.mono rfl (restoreOverrides_fr ..))
      try clear_value x16
      extract_lets +onlyGivenNames -merge -useContext x18
      have h19 : Keeps 1572859 s x18 := by
        unfold x18
        exact Keeps.tr h17 (Keeps.mono rfl (activate_fr ..))
      try clear_value x18
      refine Keeps.tr ?_ (Keeps.mono rfl (judgeExpiries_fr ..))
      refine Keeps.tr ?_ (Keeps.mono rfl (restoreSlots_fr ..))
      refine Keeps.tr ?_ (Keeps.mono rfl (restoreChans_fr ..))
      exact Keeps.tr h19 (Keeps.mono rfl (barkSafe_fr ..))
  try clear_value x12
  extract_lets +onlyGivenNames -merge -useContext x20
  have h21 : Keeps 1572859 s x20 := by
    unfold x20
    exact Keeps.tr h13 (Keeps.mono rfl (restoreModels_fr ..))
  try clear_value x20
  extract_lets +onlyGivenNames -merge -useContext x22
  have h23 : Keeps 1572859 s x22 := by
    unfold x22
    exact Keeps.tr h21 (Keeps.mono rfl (initPasswords_fr ..))
  try clear_value x22
  extract_lets +onlyGivenNames -merge -useContext x24
  have h25 : Keeps 1572859 s x24 := by
    unfold x24
    refine Keeps.ite ?_ ?_
    · exact Keeps.tr h23 (Keeps.mono rfl (ringEvent_fr ..))
    · exact h23
  try clear_value x24
  extract_lets +onlyGivenNames -merge -useContext y26 y27 x28
  have h29 : Keeps 1572859 s x28 := by
    unfold x28
    exact Keeps.tr h25 (Keeps.mono rfl (Keeps.put_heart_pwr _ _ _))
  try clear_value x28
  refine Keeps.ite ?_ ?_
  · exact Keeps.tr h29 (Keeps.mono rfl (gctlWrite_fr ..))
  · exact h29

theorem startUp_fr (a0) (s : State) : Keeps 2097151 s (startUp a0 s) := by
  unfold startUp
  extract_lets +onlyGivenNames -merge -useContext x1
  try clear_value x1
  extract_lets +onlyGivenNames -merge -useContext x2
  have h3 : Keeps 2097151 s x2 := by
    unfold x2
    exact Keeps.mono rfl (State_advTo_fr ..)
  try clear_value x2
  extract_lets +onlyGivenNames -merge -useContext x4
  have h5 : Keeps 2097151 s x4 := by
    unfold x4
    refine Keeps.tr ?_ (Keeps.mono rfl (startHeart_fr ..))
    exact Keeps.tr h3 (Keeps.mono rfl (startStraps_fr ..))
  try clear_value x4
  extract_lets +onlyGivenNames -merge -useContext x6
  have h7 : Keeps 2097151 s x6 := by
    unfold x6
    refine Keeps.ite ?_ ?_
    · exact h5
    · exact Keeps.tr h5 (Keeps.mono rfl (startConfig_fr ..))
  try clear_value x6
  extract_lets +onlyGivenNames -merge -useContext y8 x9
  have h10 : Keeps 2097151 s x9 := by
    unfold x9
    refine Keeps.tr ?_ (Keeps.mono rfl (becomeReady_fr ..))
    exact Keeps.tr h7 (Keeps.mono rfl (Keeps.put_pwr _ _))
  try clear_value x9
  extract_lets +onlyGivenNames -merge -useContext x11
  have h12 : Keeps 2097151 s x11 := by
    unfold x11
    refine Keeps.ite ?_ ?_
    · exact Keeps.tr h10 (Keeps.mono rfl (graftCtlWrite_fr ..))
    · exact h10
  try clear_value x11
  exact Keeps.tr h12 (Keeps.mono rfl (ringBit_fr ..))

theorem execStartUp_fr (a0) (s : State) : KeepsOut 2097151 s (execStartUp a0 s) := by
  unfold execStartUp
  refine KeepsOut.next ?_
  refine Keeps.ite ?_ ?_
  · exact Keeps.refl _ _
  · exact Keeps.mono rfl (startUp_fr ..)

theorem crownHold_fr (s : State) : Keeps 1 s (crownHold s) := by
  unfold crownHold
  refine Keeps.tr ?_ (Keeps.mono rfl (State_setB_fr ..))
  exact Keeps.mono rfl (State_setB_fr ..)

theorem execCrownWatchdogExpiry_fr (s : State) : KeepsOut 1705483 s (execCrownWatchdogExpiry s) := by
  unfold execCrownWatchdogExpiry
  refine KeepsOut.next ?_
  refine Keeps.ite ?_ ?_
  · exact Keeps.refl _ _
  · extract_lets +onlyGivenNames -merge -useContext x1
    have h2 : Keeps 1705483 s x1 := by
      unfold x1
      exact Keeps.mono rfl (State_advTo_fr ..)
    try clear_value x1
    extract_lets +onlyGivenNames -merge -useContext x3
    have h4 : Keeps 1705483 s x3 := by
      unfold x3
      refine Keeps.ite ?_ ?_
      · exact h2
      · refine Keeps.tr ?_ (Keeps.mono rfl (State_bump_fr ..))
        refine Keeps.ite ?_ ?_
        · exact h2
        · exact Keeps.tr h2 (Keeps.mono rfl (chooseBoot_fr ..))
    try clear_value x3
    extract_lets +onlyGivenNames -merge -useContext x5
    have h6 : Keeps 1705483 s x5 := by
      unfold x5
      refine Keeps.tr ?_ (Keeps.mono rfl (crownHold_fr ..))
      refine Keeps.tr ?_ (Keeps.mono rfl (State_setB_fr ..))
      exact Keeps.tr h4 (Keeps.mono rfl (resetCause_fr ..))
    try clear_value x5
    extract_lets +onlyGivenNames -merge -useContext x7
    have h8 : Keeps 1705483 s x7 := by
      unfold x7
      exact Keeps.tr h6 (Keeps.mono rfl (barkSafe_fr ..))
    try clear_value x7
    extract_lets +onlyGivenNames -merge -useContext x9
    try clear_value x9
    exact Keeps.tr h8 (Keeps.mono rfl (Keeps.put_pwr _ _))

theorem restartCmd_fr (a0) (s : State) : Keeps 1572859 s (restartCmd a0 s) := by
  unfold restartCmd
  refine Keeps.ite ?_ ?_
  · exact Keeps.refl _ _
  · extract_lets +onlyGivenNames -merge -useContext x1
    have h2 : Keeps 1572859 s x1 := by
      unfold x1
      exact Keeps.mono rfl (updCmd_fr ..)
    try clear_value x1
    split
    · extract_lets +onlyGivenNames -merge -useContext x3
      have h4 : Keeps 1572859 s x3 := by
        unfold x3
        refine Keeps.ite ?_ ?_
        · exact Keeps.tr h2 (Keeps.mono rfl (sendReliable_fr ..))
        · exact h2
      try clear_value x3
      exact Keeps.tr h4 (Keeps.mono rfl (finishCmd_fr ..))
    · split
      · extract_lets +onlyGivenNames -merge -useContext x5
        have h6 : Keeps 1572859 s x5 := by
          unfold x5
          exact Keeps.tr h2 (Keeps.mono rfl (stopService_fr ..))
        try clear_value x5
        split
        · refine Keeps.ite ?_ ?_
          · exact Keeps.tr h6 (Keeps.mono rfl (finishTune_fr ..))
          · exact Keeps.tr h6 (Keeps.mono rfl (finishCmd_fr ..))
        · exact Keeps.tr h6 (Keeps.mono rfl (finishCmd_fr ..))
      · exact Keeps.tr h2 (Keeps.mono rfl (finishCmd_fr ..))

theorem reloadConfig_fr (s : State) : Keeps 1572859 s (reloadConfig s) := by
  unfold reloadConfig
  extract_lets +onlyGivenNames -merge -useContext x1
  have h2 : Keeps 1572859 s x1 := by
    unfold x1
    exact Keeps.refl _ _
  try clear_value x1
  extract_lets +onlyGivenNames -merge -useContext x3
  try clear_value x3
  extract_lets +onlyGivenNames -merge -useContext x4
  try clear_value x4
  extract_lets +onlyGivenNames -merge -useContext x5
  try clear_value x5
  split
  · exact Keeps.refl _ _
  · extract_lets +onlyGivenNames -merge -useContext x6
    try clear_value x6
    extract_lets +onlyGivenNames -merge -useContext x7
    try clear_value x7
    extract_lets +onlyGivenNames -merge -useContext y8 x9
    have h10 : Keeps 1572859 s x9 := by
      unfold x9
      exact Keeps.mono rfl (Keeps.put_fw _ _)
    try clear_value x9
    extract_lets +onlyGivenNames -merge -useContext x11
    have h12 : Keeps 1572859 s x11 := by
      unfold x11
      refine Keeps.tr ?_ (Keeps.mono rfl (restoreSched_fr ..))
      refine Keeps.tr ?_ (Keeps.mono rfl (restoreOverrides_fr ..))
      exact Keeps.tr h10 (Keeps.mono rfl (restoreCursor_fr ..))
    try clear_value x11
    extract_lets +onlyGivenNames -merge -useContext x13
    try clear_value x13
    extract_lets +onlyGivenNames -merge -useContext x14
    have h15 : Keeps 1572859 s x14 := by
      unfold x14
      refine Keeps.tr ?_ (forEach_fr _ _ (fun iz16 sz16 => ?_) _)
      · exact h12
      · exact Keeps.mono rfl (recomputeZone_fr ..)
    try clear_value x14
    extract_lets +onlyGivenNames -merge -useContext x17
    have h18 : Keeps 1572859 s x17 := by
      unfold x17
      refine Keeps.tr ?_ (forRange_fr _ _ (fun iz19 sz19 => ?_) _)
      · exact h15
      · refine Keeps.tr ?_ (forRange_fr _ _ (fun iz20 sz20 => ?_) _)
        · exact Keeps.refl _ _
        · exact Keeps.mono rfl (evalTrig_fr ..)
    try clear_value x17
    extract_lets +onlyGivenNames -merge -useContext x21
    try clear_value x21
    extract_lets +onlyGivenNames -merge -useContext y22 x23
    have h24 : Keeps 1572859 s x23 := by
      unfold x23
      exact Keeps.tr h18 (Keeps.mono rfl (Keeps.put_fw _ _))
    try clear_value x23
    extract_lets +onlyGivenNames -merge -useContext x25
    have h26 : Keeps 1572859 s x25 := by
      unfold x25
      refine Keeps.ite ?_ ?_
      · exact h24
      · exact Keeps.tr h24 (Keeps.mono rfl (ringEvent_fr ..))
    try clear_value x25
    extract_lets +onlyGivenNames -merge -useContext x27
    have h28 : Keeps 1572859 s x27 := by
      unfold x27
      refine Keeps.ite ?_ ?_
      · exact h26
      · exact Keeps.tr h26 (Keeps.mono rfl (ringEvent_fr ..))
    try clear_value x27
    refine Keeps.tr ?_ (Keeps.mono rfl (judgeExpiries_fr ..))
    refine Keeps.tr ?_ (Keeps.mono rfl (evalSchedules_fr ..))
    exact Keeps.tr h28 (Keeps.mono rfl (applyRefs_fr ..))

theorem crownRestart_fr (s : State) : Keeps 1572863 s (crownRestart s) := by
  unfold crownRestart
  extract_lets +onlyGivenNames -merge -useContext x1
  have h2 : Keeps 1572863 s x1 := by
    unfold x1
    refine Keeps.tr ?_ (Keeps.mono rfl (crownHold_fr ..))
    exact Keeps.mono rfl (resetFabric_fr ..)
  try clear_value x1
  extract_lets +onlyGivenNames -merge -useContext x3
  have h4 : Keeps 1572863 s x3 := by
    unfold x3
    refine Keeps.ite ?_ ?_
    · exact Keeps.tr h2 (Keeps.mono rfl (recoverJournal_fr ..))
    · exact h2
  try clear_value x3
  extract_lets +onlyGivenNames -merge -useContext x5
  have h6 : Keeps 1572863 s x5 := by
    unfold x5
    refine Keeps.ite ?_ ?_
    · exact h4
    · exact Keeps.tr h4 (Keeps.mono rfl (chooseBoot_fr ..))
  try clear_value x5
  extract_lets +onlyGivenNames -merge -useContext x7
  have h8 : Keeps 1572863 s x7 := by
    unfold x7
    refine Keeps.tr ?_ (Keeps.mono rfl (loadShadows_fr ..))
    exact Keeps.tr h6 (Keeps.mono rfl (loseBuffer_fr ..))
  try clear_value x7
  extract_lets +onlyGivenNames -merge -useContext y9 x10
  try clear_value x10
  extract_lets +onlyGivenNames -merge -useContext x11
  have h12 : Keeps 1572863 s x11 := by
    unfold x11
    exact Keeps.tr h8 (Keeps.mono rfl (Keeps.put_fw _ _))
  try clear_value x11
  extract_lets +onlyGivenNames -merge -useContext x13
  have h14 : Keeps 1572863 s x13 := by
    unfold x13
    refine Keeps.ite ?_ ?_
    · exact h12
    · exact Keeps.tr h12 (Keeps.mono rfl (reloadConfig_fr ..))
  try clear_value x13
  extract_lets +onlyGivenNames -merge -useContext x15
  have h16 : Keeps 1572863 s x15 := by
    unfold x15
    refine Keeps.tr ?_ (Keeps.mono rfl (handBackAll_fr ..))
    refine Keeps.tr ?_ (forEach_fr _ _ (fun iz17 sz17 => ?_) _)
    · exact Keeps.tr h14 (Keeps.mono rfl (freshLine_fr ..))
    · exact Keeps.mono rfl (restartCmd_fr ..)
  try clear_value x15
  extract_lets +onlyGivenNames -merge -useContext x18
  try clear_value x18
  extract_lets +onlyGivenNames -merge -useContext y19 x20
  have h21 : Keeps 1572863 s x20 := by
    unfold x20
    exact Keeps.tr h16 (Keeps.mono rfl (Keeps.put_hp _ _))
  try clear_value x20
  refine Keeps.tr ?_ (Keeps.mono rfl (ringBit_fr ..))
  refine Keeps.tr ?_ (Keeps.mono rfl (ringBit_fr ..))
  refine Keeps.tr ?_ (Keeps.mono rfl (becomeReady_fr ..))
  refine Keeps.tr ?_ (forRange_fr _ _ (fun iz22 sz22 => ?_) _)
  · exact h21
  · refine Keeps.tr ?_ (Keeps.mono rfl (postNext_fr ..))
    exact Keeps.mono rfl (postForwarded_fr ..)

theorem execCrownRestart_fr (s : State) : KeepsOut 2097151 s (execCrownRestart s) := by
  unfold execCrownRestart
  refine KeepsOut.next ?_
  refine Keeps.ite ?_ ?_
  · exact Keeps.refl _ _
  · split
    · refine Keeps.tr ?_ (Keeps.mono rfl (crownRestart_fr ..))
      exact Keeps.mono rfl (State_advTo_fr ..)
    · refine Keeps.tr ?_ (Keeps.mono rfl (crownRestart_fr ..))
      refine Keeps.tr ?_ (Keeps.mono rfl (resetCause_fr ..))
      exact Keeps.mono rfl (State_advTo_fr ..)
    · exact Keeps.refl _ _

theorem porReset_fr (s : State) : Keeps 458751 s (porReset s) := by
  unfold porReset
  show Keeps 458751 s (State.setReg _ aSysRstcause 1)
  refine Keeps.tr (Keeps.tr (enterReset_fr false s) (enterReset_put_fr ?_ ?_ ?_ ?_ ?_)) (Keeps.mono rfl (State_setReg_fr ..))
  iterate 3 exact rfl
  · intro h
    dsimp only
    exact tblWf_drop _ h
  · exact rfl

theorem execPowerOnReset_fr (s : State) : KeepsOut 458751 s (execPowerOnReset s) := by
  unfold execPowerOnReset
  refine KeepsOut.next ?_
  refine Keeps.ite ?_ ?_
  · exact Keeps.refl _ _
  · exact Keeps.mono rfl (porReset_fr ..)

theorem execPowerOnResetRelease_fr (a0) (a1) (s : State) : KeepsOut 917505 s (execPowerOnResetRelease a0 a1 s) := by
  unfold execPowerOnResetRelease
  refine KeepsOut.next ?_
  refine Keeps.ite ?_ ?_
  · exact Keeps.refl _ _
  · extract_lets +onlyGivenNames -merge -useContext x1
    have h2 : Keeps 917505 s x1 := by
      unfold x1
      refine Keeps.tr ?_ (Keeps.mono rfl (releaseHold_fr ..))
      exact Keeps.mono rfl (State_advTo_fr ..)
    try clear_value x1
    extract_lets +onlyGivenNames -merge -useContext y3 y4 x5
    have h6 : Keeps 917505 s x5 := by
      unfold x5
      exact Keeps.tr h2 (Keeps.mono rfl (Keeps.put_pwr_ther _ _ _))
    try clear_value x5
    extract_lets +onlyGivenNames -merge -useContext x7
    have h8 : Keeps 917505 s x7 := by
      unfold x7
      exact Keeps.tr h6 (Keeps.mono rfl (State_setF_fr ..))
    try clear_value x7
    refine Keeps.ite ?_ ?_
    · exact Keeps.tr h8 (Keeps.mono rfl (resetCause_fr ..))
    · exact h8

theorem execResetPin_fr (a0) (s : State) : KeepsOut 458751 s (execResetPin a0 s) := by
  unfold execResetPin
  refine KeepsOut.next ?_
  refine Keeps.ite ?_ ?_
  · extract_lets +onlyGivenNames -merge -useContext y1 x2
    have h3 : Keeps 458751 s x2 := by
      unfold x2
      exact Keeps.mono rfl (Keeps.put_pwr _ _)
    try clear_value x2
    split
    · exact h3
    · exact Keeps.tr h3 (Keeps.mono rfl (resetCause_fr ..))
    · beta_reduce
      refine Keeps.tr ?_ (Keeps.mono rfl (Keeps.put_pwr _ _))
      refine Keeps.tr ?_ (Keeps.mono rfl (enterReset_fr ..))
      exact Keeps.tr h3 (Keeps.mono rfl (resetCause_fr ..))
  · extract_lets +onlyGivenNames -merge -useContext y4 x5
    have h6 : Keeps 458751 s x5 := by
      unfold x5
      exact Keeps.mono rfl (Keeps.put_pwr _ _)
    try clear_value x5
    refine Keeps.ite ?_ ?_
    · exact Keeps.tr h6 (Keeps.mono rfl (releaseHold_fr ..))
    · exact h6

theorem execDeviceReset_fr (s : State) : KeepsOut 2031615 s (execDeviceReset s) := by
  unfold execDeviceReset
  refine KeepsOut.next ?_
  refine Keeps.ite ?_ ?_
  · exact Keeps.refl _ _
  · split
    · refine Keeps.ite ?_ ?_
      · exact Keeps.refl _ _
      · extract_lets +onlyGivenNames -merge -useContext x1
        have h2 : Keeps 2031615 s x1 := by
          unfold x1
          exact Keeps.mono rfl (State_advTo_fr ..)
        try clear_value x1
        extract_lets +onlyGivenNames -merge -useContext x3
        have h4 : Keeps 2031615 s x3 := by
          unfold x3
          refine Keeps.ite ?_ ?_
          · exact Keeps.tr h2 (Keeps.mono rfl (saveSections_fr ..))
          · exact h2
        try clear_value x3
        extract_lets +onlyGivenNames -merge -useContext x5
        have h6 : Keeps 2031615 s x5 := by
          unfold x5
          refine Keeps.tr ?_ (Keeps.mono rfl (enterReset_fr ..))
          exact Keeps.tr h4 (Keeps.mono rfl (resetCause_fr ..))
        try clear_value x5
        exact Keeps.tr h6 (Keeps.mono rfl (Keeps.put_pwr _ _))
    · exact Keeps.refl _ _

theorem noteSupply_fr (a0) (s : State) : Keeps 131072 s (noteSupply a0 s) := by
  unfold noteSupply
  extract_lets +onlyGivenNames -merge -useContext x1
  try clear_value x1
  exact Keeps.mono rfl (Keeps.put_pwr _ _)

theorem execPowerFailWarning_fr (a0) (s : State) : KeepsOut 1245179 s (execPowerFailWarning a0 s) := by
  unfold execPowerFailWarning
  extract_lets +onlyGivenNames -merge -useContext x1
  have h2 : Keeps 1245179 s x1 := by
    unfold x1
    exact Keeps.mono rfl (noteSupply_fr ..)
  try clear_value x1
  refine KeepsOut.next ?_
  refine Keeps.ite ?_ ?_
  · exact h2
  · extract_lets +onlyGivenNames -merge -useContext x3
    have h4 : Keeps 1245179 s x3 := by
      unfold x3
      refine Keeps.tr ?_ (Keeps.mono rfl (State_setB_fr ..))
      refine Keeps.tr ?_ (Keeps.mono rfl (State_setB_fr ..))
      exact Keeps.tr h2 (Keeps.mono rfl (State_setB_fr ..))
    try clear_value x3
    extract_lets +onlyGivenNames -merge -useContext y5 x6
    have h7 : Keeps 1245179 s x6 := by
      unfold x6
      exact Keeps.tr h4 (Keeps.mono rfl (Keeps.put_pwr _ _))
    try clear_value x6
    refine Keeps.ite ?_ ?_
    · exact Keeps.tr h7 (Keeps.mono rfl (pfAct_fr ..))
    · exact h7

theorem execPowerFailClear_fr (s : State) : KeepsOut 1769467 s (execPowerFailClear s) := by
  unfold execPowerFailClear
  refine KeepsOut.next ?_
  refine Keeps.ite ?_ ?_
  · exact Keeps.refl _ _
  · split
    · exact Keeps.refl _ _
    · extract_lets +onlyGivenNames -merge -useContext x1
      have h2 : Keeps 1769467 s x1 := by
        unfold x1
        refine Keeps.tr ?_ (Keeps.mono rfl (State_setB_fr ..))
        exact Keeps.mono rfl (State_advTo_fr ..)
      try clear_value x1
      extract_lets +onlyGivenNames -merge -useContext y3 x4
      have h5 : Keeps 1769467 s x4 := by
        unfold x4
        exact Keeps.tr h2 (Keeps.mono rfl (Keeps.put_pwr _ _))
      try clear_value x4
      refine Keeps.ite ?_ ?_
      · refine Keeps.tr ?_ (Keeps.mono rfl (pfRestore_fr ..))
        exact Keeps.tr h5 (Keeps.mono rfl (rollBackStopped_fr ..))
      · exact h5

theorem rewriteDomain_fr (a0) (s : State) : Keeps 1572859 s (rewriteDomain a0 s) := by
  unfold rewriteDomain
  split
  · exact Keeps.refl _ _
  · extract_lets +onlyGivenNames -merge -useContext x1
    try clear_value x1
    extract_lets +onlyGivenNames -merge -useContext x2
    have h3 : Keeps 1572859 s x2 := by
      unfold x2
      exact Keeps.mono rfl (rewriteRefs_fr ..)
    try clear_value x2
    extract_lets +onlyGivenNames -merge -useContext x4
    have h5 : Keeps 1572859 s x4 := by
      unfold x4
      split
      · refine Keeps.tr ?_ (forEach_fr _ _ (fun iz6 sz6 => ?_) _)
        · exact h3
        · refine Keeps.ite ?_ ?_
          · exact Keeps.mono rfl (setPort_fr ..)
          · exact Keeps.refl _ _
      · refine Keeps.ite ?_ ?_
        · exact h3
        · refine Keeps.tr ?_ (Keeps.mono rfl (gctlWrite_fr ..))
          exact Keeps.tr h3 (Keeps.mono rfl (writeOrder_fr ..))
      · refine Keeps.ite ?_ ?_
        · exact h3
        · exact Keeps.tr h3 (Keeps.mono rfl (graftCtlWrite_fr ..))
      · refine Keeps.tr ?_ (Keeps.mono rfl (applyFans_fr ..))
        refine Keeps.tr ?_ (forRange_fr _ _ (fun iz7 sz7 => ?_) _)
        · exact Keeps.tr h3 (Keeps.mono rfl (setMotors_fr ..))
        · exact Keeps.mono rfl (applyDemand_fr ..)
      · exact h3
    try clear_value x4
    exact Keeps.tr h5 (Keeps.mono rfl (refreshDblk_fr ..))

theorem execDomainPowerUp_fr (a0) (s : State) : KeepsOut 2097147 s (execDomainPowerUp a0 s) := by
  unfold execDomainPowerUp
  refine KeepsOut.next ?_
  extract_lets +onlyGivenNames -merge -useContext x1
  try clear_value x1
  split
  · exact Keeps.refl _ _
  · extract_lets +onlyGivenNames -merge -useContext x2
    have h3 : Keeps 2097147 s x2 := by
      unfold x2
      exact Keeps.mono rfl (State_advTo_fr ..)
    try clear_value x2
    extract_lets +onlyGivenNames -merge -useContext y4 x5
    have h6 : Keeps 2097147 s x5 := by
      unfold x5
      refine Keeps.tr ?_ (Keeps.mono rfl (domainOn_fr ..))
      exact Keeps.tr h3 (Keeps.mono rfl (Keeps.put_pwr _ _))
    try clear_value x5
    refine Keeps.ite ?_ ?_
    · exact Keeps.tr h6 (Keeps.mono rfl (rewriteDomain_fr ..))
    · exact h6

theorem restoreRecorder_fr (s : State) : Keeps 32769 s (restoreRecorder s) := by
  unfold restoreRecorder
  split
  · split
    · extract_lets +onlyGivenNames -merge -useContext x1
      try clear_value x1
      extract_lets +onlyGivenNames -merge -useContext y2 x3
      have h4 : Keeps 32769 s x3 := by
        unfold x3
        exact Keeps.mono rfl (Keeps.put_grr _ _)
      try clear_value x3
      extract_lets +onlyGivenNames -merge -useContext x5
      try clear_value x5
      extract_lets +onlyGivenNames -merge -useContext x6
      try clear_value x6
      extract_lets +onlyGivenNames -merge -useContext y7 x8
      have h9 : Keeps 32769 s x8 := by
        unfold x8
        exact Keeps.tr h4 (Keeps.mono rfl (Keeps.put_grr _ _))
      try clear_value x8
      refine Keeps.tr ?_ (Keeps.mono rfl (healthCount_fr ..))
      exact Keeps.tr h9 (Keeps.mono rfl (State_setReg_fr ..))
    · exact Keeps.refl _ _
  · exact Keeps.refl _ _

theorem execGrrPowerUp_fr (a0) (s : State) : KeepsOut 32769 s (execGrrPowerUp a0 s) := by
  unfold execGrrPowerUp
  refine KeepsOut.next ?_
  refine Keeps.ite ?_ ?_
  · exact Keeps.refl _ _
  · extract_lets +onlyGivenNames -merge -useContext x1
    have h2 : Keeps 32769 s x1 := by
      unfold x1
      refine Keeps.tr ?_ (Keeps.mono rfl (restoreRecorder_fr ..))
      exact Keeps.mono rfl (mapBanks_fr ..)
    try clear_value x1
    exact Keeps.tr h2 (Keeps.mono rfl (Keeps.put_grr _ _))

end Sys2Proof.Machine
end

