-- ==== Sys2Proof/Laws/Parts.lean ====
section
/-! SUPPORT. Sys2Proof/Laws/Parts.lean: from a mask of Laws/Frame.lean to the parts of the state that stay the same. -/

namespace Sys2Proof.Machine

open Sys2Proof

/-- The bit of part `p` in the masks of Laws/Frame.lean. -/
def Part.bit : Part → Nat
  | .regs => 0
  | .fab => 1
  | .hp => 2
  | .fw => 3
  | .inp => 4
  | .cnv => 5
  | .rq => 6
  | .field => 7
  | .camb => 8
  | .drv => 9
  | .fan => 10
  | .bus => 11
  | .gft => 12
  | .heart => 13
  | .trend => 14
  | .grr => 15
  | .rtc => 16
  | .pwr => 17
  | .ther => 18
  | .now => 19
  | .free => 20

/-- Every part. -/
def Part.all : List Part := [.regs, .fab, .hp, .fw, .inp, .cnv, .rq, .field, .camb, .drv, .fan, .bus, .gft, .heart, .trend, .grr, .rtc, .pwr, .ther, .now, .free]

/-- Every part is one of them. -/
theorem Part.mem_all (p : Part) : p ∈ Part.all := by cases p <;> decide

/-- A part whose bit is clear is the same. -/
theorem Keeps.same {m : Nat} {s t : State} (k : Keeps m s t) (p : Part) (h : m.testBit p.bit = false) : p.Same s t := by
  cases p
  · exact k.regs h
  · exact k.fab h
  · exact k.hp h
  · exact k.fw h
  · exact k.inp h
  · exact k.cnv h
  · exact k.rq h
  · exact k.field h
  · exact k.camb h
  · exact k.drv h
  · exact k.fan h
  · exact k.bus h
  · exact k.gft h
  · exact k.heart h
  · exact k.trend h
  · exact k.grr h
  · exact k.rtc h
  · exact k.pwr h
  · exact k.ther h
  · exact k.now h
  · exact k.free h

/-- The parts outside a list that holds every part of the mask are the same. -/
theorem Keeps.leaves {m : Nat} {s t : State} (k : Keeps m s t) (l : List Part)
    (h : (Part.all.all fun p => l.contains p || !(m.testBit p.bit)) = true) (p : Part) (hp : p ∉ l) : p.Same s t := by
  have := List.all_eq_true.mp h p p.mem_all
  simp only [List.contains_iff_mem, hp, Bool.or_eq_true, false_or, Bool.not_eq_true'] at this
  exact k.same p this

end Sys2Proof.Machine
end

