-- ==== Sys2Proof/Tests/Slice0.lean ====
section
/-! SUPPORT. Sys2Proof/Tests/Slice0.lean: a state for every hypothesis of a statement, operands that are not well formed, the
spec's worked examples. -/

set_option Elab.async false
set_option linter.unusedVariables false

namespace Sys2Proof.Tests

open Sys2Proof Sys2Proof.Machine

/-- The pair that an operation answers. -/
theorem get_pair {α β : Type} (o : Option (α × β)) (h : o.isSome = true) : o = some ((o.get h).1, (o.get h).2) :=
  (Option.some_get h).symm

/-- Every domain on. -/
def wOn : State := State.reset.setReg aSysPwrstat 0x1FF
/-- A result of the drive island under way. -/
def wRes : State := { wOn with fab := { fabReset with flight := [⟨0x3700000000000000 + 2 * 2 ^ 54, [0], 0, 0⟩] } }
/-- A Twig segment that is powered and ready. -/
def wTw : State := (wOn.setB (aTwigSegctl 0) 31 true).setF (aTwigSegstat 0) 24 3 1
/-- A fan that is on. -/
def wFan : State := wOn.setB (aFanCfg 0) 31 true
/-- A request of the energy scheduler. -/
def wReq : Req := ⟨0, 1, true, 0, 0, 0, 0, false⟩

/-- Every domain on and firmware ready. -/
def wRdy : State := wOn.setB aHpStat 31 true
/-- A command of these words from a secure mailbox, taken and not begun. -/
def wC (ws : List Word) : Cmd := ⟨1, 0, 1, ws, true, .mailbox, false, .none, false, none, 0, false, false, none, none, false⟩
/-- The state with this one command taken. -/
def wIn (c : Cmd) (s : State) : State := { s with fw := { s.fw with cmds := [c] } }

/-- The backup domain in reset. -/
def wHeld : State := { wOn with rtc := { rtcReset with held := true } }
/-- The clock halted, with a legal date. -/
def wHalt : State := ((wOn.setB aRtcCtl 31 true).setReg (aRtcSec + 16) 1).setReg (aRtcSec + 20) 1
/-- Part of a grove of two links. -/
def wGft : State := (wOn.setF aGraftStat 24 2 2).setF (aGraftPort 0) 30 2 2
/-- RESET_N low. -/
def wPin : State := { wOn with pwr := { pwrReset with held := some .pin } }
/-- In power-on reset. -/
def wPor : State := { wOn with pwr := { pwrReset with held := some .por } }

/-- Heartwood open. -/
def wHeart : State := { wOn with pwr := { pwrReset with heartOk := true } }

/-- An image with one condition overlay. -/
def wImg : Image := ⟨0, [], 0, [some ⟨.cond 0, 0, [], []⟩], [], [], [], none, [], [], 0, none, none, false, [], [], [], [], 0, false, [], [], 0, none, 0⟩

/-- Drive channel 0 claimed by the sender. -/
def wClm : State := { wRdy with fw := { fwReset with claims := [⟨mkRef 6 0, true, 0⟩] } }
/-- EXPERT.WRITE of the safe value of channel 0: its first word. -/
def mkExpW : Word := BitVec.ofNat 32 (aDrvSafe 0)
/-- A slot whose writes pass. -/
def wLoopW : State := wRdy
/-- A slot that may be tuned. -/
def wTune : State :=
  (((((wRdy.setF (aCambStat 0) 25 3 1).setF (aCambSrcpv 0) 29 3 1).setReg (aCambOut 0) 0x42480000).setReg (aCambOutmin 0) 0).setReg
    (aCambOutmax 0) 0x42C80000)
/-- A transaction descriptor that stands. -/
def mkI2c : Word := 0xC8000000
/-- A Modbus slave of address 1 on port 0. -/
def wMb : State := (wRdy.setF (aBusPcfg 0) 29 3 3).setF (aBusPcfg 0) 0 8 1
/-- An image with BACnet objects. -/
def wImB : Image := { wImg with bacnet := [⟨20, 0, 0, 0⟩, ⟨0, 0, 0, 0⟩] }
/-- BACnet served at port 0. -/
def wBac : State :=
  ({ wRdy with fw := { fwReset with image := some { wImg with bacnet := [⟨20, 0, 0, 0⟩] } } }.setF (aBusPcfg 0) 29 3 1).setB (aBusPstat 0) 30 false
/-- BACnet with objects. -/
def wBacP : State := { wBac with fw := { fwReset with image := some wImB } }
/-- BACnet with an open trend store. -/
def wBacT : State := { wBacP with trend := { trendReset with open_ := true } }
/-- A password is set. -/
def wBacL : State := (writeRecord 9 (.keys [(1, 5)]) 0 none .ok { wBac with pwr := { pwrReset with heartOk := true } }).2
/-- A joined node with one link up, firmware ready. -/
def wJoin : State := (wRdy.setF aGraftStat 24 2 2).setF (aGraftPort 0) 30 2 2
/-- A request frame under way. -/
def wSend : GrSend := ⟨1, 1, 2, [0x41], 0, 0, none⟩
/-- A node with a home zone and a linked zone, whose zone 0 has sent. -/
def wZone : State := { wJoin with
  fw := { fwReset with image := some { wImg with homeLinks := [⟨0, 2, 1⟩], zoneLinks := [⟨0, 2, 1⟩] } }
  gft := { gftReset with zoneOut := [(0, some (0, 0, 0, 0))] } }
/-- A flash that answers. -/
def wFlash : State := { wRdy with pwr := { pwrReset with sfdp := true } }
/-- What start-up finds. -/
def wBoot0 : BootPins := ⟨0, 0, 24000, 128, true, true⟩
/-- The warning enabled. -/
def wWarn : State := wRdy.setB aSysPfcfg 31 true

/-- Every hypothesis of ResultQueueCommands is met. -/
theorem wit_ResultQueueCommands :
    (∃ (src : Producer) (p : Packet) (t : State) (s : State), takePacket (fromProducer src) s = some (p, t) ∧ domOn .rta s = true) ∧
    (∃ (src : Producer) (s : State), takePacket (fromProducer src) s = none) ∧
    (∃ (s : State), domOn .rta s = true) ∧
    (∃ (s : State), ¬ (domOn .rta s = true)) ∧
    (∃ (r : Reader) (p : Fin 256) (s : State), domOn .rta s = true) ∧
    (∃ (r : Reader) (p : Fin 256) (s : State), ¬ (domOn .rta s = true)) :=
  ⟨⟨.i2c 0, _, _, wRes, get_pair _ (by decide +kernel), by decide +kernel⟩,
   ⟨.i2c 0, wOn, rfl⟩,
   ⟨wOn, by decide +kernel⟩,
   ⟨State.reset, by decide +kernel⟩,
   ⟨.host, 0, wOn, by decide +kernel⟩,
   ⟨.host, 0, State.reset, by decide +kernel⟩⟩

/-- Every hypothesis of InputStageCommands is met. -/
theorem wit_InputStageCommands :
    (∃ (n : Fin 96) (mv : Int) (s : State), stageJoined n (settleMode n s) = true ∧ stageMode n (settleMode n s) ≠ 8 ∧ inWindow (stageMode n (settleMode n s)) mv = false) ∧
    (∃ (n : Fin 96) (mv : Int) (s : State), ¬ (stageJoined n (settleMode n s) = true ∧ stageMode n (settleMode n s) ≠ 8 ∧ inWindow (stageMode n (settleMode n s)) mv = false)) ∧
    (∃ (n : Fin 96) (heldUs : Nat) (s : State), stageJoined n (settleMode n s) = true ∧ stageMode n (settleMode n s) = 8 ∧ 5000 ≤ heldUs) ∧
    (∃ (n : Fin 96) (heldUs : Nat) (s : State), ¬ (stageJoined n (settleMode n s) = true ∧ stageMode n (settleMode n s) = 8 ∧ 5000 ≤ heldUs)) ∧
    (∃ (n : Fin 96) (reading : Int) (s : State), domOn (ainDom n) (settleMode n s) = true ∧ (settleMode n s).b (aRootAinstat n) 3 = true) ∧
    (∃ (n : Fin 96) (reading : Int) (s : State), domOn (ainDom n) (settleMode n s) = true ∧ (settleMode n s).b (aRootAinstat n) 3 = false ∧ (inputSt n (settleMode n s)).joining = true) ∧
    (∃ (n : Fin 96) (reading : Int) (s : State), domOn (ainDom n) (settleMode n s) = false) ∧
    (∃ (n : Fin 96) (reading : Int) (s : State), (settleMode n s).b (aRootAinstat n) 3 = false ∧ (inputSt n (settleMode n s)).joining = false) ∧
    (∃ (n : Fin 96) (t : Nat) (s : State), (inputSt n s).closedAt = some t ∧ s.b (aRootAinstat n) 3 = false) ∧
    (∃ (n : Fin 96) (s : State), ((inputSt n s).closedAt = none ∨ s.b (aRootAinstat n) 3 = true)) ∧
    (∃ (n : Fin 96) (v : Word) (s : State), domOn (ainDom n) s = true) ∧
    (∃ (n : Fin 96) (v : Word) (s : State), ¬ (domOn (ainDom n) s = true)) ∧
    (∃ (n : Fin 96) (mv : Int) (s : State), stageJoined n (settleMode n s) = true ∧ stageMode n (settleMode n s) = 9) ∧
    (∃ (n : Fin 96) (mv : Int) (s : State), ¬ (stageJoined n (settleMode n s) = true ∧ stageMode n (settleMode n s) = 9)) ∧
    (∃ (n : Fin 96) (mv : Int) (s : State), stageJoined n (settleMode n s) = true ∧ stageMode n (settleMode n s) = 10) ∧
    (∃ (n : Fin 96) (mv : Int) (s : State), ¬ (stageJoined n (settleMode n s) = true ∧ stageMode n (settleMode n s) = 10)) ∧
    (∃ (n : Fin 96) (s : State), domOn (ainDom n) (settleMode n s) = true ∧ (settleMode n s).b (aRootAincfg n) 30 = true ∧ (stageMode n (settleMode n s) = 9 ∨ stageMode n (settleMode n s) = 10 ∨ stageMode n (settleMode n s) = 11) ∧ ¬ (stageMode n (settleMode n s) = 9 ∧ (inputSt n (settleMode n s)).state = none)) ∧
    (∃ (n : Fin 96) (s : State), ¬ (domOn (ainDom n) (settleMode n s) = true ∧ (settleMode n s).b (aRootAincfg n) 30 = true ∧ (stageMode n (settleMode n s) = 9 ∨ stageMode n (settleMode n s) = 10 ∨ stageMode n (settleMode n s) = 11) ∧ ¬ (stageMode n (settleMode n s) = 9 ∧ (inputSt n (settleMode n s)).state = none))) :=
  ⟨⟨0, 30000, wOn.setF (aRootAincfg 0) 4 4 1, by decide +kernel⟩,
   ⟨0, 0, State.reset, by decide +kernel⟩,
   ⟨0, 6000, wOn.setF (aRootAincfg 0) 4 4 8, by decide +kernel⟩,
   ⟨0, 0, State.reset, by decide +kernel⟩,
   ⟨0, 0, wOn.setB (aRootAinstat 0) 3 true, by decide +kernel⟩,
   ⟨0, 0, setInput 0 { inputSt 0 wOn with joining := true } wOn, by decide +kernel⟩,
   ⟨0, 0, State.reset, by decide +kernel⟩,
   ⟨0, 0, wOn, by decide +kernel⟩,
   ⟨0, 0, setInput 0 { inputSt 0 wOn with closedAt := some 0 } wOn, by decide +kernel⟩,
   ⟨0, wOn, by decide +kernel⟩,
   ⟨0, 0, wOn, by decide +kernel⟩,
   ⟨0, 0, State.reset, by decide +kernel⟩,
   ⟨0, 0, wOn.setF (aRootAincfg 0) 4 4 9, by decide +kernel⟩,
   ⟨0, 0, State.reset, by decide +kernel⟩,
   ⟨0, 0, wOn.setF (aRootAincfg 0) 4 4 10, by decide +kernel⟩,
   ⟨0, 0, State.reset, by decide +kernel⟩,
   ⟨0, (wOn.setF (aRootAincfg 0) 4 4 10).setB (aRootAincfg 0) 30 true, by decide +kernel⟩,
   ⟨0, State.reset, by decide +kernel⟩⟩

/-- Every hypothesis of PresenceDetectorCommands is met. -/
theorem wit_PresenceDetectorCommands :
    (∃ (k : Fin 12) (outMv srcMv : Nat) (s : State), pyro k (settleMode (84 + k) s) = true) ∧
    (∃ (k : Fin 12) (outMv srcMv : Nat) (s : State), ¬ (pyro k (settleMode (84 + k) s) = true)) ∧
    (∃ (k : Fin 12) (t : _) (s : State), (pirSt k s).holdEnd = some t) ∧
    (∃ (k : Fin 12) (s : State), (pirSt k s).holdEnd = none) ∧
    (∃ (k : Fin 12) (t : Nat) (s : State), (pirSt k s).warmEnd = some t) ∧
    (∃ (k : Fin 12) (s : State), (pirSt k s).warmEnd = none) ∧
    (∃ (k : Fin 12) (t : Nat) (s : State), (pirSt k s).satEnd = some t) ∧
    (∃ (k : Fin 12) (s : State), (pirSt k s).satEnd = none) :=
  ⟨⟨0, 0, 0, wOn.setF (aRootAincfg 84) 4 4 11, by decide +kernel⟩,
   ⟨0, 0, 0, State.reset, by decide +kernel⟩,
   ⟨0, 5, setPir 0 { pirSt0 with holdEnd := some 5 } wOn, by decide +kernel⟩,
   ⟨0, wOn, by decide +kernel⟩,
   ⟨0, 5, setPir 0 { pirSt0 with warmEnd := some 5 } wOn, by decide +kernel⟩,
   ⟨0, wOn, by decide +kernel⟩,
   ⟨0, 5, setPir 0 { pirSt0 with satEnd := some 5 } wOn, by decide +kernel⟩,
   ⟨0, wOn, by decide +kernel⟩⟩

/-- Every hypothesis of ConverterCommands is met. -/
theorem wit_ConverterCommands :
    (∃ (c : Fin 6) (s : State), domOn (cnvDom c) (catchUp c s) = true ∧ cnvEn c (catchUp c s) = true ∧ (cnvSt c (catchUp c s)).cur.isNone = true ∧ (cnvSt c (catchUp c s)).urg.isNone = true ∧ (cnvSt c (catchUp c s)).stopping = false) ∧
    (∃ (c : Fin 6) (s : State), ¬ (domOn (cnvDom c) (catchUp c s) = true ∧ cnvEn c (catchUp c s) = true ∧ (cnvSt c (catchUp c s)).cur.isNone = true ∧ (cnvSt c (catchUp c s)).urg.isNone = true ∧ (cnvSt c (catchUp c s)).stopping = false)) ∧
    (∃ (c : Fin 6) (samples : List Sample) (e : EntryRun) (s : State), (cnvSt c s).cur = some e ∧ (cnvSt c s).urg = none ∧ domOn (cnvDom c) s = true) ∧
    (∃ (c : Fin 6) (samples : List Sample) (s : State), ((cnvSt c s).cur = none ∨ (cnvSt c s).urg ≠ none)) ∧
    (∃ (c : Fin 6) (samples : List Sample) (s : State), domOn (cnvDom c) s = true ∧ (cnvEn c s || (cnvSt c s).stopping) = true) ∧
    (∃ (c : Fin 6) (samples : List Sample) (s : State), ¬ (domOn (cnvDom c) s = true ∧ (cnvEn c s || (cnvSt c s).stopping) = true)) ∧
    (∃ (c : Fin 6) (v : Word) (s : State), domOn (cnvDom c) s = true) ∧
    (∃ (c : Fin 6) (v : Word) (s : State), ¬ (domOn (cnvDom c) s = true)) ∧
    (∃ (n : Fin 192) (hi : Bool) (v : Word) (s : State), domOn (cnvDom (n / 32)) s = true) ∧
    (∃ (n : Fin 192) (hi : Bool) (v : Word) (s : State), ¬ (domOn (cnvDom (n / 32)) s = true)) ∧
    (∃ (c : Fin 6) (v : Word) (s : State), domOn (cnvDom c) s = true) ∧
    (∃ (c : Fin 6) (v : Word) (s : State), ¬ (domOn (cnvDom c) s = true)) :=
  ⟨⟨0, wOn.setB (aRootCnvctl 0) 31 true, by decide +kernel⟩,
   ⟨0, State.reset, by decide +kernel⟩,
   ⟨0, [], ⟨0, 0, 0, false, 0, []⟩, { wOn with cnv := [(0, { cnvSt0 with cur := some ⟨0, 0, 0, false, 0, []⟩ })] }, by decide +kernel⟩,
   ⟨0, [], wOn, by decide +kernel⟩,
   ⟨0, [], wOn.setB (aRootCnvctl 0) 31 true, by decide +kernel⟩,
   ⟨0, [], State.reset, by decide +kernel⟩,
   ⟨0, 0, wOn, by decide +kernel⟩,
   ⟨0, 0, State.reset, by decide +kernel⟩,
   ⟨0, false, 0, wOn, by decide +kernel⟩,
   ⟨0, false, 0, State.reset, by decide +kernel⟩,
   ⟨0, 0, wOn, by decide +kernel⟩,
   ⟨0, 0, State.reset, by decide +kernel⟩⟩

/-- Every hypothesis of SensorPortCommands is met. -/
theorem wit_SensorPortCommands :
    (∃ (p : Fin 8) (s : State), domOn .bus s = true ∧ s.b (aBusI2cctl p) 31 = true ∧ s.b (aBusI2cstat p) 0 = false ∧ (i2cSt p s).cur.isNone = true ∧ (i2cSt p s).stuckDue = false) ∧
    (∃ (p : Fin 8) (s : State), ¬ (domOn .bus s = true ∧ s.b (aBusI2cctl p) 31 = true ∧ s.b (aBusI2cstat p) 0 = false ∧ (i2cSt p s).cur.isNone = true ∧ (i2cSt p s).stuckDue = false)) ∧
    (∃ (p : Fin 8) (out : I2cOutcome) (t : Nat) (s : State), (i2cSt p s).cur = some t ∧ domOn .bus s = true ∧ s.b (aBusI2cstat p) 0 = false ∧ (i2cSt p s).delayEnd.isNone = true ∧ (i2cSt p s).stuckDue = false) ∧
    (∃ (p : Fin 8) (out : I2cOutcome) (s : State), (i2cSt p s).cur = none) ∧
    (∃ (p : Fin 8) (t : Nat) (e : Nat) (s : State), (i2cSt p s).cur = some t ∧ (i2cSt p s).delayEnd = some e) ∧
    (∃ (p : Fin 8) (s : State), (i2cSt p s).delayEnd = none) ∧
    (∃ (p : Fin 8) (pulses : Nat) (s : State), domOn .bus s = true ∧ s.b (aBusI2cctl p) 31 = true ∧ s.b (aBusI2cstat p) 0 = false ∧ stuckCause p s = true) ∧
    (∃ (p : Fin 8) (pulses : Nat) (s : State), ¬ (domOn .bus s = true ∧ s.b (aBusI2cctl p) 31 = true ∧ s.b (aBusI2cstat p) 0 = false ∧ stuckCause p s = true)) ∧
    (∃ (r : PortVolts) (s : State), domOn .bus s = true ∧ s.b (aBusI2cstat r.port) 0 = false ∧ lineHigh r.mv.scl r.mv.sda = true) ∧
    (∃ (r : PortVolts) (s : State), ¬ (domOn .bus s = true ∧ s.b (aBusI2cstat r.port) 0 = false ∧ lineHigh r.mv.scl r.mv.sda = true)) ∧
    (∃ (p : Fin 8) (v : LineVolts) (s : State), domOn .bus s = true ∧ s.b (aBusI2cstat p) 0 = true) ∧
    (∃ (p : Fin 8) (v : LineVolts) (s : State), ¬ (domOn .bus s = true ∧ s.b (aBusI2cstat p) 0 = true)) :=
  ⟨⟨0, wOn.setB (aBusI2cctl 0) 31 true, by decide +kernel⟩,
   ⟨0, State.reset, by decide +kernel⟩,
   ⟨0, .nack, 0, setI2c 0 { i2cSt0 with cur := some 0 } wOn, by decide +kernel⟩,
   ⟨0, .nack, wOn, by decide +kernel⟩,
   ⟨0, 0, 5, setI2c 0 { i2cSt0 with cur := some 0, delayEnd := some 5 } wOn, by decide +kernel⟩,
   ⟨0, wOn, by decide +kernel⟩,
   ⟨0, 9, setI2c 0 { i2cSt0 with stuckDue := true } (wOn.setB (aBusI2cctl 0) 31 true), by decide +kernel⟩,
   ⟨0, 9, State.reset, by decide +kernel⟩,
   ⟨⟨0,⟨30000,0⟩⟩, wOn, by decide +kernel⟩,
   ⟨⟨0,⟨0,0⟩⟩, State.reset, by decide +kernel⟩,
   ⟨0, ⟨0,0⟩, wOn.setB (aBusI2cstat 0) 0 true, by decide +kernel⟩,
   ⟨0, ⟨0,0⟩, State.reset, by decide +kernel⟩⟩

/-- Every hypothesis of TwigSegmentCommands is met. -/
theorem wit_TwigSegmentCommands :
    (∃ (g : Fin 5) (seen : Bool) (s : State), twReady g s = true ∧ (twSt g s).await.isNone = true ∧ (twSt g s).toPoll = []) ∧
    (∃ (g : Fin 5) (seen : Bool) (s : State), ¬ (twReady g s = true ∧ (twSt g s).await.isNone = true ∧ (twSt g s).toPoll = [])) ∧
    (∃ (g : Fin 5) (seen : Bool) (s : State), twReady g s = true ∧ s.b (aTwigSegctl g) 30 = true ∧ (twSt g s).run.isNone = true ∧ (twSt g s).await.isNone = true ∧ (twSt g s).toPoll = [] ∧ (twSt g s).queue = [] ∧ twFits g searchTime s = true) ∧
    (∃ (g : Fin 5) (seen : Bool) (s : State), ¬ (twReady g s = true ∧ s.b (aTwigSegctl g) 30 = true ∧ (twSt g s).run.isNone = true ∧ (twSt g s).await.isNone = true ∧ (twSt g s).toPoll = [] ∧ (twSt g s).queue = [] ∧ twFits g searchTime s = true)) ∧
    (∃ (g : Fin 5) (s : State), domOn .bus s = true ∧ s.b (aTwigSegctl g) 31 = true ∧ fullRun g s = false ∧ (twSt g s).toPoll = [] ∧ (twSt g s).await.isNone = true) ∧
    (∃ (g : Fin 5) (s : State), ¬ (domOn .bus s = true ∧ s.b (aTwigSegctl g) 31 = true ∧ fullRun g s = false ∧ (twSt g s).toPoll = [] ∧ (twSt g s).await.isNone = true)) ∧
    (∃ (g : Fin 5) (frame : List Byte) (r : TwReq) (d : Bool) (a : Nat) (tgl : Bool) (payload : List Byte) (s : State), (twSt g s).await = some r ∧ r.cmd = 1 ∧ twParse frame = some (a, d, tgl, 1, payload) ∧ a = r.addr ∧ d = true ∧ tgl = tblGet false (replyCame g frame.length s).field.tgl (unitNo g r.addr) ∧ payload.length = pollSize (unitNo g r.addr) (replyCame g frame.length s)) ∧
    (∃ (g : Fin 5) (frame : List Byte) (r : TwReq) (s : State), (twSt g s).await = some r ∧ r.cmd = 1 ∧ twParse frame = none) ∧
    (∃ (g : Fin 5) (frame : List Byte) (s : State), (twSt g s).await = none) ∧
    (∃ (g : Fin 5) (s : State), (twSt g s).await.isSome = true) ∧
    (∃ (g : Fin 5) (s : State), ¬ ((twSt g s).await.isSome = true)) ∧
    (∃ (g : Fin 5) (frame : List Byte) (r : TwReq) (a : Nat) (tgl : Bool) (payload : List Byte) (s : State), (twSt g s).await = some r ∧ r.cmd = 2 ∧ twParse frame = some (a, true, tgl, 2, payload) ∧ a = r.addr ∧ tgl = tblGet false (replyCame g frame.length s).field.tgl (if r.addr = 0 then 80 + g.val else unitNo g r.addr) ∧ payload.length = 12) ∧
    (∃ (g : Fin 5) (frame : List Byte) (s : State), (twSt g s).await = none) ∧
    (∃ (g : Fin 5) (t : _) (s : State), (twSt g s).limitAt = some t ∧ domOn .bus s = true ∧ s.b (aTwigSegctl g) 31 = true ∧ twPwr g s = 2) ∧
    (∃ (g : Fin 5) (s : State), (twSt g s).limitAt = none) ∧
    (∃ (g : Fin 5) (t : _) (s : State), (twSt g s).retryAt = some t) ∧
    (∃ (g : Fin 5) (s : State), (twSt g s).retryAt = none) ∧
    (∃ (g : Fin 5) (t : _) (s : State), (twSt g s).waitEnd = some t) ∧
    (∃ (g : Fin 5) (s : State), (twSt g s).waitEnd = none) ∧
    (∃ (g : Fin 5) (limiting : Bool) (deciV ma : Nat) (s : State), domOn .bus s = true ∧ (twPwr g s = 1 ∨ twPwr g s = 2)) ∧
    (∃ (g : Fin 5) (limiting : Bool) (deciV ma : Nat) (s : State), ¬ (domOn .bus s = true ∧ (twPwr g s = 1 ∨ twPwr g s = 2))) ∧
    (∃ (u : Fin 80) (field : Fin 8) (data : List Byte) (s : State), domOn .bus s = true ∧ s.b (aTwigUstat u) 6 = true ∧ hasAddr (twAssigned (u.val / 16) s) (u % 16 + 1) = true ∧ displayOk field (displayData u field data s) = true ∧ tblFind s.field.disp (8 * u.val + field.val) ≠ some (displayData u field data s)) ∧
    (∃ (u : Fin 80) (field : Fin 8) (data : List Byte) (s : State), ¬ (domOn .bus s = true ∧ s.b (aTwigUstat u) 6 = true ∧ hasAddr (twAssigned (u.val / 16) s) (u % 16 + 1) = true ∧ displayOk field (displayData u field data s) = true ∧ tblFind s.field.disp (8 * u.val + field.val) ≠ some (displayData u field data s))) :=
  ⟨⟨0, false, wTw, by decide +kernel⟩,
   ⟨0, false, State.reset, by decide +kernel⟩,
   ⟨0, false, setTw 0 { twSt0 with fresh := false, nominal := 5 } ((wTw.setB (aTwigSegctl 0) 30 true).setF (aTwigSegctl 0) 0 8 100), by decide +kernel⟩,
   ⟨0, false, State.reset, by decide +kernel⟩,
   ⟨0, wTw, by decide +kernel⟩,
   ⟨0, State.reset, by decide +kernel⟩,
   ⟨0, twFrame 1 true false 1 [7], ⟨1, 1, [], 0⟩, true, 1, false, [7], setTw 0 { twSt0 with await := some ⟨1, 1, [], 0⟩ } wOn, by decide +kernel⟩,
   ⟨0, [], ⟨1, 1, [], 0⟩, setTw 0 { twSt0 with await := some ⟨1, 1, [], 0⟩ } wOn, by decide +kernel⟩,
   ⟨0, [], wOn, by decide +kernel⟩,
   ⟨0, setTw 0 { twSt0 with await := some ⟨1, 1, [], 0⟩ } wOn, by decide +kernel⟩,
   ⟨0, State.reset, by decide +kernel⟩,
   ⟨0, twFrame 1 true false 2 (List.replicate 12 0), ⟨1, 2, [], 0⟩, 1, false, List.replicate 12 0, setTw 0 { twSt0 with await := some ⟨1, 2, [], 0⟩ } wOn, by decide +kernel⟩,
   ⟨0, [], wOn, by decide +kernel⟩,
   ⟨0, 5, setTw 0 { twSt0 with limitAt := some 5 } (wTw.setF (aTwigSegstat 0) 24 3 2), by decide +kernel⟩,
   ⟨0, wOn, by decide +kernel⟩,
   ⟨0, 5, setTw 0 { twSt0 with retryAt := some 5 } wOn, by decide +kernel⟩,
   ⟨0, wOn, by decide +kernel⟩,
   ⟨0, 5, setTw 0 { twSt0 with waitEnd := some 5 } wOn, by decide +kernel⟩,
   ⟨0, wOn, by decide +kernel⟩,
   ⟨0, true, 0, 0, wTw, by decide +kernel⟩,
   ⟨0, true, 0, 0, State.reset, by decide +kernel⟩,
   ⟨0, 7, [1], wOn.setB (aTwigUstat 0) 6 true |>.setF (aTwigSegstat 0) 0 16 1, by decide +kernel⟩,
   ⟨0, 7, [1], State.reset, by decide +kernel⟩⟩

/-- Every hypothesis of CambiumCommands is met. -/
theorem wit_CambiumCommands :
    (∃ (n : Fin 96) (off : Byte) (v : Word) (s : State), domOn .cmb s = true ∧ off.toNat % 4 = 0) ∧
    (∃ (n : Fin 96) (off : Byte) (v : Word) (s : State), ¬ (domOn .cmb s = true ∧ off.toNat % 4 = 0)) ∧
    (∃ (n : Fin 96) (lock : Bool) (s : State), domOn .cmb s = true) ∧
    (∃ (n : Fin 96) (lock : Bool) (s : State), ¬ (domOn .cmb s = true)) ∧
    (∃ (n : Fin 96) (out : Bool) (v : Word) (s : State), domOn .cmb s = true) ∧
    (∃ (n : Fin 96) (out : Bool) (v : Word) (s : State), ¬ (domOn .cmb s = true)) ∧
    (∃ (p : Packet) (t : State) (s : State), takePacket pointPacket (if s.fab.flight.any pointPacket then s else sendPoint s) = some (p, t)) ∧
    (∃ (s : State), takePacket pointPacket (if s.fab.flight.any pointPacket then s else sendPoint s) = none) ∧
    (∃ (s : State), domOn .cmb s = true ∧ s.b aCambGctl 31 = true) ∧
    (∃ (s : State), ¬ (domOn .cmb s = true ∧ s.b aCambGctl 31 = true)) ∧
    (∃ (s : State), domOn .cmb s = true) ∧
    (∃ (s : State), ¬ (domOn .cmb s = true)) ∧
    (∃ (n : Fin 96) (s : State), domOn .cmb s = true ∧ (emode n s = 1 ∨ emode n s = 4) ∧ s.b (aCambStat n) 24 = false) ∧
    (∃ (n : Fin 96) (s : State), ¬ (domOn .cmb s = true ∧ (emode n s = 1 ∨ emode n s = 4) ∧ s.b (aCambStat n) 24 = false)) ∧
    (∃ (n : Fin 96) (s : State), domOn .cmb s = true ∧ emode n s ≠ 0 ∧ ((fld (inF (aCambSrcff n) s) 29 3) = 1 ∨ (fld (inF (aCambSrcff n) s) 29 3) = 2 ∨ (fld (inF (aCambSrcff n) s) 29 3) = 4)) ∧
    (∃ (n : Fin 96) (s : State), ¬ (domOn .cmb s = true ∧ emode n s ≠ 0 ∧ ((fld (inF (aCambSrcff n) s) 29 3) = 1 ∨ (fld (inF (aCambSrcff n) s) 29 3) = 2 ∨ (fld (inF (aCambSrcff n) s) 29 3) = 4))) ∧
    (∃ (n : Fin 96) (s : State), domOn .cmb s = true ∧ s.b (aCambStat n) 24 = true) ∧
    (∃ (n : Fin 96) (s : State), ¬ (domOn .cmb s = true ∧ s.b (aCambStat n) 24 = true)) ∧
    (∃ (n : Fin 96) (s : State), domOn .cmb s = true ∧ s.b (aCambStat n) 24 = false ∧ goodTime ≤ (slotSt n s).goodTicks) ∧
    (∃ (n : Fin 96) (s : State), ¬ (domOn .cmb s = true ∧ s.b (aCambStat n) 24 = false ∧ goodTime ≤ (slotSt n s).goodTicks)) :=
  ⟨⟨0, 0, 0, wOn, by decide +kernel⟩,
   ⟨0, 0, 0, State.reset, by decide +kernel⟩,
   ⟨0, true, wOn, by decide +kernel⟩,
   ⟨0, true, State.reset, by decide +kernel⟩,
   ⟨0, true, 0, wOn, by decide +kernel⟩,
   ⟨0, true, 0, State.reset, by decide +kernel⟩,
   ⟨_, _, { wOn with rq := { rqReset with cmb := [⟨1, 0, 0⟩] } }, get_pair _ (by decide +kernel)⟩,
   ⟨wOn, by decide +kernel⟩,
   ⟨wOn.setB aCambGctl 31 true, by decide +kernel⟩,
   ⟨State.reset, by decide +kernel⟩,
   ⟨wOn, by decide +kernel⟩,
   ⟨State.reset, by decide +kernel⟩,
   ⟨0, wOn.setF (aCambStat 0) 25 3 1, by decide +kernel⟩,
   ⟨0, State.reset, by decide +kernel⟩,
   ⟨0, (wOn.setF (aCambStat 0) 25 3 1).setF (aCambSrcff 0) 29 3 1, by decide +kernel⟩,
   ⟨0, State.reset, by decide +kernel⟩,
   ⟨0, wOn.setB (aCambStat 0) 24 true, by decide +kernel⟩,
   ⟨0, State.reset, by decide +kernel⟩,
   ⟨0, setSlot 0 { slotSt 0 wOn with goodTicks := goodTime } wOn, by decide +kernel⟩,
   ⟨0, State.reset, by decide +kernel⟩⟩

/-- Every hypothesis of TunerAndModelCommands is met. -/
theorem wit_TunerAndModelCommands :
    (∃ (k : Fin 8) (v : Word) (s : State), domOn .cmb s = true) ∧
    (∃ (k : Fin 8) (v : Word) (s : State), ¬ (domOn .cmb s = true)) ∧
    (∃ (k : Fin 8) (s : State), domOn .cmb s = true ∧ s.b (aCambTctl k) 31 = true) ∧
    (∃ (k : Fin 8) (s : State), ¬ (domOn .cmb s = true ∧ s.b (aCambTctl k) 31 = true)) ∧
    (∃ (k : Fin 8) (s : State), domOn .cmb s = true ∧ tunerRuns k s = true) ∧
    (∃ (k : Fin 8) (s : State), ¬ (domOn .cmb s = true ∧ tunerRuns k s = true)) ∧
    (∃ (k : Fin 8) (s : State), domOn .cmb s = true ∧ tunerRuns k s = true ∧ 20 ≤ s.f (aCambTstat k) 20 5) ∧
    (∃ (k : Fin 8) (s : State), ¬ (domOn .cmb s = true ∧ tunerRuns k s = true ∧ 20 ≤ s.f (aCambTstat k) 20 5)) ∧
    (∃ (z : Fin 48) (off : Byte) (v : Word) (s : State), domOn .cmb s = true ∧ off.toNat % 4 = 0) ∧
    (∃ (z : Fin 48) (off : Byte) (v : Word) (s : State), ¬ (domOn .cmb s = true ∧ off.toNat % 4 = 0)) :=
  ⟨⟨0, 0, wOn, by decide +kernel⟩,
   ⟨0, 0, State.reset, by decide +kernel⟩,
   ⟨0, wOn.setB (aCambTctl 0) 31 true, by decide +kernel⟩,
   ⟨0, State.reset, by decide +kernel⟩,
   ⟨0, wOn.setF (aCambTstat 0) 29 3 2, by decide +kernel⟩,
   ⟨0, State.reset, by decide +kernel⟩,
   ⟨0, (wOn.setF (aCambTstat 0) 29 3 2).setF (aCambTstat 0) 20 5 20, by decide +kernel⟩,
   ⟨0, State.reset, by decide +kernel⟩,
   ⟨0, 0, 0, wOn, by decide +kernel⟩,
   ⟨0, 0, 0, State.reset, by decide +kernel⟩⟩

/-- Every hypothesis of DriveChannelCommands is met. -/
theorem wit_DriveChannelCommands :
    (∃ (p : Packet) (t : State) (s : State), takePacket (fun p => decide (hfld p.hdr 60 4 = 9) && decide (hfld p.hdr 54 2 = 2) && decide (hfld p.hdr 40 2 = 2)) s = some (p, t) ∧ pairOf (hfld p.hdr 32 8) t < 48) ∧
    (∃ (s : State), takePacket (fun p => decide (hfld p.hdr 60 4 = 9) && decide (hfld p.hdr 54 2 = 2) && decide (hfld p.hdr 40 2 = 2)) s = none) ∧
    (∃ (p : Packet) (t : State) (s : State), takePacket (fun p => decide (hfld p.hdr 60 4 = 10) && decide (hfld p.hdr 54 2 = 2) && decide (hfld p.hdr 40 2 = 2)) s = some (p, t) ∧ hfld p.hdr 32 8 < 48 ∧ stageReady (hfld p.hdr 32 8) t = false) ∧
    (∃ (p : Packet) (t : State) (n : Nat) (s : State), takePacket (fun p => decide (hfld p.hdr 60 4 = 10) && decide (hfld p.hdr 54 2 = 2) && decide (hfld p.hdr 40 2 = 2)) s = some (p, t) ∧ n = hfld p.hdr 32 8 ∧ n < 48 ∧ stageReady n t = true ∧ ((drvMode n t = 1 ∧ (hfld p.hdr 30 2 = 1 ∨ hfld p.hdr 30 2 = 2)) ∨ (drvMode n t = 2 ∧ hfld p.hdr 30 2 = 0))) ∧
    (∃ (ch : Fin 48) (t : Nat) (s : State), drvMode (pairOf ch s) s = 2 ∧ (chanSt (pairOf ch s) s).startAt = some t) ∧
    (∃ (ch : Fin 48) (t : Nat) (d toEnd : Bool) (s : State), drvMode (pairOf ch s) s = 2 ∧ (chanSt (pairOf ch s) s).startAt = none ∧ (chanSt (pairOf ch s) s).doneAt = some (t, d, toEnd) ∧ s.now / msT 1 = t / msT 1 ∧ (calOf (pairOf ch s) s).isNone = true) ∧
    (∃ (ch : Fin 48) (s : State), drvMode (pairOf ch s) s ≠ 2) ∧
    (∃ (ch : Fin 48) (t : Nat) (s : State), (chanSt (pairOf ch s) s).startAt = some t ∧ (drvMode (pairOf ch s) s = 1 ∨ drvMode (pairOf ch s) s = 2) ∧ s.b aSysPfstat 27 = false) ∧
    (∃ (ch : Fin 48) (s : State), (chanSt (pairOf ch s) s).startAt = none) ∧
    (∃ (n : Fin 48) (mv : Int) (s : State), domOn .brk s = true ∧ drvMode n s = 1 ∧ stageOn n s = false) ∧
    (∃ (n : Fin 48) (mv : Int) (s : State), ¬ (domOn .brk s = true ∧ drvMode n s = 1 ∧ stageOn n s = false)) ∧
    (∃ (n : Fin 48) (s : State), domOn .brk s = true) ∧
    (∃ (n : Fin 48) (s : State), ¬ (domOn .brk s = true)) ∧
    (∃ (n : Fin 48) (s : State), s.b (aDrvDiag n) 3 = true) ∧
    (∃ (n : Fin 48) (s : State), ¬ (s.b (aDrvDiag n) 3 = true)) ∧
    (∃ (s : State), vfrev s = false) ∧
    (∃ (s : State), ¬ (vfrev s = false)) ∧
    (∃ (s : State), vfrev s = true) ∧
    (∃ (s : State), ¬ (vfrev s = true)) ∧
    (∃ (n : Fin 48) (mv : Int) (s : State), domOn .brk s = true ∧ drvMode n s = 5) ∧
    (∃ (n : Fin 48) (mv : Int) (s : State), ¬ (domOn .brk s = true ∧ drvMode n s = 5)) ∧
    (∃ (n : Fin 48) (ma : List Int) (s : State), domOn .brk s = true) ∧
    (∃ (n : Fin 48) (ma : List Int) (s : State), ¬ (domOn .brk s = true)) ∧
    (∃ (n : Fin 48) (v : Word) (s : State), domOn .brk s = true) ∧
    (∃ (n : Fin 48) (v : Word) (s : State), ¬ (domOn .brk s = true)) ∧
    (∃ (ch : Fin 48) (high : Bool) (n : Nat) (s : State), n = pairOf ch s ∧ drvMode n s = 4 ∧ domOn .brk s = true) ∧
    (∃ (ch : Fin 48) (high : Bool) (n : Nat) (s : State), n = pairOf ch s ∧ (drvMode n s = 1 ∨ drvMode n s = 2) ∧ stageOn n s = true) :=
  ⟨⟨_, _, { wOn with fab := { fabReset with flight := [⟨mkHdr 9 2 2 0 1 (2 * 256) 0, [0], 0, 0⟩] } }, get_pair _ (by decide +kernel), by decide +kernel⟩,
   ⟨wOn, rfl⟩,
   ⟨_, _, { State.reset with fab := { fabReset with flight := [⟨mkHdr 10 9 2 0 1 (2 * 256) 0, [0], 0, 0⟩] } }, get_pair _ (by decide +kernel), by decide +kernel⟩,
   ⟨_, _, 0, { wOn.setF (aDrvCtl 0) 0 4 2 with fab := { fabReset with flight := [⟨mkHdr 10 9 2 0 1 (2 * 256) 0, [0], 0, 0⟩] } }, get_pair _ (by decide +kernel), by decide +kernel⟩,
   ⟨0, 5, setChan 0 { chanSt0 with startAt := some 5 } (wOn.setF (aDrvCtl 0) 0 4 2), by decide +kernel⟩,
   ⟨0, 5, true, false, setChan 0 { chanSt0 with doneAt := some (5, true, false) } (wOn.setF (aDrvCtl 0) 0 4 2), by decide +kernel⟩,
   ⟨0, wOn, by decide +kernel⟩,
   ⟨0, 5, setChan 0 { chanSt0 with startAt := some 5 } (wOn.setF (aDrvCtl 0) 0 4 2), by decide +kernel⟩,
   ⟨0, wOn, by decide +kernel⟩,
   ⟨0, 5000, wOn.setF (aDrvCtl 0) 0 4 1, by decide +kernel⟩,
   ⟨0, 5000, State.reset, by decide +kernel⟩,
   ⟨0, wOn, by decide +kernel⟩,
   ⟨0, State.reset, by decide +kernel⟩,
   ⟨0, wOn.setB (aDrvDiag 0) 3 true, by decide +kernel⟩,
   ⟨0, State.reset, by decide +kernel⟩,
   ⟨wOn, by decide +kernel⟩,
   ⟨State.reset.setB aDrvGstat 31 true, by decide +kernel⟩,
   ⟨wOn.setB aDrvGstat 31 true, by decide +kernel⟩,
   ⟨State.reset, by decide +kernel⟩,
   ⟨0, 0, wOn.setF (aDrvCtl 0) 0 4 5, by decide +kernel⟩,
   ⟨0, 0, State.reset, by decide +kernel⟩,
   ⟨0, [], wOn.setF (aDrvCtl 0) 0 4 5, by decide +kernel⟩,
   ⟨0, [], State.reset, by decide +kernel⟩,
   ⟨0, 0, wOn, by decide +kernel⟩,
   ⟨0, 0, State.reset, by decide +kernel⟩,
   ⟨0, true, 0, wOn.setF (aDrvCtl 0) 0 4 4, by decide +kernel⟩,
   ⟨0, true, 0, setChan 0 { chanSt0 with startAt := some 5 } (wOn.setF (aDrvCtl 0) 0 4 2), by decide +kernel⟩⟩

/-- Every hypothesis of DriveWriteAndSafeCommands is met. -/
theorem wit_DriveWriteAndSafeCommands :
    (∃ (n : Fin 48) (v : Word) (s : State), drvBad n 0 v s = true) ∧
    (∃ (n : Fin 48) (v : Word) (s : State), drvBad n 0 v s = false ∧ fld v 0 4 = s.f (aDrvCtl n) 0 4) ∧
    (∃ (n : Fin 48) (v : Word) (s : State), drvBad n 0 v s = false ∧ fld v 0 4 ≠ s.f (aDrvCtl n) 0 4) ∧
    (∃ (n : Fin 48) (t : _) (s : State), (chanSt n s).modeDue = some t) ∧
    (∃ (n : Fin 48) (s : State), (chanSt n s).modeDue = none) ∧
    (∃ (s : State), s.drv.safeQ = []) ∧
    (∃ (n : _) (up : _) (rest : _) (s : State), s.drv.safeQ = (n, up) :: rest) ∧
    (∃ (n : Fin 48) (t : _) (s : State), (chanSt n s).startAt = some t ∧ (chanSt n s).safeOn = true) ∧
    (∃ (n : Fin 48) (s : State), (chanSt n s).startAt = none) :=
  ⟨⟨0, 15, State.reset, by decide +kernel⟩,
   ⟨0, 0x300, State.reset, by decide +kernel⟩,
   ⟨0, 0x301, State.reset, by decide +kernel⟩,
   ⟨0, 5, setChan 0 { chanSt0 with modeDue := some 5 } wOn, by decide +kernel⟩,
   ⟨0, wOn, by decide +kernel⟩,
   ⟨wOn, by decide +kernel⟩,
   ⟨0, true, [], { wOn with drv := { drvReset with safeQ := [(0, true)] } }, by decide +kernel⟩,
   ⟨0, 5, setChan 0 { chanSt0 with startAt := some 5, safeOn := true } wOn, by decide +kernel⟩,
   ⟨0, wOn, by decide +kernel⟩⟩

/-- Every hypothesis of FanCommands is met. -/
theorem wit_FanCommands :
    (∃ (p : Packet) (t : State) (s : State), takePacket (fun p => decide (hfld p.hdr 60 4 = 10) && decide (hfld p.hdr 54 2 = 2) && decide (hfld p.hdr 40 2 = 3)) s = some (p, t) ∧ hfld p.hdr 32 8 < 16 ∧ domOn .brk t = true) ∧
    (∃ (f : Fin 16) (s : State), domOn .brk s = true ∧ s.b (aFanCfg f) 31 = true) ∧
    (∃ (f : Fin 16) (s : State), ¬ (domOn .brk s = true ∧ s.b (aFanCfg f) 31 = true)) ∧
    (∃ (f : Fin 16) (s : State), domOn .brk s = true ∧ s.b (aFanCfg f) 31 = true ∧ s.b (aFanCfg f) 30 = true ∧ fanState f s = 1 ∧ s.b (aFanStat f) 11 = false) ∧
    (∃ (f : Fin 16) (s : State), ¬ (domOn .brk s = true ∧ s.b (aFanCfg f) 31 = true ∧ s.b (aFanCfg f) 30 = true ∧ fanState f s = 1 ∧ s.b (aFanStat f) 11 = false)) ∧
    (∃ (f : Fin 16) (ma : List Int) (s : State), domOn .brk s = true ∧ s.b (aFanCfg f) 31 = true ∧ fanState f s = 1 ∧ f32Le (f32OfNat (minDuty f s)) (fanSt f s).duty = true ∧ supplyOn f s = true) ∧
    (∃ (f : Fin 16) (ma : List Int) (s : State), ¬ (domOn .brk s = true ∧ s.b (aFanCfg f) 31 = true ∧ fanState f s = 1 ∧ f32Le (f32OfNat (minDuty f s)) (fanSt f s).duty = true ∧ supplyOn f s = true)) ∧
    (∃ (f : Fin 16) (s : State), domOn .brk s = true ∧ fanState f s = 4 ∧ inBand f s = false) ∧
    (∃ (f : Fin 16) (s : State), ¬ (domOn .brk s = true ∧ fanState f s = 4 ∧ inBand f s = false)) ∧
    (∃ (f : Fin 16) (t : _) (s : State), (fanSt f s).waitEnd = some t ∧ domOn .brk s = true ∧ fanState f s = 2) ∧
    (∃ (f : Fin 16) (s : State), (fanSt f s).waitEnd = none) ∧
    (∃ (f : Fin 16) (t : _) (s : State), (fanSt f s).kickAt = some t ∧ domOn .brk s = true ∧ fanState f s = 3) ∧
    (∃ (f : Fin 16) (s : State), (fanSt f s).kickAt = none) ∧
    (∃ (f : Fin 16) (s : State), domOn .brk s = true ∧ fanState f s = 1) ∧
    (∃ (f : Fin 16) (s : State), ¬ (domOn .brk s = true ∧ fanState f s = 1)) ∧
    (∃ (f : Fin 16) (s : State), domOn .brk s = true ∧ s.b (aFanCfg f) 31 = true ∧ s.b (aFanCfg f) 15 = true) ∧
    (∃ (f : Fin 16) (s : State), ¬ (domOn .brk s = true ∧ s.b (aFanCfg f) 31 = true ∧ s.b (aFanCfg f) 15 = true)) :=
  ⟨⟨_, _, { wOn with fab := { fabReset with flight := [⟨mkHdr 10 2 2 0 1 (3 * 256) 0, [0], 0, 0⟩] } }, get_pair _ (by decide +kernel), by decide +kernel⟩,
   ⟨0, wFan, by decide +kernel⟩,
   ⟨0, State.reset, by decide +kernel⟩,
   ⟨0, (wFan.setB (aFanCfg 0) 30 true).setF (aFanStat 0) 13 3 1, by decide +kernel⟩,
   ⟨0, State.reset, by decide +kernel⟩,
   ⟨0, [], setFan 0 { fanSt0 with duty := 0x42C80000 } (wFan.setF (aFanStat 0) 13 3 1), by decide +kernel⟩,
   ⟨0, [], State.reset, by decide +kernel⟩,
   ⟨0, wFan.setF (aFanStat 0) 13 3 4, by decide +kernel⟩,
   ⟨0, State.reset, by decide +kernel⟩,
   ⟨0, 5, setFan 0 { fanSt0 with waitEnd := some 5 } (wFan.setF (aFanStat 0) 13 3 2), by decide +kernel⟩,
   ⟨0, wOn, by decide +kernel⟩,
   ⟨0, 5, setFan 0 { fanSt0 with kickAt := some 5 } (wFan.setF (aFanStat 0) 13 3 3), by decide +kernel⟩,
   ⟨0, wOn, by decide +kernel⟩,
   ⟨0, wFan.setF (aFanStat 0) 13 3 1, by decide +kernel⟩,
   ⟨0, State.reset, by decide +kernel⟩,
   ⟨0, wFan.setB (aFanCfg 0) 15 true, by decide +kernel⟩,
   ⟨0, State.reset, by decide +kernel⟩⟩

/-- Every hypothesis of EnergySchedulerCommands is met. -/
theorem wit_EnergySchedulerCommands :
    (∃ (n : Fin 48) (t : _) (s : State), durationDue n s = some t) ∧
    (∃ (n : Fin 48) (s : State), durationDue n s = none) ∧
    (∃ (n : Fin 48) (r : _) (s : State), (chanSt n s).pend = some r ∧ (chanSt n s).rejected = false ∧ (chanSt n s).aged.isSome = false ∧ ¬ (r.cls = 0)) ∧
    (∃ (n : Fin 48) (s : State), (chanSt n s).pend = none) ∧
    (∃ (n : Fin 48) (r : _) (s : State), (chanSt n s).run = some r ∧ r.kind = 1 ∧ r.dur = 0) ∧
    (∃ (n : Fin 48) (s : State), (chanSt n s).run = none) ∧
    (∃ (n : Fin 48) (t : Nat) (s : State), (chanSt n s).deadEnd = some t) ∧
    (∃ (n : Fin 48) (s : State), (chanSt n s).deadEnd = none) ∧
    (∃ (cls : Fin 8) (s : State), s.f aEschStat 17 3 ≠ cls.val) ∧
    (∃ (cls : Fin 8) (s : State), ¬ (s.f aEschStat 17 3 ≠ cls.val)) ∧
    (∃ (t : _) (s : State), s.drv.allotAt = some t) ∧
    (∃ (s : State), s.drv.allotAt = none) ∧
    (∃ (v : _) (s : State), ambientNow (ambientTick s) = some v) ∧
    (∃ (s : State), ambientNow (ambientTick s) = none) :=
  ⟨⟨0, 20000, setChan 0 { chanSt0 with run := some { wReq with dur := 1 } } wOn, by decide +kernel⟩,
   ⟨0, wOn, by decide +kernel⟩,
   ⟨0, { wReq with cls := 1 }, setChan 0 { chanSt0 with pend := some { wReq with cls := 1 } } wOn, by decide +kernel⟩,
   ⟨0, wOn, by decide +kernel⟩,
   ⟨0, { wReq with kind := 1 }, setChan 0 { chanSt0 with run := some { wReq with kind := 1 } } wOn, by decide +kernel⟩,
   ⟨0, wOn, by decide +kernel⟩,
   ⟨0, 5, setChan 0 { chanSt0 with deadEnd := some 5 } wOn, by decide +kernel⟩,
   ⟨0, wOn, by decide +kernel⟩,
   ⟨1, wOn, by decide +kernel⟩,
   ⟨0, State.reset, by decide +kernel⟩,
   ⟨5, { wOn with drv := { drvReset with allotAt := some 5 } }, by decide +kernel⟩,
   ⟨wOn, by decide +kernel⟩,
   ⟨0x41A00000, ((wOn.setB aEschCtl 30 true).setReg (aRqLvtlo 0) 0x41A00000).setReg (aRqLvthi 0) 0, by decide +kernel⟩,
   ⟨wOn, by decide +kernel⟩⟩

/-- Every hypothesis of BuildingBusPortCommands is met. -/
theorem wit_BuildingBusPortCommands :
    (∃ (p : Fin 6) (v : Word) (s : State), domOn .bus s = true) ∧
    (∃ (p : Fin 6) (v : Word) (s : State), ¬ (domOn .bus s = true)) ∧
    (∃ (p : Fin 6) (r : MstpFrame) (s : State), domOn .bus s = true ∧ portMode p s = 1) ∧
    (∃ (p : Fin 6) (r : MstpFrame) (s : State), ¬ (domOn .bus s = true ∧ portMode p s = 1)) ∧
    (∃ (p : Fin 6) (byte : Byte) (err : Bool) (s : State), domOn .bus s = true ∧ portMode p s = 4) ∧
    (∃ (p : Fin 6) (byte : Byte) (err : Bool) (s : State), ¬ (domOn .bus s = true ∧ portMode p s = 4)) ∧
    (∃ (p : Fin 6) (s : State), domOn .bus s = true ∧ portMode p s = 2 ∧ (busPort p s).await.isNone = true) ∧
    (∃ (p : Fin 6) (s : State), ¬ (domOn .bus s = true ∧ portMode p s = 2 ∧ (busPort p s).await.isNone = true)) ∧
    (∃ (p : Fin 6) (frame : SerialFrame) (s : State), domOn .bus s = true ∧ portMode p s = 2) ∧
    (∃ (p : Fin 6) (frame : SerialFrame) (s : State), ¬ (domOn .bus s = true ∧ portMode p s = 2)) ∧
    (∃ (p : Fin 6) (s : State), domOn .bus s = true ∧ portMode p s = 2) ∧
    (∃ (p : Fin 6) (s : State), ¬ (domOn .bus s = true ∧ portMode p s = 2)) :=
  ⟨⟨0, 0, wOn, by decide +kernel⟩,
   ⟨0, 0, State.reset, by decide +kernel⟩,
   ⟨0, ⟨5,⟨[],0,0⟩⟩, wOn.setF (aBusPcfg 0) 29 3 1, by decide +kernel⟩,
   ⟨0, ⟨5,⟨[],0,0⟩⟩, State.reset, by decide +kernel⟩,
   ⟨0, 0, false, wOn.setF (aBusPcfg 0) 29 3 4, by decide +kernel⟩,
   ⟨0, 0, false, State.reset, by decide +kernel⟩,
   ⟨0, wOn.setF (aBusPcfg 0) 29 3 2, by decide +kernel⟩,
   ⟨0, State.reset, by decide +kernel⟩,
   ⟨0, ⟨[],0,0⟩, wOn.setF (aBusPcfg 0) 29 3 2, by decide +kernel⟩,
   ⟨0, ⟨[],0,0⟩, State.reset, by decide +kernel⟩,
   ⟨0, wOn.setF (aBusPcfg 0) 29 3 2, by decide +kernel⟩,
   ⟨0, State.reset, by decide +kernel⟩⟩

/-- Every hypothesis of GraftLinkCommands is met. -/
theorem wit_GraftLinkCommands :
    (∃ (p : Fin 2) (frame : List Byte) (s : State), domOn .gft s = true ∧ onLine p s = true) ∧
    (∃ (p : Fin 2) (frame : List Byte) (s : State), ¬ (domOn .gft s = true ∧ onLine p s = true)) ∧
    (∃ (p : Fin 2) (d : Byte) (s : State), domOn .gft s = true ∧ onLine p s = true) ∧
    (∃ (p : Fin 2) (d : Byte) (s : State), ¬ (domOn .gft s = true ∧ onLine p s = true)) ∧
    (∃ (p : Fin 2) (cls : Fin 4) (s : State), domOn .gft s = true ∧ (cls.val = 0 ∨ cls.val = 3)) ∧
    (∃ (p : Fin 2) (s : State), domOn .gft s = true ∧ grState s = 2 ∧ grLink p s = 0) ∧
    (∃ (p : Fin 2) (s : State), ¬ (domOn .gft s = true ∧ grState s = 2 ∧ grLink p s = 0)) ∧
    (∃ (p : Fin 2) (s : State), domOn .gft s = true ∧ grState s = 2 ∧ grLink p s ≠ 2) ∧
    (∃ (p : Fin 2) (s : State), ¬ (domOn .gft s = true ∧ grState s = 2 ∧ grLink p s ≠ 2)) ∧
    (∃ (p : Fin 2) (v : LineFault) (s : State), domOn .gft s = true ∧ grLink p s ≠ 0) ∧
    (∃ (p : Fin 2) (v : LineFault) (s : State), ¬ (domOn .gft s = true ∧ grLink p s ≠ 0)) ∧
    (∃ (p : Fin 2) (rx : Option Byte) (s : State), domOn .gft s = true ∧ onLine p s = true) ∧
    (∃ (p : Fin 2) (rx : Option Byte) (s : State), ¬ (domOn .gft s = true ∧ onLine p s = true)) ∧
    (∃ (p : Fin 2) (n turnaround : Byte) (s : State), domOn .gft s = true ∧ onLine p s = true) ∧
    (∃ (p : Fin 2) (n turnaround : Byte) (s : State), ¬ (domOn .gft s = true ∧ onLine p s = true)) ∧
    (∃ (v : Word) (s : State), domOn .gft s = true) ∧
    (∃ (v : Word) (s : State), ¬ (domOn .gft s = true)) ∧
    (∃ (s : State), domOn .gft s = true ∧ grState s = 1) ∧
    (∃ (s : State), ¬ (domOn .gft s = true ∧ grState s = 1)) ∧
    (∃ (s : State), domOn .gft s = true ∧ grState s = 3 ∧ s.b aGraftStat 30 = true) ∧
    (∃ (s : State), ¬ (domOn .gft s = true ∧ grState s = 3 ∧ s.b aGraftStat 30 = true)) ∧
    (∃ (s : State), domOn .gft s = true ∧ grState s = 2) ∧
    (∃ (s : State), ¬ (domOn .gft s = true ∧ grState s = 2)) ∧
    (∃ (node : Fin 16) (g : _) (s : State), grNode node s = some g ∧ domOn .gft s = true) ∧
    (∃ (node : Fin 16) (s : State), grNode node s = none) :=
  ⟨⟨0, [], wGft, by decide +kernel⟩,
   ⟨0, [], State.reset, by decide +kernel⟩,
   ⟨0, 0, wGft, by decide +kernel⟩,
   ⟨0, 0, State.reset, by decide +kernel⟩,
   ⟨0, 0, wOn, by decide +kernel⟩,
   ⟨0, wOn.setF aGraftStat 24 2 2, by decide +kernel⟩,
   ⟨0, State.reset, by decide +kernel⟩,
   ⟨0, wOn.setF aGraftStat 24 2 2, by decide +kernel⟩,
   ⟨0, State.reset, by decide +kernel⟩,
   ⟨0, ⟨0,true⟩, wGft, by decide +kernel⟩,
   ⟨0, ⟨0,true⟩, State.reset, by decide +kernel⟩,
   ⟨0, none, wGft, by decide +kernel⟩,
   ⟨0, none, State.reset, by decide +kernel⟩,
   ⟨0, 0, 0, wGft, by decide +kernel⟩,
   ⟨0, 0, 0, State.reset, by decide +kernel⟩,
   ⟨0, wOn, by decide +kernel⟩,
   ⟨0, State.reset, by decide +kernel⟩,
   ⟨wOn.setF aGraftStat 24 2 1, by decide +kernel⟩,
   ⟨State.reset, by decide +kernel⟩,
   ⟨(wOn.setF aGraftStat 24 2 3).setB aGraftStat 30 true, by decide +kernel⟩,
   ⟨State.reset, by decide +kernel⟩,
   ⟨wOn.setF aGraftStat 24 2 2, by decide +kernel⟩,
   ⟨State.reset, by decide +kernel⟩,
   ⟨1, ⟨0, 0, 0, 0, 0, false, 0⟩, { wOn with gft := { gftReset with nodes := [(1, some ⟨0, 0, 0, 0, 0, false, 0⟩)] } }, by decide +kernel⟩,
   ⟨1, wOn, by decide +kernel⟩⟩

/-- Every hypothesis of ClockEvents is met. -/
theorem wit_ClockEvents :
    (∃ (reader : Reader) (s : State), s.rtc.held = false) ∧
    (∃ (reader : Reader) (s : State), ¬ (s.rtc.held = false)) ∧
    (∃ (s : State), clockRuns s = true) ∧
    (∃ (s : State), ¬ (clockRuns s = true)) ∧
    (∃ (s : State), s.rtc.held = false ∧ s.rtc.oscStop = false) ∧
    (∃ (s : State), ¬ (s.rtc.held = false ∧ s.rtc.oscStop = false)) ∧
    (∃ (vinMv : Nat) (s : State), s.rtc.held = false ∧ s.b aRtcStat 22 = false ∧ vinMv < 2300) ∧
    (∃ (vinMv : Nat) (s : State), s.rtc.held = false ∧ s.b aRtcStat 22 = true ∧ 2450 < vinMv) ∧
    (∃ (s : State), s.rtc.held = false) ∧
    (∃ (s : State), ¬ (s.rtc.held = false)) ∧
    (∃ (s : State), s.rtc.held = false) ∧
    (∃ (s : State), ¬ (s.rtc.held = false)) ∧
    (∃ (s : State), s.rtc.held = true) ∧
    (∃ (s : State), ¬ (s.rtc.held = true)) ∧
    (∃ (s : State), s.rtc.held = false ∧ s.rtc.oscStop = false) ∧
    (∃ (s : State), ¬ (s.rtc.held = false ∧ s.rtc.oscStop = false)) ∧
    (∃ (s : State), s.rtc.held = false ∧ s.rtc.oscStop = true) ∧
    (∃ (s : State), ¬ (s.rtc.held = false ∧ s.rtc.oscStop = true)) ∧
    (∃ (vbatMv : Nat) (s : State), s.rtc.held = false) ∧
    (∃ (vbatMv : Nat) (s : State), ¬ (s.rtc.held = false)) :=
  ⟨⟨.host, wOn, by decide +kernel⟩,
   ⟨.host, wHeld, by decide +kernel⟩,
   ⟨wOn.setB aRtcCtl 31 false, by decide +kernel⟩,
   ⟨wHeld, by decide +kernel⟩,
   ⟨wOn, by decide +kernel⟩,
   ⟨wHeld, by decide +kernel⟩,
   ⟨0, wOn, by decide +kernel⟩,
   ⟨3000, wOn.setB aRtcStat 22 true, by decide +kernel⟩,
   ⟨wOn, by decide +kernel⟩,
   ⟨wHeld, by decide +kernel⟩,
   ⟨wOn, by decide +kernel⟩,
   ⟨wHeld, by decide +kernel⟩,
   ⟨wHeld, by decide +kernel⟩,
   ⟨State.reset, by decide +kernel⟩,
   ⟨wOn, by decide +kernel⟩,
   ⟨wHeld, by decide +kernel⟩,
   ⟨{ wOn with rtc := { rtcReset with oscStop := true } }, by decide +kernel⟩,
   ⟨State.reset, by decide +kernel⟩,
   ⟨3000, wOn, by decide +kernel⟩,
   ⟨3000, wHeld, by decide +kernel⟩⟩

/-- Every hypothesis of ClockWritesAndCommands is met. -/
theorem wit_ClockWritesAndCommands :
    (∃ (i : Fin 9) (v : Word) (s : State), s.rtc.held = false ∧ i.val ≠ 3 ∧ i.val ≠ 8 ∧ halted s = true ∧ timeFieldOk i (fld v 0 (timeFieldBits i)) = true) ∧
    (∃ (s : State), s.rtc.held = false ∧ halted s = false) ∧
    (∃ (s : State), s.rtc.held = false ∧ halted s = true ∧ dateOk s = true) ∧
    (∃ (v : Word) (s : State), s.rtc.held = false ∧ fld v 0 9 ≠ 0x100) ∧
    (∃ (v : Word) (s : State), s.rtc.held = false) ∧
    (∃ (sec : Bool) (v : Word) (s : State), s.rtc.held = false ∧ sec = true ∧ (bit v 31 = false ∨ s.b aRtcTrkl 31 = true ∨ fld v 8 8 = 0x5A)) ∧
    (∃ (id : Nat) (c : Cmd) (s : State), CmdTurn id 0x0D01 c s) ∧
    (∃ (id : Nat) (c : Cmd) (s : State), CmdTurn id 0x0D02 c s ∧ ownerBase rtcRef s = true) ∧
    (∃ (id : Nat) (c : Cmd) (s : State), CmdTurn id 0x0D03 c s ∧ onlyBits (mw c.words 1) 0x101 = true ∧ ownerBase rtcRef s = true ∧ alarmOk (mw c.words 2) (mw c.words 3) = true) ∧
    (∃ (id : Nat) (c : Cmd) (s : State), CmdTurn id 0x0D04 c s ∧ ownerBase rtcRef s = true ∧ -255 ≤ (mw c.words 1).toInt ∧ (mw c.words 1).toInt ≤ 255) :=
  ⟨⟨0, 0, wHalt, by decide +kernel⟩,
   ⟨wOn.setB aRtcCtl 31 false, by decide +kernel⟩,
   ⟨wHalt, by decide +kernel⟩,
   ⟨0, wOn, by decide +kernel⟩,
   ⟨0, wOn, by decide +kernel⟩,
   ⟨true, 0, wOn, by decide +kernel⟩,
   ⟨1, wC [0x0D010080, 0], wIn (wC [0x0D010080, 0]) (wRdy), by decide +kernel⟩,
   ⟨1, wC [0x0D0200C0, 0, 0], wIn (wC [0x0D0200C0, 0, 0]) (wRdy), by decide +kernel⟩,
   ⟨1, wC [0x0D030100, 0, 0, 0x00010101], wIn (wC [0x0D030100, 0, 0, 0x00010101]) (wRdy), by decide +kernel⟩,
   ⟨1, wC [0x0D0400C0, 5], wIn (wC [0x0D0400C0, 5]) (wRdy), by decide +kernel⟩⟩

/-- Every hypothesis of RecorderEvents is met. -/
theorem wit_RecorderEvents :
    (∃ (v : Word) (s : State), domOn .grr s = true) ∧
    (∃ (v : Word) (s : State), ¬ (domOn .grr s = true)) ∧
    (∃ (s : State), recOn s = true ∧ s.grr.defer.isNone = true ∧ s.grr.doneSec < s.rtc.secs) ∧
    (∃ (s : State), ¬ (recOn s = true ∧ s.grr.defer.isNone = true ∧ s.grr.doneSec < s.rtc.secs)) ∧
    (∃ (c : Fin 256) (p : Packet) (t : State) (s : State), takePacket (sampleFor c s) (dropStray s) = some (p, t) ∧ recOn t = true ∧ t.b (aGrrChcfg c) 31 = true ∧ groupStopped (c / 64) t = false ∧ t.now ≤ t.rtc.phase + msT 500 ∧ t.rtc.phase ≤ p.sentAt ∧ tblGet 0 t.grr.took c ≠ t.rtc.secs + 1) ∧
    (∃ (c : Fin 256) (p : Packet) (t : State) (s : State), takePacket (sampleFor c s) (dropStray s) = some (p, t) ∧ (recOn t = false ∨ t.b (aGrrChcfg c) 31 = false ∨ groupStopped (c / 64) t = true ∨ t.rtc.phase + msT 500 < t.now ∨ p.sentAt < t.rtc.phase ∨ tblGet 0 t.grr.took c = t.rtc.secs + 1)) ∧
    (∃ (c : Fin 256) (s : State), takePacket (sampleFor c s) (dropStray s) = none) ∧
    (∃ (s : State), s.grr.defer = none) ∧
    (∃ (t : _) (s : State), s.grr.defer = some t) ∧
    (∃ (reader : Reader) (v : Word) (s : State), domOn .grr s = true) ∧
    (∃ (reader : Reader) (v : Word) (s : State), ¬ (domOn .grr s = true)) ∧
    (∃ (bank : Fin 5) (words : List Nat) (s : State), domOn .grr s = true ∧ s.grr.up = true ∧ words.isEmpty = false) ∧
    (∃ (bank : Fin 5) (words : List Nat) (s : State), ¬ (domOn .grr s = true ∧ s.grr.up = true ∧ words.isEmpty = false)) ∧
    (∃ (corrected : Nat) (s : State), domOn .grr s = true ∧ s.grr.up = true) ∧
    (∃ (corrected : Nat) (s : State), ¬ (domOn .grr s = true ∧ s.grr.up = true)) ∧
    (∃ (t : _) (s : State), s.fw.clearToken = some t) ∧
    (∃ (s : State), s.fw.clearToken = none) :=
  ⟨⟨0, wOn, by decide +kernel⟩,
   ⟨0, State.reset, by decide +kernel⟩,
   ⟨{ wOn.setB aGrrCtl 31 true with grr := { grrReset with up := true }, rtc := { rtcReset with secs := 5 } }, by decide +kernel⟩,
   ⟨State.reset, by decide +kernel⟩,
   ⟨0, _, _, { (wOn.setB aGrrCtl 31 true).setB (aGrrChcfg 0) 31 true with grr := { grrReset with up := true }, fab := { fabReset with flight := [⟨mkHdr 6 1 2 0 1 0 0, [0], 0, 0⟩] } }, get_pair _ (by decide +kernel), by decide +kernel⟩,
   ⟨0, _, _, { (wOn.setB aGrrCtl 31 true).setB (aGrrChcfg 0) 31 true with grr := { grrReset with up := true, took := [(0, 1)] }, fab := { fabReset with flight := [⟨mkHdr 6 1 2 0 1 0 0, [0], 0, 0⟩] } }, get_pair _ (by decide +kernel), by decide +kernel⟩,
   ⟨0, wOn, by decide +kernel⟩,
   ⟨wOn, by decide +kernel⟩,
   ⟨5, { wOn with grr := { grrReset with defer := some 5 } }, by decide +kernel⟩,
   ⟨.host, 0, wOn, by decide +kernel⟩,
   ⟨.host, 0, State.reset, by decide +kernel⟩,
   ⟨0, [1], { wOn with grr := { grrReset with up := true } }, by decide +kernel⟩,
   ⟨0, [1], State.reset, by decide +kernel⟩,
   ⟨0, { wOn with grr := { grrReset with up := true } }, by decide +kernel⟩,
   ⟨0, State.reset, by decide +kernel⟩,
   ⟨⟨0, 5, 0, 0, 0⟩, { wOn with fw := { fwReset with clearToken := some ⟨0, 5, 0, 0, 0⟩ } }, by decide +kernel⟩,
   ⟨wOn, by decide +kernel⟩⟩

/-- Every hypothesis of RecorderCommands is met. -/
theorem wit_RecorderCommands :
    (∃ (id : Nat) (c : Cmd) (s : State), CmdTurn id 0x0C01 c s ∧ Passes ([(!onlyBits (mw c.words 2) 0x30F3F, stBadArg), (decide (12 < fld (mw c.words 2) 8 4 + 1), stBadArg)] ++ refFails 0x0D (mw c.words 1) ++ [(!domOn .grr s || !s.grr.up || groupStopped (refInst (mw c.words 1) / 64) s, stNoResource), (decide ((if fld (mw c.words 2) 16 2 = 3 then 24 else 40) < fld (mw c.words 2) 0 6 + (fld (mw c.words 2) 8 4 + 1)), stRange)])) ∧
    (∃ (id : Nat) (c : Cmd) (s : State), CmdTurn id 0x0C02 c s ∧ Passes (refFails 0x0D (mw c.words 1) ++ [(!domOn .grr s, stNoResource)]) ∧ ownerBase (mw c.words 1) s = true ∧ claimed grrRef s = false ∧ chcfgBad (mw c.words 2) s = false) ∧
    (∃ (id : Nat) (c : Cmd) (s : State), CmdTurn id 0x0C04 c s ∧ onlyBits (mw c.words 1) 7 = true ∧ fld (mw c.words 1) 0 3 ≠ 7 ∧ (domOn .grr s = true ∨ fld (mw c.words 1) 0 3 = 1 ∨ fld (mw c.words 1) 0 3 = 2)) ∧
    (∃ (id : Nat) (c : Cmd) (s : State), CmdTurn id 0x0C03 c s ∧ fld (mw c.words 1) 24 8 = 0 ∧ Passes ([(!onlyBits (mw c.words 1) 0xFFFF0000, stBadArg), (decide (7 < fld (mw c.words 1) 16 8), stBadArg), (decide (mw c.words 3 ≠ 0), stBadArg)] ++ clearChecks (fld (mw c.words 1) 16 8) (mw c.words 2) s)) ∧
    (∃ (id : Nat) (c : Cmd) (s : State), CmdTurn id 0x0C03 c s ∧ fld (mw c.words 1) 24 8 ≠ 0 ∧ Passes ([(!onlyBits (mw c.words 1) 0xFFFF0000, stBadArg), (decide (fld (mw c.words 1) 24 8 ≠ 1), stBadArg), (decide (7 < fld (mw c.words 1) 16 8), stBadArg)] ++ clearChecks (fld (mw c.words 1) 16 8) (mw c.words 2) s) ∧ tokenOk (fld (mw c.words 1) 16 8) (mw c.words 2) (mw c.words 3) s = true) ∧
    (∃ (id : Nat) (c : Cmd) (s : State), CmdTurn id 0x0C03 c s ∧ fld (mw c.words 1) 24 8 ≠ 0 ∧ Passes ([(!onlyBits (mw c.words 1) 0xFFFF0000, stBadArg), (decide (fld (mw c.words 1) 24 8 ≠ 1), stBadArg), (decide (7 < fld (mw c.words 1) 16 8), stBadArg)] ++ clearChecks (fld (mw c.words 1) 16 8) (mw c.words 2) s) ∧ tokenOk (fld (mw c.words 1) 16 8) (mw c.words 2) (mw c.words 3) s = false) :=
  ⟨⟨1, wC [0x0C0100C0, mkRef 0x0D 0, 0], wIn (wC [0x0C0100C0, mkRef 0x0D 0, 0]) ({ wRdy with grr := { grrReset with up := true } }), by decide +kernel⟩,
   ⟨1, wC [0x0C0200C0, mkRef 0x0D 0, 0], wIn (wC [0x0C0200C0, mkRef 0x0D 0, 0]) (wRdy), by decide +kernel⟩,
   ⟨1, wC [0x0C040080, 0], wIn (wC [0x0C040080, 0]) (wRdy), by decide +kernel⟩,
   ⟨1, wC [0x0C030100, 0x00040000, 0, 0], wIn (wC [0x0C030100, 0x00040000, 0, 0]) ({ wRdy with grr := { grrReset with up := true } }), by decide +kernel⟩,
   ⟨1, wC [0x0C030100, 0x01040000, 0, 9], wIn (wC [0x0C030100, 0x01040000, 0, 9]) ({ wRdy with grr := { grrReset with up := true }, fw := { fwReset with clearToken := some ⟨9, 5, 4, 0, 0⟩ } }), by decide +kernel⟩,
   ⟨1, wC [0x0C030100, 0x01040000, 0, 9], wIn (wC [0x0C030100, 0x01040000, 0, 9]) ({ wRdy with grr := { grrReset with up := true } }), by decide +kernel⟩⟩

/-- Every hypothesis of HeartwoodEvents is met. -/
theorem wit_HeartwoodEvents :
    (∃ (corr1 corr2 unver uncorr : Nat) (s : State), heartOn s = true) ∧
    (∃ (corr1 corr2 unver uncorr : Nat) (s : State), ¬ (heartOn s = true)) ∧
    (∃ (s : State), heartOn s = true) ∧
    (∃ (s : State), ¬ (heartOn s = true)) ∧
    (∃ (k : Fin 128) (s : State), domOn .hwd s = true ∧ sourceLive k s = true) ∧
    (∃ (k : Fin 128) (s : State), ¬ (domOn .hwd s = true ∧ sourceLive k s = true)) ∧
    (∃ (medium : SaveMedium) (s : State), mayWrite s = true ∧ s.pwr.inService = true ∧ domOn .hwd s = true) ∧
    (∃ (medium : SaveMedium) (s : State), ¬ (mayWrite s = true ∧ s.pwr.inService = true ∧ domOn .hwd s = true)) ∧
    (∃ (medium : Medium) (s : State), mayWrite s = true ∧ domOn .hwd s = true ∧ s.fw.recovery = false) ∧
    (∃ (medium : Medium) (s : State), ¬ (mayWrite s = true ∧ domOn .hwd s = true ∧ s.fw.recovery = false)) ∧
    (∃ (medium : Medium) (s : State), mayWrite s = true ∧ domOn .hwd s = true ∧ s.fw.recovery = false) ∧
    (∃ (medium : Medium) (s : State), ¬ (mayWrite s = true ∧ domOn .hwd s = true ∧ s.fw.recovery = false)) ∧
    (∃ (a : Fin 4) (t : _) (s : State), tblGet none s.heart.lockEnd a = some t) ∧
    (∃ (a : Fin 4) (s : State), tblGet none s.heart.lockEnd a = none) :=
  ⟨⟨0, 0, 0, 0, wHeart, by decide +kernel⟩,
   ⟨0, 0, 0, 0, State.reset, by decide +kernel⟩,
   ⟨wHeart, by decide +kernel⟩,
   ⟨State.reset, by decide +kernel⟩,
   ⟨0, wOn.setReg (aHwdCntcfg 0) 0x90000000, by decide +kernel⟩,
   ⟨0, State.reset, by decide +kernel⟩,
   ⟨⟨.ok, .ok, .ok⟩, { wRdy with pwr := { pwrReset with inService := true } }, by decide +kernel⟩,
   ⟨⟨.ok, .ok, .ok⟩, State.reset, by decide +kernel⟩,
   ⟨.ok, wRdy, by decide +kernel⟩,
   ⟨.ok, State.reset, by decide +kernel⟩,
   ⟨.ok, wRdy, by decide +kernel⟩,
   ⟨.ok, State.reset, by decide +kernel⟩,
   ⟨0, 5, { wOn with heart := { heartReset with lockEnd := [(0, some 5)] } }, by decide +kernel⟩,
   ⟨0, wOn, by decide +kernel⟩⟩

/-- Every hypothesis of StoreCommands is met. -/
theorem wit_StoreCommands :
    (∃ (id : Nat) (medium : Medium) (c : Cmd) (n : Nat) (s : State), CmdTurn id 0x0B01 c s ∧ storeTarget (mw c.words 1) = .ok (.counter n) ∧ mw c.words 2 = 0 ∧ domOn .hwd s = true ∧ s.pwr.heartOk = true ∧ medium ≠ .silent ∧ medium ≠ .bad) ∧
    (∃ (id : Nat) (medium : Medium) (c : Cmd) (a : Nat) (off : Nat) (s : State), CmdTurn id 0x0B01 c s ∧ storeTarget (mw c.words 1) = .ok (.area a off) ∧ Passes [(!onlyBits (mw c.words 2) 0xF, stBadArg), (decide (14 < fld (mw c.words 2) 0 4 + 1), stBadArg), (!domOn .hwd s, stNoResource), (decide (2048 < off + (fld (mw c.words 2) 0 4 + 1)), stRange)] ∧ (keysMissing s && !c.secure) = false ∧ (checkPassword a false (pwOf (mw c.words 3) (mw c.words 4)) s).1 = 0) ∧
    (∃ (id : Nat) (medium : Medium) (c : Cmd) (n : Nat) (s : State), CmdTurn id 0x0B02 c s ∧ storeTarget (mw c.words 1) = .ok (.counter n) ∧ Passes [(!onlyBits (mw c.words 2) 0xF, stBadArg), (decide (fld (mw c.words 2) 0 4 + 1 ≠ 2), stBadArg), (!c.secure, stDenied), (!domOn .hwd s, stNoResource)] ∧ s.pwr.heartOk = true) ∧
    (∃ (id : Nat) (medium : Medium) (c : Cmd) (a : Nat) (off : Nat) (s : State), CmdTurn id 0x0B02 c s ∧ storeTarget (mw c.words 1) = .ok (.area a off) ∧ Passes [(!onlyBits (mw c.words 2) 0xF, stBadArg), (decide (11 < fld (mw c.words 2) 0 4 + 1), stBadArg), (!domOn .hwd s, stNoResource), (decide (2048 < off + (fld (mw c.words 2) 0 4 + 1)), stRange)] ∧ (keysMissing s && !c.secure) = false ∧ (checkPassword a true (pwOf (mw c.words 3) (mw c.words 4)) s).1 = 0) ∧
    (∃ (id : Nat) (medium : Medium) (c : Cmd) (a : Nat) (off : Nat) (s : State), CmdTurn id 0x0B03 c s ∧ storeTarget (mw c.words 1) = .ok (.area a off) ∧ off = 0 ∧ mayWrite s = true ∧ domOn .hwd s = true ∧ (keysMissing s && !c.secure) = false ∧ (checkPassword a true (pwOf (mw c.words 2) (mw c.words 3)) s).1 = 0 ∧ (writeRecord (5 + a) (.user (shadowOf a (checkPassword a true (pwOf (mw c.words 2) (mw c.words 3)) s).2)) 0 (some c.id) medium (checkPassword a true (pwOf (mw c.words 2) (mw c.words 3)) s).2).1 = .done) ∧
    (∃ (id : Nat) (medium : Medium) (c : Cmd) (e : Nat × List Word) (s : State), CmdEnding id 0x0B03 c e s) ∧
    (∃ (id : Nat) (medium : Medium) (c : Cmd) (s : State), CmdTurn id 0x0B04 c s ∧ mayWrite s = true ∧ onlyBits (mw c.words 1) 0x30001 = true ∧ domOn .hwd s = true ∧ (writeRecord 9 (.keys (tblSet 0 ((keysNow s).getD []) (2 * fld (mw c.words 1) 16 2 + fld (mw c.words 1) 0 1) (pwOf (mw c.words 2) (mw c.words 3)))) 0 (some c.id) medium s).1 = .done) ∧
    (∃ (id : Nat) (c : Cmd) (s : State), CmdTurn id 0x0B05 c s ∧ domOn .hwd s = true) :=
  ⟨⟨1, .ok, wC [0x0B010100, mkRef 0x0F 0, 0, 0, 0], 0, wIn (wC [0x0B010100, mkRef 0x0F 0, 0, 0, 0]) ({ wRdy with pwr := { pwrReset with heartOk := true } }), by decide +kernel⟩,
   ⟨1, .ok, wC [0x0B010100, 0x80000000, 0, 0, 0], 0, 0, wIn (wC [0x0B010100, 0x80000000, 0, 0, 0]) (wRdy), by decide +kernel⟩,
   ⟨1, .ok, wC [0x0B020180, mkRef 0x0F 0, 1, 0, 0, 0, 0], 0, wIn (wC [0x0B020180, mkRef 0x0F 0, 1, 0, 0, 0, 0]) ({ wRdy with pwr := { pwrReset with heartOk := true } }), by decide +kernel⟩,
   ⟨1, .ok, wC [0x0B020140, 0x80000000, 0, 0, 0, 7], 0, 0, wIn (wC [0x0B020140, 0x80000000, 0, 0, 0, 7]) (wRdy), by decide +kernel⟩,
   ⟨1, .ok, wC [0x0B0300C0, 0x80000000, 0, 0], 0, 0, wIn (wC [0x0B0300C0, 0x80000000, 0, 0]) ({ wRdy with pwr := { pwrReset with heartOk := true } }), by decide +kernel⟩,
   ⟨1, .ok, ({ (wC [0x0B0300C0, 0x80000000, 0, 0]) with started := true, ending := some (0, []) }), (0, []), wIn ({ (wC [0x0B0300C0, 0x80000000, 0, 0]) with started := true, ending := some (0, []) }) wRdy, by decide +kernel⟩,
   ⟨1, .ok, wC [0x0B0400C0, 0, 5, 0], wIn (wC [0x0B0400C0, 0, 5, 0]) ({ wRdy with pwr := { pwrReset with heartOk := true } }), by decide +kernel⟩,
   ⟨1, wC [0x0B050040], wIn (wC [0x0B050040]) (wRdy), by decide +kernel⟩⟩

/-- Every hypothesis of TrendStoreCommands is met. -/
theorem wit_TrendStoreCommands :
    (∃ (l : Fin 128) (s : State), ready s = true) ∧
    (∃ (l : Fin 128) (s : State), ¬ (ready s = true)) ∧
    (∃ (ok : Bool) (erased : Bool) (x : TrendRec × Nat) (xs : List (TrendRec × Nat)) (s : State), trendUp s = true ∧ s.trend.buf = x :: xs) ∧
    (∃ (ok : Bool) (erased : Bool) (s : State), (trendUp s = false ∨ s.trend.buf = [])) ∧
    (∃ (s : State), ready s = true ∧ domOn .bus s = true ∧ s.pwr.sfdp = true ∧ 0 < storeSectors s.pwr.flashMbit ∧ s.trend.open_ = false ∧ s.trend.closed = false ∧ s.fw.recovery = false) ∧
    (∃ (s : State), ¬ (ready s = true ∧ domOn .bus s = true ∧ s.pwr.sfdp = true ∧ 0 < storeSectors s.pwr.flashMbit ∧ s.trend.open_ = false ∧ s.trend.closed = false ∧ s.fw.recovery = false)) ∧
    (∃ (id : Nat) (c : Cmd) (s : State), CmdTurn id 0x1001 c s ∧ trendStatus s = 0) ∧
    (∃ (id : Nat) (c : Cmd) (s : State), CmdTurn id 0x1002 c s ∧ trendStatus s = 0) ∧
    (∃ (id : Nat) (bad : Word) (c : Cmd) (s : State), CmdTurn id 0x1003 c s ∧ endingOf id s = false ∧ trendStatus s = 0 ∧ onlyBits (mw c.words 1) 7 = true ∧ 1 ≤ fld (mw c.words 1) 0 3 ∧ fld (mw c.words 1) 0 3 ≤ 4) ∧
    (∃ (id : Nat) (bad : Word) (c : Cmd) (e : Nat × List Word) (s : State), endingOf id s = true ∧ CmdEnding id 0x1003 c e (trendReady id bad s)) ∧
    (∃ (id : Nat) (c : Cmd) (p : Nat × Nat) (s : State), CmdTurn id 0x1004 c s ∧ trendStatus s = 0 ∧ p = (s.trend.c.1 + (fld (mw c.words 1) 8 24 + 2 ^ 24 - s.trend.c.1 % 2 ^ 24) % 2 ^ 24, fld (mw c.words 1) 0 8) ∧ posLe s.trend.c p = true ∧ posLe p s.trend.r = true ∧ p.2 < 255) :=
  ⟨⟨0, wRdy, by decide +kernel⟩,
   ⟨0, State.reset, by decide +kernel⟩,
   ⟨true, false, (⟨0, 0, 0, 0, 0, 0⟩, 0), [], { wRdy with trend := { trendReset with open_ := true, buf := [(⟨0, 0, 0, 0, 0, 0⟩, 0)] } }, by decide +kernel⟩,
   ⟨true, false, wOn, by decide +kernel⟩,
   ⟨{ wRdy with pwr := { pwrReset with sfdp := true, flashMbit := 64 } }, by decide +kernel⟩,
   ⟨State.reset, by decide +kernel⟩,
   ⟨1, wC [0x10010040], wIn (wC [0x10010040]) ({ wRdy with trend := { trendReset with open_ := true } }), by decide +kernel⟩,
   ⟨1, wC [0x10020040], wIn (wC [0x10020040]) ({ wRdy with trend := { trendReset with open_ := true } }), by decide +kernel⟩,
   ⟨1, 0, wC [0x10030080, 1], wIn (wC [0x10030080, 1]) ({ wRdy with trend := { trendReset with open_ := true } }), by decide +kernel⟩,
   ⟨1, 0, { (wC [0x10030080, 1]) with started := true, ending := some (0, [0, 0]) }, (0, [0, 0]), wIn ({ (wC [0x10030080, 1]) with started := true, ending := some (0, []) }) wRdy, by decide +kernel⟩,
   ⟨1, wC [0x10040080, 0], (0, 0), wIn (wC [0x10040080, 0]) ({ wRdy with trend := { trendReset with open_ := true } }), by decide +kernel⟩⟩

/-- Every hypothesis of DomainOperatingPointAndThermalCommands is met. -/
theorem wit_DomainOperatingPointAndThermalCommands :
    (∃ (n : Fin 2) (s : State), (oppTarget n s).1 = s.f (aSysOpp n) 16 8 ∧ (oppTarget n s).2 = s.b (aSysOpp n) 24) ∧
    (∃ (n : Fin 2) (s : State), (oppTarget n s).2 = true ∧ s.b (aSysOpp n) 24 = false) ∧
    (∃ (n : Fin 2) (s : State), ((oppTarget n s).2 = false ∨ s.b (aSysOpp n) 24 = true) ∧ s.f (aSysOpp n) 16 8 ≠ (oppTarget n s).1) ∧
    (∃ (n : Fin 2) (s : State), (oppTarget n s).2 = false ∧ s.b (aSysOpp n) 24 = true ∧ s.f (aSysOpp n) 16 8 = (oppTarget n s).1) ∧
    (∃ (n : Fin 2) (v : Word) (s : State), oppOk n (fld v 0 8) (bit v 8) = true) ∧
    (∃ (n : Fin 2) (v : Word) (s : State), oppOk n (fld v 0 8) (bit v 8) = false) ∧
    (∃ (v : Word) (s : State), s.pwr.held.isSome = false) ∧
    (∃ (v : Word) (s : State), ¬ (s.pwr.held.isSome = false)) ∧
    (∃ (s : State), s.b aSysPfstat 27 = false ∧ s.pwr.held.isSome = false) ∧
    (∃ (s : State), ¬ (s.b aSysPfstat 27 = false ∧ s.pwr.held.isSome = false)) ∧
    (∃ (s : State), s.b aSysPfstat 27 = true ∧ s.b aDrvGstat 31 = false) ∧
    (∃ (s : State), ¬ (s.b aSysPfstat 27 = true ∧ s.b aDrvGstat 31 = false)) ∧
    (∃ (readings : List (Option Int)) (s : State), s.pwr.held = none) ∧
    (∃ (readings : List (Option Int)) (d : Nat) (at_ : Nat) (s : State), s.pwr.held = some (.therm d at_)) ∧
    (∃ (readings : List (Option Int)) (d : Nat) (at_ : Nat) (s : State), s.pwr.held = some (.therm d at_)) ∧
    (∃ (high : Bool) (s : State), comparatorOn s = true) ∧
    (∃ (high : Bool) (s : State), ¬ (comparatorOn s = true)) :=
  ⟨⟨0, wOn, by decide +kernel⟩,
   ⟨0, wOn.setB (aSysOpp 0) 8 true |>.setB (aSysOpp 0) 24 false, by decide +kernel⟩,
   ⟨0, wOn.setF (aSysOpp 0) 16 8 77 |>.setB (aSysOpp 0) 24 true, by decide +kernel⟩,
   ⟨0, (wOn.setB (aSysOpp 0) 24 true).setB (aSysOpp 0) 8 false, by decide +kernel⟩,
   ⟨0, 0x132, wOn, by decide +kernel⟩,
   ⟨0, 0xFF, wOn, by decide +kernel⟩,
   ⟨0, wOn, by decide +kernel⟩,
   ⟨0, wPin, by decide +kernel⟩,
   ⟨wOn, by decide +kernel⟩,
   ⟨wPin, by decide +kernel⟩,
   ⟨wOn.setB aSysPfstat 27 true, by decide +kernel⟩,
   ⟨State.reset, by decide +kernel⟩,
   ⟨[], wOn, by decide +kernel⟩,
   ⟨[], 0, 5, { wOn with pwr := { pwrReset with held := some (.therm 0 5) } }, by decide +kernel⟩,
   ⟨[], 0, 5, { wOn with pwr := { pwrReset with held := some (.therm 0 5) } }, by decide +kernel⟩,
   ⟨true, wOn, by decide +kernel⟩,
   ⟨true, wPor, by decide +kernel⟩⟩

/-- Every hypothesis of FabricCommands is met. -/
theorem wit_FabricCommands :
    (∃ (sec : Bool) (addr : Nat) (v hw : Word) (s : State), addr % 4 = 0 ∧ wordStatus sec true addr s = 0 ∧ s.pwr.held.isSome = false) ∧
    (∃ (hdr : Flit) (payload : List Flit) (s : State), hfld hdr 54 2 = 3) ∧
    (∃ (hdr : Flit) (payload : List Flit) (s : State), hfld hdr 54 2 ≠ 3 ∧ 32 < hfld hdr 42 6) ∧
    (∃ (hdr : Flit) (payload : List Flit) (s : State), hfld hdr 54 2 ≠ 3 ∧ hfld hdr 42 6 ≤ 32 ∧ islandOk (hfld hdr 60 4) = false) ∧
    (∃ (hdr : Flit) (payload : List Flit) (s : State), PacketOf 1 hdr payload) ∧
    (∃ (hdr : Flit) (payload : List Flit) (d : Dom) (p : Packet) (s : State), PacketOf 2 hdr payload ∧ islandDom (hfld hdr 60 4) = some d ∧ domOn d s = true ∧ p = packetAt hdr payload s) ∧
    (∃ (hdr : Flit) (payload : List Flit) (d : Dom) (s : State), PacketOf 2 hdr payload ∧ islandDom (hfld hdr 60 4) = some d ∧ domOn d s = false) ∧
    (∃ (hdr : Flit) (payload : List Flit) (t : State) (s : State), PacketOf 0 hdr payload ∧ recordRequest (packetAt hdr payload s) s = some t) ∧
    (∃ (hdr : Flit) (payload : List Flit) (s : State), PacketOf 0 hdr payload ∧ recordRequest (packetAt hdr payload s) s = none) ∧
    (∃ (link : Fin 14) (rev : Bool) (cls : Fin 3) (x : Nat × Nat × Nat) (far : Nat) (s : State), fabLinks[link.val]? = some x ∧ far = (if rev then x.1 else x.2.1) ∧ cls.val = 0 ∧ 0 < creditsUsed link far s ∧ takeFirst (fun (w : FabWait) => decide (w.link = link.val) && decide (w.far = far)) s.fab.waiting = none) ∧
    (∃ (link : Fin 14) (rev : Bool) (cls : Fin 3) (x : Nat × Nat × Nat) (far : Nat) (w : FabWait) (rest : List FabWait) (s : State), fabLinks[link.val]? = some x ∧ far = (if rev then x.1 else x.2.1) ∧ cls.val = 0 ∧ 0 < creditsUsed link far s ∧ takeFirst (fun (w : FabWait) => decide (w.link = link.val) && decide (w.far = far)) s.fab.waiting = some (w, rest)) ∧
    (∃ (link : Fin 14) (rev : Bool) (cls : Fin 3) (s : State), cls.val ≠ 0) ∧
    (∃ (src : Fin 16) (tag : Fin 64) (r : FabResp) (rest : List FabResp) (s : State), takeFirst (fun (r : FabResp) => decide (r.src = src.val) && decide (r.tag = tag.val)) s.fab.answers = some (r, rest) ∧ (s.fab.answers.takeWhile (fun q => decide (q ≠ r))).any (fun q => decide (q.src = r.src) && decide (q.from_ = r.from_)) = false) ∧
    (∃ (link : DieLink) (flit : Nat) (n : Nat) (s : State), n = (if tblGet 0 s.fab.crcFlit (linkKey link) = flit + 1 then tblGet 0 s.fab.crcFails (linkKey link) else 0) + 1 ∧ n < 4) ∧
    (∃ (link : DieLink) (flit : Nat) (t : State) (q : FabReq) (rest : List FabReq) (s : State), tblGet 0 s.fab.crcFlit (linkKey link) = flit + 1 ∧ 3 ≤ tblGet 0 s.fab.crcFails (linkKey link) ∧ t = { s with fab := { s.fab with crcFails := tblSet 0 s.fab.crcFails (linkKey link) 0, crcFlit := tblSet 0 s.fab.crcFlit (linkKey link) 0 } } ∧ linkPending link t = q :: rest) ∧
    (∃ (link : DieLink) (flit : Nat) (t : State) (s : State), tblGet 0 s.fab.crcFlit (linkKey link) = flit + 1 ∧ 3 ≤ tblGet 0 s.fab.crcFails (linkKey link) ∧ t = { s with fab := { s.fab with crcFails := tblSet 0 s.fab.crcFails (linkKey link) 0, crcFlit := tblSet 0 s.fab.crcFlit (linkKey link) 0 } } ∧ linkPending link t = []) ∧
    (∃ (link : DieLink) (s : State), linkDown link s = false) ∧
    (∃ (link : DieLink) (s : State), (link ≠ .bark ∨ s.fab.barkSafe = false)) ∧
    (∃ (link : DieLink) (s : State), link = .bark ∧ s.fab.barkSafe = true ∧ ready s = true) ∧
    (∃ (s : State), s.fab.barkSafe = false ∧ s.pwr.held.isSome = false) ∧
    (∃ (s : State), ¬ (s.fab.barkSafe = false ∧ s.pwr.held.isSome = false)) :=
  ⟨⟨true, aGraftCtl, 0, 0, wOn, by decide +kernel⟩,
   ⟨BitVec.ofNat 64 (3 * 2 ^ 54), [], wOn, by decide +kernel⟩,
   ⟨mkHdr 9 2 2 0 33 0 0, [], wOn, by decide +kernel⟩,
   ⟨mkHdr 15 2 2 0 1 0 0, [0], wOn, by decide +kernel⟩,
   ⟨mkHdr 9 2 1 0 1 0 0, [0], wOn, by decide +kernel⟩,
   ⟨mkHdr 9 2 2 0 1 0 0, [0], .aon, _, wOn, by decide +kernel, by decide +kernel, by decide +kernel, rfl⟩,
   ⟨mkHdr 7 2 2 0 1 0 0, [0], .bus, State.reset, by decide +kernel⟩,
   ⟨mkHdr 9 2 0 0 1 0 0, [0], _, wOn, by decide +kernel, rfl⟩,
   ⟨mkHdr 9 2 0 0 1 0 0, [0], { wOn with fab := { fabReset with outstanding := [⟨2, 0, 9, 0, none⟩] } }, by decide +kernel, rfl⟩,
   ⟨0, false, 0, _, 2, { wOn with fab := { fabReset with used := [(0, 1), (1, 1)] } }, rfl, rfl, rfl, by decide +kernel, rfl⟩,
   ⟨0, false, 0, _, 2, ⟨0, (fabLinks[0]).1, (fabLinks[0]).2.1, 1, ⟨0, [], 0, 0⟩⟩, [], { wOn with fab := { fabReset with used := [(0, 1), (1, 1)], waiting := [⟨0, (fabLinks[0]).1, (fabLinks[0]).2.1, 1, ⟨0, [], 0, 0⟩⟩] } }, rfl, rfl, rfl, by decide +kernel, rfl⟩,
   ⟨0, false, 1, wOn, by decide +kernel⟩,
   ⟨0, 0, ⟨0, 0, 0, 0, 0, []⟩, [], { wOn with fab := { fabReset with answers := [⟨0, 0, 0, 0, 0, []⟩] } }, by decide +kernel⟩,
   ⟨.bark, 0, 1, wOn, by decide +kernel⟩,
   ⟨.bark, 7, _, ⟨0, 0, bridgeOf .bark, 0, none⟩, [], { wOn with fab := { fabReset with crcFails := [(linkKey .bark, 3)], crcFlit := [(linkKey .bark, 8)], outstanding := [⟨0, 0, bridgeOf .bark, 0, none⟩] } }, rfl, by decide +kernel, rfl, rfl⟩,
   ⟨.bark, 7, _, { wOn with fab := { fabReset with crcFails := [(linkKey .bark, 3)], crcFlit := [(linkKey .bark, 8)] } }, rfl, by decide +kernel, rfl, rfl⟩,
   ⟨.bark, wOn, by decide +kernel⟩,
   ⟨.heartwood, wOn, by decide +kernel⟩,
   ⟨.bark, { wRdy with fab := { fabReset with barkSafe := true } }, by decide +kernel⟩,
   ⟨wOn, by decide +kernel⟩,
   ⟨wPin, by decide +kernel⟩⟩

/-- Every hypothesis of TriggerAndScheduleEvents is met. -/
theorem wit_TriggerAndScheduleEvents :
    (∃ (s : State), ready s = true) ∧
    (∃ (s : State), ¬ (ready s = true)) ∧
    (∃ (ov : Fin 16) (pt : Fin 2) (x : Bool) (t : Nat) (s : State), ready s = true ∧ (trigSt ov pt s).due = some (x, t)) ∧
    (∃ (ov : Fin 16) (pt : Fin 2) (s : State), (trigSt ov pt s).due = none) ∧
    (∃ (ov : Fin 16) (pt : Fin 2) (t : Nat) (s : State), ready s = true ∧ (trigSt ov pt s).startEnd = some t) ∧
    (∃ (s : State), ready s = true) ∧
    (∃ (s : State), ¬ (ready s = true)) ∧
    (∃ (z : Fin 48) (s : State), ready s = true) ∧
    (∃ (z : Fin 48) (s : State), ¬ (ready s = true)) ∧
    (∃ (z : Fin 48) (t : Nat) (s : State), ready s = true ∧ timeNow s = some t ∧ t % 900 = 0 ∧ 0 < t) ∧
    (∃ (z : Fin 48) (s : State), timeNow s = none) ∧
    (∃ (z : Fin 48) (s : State), domOn .cmb s = true ∧ s.b (aModelCtl z) 31 = true) ∧
    (∃ (z : Fin 48) (s : State), ¬ (domOn .cmb s = true ∧ s.b (aModelCtl z) 31 = true)) :=
  ⟨⟨wRdy, by decide +kernel⟩,
   ⟨State.reset, by decide +kernel⟩,
   ⟨0, 0, true, 5, setTrig 0 0 { trigSt 0 0 wRdy with due := some (true, 5) } wRdy, by decide +kernel⟩,
   ⟨0, 0, wRdy, by decide +kernel⟩,
   ⟨0, 0, 5, setTrig 0 0 { trigSt 0 0 wRdy with startEnd := some 5 } wRdy, by decide +kernel⟩,
   ⟨wRdy, by decide +kernel⟩,
   ⟨State.reset, by decide +kernel⟩,
   ⟨0, wRdy, by decide +kernel⟩,
   ⟨0, State.reset, by decide +kernel⟩,
   ⟨0, 900, (wRdy.setB aRtcStat 31 false).setF aRtcMin 0 7 0x15, by decide +kernel⟩,
   ⟨0, wRdy.setB aRtcStat 31 true, by decide +kernel⟩,
   ⟨0, wOn.setB (aModelCtl 0) 31 true, by decide +kernel⟩,
   ⟨0, State.reset, by decide +kernel⟩⟩

/-- Every hypothesis of ZoneAndScheduleCommands is met. -/
theorem wit_ZoneAndScheduleCommands :
    (∃ (id : Nat) (c : Cmd) (s : State), CmdTurn id 0x0501 c s ∧ Passes (zoneChecks (mw c.words 1) s)) ∧
    (∃ (id : Nat) (c : Cmd) (s : State), CmdTurn id 0x0502 c s ∧ Passes ((!f32Ok (mw c.words 2), stBadArg) :: refFails 0x03 (mw c.words 1)) ∧ ownerBase (mw c.words 1) s = true ∧ Passes [(decide ((mw c.words 3).toNat ≠ 0) && (f32Lt (mw c.words 2) (zrec (refInst (mw c.words 1)) 6 s) || f32Lt (zrec (refInst (mw c.words 1)) 7 s) (mw c.words 2)), stRange), (!expiryOk (mw c.words 3).toNat (timeNow s), stRange)]) ∧
    (∃ (id : Nat) (c : Cmd) (s : State), CmdTurn id 0x0503 c s ∧ Passes (zoneChecks (mw c.words 1) s)) ∧
    (∃ (id : Nat) (c : Cmd) (s : State), CmdTurn id 0x0504 c s ∧ Passes (zoneChecks (mw c.words 1) s) ∧ ownerBase (mw c.words 1) s = true) ∧
    (∃ (id : Nat) (c : Cmd) (s : State), CmdTurn id 0x0601 c s ∧ Passes ((decide ((mw c.words 2).toNat < 1 ∨ 7 < (mw c.words 2).toNat), stBadArg) :: refFails 0x04 (mw c.words 1))) ∧
    (∃ (id : Nat) (c : Cmd) (s : State), CmdTurn id 0x0602 c s ∧ Passes ((decide ((mw c.words 2).toNat < 1 ∨ 7 < (mw c.words 2).toNat), stBadArg) :: refFails 0x04 (mw c.words 1)) ∧ ownerBase (mw c.words 1) s = true ∧ Passes [(!schedOk (refInst (mw c.words 1)) (mw c.words 2).toNat (mw c.words 3) ((c.words.drop 4).take 8) s, stRange)]) ∧
    (∃ (id : Nat) (c : Cmd) (s : State), CmdTurn id 0x0603 c s ∧ Passes ((!onlyBits (mw c.words 2) 0x8000003F, stBadArg) :: (bit (mw c.words 2) 31 && !calForm (mw ((c.words.drop 3).take 3) 0), stBadArg) :: refFails 0x05 (mw c.words 1)) ∧ bit (mw c.words 2) 31 = false) ∧
    (∃ (id : Nat) (c : Cmd) (s : State), CmdTurn id 0x0603 c s ∧ Passes ((!onlyBits (mw c.words 2) 0x8000003F, stBadArg) :: (bit (mw c.words 2) 31 && !calForm (mw ((c.words.drop 3).take 3) 0), stBadArg) :: refFails 0x05 (mw c.words 1)) ∧ bit (mw c.words 2) 31 = true ∧ ownerBase (mw c.words 1) s = true ∧ Passes [(!calOk (mw ((c.words.drop 3).take 3) 0) (mw ((c.words.drop 3).take 3) 1), stRange)]) ∧
    (∃ (id : Nat) (c : Cmd) (s : State), CmdTurn id 0x0604 c s ∧ Passes ((decide (672 ≤ (mw c.words 2).toNat), stBadArg) :: refFails 0x03 (mw c.words 1) ++ [(!domOn .grr s, stNoResource)])) :=
  ⟨⟨1, wC [0x05010080, mkRef 3 0], wIn (wC [0x05010080, mkRef 3 0]) (wRdy), by decide +kernel⟩,
   ⟨1, wC [0x05020100, mkRef 3 0, 0, 0], wIn (wC [0x05020100, mkRef 3 0, 0, 0]) (wRdy), by decide +kernel⟩,
   ⟨1, wC [0x05030080, mkRef 3 0], wIn (wC [0x05030080, mkRef 3 0]) (wRdy), by decide +kernel⟩,
   ⟨1, wC [0x05040080, mkRef 3 0], wIn (wC [0x05040080, mkRef 3 0]) (wRdy), by decide +kernel⟩,
   ⟨1, wC [0x060100C0, mkRef 4 0, 1], wIn (wC [0x060100C0, mkRef 4 0, 1]) (wRdy), by decide +kernel⟩,
   ⟨1, wC [0x06020300, mkRef 4 0, 1, 0, 0, 0, 0, 0, 0, 0, 0, 0], wIn (wC [0x06020300, mkRef 4 0, 1, 0, 0, 0, 0, 0, 0, 0, 0, 0]) (wRdy), by decide +kernel⟩,
   ⟨1, wC [0x06030180, mkRef 5 0, 0, 0, 0, 0], wIn (wC [0x06030180, mkRef 5 0, 0, 0, 0, 0]) (wRdy), by decide +kernel⟩,
   ⟨1, wC [0x06030180, mkRef 5 0, 0x80000000, 0, 0, 0], wIn (wC [0x06030180, mkRef 5 0, 0x80000000, 0, 0, 0]) (wRdy), by decide +kernel⟩,
   ⟨1, wC [0x060400C0, mkRef 3 0, 0], wIn (wC [0x060400C0, mkRef 3 0, 0]) (wRdy), by decide +kernel⟩⟩

/-- Every hypothesis of ConfigurationCommands is met. -/
theorem wit_ConfigurationCommands :
    (∃ (id : Nat) (c : Cmd) (s : State), CmdTurn id 0x0201 c s ∧ Passes [(decide (1 < fld (mw c.words 1) 24 8), stBadArg), (!onlyBits (mw c.words 1) (if fld (mw c.words 1) 24 8 = 1 then 0x0100000F else 0), stBadArg), (decide ((mw c.words 2).toNat % 4 ≠ 0), stBadArg), (decide ((mw c.words 2).toNat < 4 ∨ (if fld (mw c.words 1) 24 8 = 0 then 131072 else 4096) < (mw c.words 2).toNat), stRange)]) ∧
    (∃ (id : Nat) (c : Cmd) (l : LoadSession) (s : State), CmdTurn id 0x0202 c s ∧ s.fw.load = some l ∧ Passes [(decide ((mw c.words 1).toNat % 4 ≠ 0), stBadArg), (decide (l.len < (mw c.words 1).toNat + (bytesOfWords ((c.words.drop 2).take (msgLen c.words - 1))).length), stRange)]) ∧
    (∃ (id : Nat) (medium : Medium) (c : Cmd) (l : LoadSession) (s : State), CmdTurn id 0x0203 c s ∧ mayWrite s = true ∧ onlyBits (mw c.words 1) 1 = true ∧ s.fw.load = some l) ∧
    (∃ (id : Nat) (c : Cmd) (s : State), CmdTurn id 0x0204 c s ∧ Passes ((!onlyBits (mw c.words 2) 0x80000007, stBadArg) :: (decide (fld (mw c.words 2) 0 3 = 5 ∨ fld (mw c.words 2) 0 3 = 6), stBadArg) :: (bit (mw c.words 2) 31 && decide (mw c.words 1 ≠ 0), stBadArg) :: (if bit (mw c.words 2) 31 then [] else refFails 0x03 (mw c.words 1))) ∧ (bit (mw c.words 2) 31 = true ∨ ownerBase (mw c.words 1) s = true) ∧ expiryOk (mw c.words 3).toNat (timeNow s) = true) ∧
    (∃ (id : Nat) (c : Cmd) (s : State), CmdTurn id 0x0205 c s ∧ Passes ((!onlyBits (mw c.words 2) 1, stBadArg) :: refFails 0x0E (mw c.words 1) ++ [((overlayOf (refInst (mw c.words 1)) s).isNone, stNotFound), (!isCond (refInst (mw c.words 1)) s, stRange), (!expiryOk (mw c.words 3).toNat (timeNow s), stRange)])) ∧
    (∃ (id : Nat) (medium : Medium) (c : Cmd) (e : Nat × List Word) (s : State), CmdEnding id 0x0203 c e s) ∧
    (∃ (s : State), ready s = true) ∧
    (∃ (s : State), ¬ (ready s = true)) ∧
    (∃ (s : State), ready s = true ∧ s.rtc.change = true) ∧
    (∃ (s : State), ¬ (ready s = true ∧ s.rtc.change = true)) ∧
    (∃ (id : Nat) (c : Cmd) (im : Image) (s : State), CmdTurn id 0x0206 c s ∧ mw c.words 1 = 0 ∧ s.fw.image = some im) ∧
    (∃ (id : Nat) (c : Cmd) (s : State), CmdTurn id 0x0206 c s ∧ mw c.words 1 = 0 ∧ s.fw.image = none) ∧
    (∃ (id : Nat) (c : Cmd) (s : State), CmdTurn id 0x0206 c s ∧ mw c.words 1 ≠ 0 ∧ refType (mw c.words 1) = 0x03 ∧ Passes (refFails 0x03 (mw c.words 1))) ∧
    (∃ (bit : Fin 32) (s : State), ready s = true ∧ s.b aHpDbin bit = true) ∧
    (∃ (bit : Fin 32) (s : State), ¬ (ready s = true ∧ s.b aHpDbin bit = true)) :=
  ⟨⟨1, wC [0x02010100, 0, 4, 0], wIn (wC [0x02010100, 0, 4, 0]) (wRdy), by decide +kernel⟩,
   ⟨1, wC [0x020200C0, 0, 0x11223344], ⟨0, 0, 4, 0, []⟩, wIn (wC [0x020200C0, 0, 0x11223344]) ({ wRdy with fw := { fwReset with load := some ⟨0, 0, 4, 0, []⟩ } }), by decide +kernel⟩,
   ⟨1, .ok, wC [0x02030080, 0], ⟨0, 0, 4, 0, []⟩, wIn (wC [0x02030080, 0]) ({ wRdy with fw := { fwReset with load := some ⟨0, 0, 4, 0, []⟩ } }), by decide +kernel⟩,
   ⟨1, wC [0x02040100, mkRef 3 0, 1, 0], wIn (wC [0x02040100, mkRef 3 0, 1, 0]) (wRdy), by decide +kernel⟩,
   ⟨1, wC [0x02050100, mkRef 0x0E 0, 0, 0], wIn (wC [0x02050100, mkRef 0x0E 0, 0, 0]) ({ wRdy with fw := { fwReset with image := some wImg } }), by decide +kernel⟩,
   ⟨1, .ok, ({ (wC [0x02030080, 0]) with started := true, ending := some (0, []) }), (0, []), wIn ({ (wC [0x02030080, 0]) with started := true, ending := some (0, []) }) wRdy, by decide +kernel⟩,
   ⟨wRdy, by decide +kernel⟩,
   ⟨State.reset, by decide +kernel⟩,
   ⟨{ wRdy with rtc := { rtcReset with change := true } }, by decide +kernel⟩,
   ⟨State.reset, by decide +kernel⟩,
   ⟨1, wC [0x02060080, 0], wImg, wIn (wC [0x02060080, 0]) ({ wRdy with fw := { wRdy.fw with image := some wImg } }), by decide +kernel⟩,
   ⟨1, wC [0x02060080, 0], wIn (wC [0x02060080, 0]) (wRdy), by decide +kernel⟩,
   ⟨1, wC [0x02060080, mkRef 3 0], wIn (wC [0x02060080, mkRef 3 0]) (wRdy), by decide +kernel⟩,
   ⟨0, wRdy.setB aHpDbin 0 true, by decide +kernel⟩,
   ⟨0, State.reset, by decide +kernel⟩⟩

/-- Every hypothesis of SafetyCommands is met. -/
theorem wit_SafetyCommands :
    (∃ (i : Fin 2) (mv : Nat) (k : Nat) (t : State) (s : State), comparatorOn s = true ∧ t = s.advTo (s.ther.porAt + msT 101) ∧ k = (if mv < 25 then 3 else if 2400 < mv then 2 else if mv < tripMv t.ther.safeSel then 1 else 0)) ∧
    (∃ (i : Fin 2) (mv : Nat) (t : State) (u : State) (s : State), comparatorOn s = true ∧ t = s.advTo (s.ther.porAt + msT 101) ∧ u = showPin i mv t ∧ t.f aThermSafestat (stateBit i) 2 ≠ 0 ∧ 25 ≤ mv ∧ mv ≤ 2400) ∧
    (∃ (t : _) (s : State), s.ther.assertEnd = some t) ∧
    (∃ (s : State), s.ther.assertEnd = none) ∧
    (∃ (sec : Bool) (v : Word) (s : State), s.pwr.held.isSome = false) ∧
    (∃ (sec : Bool) (v : Word) (s : State), ¬ (s.pwr.held.isSome = false)) ∧
    (∃ (id : Nat) (c : Cmd) (s : State), CmdTurn id 0x0F01 c s) ∧
    (∃ (id : Nat) (c : Cmd) (s : State), CmdTurn id 0x0F02 c s ∧ Passes [(!onlyBits (mw c.words 1) 3, stBadArg), (decide (mw c.words 1 = 0), stBadArg), (!expiryOk (mw c.words 2).toNat (timeNow s), stRange)]) ∧
    (∃ (id : Nat) (c : Cmd) (s : State), CmdTurn id 0x0F03 c s ∧ Passes [(!onlyBits (mw c.words 1) 3, stBadArg), (decide (mw c.words 1 = 0), stBadArg), (!(bit (mw c.words 1) 1 && s.b aThermSafectl 31) && !(bit (mw c.words 1) 0 && s.fw.safeForce.isSome), stNotFound)]) :=
  ⟨⟨0, 0, 3, _, wOn, by decide +kernel, rfl, rfl⟩,
   ⟨0, 2400, _, _, wOn.setF aThermSafestat (stateBit 0) 2 1, by decide +kernel, rfl, rfl, by decide +kernel⟩,
   ⟨5, { wOn with ther := { therReset with assertEnd := some 5 } }, by decide +kernel⟩,
   ⟨wOn, by decide +kernel⟩,
   ⟨true, 0, wOn, by decide +kernel⟩,
   ⟨true, 0, wPin, by decide +kernel⟩,
   ⟨1, wC [0x0F010040], wIn (wC [0x0F010040]) (wRdy), by decide +kernel⟩,
   ⟨1, wC [0x0F0200C0, 1, 0], wIn (wC [0x0F0200C0, 1, 0]) (wRdy), by decide +kernel⟩,
   ⟨1, wC [0x0F030080, 1], wIn (wC [0x0F030080, 1]) ({ wRdy with fw := { fwReset with safeForce := some 0 } }), by decide +kernel⟩⟩

/-- Every hypothesis of ExpertCommands is met. -/
theorem wit_ExpertCommands :
    (∃ (id : Nat) (c : Cmd) (s : State), CmdTurn id 0x0E01 c s ∧ Passes [(decide (fld (mw c.words 1) 28 4 ≠ 0), stBadArg), (decide (14 < (fld (mw c.words 1) 24 4 + 1)), stBadArg), (decide ((fld (mw c.words 1) 0 24) % 4 ≠ 0), stBadArg), (rangeOutside (fld (mw c.words 1) 0 24) (fld (mw c.words 1) 24 4 + 1), stNotFound)] ∧ (readWords c.secure 2 (fld (mw c.words 1) 0 24) (fld (mw c.words 1) 24 4 + 1) s).1 = 0) ∧
    (∃ (id : Nat) (c : Cmd) (s : State), CmdTurn id 0x0E02 c s ∧ Passes [(decide (fld (mw c.words 1) 24 8 ≠ 0), stBadArg), (decide ((fld (mw c.words 1) 0 24) % 4 ≠ 0), stBadArg), (rangeOutside (fld (mw c.words 1) 0 24) ((c.words.drop 2).take (msgLen c.words - 1)).length, stNotFound)] ∧ unclaimedIn c.secure (fld (mw c.words 1) 0 24) ((c.words.drop 2).take (msgLen c.words - 1)) s = none ∧ (writeRequest c.secure 2 (fld (mw c.words 1) 0 24) ((c.words.drop 2).take (msgLen c.words - 1)) (noteWrites (fld (mw c.words 1) 0 24) ((c.words.drop 2).take (msgLen c.words - 1)).length s)).1 = 0) ∧
    (∃ (id : Nat) (c : Cmd) (r : Word) (s : State), CmdTurn id 0x0E02 c s ∧ Passes [(decide (fld (mw c.words 1) 24 8 ≠ 0), stBadArg), (decide ((fld (mw c.words 1) 0 24) % 4 ≠ 0), stBadArg), (rangeOutside (fld (mw c.words 1) 0 24) ((c.words.drop 2).take (msgLen c.words - 1)).length, stNotFound)] ∧ unclaimedIn c.secure (fld (mw c.words 1) 0 24) ((c.words.drop 2).take (msgLen c.words - 1)) s = some r) ∧
    (∃ (id : Nat) (c : Cmd) (s : State), CmdTurn id 0x0E03 c s ∧ Passes (refsFail (claimRefs c) ++ [(decide (64 < s.fw.claims.length + ((claimRefs c).filter (fun r => !claimedBy c.secure r s)).dedup.length), stNoResource)]) ∧ (((claimRefs c).filter (fun r => !claimedBy c.secure r s)).dedup).find? (fun r => !ownerFree r s) = none) ∧
    (∃ (id : Nat) (c : Cmd) (s : State), CmdTurn id 0x0E04 c s ∧ Passes (refsFail (claimRefs c) ++ [((claimRefs c).any (fun r => !(if c.secure then claimed r s else claimedBy false r s)), stNotFound)])) ∧
    (∃ (id : Nat) (c : Cmd) (s : State), CmdTurn id 0x0E05 c s) :=
  ⟨⟨1, wC [0x0E010040, 0x020010], wIn (wC [0x0E010040, 0x020010]) (wRdy), by decide +kernel⟩,
   ⟨1, wC [0x0E020080, mkExpW, 0], wIn (wC [0x0E020080, mkExpW, 0]) (wClm), by decide +kernel⟩,
   ⟨1, wC [0x0E020080, mkExpW, 0], _, wIn (wC [0x0E020080, mkExpW, 0]) (wRdy), by decide +kernel, by decide +kernel, rfl⟩,
   ⟨1, wC [0x0E030040, mkRef 6 0], wIn (wC [0x0E030040, mkRef 6 0]) (wRdy), by decide +kernel⟩,
   ⟨1, wC [0x0E040040, mkRef 6 0], wIn (wC [0x0E040040, mkRef 6 0]) ({ wRdy with fw := { fwReset with claims := [⟨mkRef 6 0, true, 0⟩] } }), by decide +kernel⟩,
   ⟨1, wC [0x0E050040, 0], wIn (wC [0x0E050040, 0]) (wRdy), by decide +kernel⟩⟩

/-- Every hypothesis of PointCommands is met. -/
theorem wit_PointCommands :
    (∃ (id : Nat) (c : Cmd) (s : State), CmdTurn id 0x0301 c s ∧ Passes (refsOfType 1 (argWords c 1) ++ [(!domOn .rta s, stNoResource)])) ∧
    (∃ (id : Nat) (c : Cmd) (s : State), CmdTurn id 0x0302 c s ∧ Passes ([(!f32Ok (mw c.words 2), stBadArg)] ++ refFails 1 (mw c.words 1) ++ [(!domOn .rta s, stNoResource)]) ∧ s.f (aRqPcfg (refInst (mw c.words 1))) 29 3 = 4 ∧ Passes [(f32Lt (mw c.words 2) (s.reg (aRqLo (refInst (mw c.words 1)))) || f32Lt (s.reg (aRqHi (refInst (mw c.words 1)))) (mw c.words 2), stRange)]) ∧
    (∃ (id : Nat) (c : Cmd) (s : State), CmdTurn id 0x0302 c s ∧ Passes ([(!f32Ok (mw c.words 2), stBadArg)] ++ refFails 1 (mw c.words 1) ++ [(!domOn .rta s, stNoResource)]) ∧ s.f (aRqPcfg (refInst (mw c.words 1))) 29 3 ≠ 4) ∧
    (∃ (id : Nat) (c : Cmd) (s : State), CmdTurn id 0x0303 c s ∧ streamOp c = 0 ∧ Passes [(decide (fld (mw c.words 1) 3 21 ≠ 0), stBadArg), (decide (fld (mw c.words 1) 0 3 = 0) || decide (4 < fld (mw c.words 1) 0 3), stBadArg), (!domOn .rta s, stNoResource)]) ∧
    (∃ (id : Nat) (c : Cmd) (s : State), CmdTurn id 0x0303 c s ∧ streamOp c = 1 ∧ Passes ([(decide (fld (mw c.words 1) 0 24 ≠ 0), stBadArg)] ++ refsOfType 1 (argWords c 2) ++ [(!domOn .rta s, stNoResource)])) ∧
    (∃ (id : Nat) (c : Cmd) (s : State), CmdTurn id 0x0303 c s ∧ streamOp c = 2 ∧ Passes ([(decide (fld (mw c.words 1) 0 24 ≠ 0), stBadArg)] ++ refsOfType 1 (argWords c 2) ++ [(!domOn .rta s, stNoResource)])) ∧
    (∃ (id : Nat) (c : Cmd) (s : State), CmdTurn id 0x0304 c s ∧ Passes (refFails 1 (mw c.words 1) ++ [(!domOn .rta s, stNoResource)])) :=
  ⟨⟨1, wC [0x03010040, mkRef 1 0], wIn (wC [0x03010040, mkRef 1 0]) (wRdy), by decide +kernel⟩,
   ⟨1, wC [0x03020080, mkRef 1 0, 0], wIn (wC [0x03020080, mkRef 1 0, 0]) (wRdy.setF (aRqPcfg 0) 29 3 4), by decide +kernel⟩,
   ⟨1, wC [0x03020080, mkRef 1 0, 0], wIn (wC [0x03020080, mkRef 1 0, 0]) (wRdy), by decide +kernel⟩,
   ⟨1, wC [0x03030040, 1], wIn (wC [0x03030040, 1]) (wRdy), by decide +kernel⟩,
   ⟨1, wC [0x03030080, 0x01000000, mkRef 1 0], wIn (wC [0x03030080, 0x01000000, mkRef 1 0]) (wRdy), by decide +kernel⟩,
   ⟨1, wC [0x03030080, 0x02000000, mkRef 1 0], wIn (wC [0x03030080, 0x02000000, mkRef 1 0]) (wRdy), by decide +kernel⟩,
   ⟨1, wC [0x03040040, mkRef 1 0], wIn (wC [0x03040040, mkRef 1 0]) (wRdy), by decide +kernel⟩⟩

/-- Every hypothesis of LoopCommands is met. -/
theorem wit_LoopCommands :
    (∃ (id : Nat) (c : Cmd) (s : State), CmdTurn id 0x0401 c s ∧ Passes (refFails 2 (mw c.words 1) ++ [(!domOn .cmb s, stNoResource)])) ∧
    (∃ (id : Nat) (c : Cmd) (s : State), CmdTurn id 0x0402 c s ∧ Passes ([(decide (fld (mw c.words 2) 13 19 ≠ 0) || decide (mw c.words 2 = 0), stBadArg), (!(argWords c 3).all f32Ok, stBadArg)] ++ refFails 2 (mw c.words 1) ++ [(!domOn .cmb s, stNoResource)]) ∧ ownerBase (mw c.words 1) s = true ∧ setBreaks (refInst (mw c.words 1)) (forEach (setPairs (refInst (mw c.words 1)) (mw c.words 2) (argWords c 3)) (fun p s => s.setReg p.1 p.2) s) = false) ∧
    (∃ (id : Nat) (c : Cmd) (s : State), CmdTurn id 0x0403 c s ∧ Passes ([(!onlyBits (mw c.words 2) 0x103, stBadArg)] ++ refFails 2 (mw c.words 1) ++ [(!domOn .cmb s, stNoResource)]) ∧ ownerBase (mw c.words 1) s = true) ∧
    (∃ (id : Nat) (c : Cmd) (k : Nat) (s : State), CmdTurn id 0x0404 c s ∧ Passes ([(!onlyBits (mw c.words 2) 7, stBadArg), (!([mw c.words 3, mw c.words 4, mw c.words 5].all f32Ok), stBadArg), (decide (tmaxOf (mw c.words 6) < 60) || decide (86400 < tmaxOf (mw c.words 6)), stBadArg)] ++ refFails 2 (mw c.words 1) ++ [(!domOn .cmb s, stNoResource)]) ∧ freeTuner s = some k ∧ (tuneRefs (refInst (mw c.words 1)) s).find? (fun r => !ownerFree r s) = none ∧ tuneOk (refInst (mw c.words 1)) (mw c.words 3) (mw c.words 4) (mw c.words 5) s = true ∧ (tunerOf (refInst (mw c.words 1)) s).isSome = false) ∧
    (∃ (k : Fin 8) (r : TuneRun) (s : State), s.camb.runs.find? (fun r => r.tuner = k.val) = some r ∧ ready s = true ∧ tunerBusy k s = false) :=
  ⟨⟨1, wC [0x04010040, mkRef 2 0], wIn (wC [0x04010040, mkRef 2 0]) (wRdy), by decide +kernel⟩,
   ⟨1, wC [0x040200C0, mkRef 2 0, 4, 0x42C80000], wIn (wC [0x040200C0, mkRef 2 0, 4, 0x42C80000]) (wLoopW), by decide +kernel⟩,
   ⟨1, wC [0x04030080, mkRef 2 0, 0], wIn (wC [0x04030080, mkRef 2 0, 0]) (wRdy), by decide +kernel⟩,
   ⟨1, wC [0x04040180, mkRef 2 0, 0, 0x41200000, 0, 0x42480000, 3600], 0, wIn (wC [0x04040180, mkRef 2 0, 0, 0x41200000, 0, 0x42480000, 3600]) (wTune), by decide +kernel⟩,
   ⟨0, ⟨0, 0, 1, 0, false, none, []⟩, { wRdy with camb := { cambReset with runs := [⟨0, 0, 1, 0, false, none, []⟩] } }, by decide +kernel, by decide +kernel⟩⟩

/-- Every hypothesis of DriveAndFanCommands is met. -/
theorem wit_DriveAndFanCommands :
    (∃ (id : Nat) (c : Cmd) (s : State), CmdTurn id 0x0701 c s ∧ Passes (refFails 6 (mw c.words 1)) ∧ bridgeFails .bark s = false) ∧
    (∃ (id : Nat) (c : Cmd) (s : State), CmdTurn id 0x0702 c s ∧ Passes (commandFails 6 c) ∧ ownerBase (drvRef (pairOf (refInst (mw c.words 1)) s)) s = true ∧ bit (mw c.words 2) 0 = false ∧ commandRange c s = false ∧ drvMode (pairOf (refInst (mw c.words 1)) s) s ≠ 0 ∧ drvMode (pairOf (refInst (mw c.words 1)) s) s ≠ 5) ∧
    (∃ (id : Nat) (c : Cmd) (s : State), CmdTurn id 0x0702 c s ∧ Passes (commandFails 6 c) ∧ ownerBase (drvRef (pairOf (refInst (mw c.words 1)) s)) s = true ∧ bit (mw c.words 2) 0 = true) ∧
    (∃ (id : Nat) (c : Cmd) (s : State), CmdTurn id 0x0702 c s ∧ Passes (commandFails 6 c) ∧ ownerBase (drvRef (pairOf (refInst (mw c.words 1)) s)) s = false) ∧
    (∃ (id : Nat) (c : Cmd) (s : State), CmdTurn id 0x0703 c s ∧ Passes ([(!onlyBits (mw c.words 2) 1, stBadArg)] ++ refFails 6 (mw c.words 1)) ∧ (bit (mw c.words 2) 0 = false ∨ claimed (drvRef (refInst (mw c.words 1))) s = false) ∧ bridgeFails .bark s = false) ∧
    (∃ (id : Nat) (c : Cmd) (s : State), CmdTurn id 0x0704 c s ∧ Passes ([(decide (fld (mw c.words 2) 24 5 ≠ 0), stBadArg)] ++ refFails 6 (mw c.words 1) ++ [(decide (5 < fld (mw c.words 2) 29 3), stRange)]) ∧ claimed (drvRef (refInst (mw c.words 1))) s = false ∧ bridgeFails .bark s = false) ∧
    (∃ (id : Nat) (c : Cmd) (s : State), CmdTurn id 0x0705 c s ∧ Passes (refFails 6 (mw c.words 1) ++ [(!domOn .brk s, stNoResource)]) ∧ (if drvMode (pairOf (refInst (mw c.words 1)) s) s = 2 then [drvRef (pairOf (refInst (mw c.words 1)) s), drvRef ((pairOf (refInst (mw c.words 1)) s) + 1)] else [drvRef (pairOf (refInst (mw c.words 1)) s)]).find? (fun r => !ownerFree r s) = none ∧ (drvMode (pairOf (refInst (mw c.words 1)) s) s = 1 ∨ drvMode (pairOf (refInst (mw c.words 1)) s) s = 2)) ∧
    (∃ (id : Nat) (c : Cmd) (s : State), CmdTurn id 0x0706 c s) ∧
    (∃ (id : Nat) (c : Cmd) (s : State), CmdTurn id 0x0801 c s ∧ Passes (refFails 7 (mw c.words 1) ++ [(!domOn .brk s, stNoResource)]) ∧ bridgeFails .bark s = false) ∧
    (∃ (id : Nat) (c : Cmd) (s : State), CmdTurn id 0x0802 c s ∧ Passes (commandFails 7 c ++ [(!domOn .brk s, stNoResource)]) ∧ ownerBase (mw c.words 1) s = true ∧ bit (mw c.words 2) 0 = false ∧ commandRange c s = false ∧ s.b (aFanCfg (refInst (mw c.words 1))) 31 = true) ∧
    (∃ (id : Nat) (c : Cmd) (s : State), CmdTurn id 0x0802 c s ∧ Passes (commandFails 7 c ++ [(!domOn .brk s, stNoResource)]) ∧ ownerBase (mw c.words 1) s = true ∧ bit (mw c.words 2) 0 = true) ∧
    (∃ (id : Nat) (c : Cmd) (s : State), CmdTurn id 0x0803 c s ∧ Passes ([(!onlyBits (mw c.words 2) 0x7F, stBadArg)] ++ refFails 7 (mw c.words 1) ++ [(decide (100 < (mw c.words 2).toNat), stRange)]) ∧ claimed (fanRef (refInst (mw c.words 1))) s = false ∧ bridgeFails .bark s = false) ∧
    (∃ (id : Nat) (c : Cmd) (s : State), CmdTurn id 0x0804 c s ∧ Passes (refFails 7 (mw c.words 1) ++ [(!domOn .brk s, stNoResource)]) ∧ claimed (fanRef (refInst (mw c.words 1))) s = false ∧ bridgeFails .bark s = false) :=
  ⟨⟨1, wC [0x07010040, mkRef 6 0], wIn (wC [0x07010040, mkRef 6 0]) (wRdy), by decide +kernel⟩,
   ⟨1, wC [0x07020100, mkRef 6 0, 0, 0x42480000, 0], wIn (wC [0x07020100, mkRef 6 0, 0, 0x42480000, 0]) (wRdy.setF (aDrvCtl 0) 0 4 1), by decide +kernel⟩,
   ⟨1, wC [0x07020100, mkRef 6 0, 1, 0x42480000, 0], wIn (wC [0x07020100, mkRef 6 0, 1, 0x42480000, 0]) (wRdy), by decide +kernel⟩,
   ⟨1, wC [0x07020100, mkRef 6 0, 1, 0x42480000, 0], wIn (wC [0x07020100, mkRef 6 0, 1, 0x42480000, 0]) ({ wRdy with fw := { fwReset with claims := [⟨mkRef 6 0, true, 0⟩] } }), by decide +kernel⟩,
   ⟨1, wC [0x07030080, mkRef 6 0, 1], wIn (wC [0x07030080, mkRef 6 0, 1]) (wRdy), by decide +kernel⟩,
   ⟨1, wC [0x07040080, mkRef 6 0, 0], wIn (wC [0x07040080, mkRef 6 0, 0]) (wRdy), by decide +kernel⟩,
   ⟨1, wC [0x07050040, mkRef 6 0], wIn (wC [0x07050040, mkRef 6 0]) (wRdy.setF (aDrvCtl 0) 0 4 1), by decide +kernel⟩,
   ⟨1, wC [0x07060000], wIn (wC [0x07060000]) (wRdy), by decide +kernel⟩,
   ⟨1, wC [0x08010040, mkRef 7 0], wIn (wC [0x08010040, mkRef 7 0]) (wRdy), by decide +kernel⟩,
   ⟨1, wC [0x08020100, mkRef 7 0, 0, 0x42480000, 0], wIn (wC [0x08020100, mkRef 7 0, 0, 0x42480000, 0]) (wRdy.setB (aFanCfg 0) 31 true), by decide +kernel⟩,
   ⟨1, wC [0x08020100, mkRef 7 0, 1, 0x42480000, 0], wIn (wC [0x08020100, mkRef 7 0, 1, 0x42480000, 0]) (wRdy), by decide +kernel⟩,
   ⟨1, wC [0x08030080, mkRef 7 0, 100], wIn (wC [0x08030080, mkRef 7 0, 100]) (wRdy), by decide +kernel⟩,
   ⟨1, wC [0x08040040, mkRef 7 0], wIn (wC [0x08040040, mkRef 7 0]) (wRdy), by decide +kernel⟩⟩

/-- Every hypothesis of BusCommands is met. -/
theorem wit_BusCommands :
    (∃ (id : Nat) (c : Cmd) (s : State), CmdTurn id 0x0901 c s ∧ Passes ([(decide (65535 < (mw c.words 3).toNat) || decide (fld (mw c.words 2) 8 2 ≠ 0), stBadArg), (!(decide (fld (mw c.words 2) 29 3 = 2)) && decide ((mw c.words 3).toNat ≠ 0), stBadArg)] ++ refFails 8 (mw c.words 1) ++ [(!domOn .bus s, stNoResource)]) ∧ ownerBase (mw c.words 1) s = true ∧ (pcfgBad (refInst (mw c.words 1)) (mw c.words 2) s || (decide (fld (mw c.words 2) 29 3 = 2) && (decide ((mw c.words 3).toNat < 10) || decide (2000 < (mw c.words 3).toNat)))) = false) ∧
    (∃ (id : Nat) (c : Cmd) (s : State), CmdTurn id 0x0902 c s ∧ Passes ([(decide ((refType (mw c.words 1)) ≠ 8 ∧ (refType (mw c.words 1)) ≠ 9 ∧ (refType (mw c.words 1)) ≠ 10), stBadArg)] ++ refFails (refType (mw c.words 1)) (mw c.words 1) ++ [(!domOn .bus s, stNoResource)])) ∧
    (∃ (id : Nat) (c : Cmd) (s : State), CmdTurn id 0x0903 c s ∧ Passes ([(!onlyBits (if msgLen c.words = 1 then 0 else mw c.words 2) 0x800000FF || decide (52 < fld (if msgLen c.words = 1 then 0 else mw c.words 2) 0 8), stBadArg)] ++ refFails 8 (mw c.words 1) ++ [(decide (domOn .bus s = true ∧ portMode (refInst (mw c.words 1)) s ≠ 4), stBadArg), (!domOn .bus s, stNoResource)]) ∧ (bit (if msgLen c.words = 1 then 0 else mw c.words 2) 31 = false ∨ (busPort (refInst (mw c.words 1)) (drainTx (refInst (mw c.words 1)) s)).tx.length + fld (if msgLen c.words = 1 then 0 else mw c.words 2) 0 8 ≤ 256) ∧ ownerBase (mw c.words 1) s = true) ∧
    (∃ (id : Nat) (c : Cmd) (s : State), CmdTurn id 0x0904 c s ∧ Passes ([(!onlyBits (mw c.words 2) 1, stBadArg)] ++ refFails 0x0A (mw c.words 1) ++ [(!domOn .bus s || !s.b (aTwigSegctl (refInst (mw c.words 1))) 31, stNoResource)]) ∧ (segRef (refInst (mw c.words 1)) :: (List.range 16).map (fun k => mkRef 0x0B (16 * refInst (mw c.words 1) + k))).find? (fun r => !ownerFree r s) = none) ∧
    (∃ (id : Nat) (c : Cmd) (s : State), CmdTurn id 0x0905 c s ∧ Passes ([(!onlyBits (mw c.words 2) 0xF8F00000, stBadArg)] ++ refFails 9 (mw c.words 1) ++ [(!domOn .bus s, stNoResource)]) ∧ ownerBase (mw c.words 1) s = true ∧ scriptBad (refInst (mw c.words 1)) (fld (mw c.words 2) 28 4) (mw c.words 3) s = false) :=
  ⟨⟨1, wC [0x090100C0, mkRef 8 0, 0, 0], wIn (wC [0x090100C0, mkRef 8 0, 0, 0]) (wRdy), by decide +kernel⟩,
   ⟨1, wC [0x09020040, mkRef 8 0], wIn (wC [0x09020040, mkRef 8 0]) (wRdy), by decide +kernel⟩,
   ⟨1, wC [0x09030040, mkRef 8 0], wIn (wC [0x09030040, mkRef 8 0]) (wRdy.setF (aBusPcfg 0) 29 3 4), by decide +kernel⟩,
   ⟨1, wC [0x09040080, mkRef 0x0A 0, 0], wIn (wC [0x09040080, mkRef 0x0A 0, 0]) (wRdy.setB (aTwigSegctl 0) 31 true), by decide +kernel⟩,
   ⟨1, wC [0x09050180, mkRef 9 0, 0x18000000, mkI2c, 0, 0, 0], wIn (wC [0x09050180, mkRef 9 0, 0x18000000, mkI2c, 0, 0, 0]) (wRdy), by decide +kernel⟩⟩

/-- Every hypothesis of ModbusAndServiceRequests is met. -/
theorem wit_ModbusAndServiceRequests :
    (∃ (p : Fin 6) (frame : SerialFrame) (bs : List Byte) (s : State), MbRequest p (· = 1) false frame bs s) ∧
    (∃ (p : Fin 6) (frame : SerialFrame) (bs : List Byte) (s : State), MbRequest p (· = 2) false frame bs s) ∧
    (∃ (p : Fin 6) (frame : SerialFrame) (bs : List Byte) (s : State), MbRequest p (· = 3) false frame bs s) ∧
    (∃ (p : Fin 6) (frame : SerialFrame) (bs : List Byte) (s : State), MbRequest p (· = 4) false frame bs s) ∧
    (∃ (p : Fin 6) (frame : SerialFrame) (bs : List Byte) (s : State), MbRequest p (· = 5) false frame bs s) ∧
    (∃ (p : Fin 6) (frame : SerialFrame) (bs : List Byte) (s : State), MbRequest p (· = 6) true frame bs s) ∧
    (∃ (p : Fin 6) (frame : SerialFrame) (bs : List Byte) (s : State), MbRequest p (· = 15) false frame bs s) ∧
    (∃ (p : Fin 6) (frame : SerialFrame) (bs : List Byte) (s : State), MbRequest p (· = 16) true frame bs s) ∧
    (∃ (p : Fin 6) (frame : SerialFrame) (bs : List Byte) (s : State), MbRequest p (fun f => !decide (f ∈ [1, 2, 3, 4, 5, 6, 15, 16])) false frame bs s) ∧
    (∃ (wire : List Byte) (seq : Nat) (ws : List Word) (s : State), s.pwr.held.isSome = false ∧ domOn .bus s = true ∧ svcParse wire = some (seq, ws) ∧ inFull 15 s = false) ∧
    (∃ (wire : List Byte) (seq : Nat) (ws : List Word) (s : State), s.pwr.held.isSome = false ∧ domOn .bus s = true ∧ svcParse wire = some (seq, ws) ∧ inFull 15 s = true) :=
  ⟨⟨0, ⟨mbFrame [1, 1, 0, 0, 0, 1], 0, 0⟩, [1, 1, 0, 0, 0, 1], wMb, by decide +kernel, by decide +kernel, by decide +kernel, by decide +kernel, by decide +kernel, by decide +kernel⟩,
   ⟨0, ⟨mbFrame [1, 2, 0, 0, 0, 1], 0, 0⟩, [1, 2, 0, 0, 0, 1], wMb, by decide +kernel, by decide +kernel, by decide +kernel, by decide +kernel, by decide +kernel, by decide +kernel⟩,
   ⟨0, ⟨mbFrame [1, 3, 0, 0, 0, 1], 0, 0⟩, [1, 3, 0, 0, 0, 1], wMb, by decide +kernel, by decide +kernel, by decide +kernel, by decide +kernel, by decide +kernel, by decide +kernel⟩,
   ⟨0, ⟨mbFrame [1, 4, 0, 0, 0, 1], 0, 0⟩, [1, 4, 0, 0, 0, 1], wMb, by decide +kernel, by decide +kernel, by decide +kernel, by decide +kernel, by decide +kernel, by decide +kernel⟩,
   ⟨0, ⟨mbFrame [1, 5, 0, 0, 255, 0], 0, 0⟩, [1, 5, 0, 0, 255, 0], wMb, by decide +kernel, by decide +kernel, by decide +kernel, by decide +kernel, by decide +kernel, by decide +kernel⟩,
   ⟨0, ⟨mbFrame [1, 6, 0, 0, 0, 0], 0, 0⟩, [1, 6, 0, 0, 0, 0], wMb, by decide +kernel, by decide +kernel, by decide +kernel, by decide +kernel, by decide +kernel, by decide +kernel⟩,
   ⟨0, ⟨mbFrame [1, 15, 0, 0, 0, 1, 1, 1], 0, 0⟩, [1, 15, 0, 0, 0, 1, 1, 1], wMb, by decide +kernel, by decide +kernel, by decide +kernel, by decide +kernel, by decide +kernel, by decide +kernel⟩,
   ⟨0, ⟨mbFrame [1, 16, 0, 0, 0, 1, 2, 0, 0], 0, 0⟩, [1, 16, 0, 0, 0, 1, 2, 0, 0], wMb, by decide +kernel, by decide +kernel, by decide +kernel, by decide +kernel, by decide +kernel, by decide +kernel⟩,
   ⟨0, ⟨mbFrame [1, 7], 0, 0⟩, [1, 7], wMb, by decide +kernel, by decide +kernel, by decide +kernel, by decide +kernel, by decide +kernel, by decide +kernel⟩,
   ⟨svcFrame 1 5 [0x01010000], 5, [0x01010000], wRdy, by decide +kernel, by decide +kernel, by decide +kernel, by decide +kernel⟩,
   ⟨svcFrame 1 5 [0x01010000], 5, [0x01010000], goSend 15 wRdy, by decide +kernel, by decide +kernel, by decide +kernel, by decide +kernel⟩⟩

/-- Every hypothesis of BacnetServices is met. -/
theorem wit_BacnetServices :
    (∃ (req : BacReq) (obj : BacRef) (s : State), bacUp req.port false s = true) ∧
    (∃ (req : BacReq) (objs : List BacRef) (s : State), bacUp req.port false s = true) ∧
    (∃ (req : BacReq) (w : BacWrite) (s : State), bacUp req.port false s = true) ∧
    (∃ (req : BacReq) (ws : List BacWrite) (s : State), bacUp req.port false s = true) ∧
    (∃ (req : BacReq) (range : BacRange) (t : State) (s : State), bacUp req.port false s = true ∧ t = crownDrain s ∧ bacObject 20 range.log t = true ∧ trendUp t = true) ∧
    (∃ (req : BacReq) (sub : BacSub) (i : Nat) (t : State) (s : State), bacUp req.port false s = true ∧ t = crownDrain s ∧ sub.cancel = false ∧ bacObject sub.obj sub.inst t = true ∧ hasPresent sub.obj = true ∧ sub.lifetime ≤ 28800 ∧ (∀ (k : Nat) (o : CovSub), covSub k t = some o → ¬ (o.port = req.port.val ∧ o.source = req.source ∧ o.process = sub.process ∧ o.obj = sub.obj ∧ o.inst = sub.inst)) ∧ (List.range 32).find? (fun k => (covSub k t).isNone) = some i) ∧
    (∃ (req : BacReq) (sub : BacSub) (i : Nat) (t : State) (s : State), bacUp req.port false s = true ∧ t = crownDrain s ∧ (List.range 32).find? (fun (k : Nat) => match covSub k t with | some c => decide (c.port = req.port.val ∧ c.source = req.source ∧ c.process = sub.process ∧ c.obj = sub.obj ∧ c.inst = sub.inst) | none => false) = some i ∧ sub.cancel = true) ∧
    (∃ (req : BacReq) (sub : BacSub) (i : Nat) (t : State) (s : State), bacUp req.port false s = true ∧ t = crownDrain s ∧ (List.range 32).find? (fun (k : Nat) => match covSub k t with | some c => decide (c.port = req.port.val ∧ c.source = req.source ∧ c.process = sub.process ∧ c.obj = sub.obj ∧ c.inst = sub.inst) | none => false) = some i ∧ sub.cancel = false ∧ bacObject sub.obj sub.inst t = true ∧ hasPresent sub.obj = true ∧ sub.lifetime ≤ 28800) ∧
    (∃ (i : Fin 32) (c : CovSub) (v : Word × Word) (t : State) (s : State), covSub i s = some c ∧ ready s = true ∧ t = crownDrain s ∧ covNow c t = some v ∧ bacUp c.port false t = true ∧ commNow t = 0 ∧ c.last ≠ some v) ∧
    (∃ (i : Fin 32) (t : _) (s : State), (covSub i s).bind (·.until_) = some t) ∧
    (∃ (i : Fin 32) (s : State), (covSub i s).bind (·.until_) = none) ∧
    (∃ (limits : Option (Nat × Nat)) (s : State), inLimits limits (bacDevice s) = true) ∧
    (∃ (limits : Option (Nat × Nat)) (s : State), ¬ (inLimits limits (bacDevice s) = true)) ∧
    (∃ (limits : Option (Nat × Nat)) (obj inst : Nat) (s : State), inLimits limits (bacDevice s) = true ∧ bacObject obj inst s = true) ∧
    (∃ (t : Word) (p : Nat) (s : State), mstpPort s = some p ∧ bacUp p false s = true ∧ grRole s ≠ 1 ∧ ownerBase rtcRef s = true) ∧
    (∃ (t : Word) (p : Nat) (s : State), mstpPort s = some p ∧ bacUp p false s = true ∧ grRole s ≠ 1 ∧ ownerBase rtcRef s = true) ∧
    (∃ (req : BacReq) (mode : BacComm) (minutes : Nat) (pw : List Byte) (s : State), bacUp req.port true s = true ∧ (checkPassword 0 true (bacPassword pw) (crownDrain s)).1 = 0) ∧
    (∃ (req : BacReq) (mode : BacComm) (minutes : Nat) (pw : List Byte) (s : State), bacUp req.port true s = true ∧ (checkPassword 0 true (bacPassword pw) (crownDrain s)).1 ≠ 0) ∧
    (∃ (req : BacReq) (warm : Bool) (pw : List Byte) (s : State), bacUp req.port true s = true ∧ (checkPassword 0 true (bacPassword pw) (crownDrain s)).1 = 0 ∧ warm = true ∧ (checkPassword 0 true (bacPassword pw) (crownDrain s)).2.fw.pendReset = none) ∧
    (∃ (req : BacReq) (confirmed : Bool) (s : State), confirmed = true ∧ bacUp req.port false s = true) :=
  ⟨⟨⟨0, 1, 2⟩, ⟨8, 0, 75, none⟩, wBac, by decide +kernel⟩,
   ⟨⟨0, 1, 2⟩, [], wBac, by decide +kernel⟩,
   ⟨⟨0, 1, 2⟩, ⟨⟨1, 0, 85, none⟩, none, 16⟩, wBac, by decide +kernel⟩,
   ⟨⟨0, 1, 2⟩, [], wBac, by decide +kernel⟩,
   ⟨⟨0, 1, 2⟩, ⟨.position, 0, 1, 1⟩, _, wBacT, by decide +kernel, rfl, by decide +kernel, by decide +kernel⟩,
   ⟨⟨0, 1, 2⟩, ⟨1, 0, 0, false, 60, false⟩, 0, _, wBacP, by decide +kernel, rfl, by decide +kernel, by decide +kernel, by decide +kernel, by decide +kernel, (by intro k o h; cases h), by decide +kernel⟩,
   ⟨⟨0, 1, 2⟩, ⟨0, 1, 0, false, 60, true⟩, 0, _, setCov 0 (some ⟨0, 1, 0, 1, 0, false, none, none⟩) wBacP, by decide +kernel, rfl, by decide +kernel, by decide +kernel⟩,
   ⟨⟨0, 1, 2⟩, ⟨0, 0, 0, false, 60, false⟩, 0, _, setCov 0 (some ⟨0, 1, 0, 0, 0, false, none, none⟩) wBacP, by decide +kernel, rfl, by decide +kernel, by decide +kernel, by decide +kernel, by decide +kernel, by decide +kernel⟩,
   ⟨0, ⟨0, 1, 0, 5, 0, false, none, none⟩, (0, 0), _, setCov 0 (some ⟨0, 1, 0, 5, 0, false, none, none⟩) wBac, by decide +kernel, by decide +kernel, rfl, by decide +kernel, by decide +kernel, by decide +kernel, by decide +kernel⟩,
   ⟨0, 5, setCov 0 (some ⟨0, 1, 0, 0, 0, false, some 5, none⟩) wOn, by decide +kernel⟩,
   ⟨0, wOn, by decide +kernel⟩,
   ⟨none, wBac, by decide +kernel⟩,
   ⟨some (5, 4), wBac, by decide +kernel⟩,
   ⟨none, 8, 0, wBac, by decide +kernel⟩,
   ⟨0, 0, wBac, by decide +kernel⟩,
   ⟨0, 0, wBac, by decide +kernel⟩,
   ⟨⟨0, 1, 2⟩, .disable, 1, [], wBac, by decide +kernel⟩,
   ⟨⟨0, 1, 2⟩, .disable, 1, [], wBacL, by decide +kernel⟩,
   ⟨⟨0, 1, 2⟩, true, [], wBac, by decide +kernel⟩,
   ⟨⟨0, 1, 2⟩, true, wBac, by decide +kernel⟩⟩

/-- Every hypothesis of GroveFrames is met. -/
theorem wit_GroveFrames :
    (∃ (p : Fin 2) (frame : List Byte) (g : GrParsed) (s : State), FrameNew 0x82 p frame g s) ∧
    (∃ (p : Fin 2) (frame : List Byte) (g : GrParsed) (s : State), FrameNew 0x02 p frame g s) ∧
    (∃ (p : Fin 2) (frame : List Byte) (g : GrParsed) (s : State), FrameNew 0x03 p frame g s) ∧
    (∃ (p : Fin 2) (frame : List Byte) (g : GrParsed) (s : State), FrameNew 0xC3 p frame g s) ∧
    (∃ (p : Fin 2) (frame : List Byte) (g : GrParsed) (s : State), FrameNew 0x04 p frame g s) ∧
    (∃ (p : Fin 2) (frame : List Byte) (g : GrParsed) (s : State), FrameNew 0xC1 p frame g s) ∧
    (∃ (p : Fin 2) (frame : List Byte) (g : GrParsed) (s : State), FrameNew 0x45 p frame g s ∧ ready s = true) ∧
    (∃ (p : Fin 2) (frame : List Byte) (g : GrParsed) (s : State), FrameNew 0x42 p frame g s ∧ ready s = true) ∧
    (∃ (p : Fin 2) (frame : List Byte) (g : GrParsed) (s : State), FrameNew 0x43 p frame g s ∧ ready s = true) ∧
    (∃ (p : Fin 2) (frame : List Byte) (g : GrParsed) (s : State), FrameNew 0xC2 p frame g s ∧ ready s = true) ∧
    (∃ (p : Fin 2) (frame : List Byte) (g : GrParsed) (s : State), FrameNew 0x41 p frame g s ∧ ready s = true) ∧
    (∃ (p : Fin 2) (frame : List Byte) (g : GrParsed) (s : State), FrameNew 0x81 p frame g s ∧ ready s = true) ∧
    (∃ (p : Fin 2) (frame : List Byte) (g : GrParsed) (s : State), FrameNew 0x44 p frame g s ∧ ready s = true) ∧
    (∃ (p : Fin 2) (frame : List Byte) (g : GrParsed) (s : State), FrameNew 0x01 p frame g (noteHello p g s) ∧ domOn .gft s = true ∧ onLine p s = true ∧ g.payload.length = 16 ∧ grState s ≠ 1 ∧ g.src ≠ myNode s) ∧
    (∃ (p : Fin 2) (count : Byte) (delay : Half) (s : State), domOn .gft s = true ∧ onLine p s = true ∧ acting s = false) :=
  ⟨⟨0, (grFrame 0x82 2 0 15 1 [0, 1, 0, 0]), ⟨0x82, 2, 0, 15, 1, [0, 1, 0, 0]⟩, wJoin, by decide +kernel⟩,
   ⟨0, (grFrame 0x02 2 255 15 1 (List.replicate 8 0)), ⟨0x02, 2, 255, 15, 1, (List.replicate 8 0)⟩, wJoin, by decide +kernel⟩,
   ⟨0, (grFrame 0x03 2 255 15 1 [0, 1, 0, 0]), ⟨0x03, 2, 255, 15, 1, [0, 1, 0, 0]⟩, wJoin, by decide +kernel⟩,
   ⟨0, (grFrame 0xC3 2 255 15 1 (List.replicate 10 0)), ⟨0xC3, 2, 255, 15, 1, (List.replicate 10 0)⟩, wJoin, by decide +kernel⟩,
   ⟨0, (grFrame 0x04 2 0 15 1 []), ⟨0x04, 2, 0, 15, 1, []⟩, wJoin, by decide +kernel⟩,
   ⟨0, (grFrame 0xC1 2 255 15 1 [0, 0, 1, 0, 0, 0, 0, 0]), ⟨0xC1, 2, 255, 15, 1, [0, 0, 1, 0, 0, 0, 0, 0]⟩, wJoin, by decide +kernel⟩,
   ⟨0, (grFrame 0x45 2 0 15 1 []), ⟨0x45, 2, 0, 15, 1, []⟩, wJoin, by decide +kernel, by decide +kernel⟩,
   ⟨0, (grFrame 0x42 2 0 15 1 (List.replicate 40 0)), ⟨0x42, 2, 0, 15, 1, (List.replicate 40 0)⟩, wJoin, by decide +kernel, by decide +kernel⟩,
   ⟨0, (grFrame 0x43 2 0 15 1 (List.replicate 16 0)), ⟨0x43, 2, 0, 15, 1, (List.replicate 16 0)⟩, wJoin, by decide +kernel, by decide +kernel⟩,
   ⟨0, (grFrame 0xC2 2 0 15 1 (List.replicate 8 0)), ⟨0xC2, 2, 0, 15, 1, (List.replicate 8 0)⟩, wJoin, by decide +kernel, by decide +kernel⟩,
   ⟨0, (grFrame 0x41 2 0 15 1 (List.replicate 8 0)), ⟨0x41, 2, 0, 15, 1, (List.replicate 8 0)⟩, wJoin, by decide +kernel, by decide +kernel⟩,
   ⟨0, (grFrame 0x81 2 0 15 1 (List.replicate 12 0)), ⟨0x81, 2, 0, 15, 1, (List.replicate 12 0)⟩, wJoin, by decide +kernel, by decide +kernel⟩,
   ⟨0, (grFrame 0x44 2 0 15 1 (List.replicate 4 0)), ⟨0x44, 2, 0, 15, 1, (List.replicate 4 0)⟩, wJoin, by decide +kernel, by decide +kernel⟩,
   ⟨0, (grFrame 0x01 2 255 15 1 (List.replicate 16 0)), ⟨0x01, 2, 255, 15, 1, (List.replicate 16 0)⟩, wJoin, by decide +kernel, by decide +kernel, by decide +kernel, by decide +kernel, by decide +kernel, by decide +kernel⟩,
   ⟨0, 1, 0, wJoin, by decide +kernel⟩⟩

/-- Every hypothesis of GroveEvents is met. -/
theorem wit_GroveEvents :
    (∃ (cls : Fin 4) (seq : Half) (s : State), s.gft.unacked.find? (fun x => decide (x.cls = cls.val) && decide (x.seq = seq.toNat)) = none) ∧
    (∃ (cls : Fin 4) (seq : Half) (x : GrSend) (s : State), s.gft.unacked.find? (fun x => decide (x.cls = cls.val) && decide (x.seq = seq.toNat)) = some x ∧ domOn .gft s = true ∧ (x.frame.headD 0).toNat ≠ 0x81 ∧ x.tries < 3) ∧
    (∃ (cls : Fin 4) (seq : Half) (x : GrSend) (s : State), s.gft.unacked.find? (fun x => decide (x.cls = cls.val) && decide (x.seq = seq.toNat)) = some x ∧ domOn .gft s = true ∧ (x.frame.headD 0).toNat ≠ 0x81 ∧ 3 ≤ x.tries) ∧
    (∃ (s : State), domOn .gft s = true ∧ grState s = 2 ∧ acting s = true) ∧
    (∃ (s : State), ¬ (domOn .gft s = true ∧ grState s = 2 ∧ acting s = true)) ∧
    (∃ (s : State), domOn .gft s = true ∧ grState s = 2 ∧ acting s = false) ∧
    (∃ (s : State), ¬ (domOn .gft s = true ∧ grState s = 2 ∧ acting s = false)) ∧
    (∃ (t : Nat) (s : State), timeNow s = some t ∧ domOn .gft s = true ∧ ready s = true ∧ grState s = 2 ∧ acting s = true ∧ s.gft.timeAt ≠ 0) ∧
    (∃ (g : _) (s : State), myGroup s = some g ∧ domOn .gft s = true ∧ grState s = 2) ∧
    (∃ (s : State), myGroup s = none) ∧
    (∃ (s : State), domOn .gft s = true ∧ ready s = true ∧ grState s = 2 ∧ acting s = true) ∧
    (∃ (s : State), ¬ (domOn .gft s = true ∧ ready s = true ∧ grState s = 2 ∧ acting s = true)) ∧
    (∃ (g : Fin 4) (s : State), domOn .gft s = true ∧ ready s = true ∧ grState s = 2 ∧ acting s = true ∧ (grRoundOf g s).waiting ≠ []) ∧
    (∃ (s : State), domOn .gft s = true ∧ grState s = 2 ∧ acting s = false) ∧
    (∃ (s : State), ¬ (domOn .gft s = true ∧ grState s = 2 ∧ acting s = false)) ∧
    (∃ (k : Fin 64) (s : State), domOn .gft s = true ∧ grState s = 2 ∧ s.b (aGraftExp k) 31 = true) ∧
    (∃ (k : Fin 64) (s : State), ¬ (domOn .gft s = true ∧ grState s = 2 ∧ s.b (aGraftExp k) 31 = true)) ∧
    (∃ (p : Fin 256) (i : _) (s : State), tblGet none s.gft.imports p = some i ∧ s.f (aRqPcfg p) 29 3 = 4) ∧
    (∃ (p : Fin 256) (s : State), tblGet none s.gft.imports p = none) ∧
    (∃ (z : Fin 48) (links : List ZoneLink) (t : Nat) (m : Nat) (q : Nat) (sp : Word) (e : Nat × Nat × Word) (s : State), ready s = true ∧ domOn .gft s = true ∧ grState s = 2 ∧ links = (match s.fw.image with | some im => im.homeLinks.filter (fun l => decide (l.zone = z.val)) | none => []) ∧ links ≠ [] ∧ e = zoneEntry z s ∧ tblGet none s.gft.zoneOut z = some (t, m, q, sp)) ∧
    (∃ (z : Fin 48) (im : Image) (s : State), ready s = true ∧ s.fw.image = some im ∧ im.zoneLinks.any (fun l => l.zone = z.val) = true ∧ (zoneSt z s).linkLost = false) ∧
    (∃ (node : Fin 16) (t : Nat) (mine : List Cmd) (s : State), tblGet none s.gft.absentAt node = some t ∧ mine = s.fw.cmds.filter (fun c => decide (c.fwdTo = some node.val) && c.reply.isNone) ∧ ready s = true ∧ mine ≠ []) :=
  ⟨⟨0, 0, wOn, by decide +kernel⟩,
   ⟨1, 1, _, { wJoin with gft := { wJoin.gft with unacked := [wSend] } }, rfl, by decide +kernel, by decide +kernel, by decide +kernel⟩,
   ⟨1, 1, _, { wJoin with gft := { wJoin.gft with unacked := [{ wSend with tries := 3 }] } }, rfl, by decide +kernel, by decide +kernel, by decide +kernel⟩,
   ⟨wJoin.setB aGraftStat 17 true, by decide +kernel⟩,
   ⟨State.reset, by decide +kernel⟩,
   ⟨wJoin, by decide +kernel⟩,
   ⟨State.reset, by decide +kernel⟩,
   ⟨0, { (wJoin.setB aGraftStat 17 true).setB aRtcStat 31 false with gft := { wJoin.gft with timeAt := 7 } }, by decide +kernel⟩,
   ⟨0, wJoin.setB (aGraftShare 0) 0 true, by decide +kernel⟩,
   ⟨wJoin, by decide +kernel⟩,
   ⟨wJoin.setB aGraftStat 17 true, by decide +kernel⟩,
   ⟨State.reset, by decide +kernel⟩,
   ⟨0, setRound 0 { grRound0 with waiting := [1] } (wJoin.setB aGraftStat 17 true), by decide +kernel⟩,
   ⟨wJoin, by decide +kernel⟩,
   ⟨State.reset, by decide +kernel⟩,
   ⟨0, wJoin.setB (aGraftExp 0) 31 true, by decide +kernel⟩,
   ⟨0, State.reset, by decide +kernel⟩,
   ⟨0, ⟨0, 1⟩, { wJoin.setF (aRqPcfg 0) 29 3 4 with gft := { wJoin.gft with imports := [(0, some ⟨0, 1⟩)] } }, by decide +kernel⟩,
   ⟨0, wJoin, by decide +kernel⟩,
   ⟨0, _, 0, 0, 0, 0, _, wZone, by decide +kernel, by decide +kernel, by decide +kernel, rfl, by decide +kernel, rfl, by decide +kernel⟩,
   ⟨0, _, wZone, by decide +kernel, rfl, by decide +kernel, by decide +kernel⟩,
   ⟨2, 5, _, { wIn { wC [0] with fwdTo := some 2 } wRdy with gft := { gftReset with absentAt := [(2, some 5)] } }, by decide +kernel, rfl, by decide +kernel, by decide +kernel⟩⟩

/-- Every hypothesis of GroveCommands is met. -/
theorem wit_GroveCommands :
    (∃ (id : Nat) (c : Cmd) (s : State), CmdTurn id 0x0A01 c s) ∧
    (∃ (id : Nat) (c : Cmd) (s : State), CmdTurn id 0x0A02 c s ∧ Passes [(!onlyBits (mw c.words 1) 0xF, stBadArg), (!acting s, stNotFound), (decide (fld (mw c.words 1) 0 4 = myNode s), stRange)]) ∧
    (∃ (id : Nat) (c : Cmd) (s : State), CmdTurn id 0x0A03 c s ∧ Passes [(!onlyBits (mw c.words 1) 0x80000003, stBadArg), (!acting s, stNotFound)] ∧ bit (mw c.words 1) 31 = false) ∧
    (∃ (id : Nat) (c : Cmd) (t : State) (s : State), CmdTurn id 0x0A03 c s ∧ Passes [(!onlyBits (mw c.words 1) 0x80000003, stBadArg), (!acting s, stNotFound)] ∧ bit (mw c.words 1) 31 = true ∧ claimed graftRef s = false ∧ graftBad (aGraftShare (fld (mw c.words 1) 0 2)) (mw c.words 2) s = false ∧ t = s.setReg (aGraftShare (fld (mw c.words 1) 0 2)) (mw c.words 2)) ∧
    (∃ (id : Nat) (c : Cmd) (here : List Nat) (bad : Nat) (frames : Nat) (s : State), CmdTurn id 0x0A04 c s ∧ Passes [(!onlyBits (mw c.words 2) 0x1FFFF, stBadArg), (!acting s, stNotFound)] ∧ (((List.range 32).filter (fun k => bit (mw c.words 1) k)).map (mkRef 0x04)).find? (fun r => !ownerFree r s) = none ∧ here = ((List.range 16).filter (fun n => bit (mw c.words 2) n)).filter (fun n => nodePresent n s && decide (n ≠ myNode s)) ∧ bad = (((List.range 16).filter (fun n => bit (mw c.words 2) n)).filter (fun n => !decide (n ∈ here))).foldl (fun a n => a + 2 ^ n) 0 ∧ frames = 7 * ((List.range 32).filter (fun k => bit (mw c.words 1) k)).length + (if bit (mw c.words 2) 16 then 64 else 0) ∧ here ≠ [] ∧ frames ≠ 0) ∧
    (∃ (id : Nat) (c : Cmd) (e : Nat × List Word) (s : State), CmdEnding id 0x0A04 c e s) :=
  ⟨⟨1, wC [0x0A010000], wIn (wC [0x0A010000]) (wRdy), by decide +kernel⟩,
   ⟨1, wC [0x0A020040, 2], wIn (wC [0x0A020040, 2]) ((wJoin.setB aGraftStat 17 true)), by decide +kernel⟩,
   ⟨1, wC [0x0A030080, 0, 0], wIn (wC [0x0A030080, 0, 0]) ((wJoin.setB aGraftStat 17 true)), by decide +kernel⟩,
   ⟨1, wC [0x0A030080, 0x80000000, 4], _, wIn (wC [0x0A030080, 0x80000000, 4]) ((wJoin.setB aGraftStat 17 true)), by decide +kernel, by decide +kernel, by decide +kernel, by decide +kernel, by decide +kernel, rfl⟩,
   ⟨1, wC [0x0A040080, 1, 2], _, _, _, wIn (wC [0x0A040080, 1, 2]) (((wJoin.setB aGraftStat 17 true).setB aGraftNodes 1 true)), by decide +kernel, by decide +kernel, by decide +kernel, rfl, rfl, rfl, by decide +kernel, by decide +kernel⟩,
   ⟨1, ({ (wC [0x0A040080, 1, 2]) with started := true, ending := some (0, []) }), (0, []), wIn ({ (wC [0x0A040080, 1, 2]) with started := true, ending := some (0, []) }) wRdy, by decide +kernel⟩⟩

/-- Every hypothesis of SystemCommands is met. -/
theorem wit_SystemCommands :
    (∃ (id : Nat) (c : Cmd) (s : State), CmdTurn id 0x0107 c s ∧ fwOp c = 1 ∧ Passes [(!onlyBits (mw c.words 1) 0xFF000001, stBadArg), (decide (1 = 2) && decide ((mw c.words 2).toNat % 4 ≠ 0), stBadArg), (!domOn .bus s, stNoResource)] ∧ bootSrc s ≠ fwSlot c + 1 ∧ s.pwr.sfdp = true) ∧
    (∃ (id : Nat) (c : Cmd) (s : State), CmdTurn id 0x0107 c s ∧ fwOp c = 2 ∧ Passes [(!onlyBits (mw c.words 1) 0xFF000001, stBadArg), (decide (2 = 2) && decide ((mw c.words 2).toNat % 4 ≠ 0), stBadArg), (!domOn .bus s, stNoResource)] ∧ bootSrc s ≠ fwSlot c + 1 ∧ s.pwr.sfdp = true ∧ Passes [(decide (524288 < (mw c.words 2).toNat + 4 * (argWords c 3).length), stRange), ((List.range (argWords c 3).length).any (fun i => decide (slotImage (fwSlot c) ((mw c.words 2).toNat / 4 + i) s ≠ 0xFFFFFFFF)), stRange)]) ∧
    (∃ (id : Nat) (c : Cmd) (s : State), CmdTurn id 0x0107 c s ∧ fwOp c = 3 ∧ Passes [(!onlyBits (mw c.words 1) 0xFF000001, stBadArg), (decide (3 = 2) && decide ((mw c.words 2).toNat % 4 ≠ 0), stBadArg), (!domOn .bus s, stNoResource)] ∧ bootSrc s ≠ fwSlot c + 1 ∧ s.pwr.sfdp = true ∧ (!slotForm (fwSlot c) s || !Config.imageSigned (slotWords (fwSlot c) s)) = true) ∧
    (∃ (id : Nat) (c : Cmd) (s : State), CmdTurn id 0x0107 c s ∧ fwOp c = 3 ∧ Passes [(!onlyBits (mw c.words 1) 0xFF000001, stBadArg), (decide (3 = 2) && decide ((mw c.words 2).toNat % 4 ≠ 0), stBadArg), (!domOn .bus s, stNoResource)] ∧ bootSrc s ≠ fwSlot c + 1 ∧ s.pwr.sfdp = true) ∧
    (∃ (id : Nat) (c : Cmd) (s : State), CmdTurn id 0x0107 c s ∧ fwOp c = 4 ∧ Passes [(!onlyBits (mw c.words 1) 0xFF000001, stBadArg), (decide (4 = 2) && decide ((mw c.words 2).toNat % 4 ≠ 0), stBadArg), (!domOn .bus s, stNoResource)] ∧ s.pwr.sfdp = true ∧ bootSrc s = (fwSlot c) + 1 ∧ s.b aSysBootstat 29 = true) ∧
    (∃ (id : Nat) (c : Cmd) (s : State), CmdTurn id 0x0107 c s ∧ fwOp c = 5 ∧ Passes [(!onlyBits (mw c.words 1) 0xFF000001, stBadArg), (decide (5 = 2) && decide ((mw c.words 2).toNat % 4 ≠ 0), stBadArg), (!domOn .bus s, stNoResource)]) ∧
    (∃ (id : Nat) (c : Cmd) (e : Nat × List Word) (s : State), CmdEnding id 0x0107 c e s ∧ fwOp c = 1) ∧
    (∃ (id : Nat) (c : Cmd) (e : Nat × List Word) (s : State), CmdEnding id 0x0107 c e s ∧ fwOp c = 2) ∧
    (∃ (id : Nat) (c : Cmd) (e : Nat × List Word) (s : State), CmdEnding id 0x0107 c e s ∧ fwOp c = 3) ∧
    (∃ (id : Nat) (c : Cmd) (e : Nat × List Word) (s : State), CmdEnding id 0x0107 c e s ∧ fwOp c = 4) ∧
    (∃ (id : Nat) (c : Cmd) (e : Nat × List Word) (s : State), CmdEnding id 0x0107 c e s ∧ fwOp c = 5) ∧
    (∃ (id : Nat) (c : Cmd) (s : State), CmdTurn id 0x0101 c s) ∧
    (∃ (id : Nat) (c : Cmd) (s : State), CmdTurn id 0x0102 c s) ∧
    (∃ (id : Nat) (c : Cmd) (s : State), CmdTurn id 0x0104 c s ∧ Passes [(decide (refCheck (mw c.words 1) ≠ 0), refCheck (mw c.words 1))]) ∧
    (∃ (id : Nat) (c : Cmd) (x : Cmd) (s : State), CmdTurn id 0x0103 c s ∧ Passes [(!onlyBits (mw c.words 1) 0x3F, stBadArg)] ∧ inFlight (fld (mw c.words 1) 0 6) s = some x ∧ (x.secure = false ∨ c.secure = true) ∧ x.reply = none ∧ (cmdInfo (msgCode x.words)).map (·.1) = some .longAbortable) ∧
    (∃ (id : Nat) (c : Cmd) (s : State), CmdTurn id 0x0105 c s ∧ Passes [(!onlyBits (mw c.words 1) 3, stBadArg), (decide ((fld (mw c.words 1) 0 2) = 3), stBadArg)] ∧ s.fw.pendReset = none) ∧
    (∃ (id : Nat) (c : Cmd) (r : PendReset) (s : State), CmdTurn id 0x0105 c s ∧ Passes [(!onlyBits (mw c.words 1) 3, stBadArg), (decide ((fld (mw c.words 1) 0 2) = 3), stBadArg)] ∧ s.fw.pendReset = some r ∧ (fld (mw c.words 1) 0 2) ≤ r.scope) ∧
    (∃ (id : Nat) (c : Cmd) (s : State), CmdTurn id 0x0106 c s ∧ dumpOp c = 0 ∧ Passes [(!onlyBits (mw c.words 1) 0, stBadArg)]) ∧
    (∃ (id : Nat) (c : Cmd) (s : State), CmdTurn id 0x0106 c s ∧ dumpOp c = 1 ∧ Passes [(!onlyBits (mw c.words 1) 0xFF0003FF, stBadArg), (decide (686 < fld (mw c.words 1) 0 10), stBadArg), (s.fw.dump.isEmpty || s.fw.cmds.any collecting, stNotFound)]) ∧
    (∃ (id : Nat) (c : Cmd) (e : Nat × List Word) (s : State), CmdEnding id 0x0106 c e s ∧ dumpOp c = 0) ∧
    (∃ (id : Nat) (c : Cmd) (e : Nat × List Word) (s : State), CmdEnding id 0x0106 c e s ∧ dumpOp c = 1) :=
  ⟨⟨1, wC [0x01070040, 0x01000000], wIn (wC [0x01070040, 0x01000000]) (wFlash), by decide +kernel⟩,
   ⟨1, wC [0x010700C0, 0x02000000, 0, 5], wIn (wC [0x010700C0, 0x02000000, 0, 5]) (wFlash), by decide +kernel⟩,
   ⟨1, wC [0x01070040, 0x03000000], wIn (wC [0x01070040, 0x03000000]) (wFlash), by decide +kernel⟩,
   ⟨1, wC [0x01070040, 0x03000000], wIn (wC [0x01070040, 0x03000000]) (wFlash), by decide +kernel⟩,
   ⟨1, wC [0x01070040, 0x04000000], wIn (wC [0x01070040, 0x04000000]) ((wFlash.setB aSysBootstat 29 true).setF aSysBootstat 30 2 1), by decide +kernel⟩,
   ⟨1, wC [0x01070040, 0x05000000], wIn (wC [0x01070040, 0x05000000]) (wFlash), by decide +kernel⟩,
   ⟨1, ({ (wC [0x01070040, 0x01000000]) with started := true, ending := some (0, []) }), (0, []), wIn ({ (wC [0x01070040, 0x01000000]) with started := true, ending := some (0, []) }) wRdy, by decide +kernel⟩,
   ⟨1, ({ (wC [0x01070040, 0x02000000]) with started := true, ending := some (0, []) }), (0, []), wIn ({ (wC [0x01070040, 0x02000000]) with started := true, ending := some (0, []) }) wRdy, by decide +kernel⟩,
   ⟨1, ({ (wC [0x01070040, 0x03000000]) with started := true, ending := some (0, []) }), (0, []), wIn ({ (wC [0x01070040, 0x03000000]) with started := true, ending := some (0, []) }) wRdy, by decide +kernel⟩,
   ⟨1, ({ (wC [0x01070040, 0x04000000]) with started := true, ending := some (0, []) }), (0, []), wIn ({ (wC [0x01070040, 0x04000000]) with started := true, ending := some (0, []) }) wRdy, by decide +kernel⟩,
   ⟨1, ({ (wC [0x01070040, 0x05000000]) with started := true, ending := some (0, []) }), (0, []), wIn ({ (wC [0x01070040, 0x05000000]) with started := true, ending := some (0, []) }) wRdy, by decide +kernel⟩,
   ⟨1, wC [0x01010000], wIn (wC [0x01010000]) (wRdy), by decide +kernel⟩,
   ⟨1, wC [0x01020000], wIn (wC [0x01020000]) (wRdy), by decide +kernel⟩,
   ⟨1, wC [0x01040040, mkRef 6 0], wIn (wC [0x01040040, mkRef 6 0]) (wRdy), by decide +kernel⟩,
   ⟨1, wC [0x01030040, 2], { wC [0x07050840, mkRef 6 0] with id := 2, started := true }, { wRdy with fw := { fwReset with cmds := [wC [0x01030040, 2], { wC [0x07050840, mkRef 6 0] with id := 2, started := true }] } }, by decide +kernel⟩,
   ⟨1, wC [0x01050040, 1], wIn (wC [0x01050040, 1]) (wRdy), by decide +kernel⟩,
   ⟨1, wC [0x01050040, 1], _, wIn (wC [0x01050040, 1]) ({ wRdy with fw := { fwReset with pendReset := some ⟨2, 7, 0, none⟩ } }), by decide +kernel, by decide +kernel, rfl, by decide +kernel⟩,
   ⟨1, wC [0x01060040, 0], wIn (wC [0x01060040, 0]) (wRdy), by decide +kernel⟩,
   ⟨1, wC [0x01060040, 0x01000000], wIn (wC [0x01060040, 0x01000000]) ({ wRdy with fw := { fwReset with dump := [0, 1] } }), by decide +kernel⟩,
   ⟨1, ({ (wC [0x01060040, 0]) with started := true, ending := some (0, []) }), (0, []), wIn ({ (wC [0x01060040, 0]) with started := true, ending := some (0, []) }) wRdy, by decide +kernel⟩,
   ⟨1, ({ (wC [0x01060040, 0x01000000]) with started := true, ending := some (0, []) }), (0, []), wIn ({ (wC [0x01060040, 0x01000000]) with started := true, ending := some (0, []) }) wRdy, by decide +kernel⟩⟩

/-- Every hypothesis of FirmwareAndResetEvents is met. -/
theorem wit_FirmwareAndResetEvents :
    (∃ (ch : Fin 16) (s : State), ready s = true ∧ storeUsed s < 64 ∧ nextMessage s = some ch.val ∧ parityFails ch s = false) ∧
    (∃ (ch : Fin 16) (s : State), ready s = true ∧ storeUsed s < 64 ∧ nextMessage s = some ch.val ∧ parityFails ch s = true) ∧
    (∃ (s : State), ready s = true ∧ storeUsed s < 64 ∧ nextMessage s = none) ∧
    (∃ (s : State), (ready s = false ∨ 64 ≤ storeUsed s)) ∧
    (∃ (ch : Fin 16) (s : State), ready s = true) ∧
    (∃ (ch : Fin 16) (s : State), ¬ (ready s = true)) ∧
    (∃ (secure : Bool) (s : State), ready s = true ∧ epochPending secure s = true) ∧
    (∃ (secure : Bool) (s : State), ¬ (ready s = true ∧ epochPending secure s = true)) ∧
    (∃ (boot : BootPins) (s : State), s.pwr.held.isSome = false ∧ s.pwr.startDue = true ∧ s.b aSysPfstat 30 = false) ∧
    (∃ (boot : BootPins) (s : State), ¬ (s.pwr.held.isSome = false ∧ s.pwr.startDue = true ∧ s.b aSysPfstat 30 = false)) ∧
    (∃ (s : State), s.pwr.held.isSome = false) ∧
    (∃ (s : State), ¬ (s.pwr.held.isSome = false)) ∧
    (∃ (u : Nat) (s : State), s.pwr.held.isSome = false ∧ s.pwr.startDue = false ∧ s.pwr.crownAt = some u) ∧
    (∃ (u : Nat) (a : Nat) (b : Nat) (s : State), s.pwr.held.isSome = false ∧ s.pwr.startDue = false ∧ s.pwr.crownAt = none ∧ s.fw.pendReset = some ⟨0, a, b, some u⟩) ∧
    (∃ (s : State), s.pwr.held ≠ some .por) ∧
    (∃ (s : State), ¬ (s.pwr.held ≠ some .por)) ∧
    (∃ (safeSel : Fin 8) (ten : Bool) (s : State), s.pwr.held = some .por) ∧
    (∃ (safeSel : Fin 8) (ten : Bool) (s : State), ¬ (s.pwr.held = some .por)) ∧
    (∃ (s : State), s.pwr.held = none) ∧
    (∃ (s : State), s.pwr.held = some .pin) ∧
    (∃ (sc : Nat) (t : Nat) (a : Nat) (b : Nat) (s : State), s.pwr.held.isSome = false ∧ s.fw.pendReset = some ⟨sc, a, b, some t⟩ ∧ sc ≠ 0) ∧
    (∃ (r : SupplyReading) (u : State) (s : State), u = noteSupply r s ∧ u.pwr.held.isSome = false ∧ u.b aSysPfstat 30 = false ∧ warningOn r.pin r.vinMv u = true) ∧
    (∃ (r : SupplyReading) (u : State) (s : State), u = noteSupply r s ∧ (u.pwr.held.isSome = true ∨ u.b aSysPfstat 30 = true ∨ warningOn r.pin r.vinMv u = false)) ∧
    (∃ (t0 : Nat) (s : State), s.pwr.held.isSome = false ∧ s.b aSysPfstat 30 = true ∧ s.pwr.vinGood = some t0) ∧
    (∃ (s : State), (s.pwr.held.isSome = true ∨ s.b aSysPfstat 30 = false ∨ s.pwr.vinGood = none)) ∧
    (∃ (d : Fin 9) (t : Nat) (s : State), tblGet none s.pwr.upAt d.val = some t) ∧
    (∃ (failed : BitVec 5) (s : State), domOn .grr s = true ∧ s.grr.up = false) ∧
    (∃ (failed : BitVec 5) (s : State), ¬ (domOn .grr s = true ∧ s.grr.up = false)) :=
  ⟨⟨15, goSend 15 wRdy, by decide +kernel, by decide +kernel, by decide +kernel, by decide +kernel⟩,
   ⟨15, (let t := goSend 15 wRdy; { t with hp := { t.hp with badPar := [(0x100 + 128 * 15, true)] } }), by decide +kernel, by decide +kernel, by decide +kernel, by decide +kernel⟩,
   ⟨wRdy, by decide +kernel⟩,
   ⟨wOn, by decide +kernel⟩,
   ⟨0, wRdy, by decide +kernel⟩,
   ⟨0, State.reset, by decide +kernel⟩,
   ⟨true, wRdy.setB aHpStat (pendBit true) true, by decide +kernel⟩,
   ⟨true, wRdy, by decide +kernel⟩,
   ⟨wBoot0, { wOn with pwr := { wOn.pwr with startDue := true } }, by decide +kernel⟩,
   ⟨wBoot0, wPin, by decide +kernel⟩,
   ⟨wRdy, by decide +kernel⟩,
   ⟨wPin, by decide +kernel⟩,
   ⟨0, { wRdy with pwr := { pwrReset with crownAt := some 0, startDue := false } }, by decide +kernel, by decide +kernel, rfl⟩,
   ⟨5, 1, 0, { wRdy with pwr := { pwrReset with startDue := false }, fw := { fwReset with pendReset := some ⟨0, 1, 0, some 5⟩ } }, by decide +kernel, by decide +kernel, by decide +kernel, rfl⟩,
   ⟨wRdy, by decide +kernel⟩,
   ⟨wPor, by decide +kernel⟩,
   ⟨0, true, wPor, by decide +kernel⟩,
   ⟨0, true, wOn, by decide +kernel⟩,
   ⟨wRdy, by decide +kernel⟩,
   ⟨wPin, by decide +kernel⟩,
   ⟨1, 5, 1, 0, { wRdy with fw := { fwReset with pendReset := some ⟨1, 1, 0, some 5⟩ } }, by decide +kernel, rfl, by decide +kernel⟩,
   ⟨⟨true,0,⟨.ok, .ok, .ok⟩⟩, _, wWarn, rfl, by decide +kernel, by decide +kernel, by decide +kernel⟩,
   ⟨⟨true,0,⟨.ok, .ok, .ok⟩⟩, _, wPin, rfl, by decide +kernel⟩,
   ⟨5, (let t := wRdy.setB aSysPfstat 30 true; { t with pwr := { t.pwr with vinGood := some 5 } }), by decide +kernel, by decide +kernel, rfl⟩,
   ⟨wOn, by decide +kernel⟩,
   ⟨0, 5, { wRdy with pwr := { pwrReset with upAt := [(0, some 5)] } }, by decide +kernel⟩,
   ⟨0, wOn, by decide +kernel⟩,
   ⟨0, State.reset, by decide +kernel⟩⟩

/-- Every hypothesis of HostPortEvents is met. -/
theorem wit_HostPortEvents :
    (∃ (sec : Bool) (gap : Nat) (mosi : List Byte) (part : Bool) (s : State), frType mosi ≠ some 1 ∧ frType mosi ≠ some 2) ∧
    (∃ (sec : Bool) (gap : Nat) (mosi : List Byte) (part : Bool) (upsets : List Nat) (s : State), frType mosi ≠ some 0 ∧ frType mosi ≠ some 2) ∧
    (∃ (sec : Bool) (gap : Nat) (mosi : List Byte) (part : Bool) (upsets : List Nat) (hw : List (Nat × Word)) (s : State), frType mosi ≠ some 0 ∧ frType mosi ≠ some 1) ∧
    (∃ (s : State), s.pwr.held.isSome = false) ∧
    (∃ (s : State), ¬ (s.pwr.held.isSome = false)) ∧
    (∃ (ch : Fin 16) (s : State), s.pwr.held.isSome = false ∧ inFull ch s = false) ∧
    (∃ (ch : Fin 16) (s : State), ¬ (s.pwr.held.isSome = false ∧ inFull ch s = false)) ∧
    (∃ (ch : Fin 16) (s : State), s.pwr.held.isSome = false) ∧
    (∃ (ch : Fin 16) (s : State), ¬ (s.pwr.held.isSome = false)) ∧
    (∃ (ch : Fin 16) (s : State), s.pwr.held.isSome = false) ∧
    (∃ (ch : Fin 16) (s : State), ¬ (s.pwr.held.isSome = false)) ∧
    (∃ (_secure : Bool) (v : Half) (s : State), s.pwr.held.isSome = false) ∧
    (∃ (v : Half) (s : State), s.pwr.held.isSome = false) ∧
    (∃ (v : Half) (s : State), ¬ (s.pwr.held.isSome = false)) ∧
    (∃ (secure : Bool) (v : Word) (s : State), s.pwr.held.isSome = false) ∧
    (∃ (secure : Bool) (v : Word) (s : State), ¬ (s.pwr.held.isSome = false)) ∧
    (∃ (secure : Bool) (v : Word) (s : State), s.pwr.held.isSome = false) ∧
    (∃ (secure : Bool) (v : Word) (s : State), ¬ (s.pwr.held.isSome = false)) ∧
    (∃ (ch : Fin 16) (s : State), s.pwr.held = none ∧ inFull ch s = true ∧ tblGet 0 s.hp.goTmo ch ≠ 0) ∧
    (∃ (ch : Fin 16) (s : State), s.pwr.held = none ∧ outFull ch s = true ∧ tblGet 0 s.hp.postTmo ch ≠ 0) ∧
    (∃ (s : State), s.pwr.held = none ∧ s.f aHpHostwd 0 16 ≠ 0 ∧ s.b aHpStat 29 = false) :=
  ⟨⟨true, 100, [0,0,0,0], false, wRdy, by decide +kernel⟩,
   ⟨true, 100, [0x40, 0, 0, 0], false, [], wRdy, by decide +kernel⟩,
   ⟨true, 100, [0x80, 0, 0, 0], false, [], [], wRdy, by decide +kernel⟩,
   ⟨wRdy, by decide +kernel⟩,
   ⟨wPin, by decide +kernel⟩,
   ⟨0, wRdy, by decide +kernel⟩,
   ⟨0, wPin, by decide +kernel⟩,
   ⟨0, wRdy, by decide +kernel⟩,
   ⟨0, wPin, by decide +kernel⟩,
   ⟨0, wRdy, by decide +kernel⟩,
   ⟨0, wPin, by decide +kernel⟩,
   ⟨true, 0, wRdy, by decide +kernel⟩,
   ⟨0, wRdy, by decide +kernel⟩,
   ⟨0, wPin, by decide +kernel⟩,
   ⟨true, 0, wRdy, by decide +kernel⟩,
   ⟨true, 0, wPin, by decide +kernel⟩,
   ⟨true, 0, wRdy, by decide +kernel⟩,
   ⟨true, 0, wPin, by decide +kernel⟩,
   ⟨0, (let t := goSend 0 wRdy; { t with hp := { t.hp with goTmo := [(0, 5)] } }), by decide +kernel⟩,
   ⟨0, (let t := putStat (aHpOutStat 0) true false false false false wRdy; { t with hp := { t.hp with postTmo := [(0, 5)] } }), by decide +kernel⟩,
   ⟨wRdy.setF aHpHostwd 0 16 5, by decide +kernel⟩⟩

/-- Every hypothesis of StepRunsFrontCommand is met. -/
theorem wit_StepRunsFrontCommand : ∃ (c : Instr) (q : List Instr) (s : State), s.pending = c :: q := ⟨.sysInfo 1, [.sysInfo 2], { wRdy with pending := [.sysInfo 1, .sysInfo 2] }, rfl⟩

/-- Every hypothesis of StepOnEmptyQueueTicks is met. -/
theorem wit_StepOnEmptyQueueTicks : ∃ s : State, s.pending = [] := ⟨wRdy, rfl⟩

/-- Every hypothesis of CommandLeavesQueueAndTimeForward is met. -/
theorem wit_CommandLeavesQueueAndTimeForward :
    (∃ (c : Instr) (s t : State), Runs c s t) ∧ (∃ s t : State, step s = .next t) :=
  ⟨⟨.agedSweep, State.reset, _, rfl⟩, ⟨State.reset, _, rfl⟩⟩

/-- Every hypothesis of EveryStepKeepsRegistersCanonical is met. -/
theorem wit_EveryStepKeepsRegistersCanonical : ∃ s t : State, s.Canonical ∧ step s = .next t := ⟨wRdy, _, by unfold State.Canonical; decide +kernel, rfl⟩

/-- Every hypothesis of EveryRunIsSafe is met. -/
theorem wit_EveryRunIsSafe : ∃ s : State, s.Canonical := ⟨wRdy, by unfold State.Canonical; decide +kernel⟩

/-- Every hypothesis of RegisterAndFieldReadBack is met. -/
theorem wit_RegisterAndFieldReadBack : (∃ a b : Nat, b ≠ a) ∧ (∃ lo n : Nat, lo + n ≤ 32 ∧ ∃ i, (i < lo ∨ lo + n ≤ i) ∧ ∃ a b : Nat, b ≠ a) := ⟨⟨0, 1, by decide⟩, ⟨0, 31, by decide, 31, by decide, 0, 1, by decide⟩⟩

/-- Every hypothesis of EventCounterSaturates is met. -/
theorem wit_EventCounterSaturates : ∃ (s : State) (a b lo n : Nat), lo + n ≤ 32 ∧ s.f a lo n = 2 ^ n - 1 ∧ b ≠ a := ⟨State.reset.setReg 4 0xFFFF, 4, 0, 0, 16, by decide +kernel⟩

/-- Every hypothesis of EachCommandLeavesOtherParts is met. -/
theorem wit_EachCommandLeavesOtherParts : ∃ (c : Instr) (s t : State) (p : Part), Runs c s t ∧ p ∉ changes c := ⟨.agedSweep, State.reset, _, .heart, rfl, by decide⟩

/-- Every hypothesis of OnlyTheseCommandsChangeHostPort is met. -/
theorem wit_OnlyTheseCommandsChangeHostPort : ∃ (c : Instr) (s t : State), Runs c s t := ⟨.agedSweep, State.reset, _, rfl⟩

/-- Every hypothesis of ReadingCommandsLeaveTheBlock is met. -/
theorem wit_ReadingCommandsLeaveTheBlock : ∃ (id : Nat) (c : Instr) (s t : State), c = .sysInfo id ∧ Runs c s t := ⟨1, _, wIn (wC [0x01010000]) wRdy, _, rfl, rfl⟩

/-- Every hypothesis of CommandsRejectBadBinary32 is met. -/
theorem wit_CommandsRejectBadBinary32 :
    (∃ (id : Nat) (c : Cmd) (s : State), CmdTurn id 0x0302 c s ∧ f32Ok (mw c.words 2) = false) ∧
    (∃ (id : Nat) (c : Cmd) (s : State), CmdTurn id 0x0402 c s ∧ (∃ v ∈ argWords c 3, f32Ok v = false)) ∧
    (∃ (id : Nat) (c : Cmd) (s : State), CmdTurn id 0x0404 c s ∧ (f32Ok (mw c.words 3) = false ∨ f32Ok (mw c.words 4) = false ∨ f32Ok (mw c.words 5) = false)) ∧
    (∃ (id : Nat) (c : Cmd) (s : State), CmdTurn id 0x0502 c s ∧ f32Ok (mw c.words 2) = false) ∧
    (∃ (id : Nat) (c : Cmd) (s : State), CmdTurn id 0x0702 c s ∧ f32Ok (mw c.words 3) = false) ∧
    (∃ (id : Nat) (c : Cmd) (s : State), CmdTurn id 0x0802 c s ∧ f32Ok (mw c.words 3) = false) :=
  ⟨⟨1, wC [0x03020080, mkRef 1 0, 0x7F800000], wIn (wC [0x03020080, mkRef 1 0, 0x7F800000]) wRdy, by decide +kernel, by decide +kernel⟩,
   ⟨1, wC [0x040200C0, mkRef 2 0, 1, 0x7FC00000], wIn (wC [0x040200C0, mkRef 2 0, 1, 0x7FC00000]) wRdy, by decide +kernel, ⟨0x7FC00000, by decide +kernel, by decide +kernel⟩⟩,
   ⟨1, wC [0x04040180, mkRef 2 0, 0, 1, 0, 0, 3600], wIn (wC [0x04040180, mkRef 2 0, 0, 1, 0, 0, 3600]) wRdy, by decide +kernel, by decide +kernel⟩,
   ⟨1, wC [0x05020100, mkRef 3 0, 0x00000001, 0], wIn (wC [0x05020100, mkRef 3 0, 0x00000001, 0]) wRdy, by decide +kernel, by decide +kernel⟩,
   ⟨1, wC [0x07020100, mkRef 6 0, 0, 0x7F800000, 0], wIn (wC [0x07020100, mkRef 6 0, 0, 0x7F800000, 0]) wRdy, by decide +kernel, by decide +kernel⟩,
   ⟨1, wC [0x08020100, mkRef 7 0, 0, 0x7F800000, 0], wIn (wC [0x08020100, mkRef 7 0, 0, 0x7F800000, 0]) wRdy, by decide +kernel, by decide +kernel⟩⟩

/-- Every hypothesis of RouterDiscardsBadHeader is met. -/
theorem wit_RouterDiscardsBadHeader :
    (∃ (hdr : Flit) (s : State), hfld hdr 54 2 = 3 ∧ s.b aSysSferr 31 = true) ∧
    (∃ (hdr : Flit) (s : State), 32 < hfld hdr 42 6 ∧ s.b aSysSferr 31 = false) ∧
    (∃ (hdr : Flit) (s : State), islandOk (hfld hdr 60 4) = false ∧ s.b aSysSferr 31 = false) :=
  ⟨⟨BitVec.ofNat 64 (3 * 2 ^ 54), wOn.setB aSysSferr 31 true, by decide +kernel⟩,
   ⟨BitVec.ofNat 64 (33 * 2 ^ 42), wOn, by decide +kernel⟩, ⟨BitVec.ofNat 64 (15 * 2 ^ 60), wOn, by decide +kernel⟩⟩

/-- Every hypothesis of ErrorLogHiddenFromHcs is met. -/
theorem wit_ErrorLogHiddenFromHcs : (∃ s : State, s.b aHpErrlog 27 = true) ∧ (∃ s : State, s.b aHpErrlog 27 = false) := ⟨⟨wOn.setB aHpErrlog 27 true, by decide +kernel⟩, ⟨wOn, by decide +kernel⟩⟩

/-- Every hypothesis of AbortWithdrawsMessage is met. -/
theorem wit_AbortWithdrawsMessage :
    (∃ (ch : Fin 16) (s : State), s.pwr.held.isSome = false ∧ s.b (aHpInStat ch) 0 = false) ∧
    (∃ (ch : Fin 16) (s : State), s.pwr.held.isSome = false ∧ s.b (aHpInStat ch) 0 = true) :=
  ⟨⟨15, wRdy, by decide +kernel⟩, ⟨15, goSend 15 wRdy, by decide +kernel⟩⟩

/-- Every hypothesis of ReferencesAreChecked is met. -/
theorem wit_ReferencesAreChecked :
    (∃ r : Word, fld r 16 8 ≠ 0) ∧ (∃ r : Word, fld r 24 8 = 0xFF) ∧ (∃ r : Word, fld r 16 8 = 0 ∧ fld r 24 8 = 0x05 ∧ fld r 0 16 = 1) ∧
    (∃ r : Word, fld r 16 8 = 0 ∧ fld r 24 8 = 0x1F ∧ fld r 0 16 = 0x0A8) ∧ (∃ (id : Nat) (c : Cmd) (s : State), CmdTurn id 0x0104 c s) :=
  ⟨⟨0x00010000, by decide +kernel⟩, ⟨0xFF000000, by decide +kernel⟩, ⟨0x05000001, by decide +kernel⟩, ⟨0x1F0000A8, by decide +kernel⟩,
   ⟨1, wC [0x01040040, 0], wIn (wC [0x01040040, 0]) wRdy, by decide +kernel⟩⟩

/-- Every hypothesis of ClockIsWrittenOnlyWhileHalted is met. -/
theorem wit_ClockIsWrittenOnlyWhileHalted :
    (∃ (k : Fin 9) (s : State), s.rtc.held = false ∧ k ≠ 3 ∧ k ≠ 8 ∧ s.b aRtcCtl 31 = false) ∧
    (∃ (k : Fin 9) (v : Word) (s : State), s.rtc.held = false ∧ k ≠ 3 ∧ k ≠ 8 ∧ s.b aRtcCtl 31 = true ∧
      timeFieldOk k (fld v 0 (timeFieldBits k)) = true) ∧ (∃ k : Fin 9, k = 3 ∨ k = 8) ∧ (∃ s : State, s.b aRtcCtl 31 = true) :=
  ⟨⟨7, wOn.setB aRtcCtl 31 false, by decide +kernel⟩, ⟨7, 0x21, wHalt, by decide +kernel⟩, ⟨8, by decide⟩, ⟨wHalt, by decide +kernel⟩⟩

/-- Every hypothesis of PartitionsAreFirstInFirstOut is met. -/
theorem wit_PartitionsAreFirstInFirstOut :
    (∃ (p : Fin 3) (s : State), partCap p ≤ (partOf p s).length) ∧ (∃ (p : Fin 3) (s : State), (partOf p s).length < partCap p) ∧
    (∃ (p : Fin 3) (e : PartEntry) (l : List PartEntry) (s : State), partOf p s = e :: l) ∧ (∃ p q : Fin 3, q ≠ p) ∧ (∃ n : Nat, n < 256) :=
  ⟨⟨2, setPart 2 (List.replicate 256 ⟨0, 0, 0⟩) wOn, by decide +kernel⟩, ⟨2, setPart 2 (List.replicate 255 ⟨0, 0, 0⟩) wOn, by decide +kernel⟩,
   ⟨2, ⟨0, 0, 0⟩, [], setPart 2 [⟨0, 0, 0⟩] wOn, rfl⟩, ⟨0, 2, by decide⟩, ⟨255, by decide⟩⟩

/-! ### Ill-formed operands, one for each check of Instr.wf -/

theorem test_wf_no_operand : Instr.wf .bothcs = true := by decide
theorem test_wf_register_write : Instr.wf (.registerWrite true 0x1FFFFC 0 0) = true := by decide
theorem test_illformed_packet : Instr.wf (.routerReceive 0 (List.replicate 64 0)) = false := by decide
theorem test_illformed_register_address : Instr.wf (.registerWrite true 0x200000 0 0) = false := by decide
theorem test_illformed_register_alignment : Instr.wf (.registerWrite true 0x020002 0 0) = false := by decide
theorem test_illformed_status_frame : Instr.wf (.statusFrame true 0 (List.replicate 134 0) false) = false := by decide +kernel
theorem test_illformed_read_frame : Instr.wf (.readFrame true 0 (List.replicate 134 0) ⟨false, []⟩) = false := by decide +kernel
theorem test_illformed_read_upset : Instr.wf (.readFrame true 0 [] ⟨false, [0x1100]⟩) = false := by decide
theorem test_illformed_read_upset_alignment : Instr.wf (.readFrame true 0 [] ⟨false, [0x102]⟩) = false := by decide
theorem test_illformed_write_frame : Instr.wf (.writeFrame true 0 (List.replicate 134 0) ⟨false, [], []⟩) = false := by decide +kernel
theorem test_illformed_write_flag : Instr.wf (.writeFrame true 0 [] ⟨false, [], [(0x1100, 0)]⟩) = false := by decide
theorem test_illformed_write_upset : Instr.wf (.writeFrame true 0 [] ⟨false, [0x1100], []⟩) = false := by decide
theorem test_illformed_report_current : Instr.wf (.driveReport 0 [32768]) = false := by decide
theorem test_illformed_stall_current : Instr.wf (.stall 0 [-32769]) = false := by decide
theorem test_illformed_cycle_channel : Instr.wf (.schedulerCycle ⟨0, [(48, 0)]⟩) = false := by decide
theorem test_illformed_cycle_current : Instr.wf (.schedulerCycle ⟨0, [(0, 32768)]⟩) = false := by decide
theorem test_illformed_cycle_negative : Instr.wf (.schedulerCycle ⟨0, [(0, -32769)]⟩) = false := by decide
theorem test_illformed_pir_output : Instr.wf (.pirExcursion 0 5001 0) = false := by decide
theorem test_illformed_pir_source : Instr.wf (.pirExcursion 0 0 5001) = false := by decide
theorem test_illformed_display : Instr.wf (.display 0 0 (List.replicate 17 0)) = false := by decide
theorem test_illformed_mstp : Instr.wf (.mstpFrameReceive 0 ⟨0, ⟨List.replicate 513 0, 0, 0⟩⟩) = false := by decide +kernel
theorem test_illformed_read_multiple : Instr.wf (.readPropertyMultiple ⟨0, 1, 1⟩ []) = false := by decide
theorem test_illformed_write_multiple : Instr.wf (.writePropertyMultiple ⟨0, 1, 1⟩ []) = false := by decide
theorem test_illformed_who_has : Instr.wf (.whoHas none 8 4194304) = false := by decide
theorem test_illformed_comm_password :
    Instr.wf (.deviceCommunicationControl ⟨0, 1, 1⟩ .enable 0 (List.replicate 21 0)) = false := by decide
theorem test_illformed_reinit_password :
    Instr.wf (.reinitializeDevice ⟨0, 1, 1⟩ true (List.replicate 21 0)) = false := by decide
theorem test_illformed_bank_word : Instr.wf (.bankFailure 0 [12287, 12288]) = false := by decide
theorem test_illformed_supply : Instr.wf (.powerPathSwitch 6001) = false := by decide
theorem test_illformed_backup_supply : Instr.wf (.vblowSample 4001) = false := by decide
theorem test_illformed_boot_supply : Instr.wf (.startUp ⟨0, 0, 6001, 16, true, true⟩) = false := by decide
theorem test_illformed_boot_flash_small : Instr.wf (.startUp ⟨0, 0, 5000, 15, true, true⟩) = false := by decide
theorem test_illformed_boot_flash_large : Instr.wf (.startUp ⟨0, 0, 5000, 1025, true, true⟩) = false := by decide
theorem test_wf_boot_no_flash : Instr.wf (.startUp ⟨0, 0, 5000, 0, false, true⟩) = true := by decide
theorem test_illformed_thermal : Instr.wf (.thermalSample (List.replicate 8 none)) = false := by decide
theorem test_illformed_hold : Instr.wf (.shutdownHoldEnd (List.replicate 10 none)) = false := by decide
theorem test_illformed_safety_fault : Instr.wf (.safetyInputFault 0 2501) = false := by decide
theorem test_illformed_safety_end : Instr.wf (.safetyFaultEnd 0 2501) = false := by decide

/-- The rows that carry a Modbus frame, each with a frame of 257 bytes. -/
theorem test_illformed_modbus :
    ([.modbusFunction01 0, .modbusFunction02 0, .modbusFunction03 0, .modbusFunction04 0, .modbusFunction05 0,
      .modbusFunction06 0, .modbusFunction15 0, .modbusFunction16 0, .modbusMasterReply 0, .modbusOtherFunction 0].all
      (fun (c : SerialFrame → Instr) => !Instr.wf (c ⟨List.replicate 257 0, 0, 0⟩))) = true := by decide +kernel

/-- The rows that carry a Graft frame, each with a frame of 269 bytes. -/
theorem test_illformed_graft :
    ([.graftFrameForward 0, .hello 0, .time 0, .allot 0, .demand 0, .takeback 0, .mbox 0, .mboxReply 0, .ack 0,
      .abortFrame 0, .reset 0, .sched 0, .cal 0, .point 0, .zone 0].all
      (fun (c : List Byte → Instr) => !Instr.wf (c (List.replicate 269 0)))) = true := by decide +kernel

/-! ### The worked examples of the spec -/

/-- 02, worked example after R49: the CRC over a read of HP_ID. -/
theorem test_crc_of_id_read : crc8Host [0x60, 0x00, 0x00, 0x00, 0x96, 0x48, 0x01, 0x02] = 0x5C := by decide +kernel

/-- 02, worked example after R49: what the part shifts out after HSTAT when HP_ID is read with CRC. -/
theorem test_read_of_id :
    (frame true 100 [0x60, 0, 0, 0, 0, 0, 0, 0, 0] false wRdy).hp.hmiso.drop 1 =
      [0, 0, 0, 0x96, 0x48, 0x01, 0x02, 0x5C] := by decide +kernel

/-- 06, worked example: the CRC-8 of a sensor's group. -/
theorem test_crc_of_sensor : crc8Sensor [0x66, 0x4C] = 0xCE := by decide +kernel

/-- 06, worked example: a failing group is refused whole. -/
theorem test_bad_sensor_crc : crcGroups [0x66, 0x4C, 0xCF] = none := by decide +kernel

/-- 05, worked example: the payload of a converter's result. -/
theorem test_result_payload : mkResult 0 5 3 41 0x800000 0 0x1C5 = 0x01465300000001C5#64 := by decide +kernel

/-- 12, worked example: 24.006 as binary32. -/
theorem test_binary32_of_point : f32OfRat (mkRat 24006 1000) = 0x41C00C4A#32 := by decide +kernel

/-- 13, worked example: the first allotments. -/
theorem test_allotments_first :
    allotments 3000 0 [(2, ⟨0, 300, 0, 1200, 0⟩), (3, ⟨0, 300, 0, 200, 0⟩), (4, ⟨0, 300, 0, 400, 0⟩)] =
      [(2, 1600), (3, 600), (4, 800)] := by decide +kernel

/-- 13, worked example: the allotments after node 3 asks for more. -/
theorem test_allotments_second :
    allotments 3000 0 [(2, ⟨0, 300, 0, 1200, 0⟩), (3, ⟨0, 300, 0, 900, 0⟩), (4, ⟨0, 300, 0, 400, 0⟩)] =
      [(2, 1308), (3, 1056), (4, 636)] := by decide +kernel

/-- GRADB = 4 K (18, worked example; 0.25 K units). -/
def tGrad : State := wOn.setF aThermCfg 8 8 16

/-- 18, worked example: 118, 131, 117 and 119 degrees, in units of 0.125 K. -/
def tBark : List (Option Int) := [none, none, none, none, some 944, some 1048, some 936, some 952, none]

/-- 18, worked example: of the four Bark sensors only TS5 is excluded. -/
theorem test_excluded_sensor : [4, 5, 6, 7].map (fun k => caseApplies tBark k tGrad) = [false, true, false, false] := by
  decide +kernel

/-- 18, worked example: 119 degrees is warning level, not throttle. -/
theorem test_bark_level : levelOf tBark 1 (judgeSensors tBark tGrad) = 1 := by decide +kernel

/-- 07, worked example: the slot of the heated zone, its saturation with 40 percent of feed-forward. -/
def tHeat : State :=
  ((((((((wOn.setReg (aCambPeriod 3) 40000).setReg (aCambKp 3) 0x41000000).setReg (aCambTi 3) 0x44160000).setReg (aCambDb 3) 0x3DCCCCCD).setReg
    (aCambOutmax 3) 0x42C80000).setReg (aCambInt 3) 0x42820000).setReg (aCambKff 3) 0x3F800000).setReg (aCambSrcff 3) 0x20000000).setReg (aCambOut 3) 0x42C80000

/-- 21.3 degrees against 21.0, feed-forward 40 percent. -/
def tReads : Reads := ⟨0x41AA6666, 0x41A80000, 0x42200000⟩

/-- 07, worked example: basic anti-windup freezes the integrator at 65 percent and the output at 100 percent. -/
theorem test_basic_antiwindup :
    (lawAuto 3 tReads (lawTerms 3 0x41AA6666 tReads tHeat) tHeat).map (fun o => (o.u, o.i, o.hi)) =
      some (0x42C80000#32, 0x42820000#32, true) := by decide +kernel

/-! ### Check values of the CRCs that the spec names by a standard -/

/-- The nine characters 1 to 9. -/
def tDigits : List Byte := [0x31, 0x32, 0x33, 0x34, 0x35, 0x36, 0x37, 0x38, 0x39]

theorem test_crc_ccitt : crc16Ccitt tDigits = 0x29B1 := by decide +kernel
theorem test_crc_modbus : crc16Modbus tDigits = 0x4B37 := by decide +kernel
theorem test_crc_32c : crc32c tDigits = 0xE3069283 := by decide +kernel
theorem test_crc_32 : crc32Graft tDigits = 0xCBF43926 := by decide +kernel

/-! ### Small steps -/

/-- R56, R57: GO fills the inbound channel. -/
theorem test_go_fills : inFull 5 (goSend 5 wRdy) = true := by decide +kernel

/-- R61: ABORT empties it. -/
theorem test_abort_empties : inFull 5 (abortSend 5 (goSend 5 wRdy)) = false := by decide +kernel

/-- R7: an event counter of 8 bits stops at 255. -/
theorem test_counter_stops : ((wOn.setF aThermCnt 8 8 255).bump aThermCnt 8 8).f aThermCnt 8 8 = 255 := by decide +kernel

/-- On an empty queue model time moves on by one tick. -/
theorem test_tick_idle : step State.reset = .next { State.reset with now := State.reset.now + 1 } := rfl

/-- The first command in, the first command out. -/
theorem test_first_in_first_out :
    step { State.reset with pending := [.bothcs, .go 0] } = exec .bothcs { State.reset with pending := [.go 0] } := rfl

end Sys2Proof.Tests
end

section
/-! PROOFS. The laws of registers, fields and counters (R3, R7, R34), the values at reset (R5), and the commands that carry a
binary32 value (R2). -/

namespace Sys2Proof.Machine

open Sys2Proof

/-! ### Fields and counters of a register -/

/-- The bits of the register outside a field that was set. -/
theorem State.b_setF_other (s : State) (a lo n v i : Nat) (h : i < lo ∨ lo + n ≤ i) : (s.setF a lo n v).b a i = s.b a i := by
  unfold State.b
  rw [State.reg_setF, bit_setFld_other _ _ _ _ _ h]

/-- R7: a saturated sum is within the counter's width. -/
theorem satAdd_lt (n v k : Nat) : satAdd n v k < 2 ^ n := by
  have := Nat.two_pow_pos n
  unfold satAdd
  omega

/-- Counting is setting the counter's field. -/
theorem State.bump_eq_setF (s : State) (a lo n : Nat) : s.bump a lo n = s.setF a lo n (satAdd n (s.f a lo n) 1) := rfl

/-- A counter of a register, counted up by one. -/
theorem State.f_bump (s : State) (a lo n : Nat) (h : lo + n ≤ 32) :
    (s.bump a lo n).f a lo n = min (s.f a lo n + 1) (2 ^ n - 1) := by
  rw [State.bump_eq_setF, State.f_setF _ _ _ _ _ h, Nat.mod_eq_of_lt (satAdd_lt _ _ _), satAdd]

/-- The bits of the register outside a counter that was counted up. -/
theorem State.b_bump_other (s : State) (a lo n i : Nat) (h : i < lo ∨ lo + n ≤ i) : (s.bump a lo n).b a i = s.b a i := by
  rw [State.bump_eq_setF, State.b_setF_other _ _ _ _ _ _ h]

/-- Settles O49, from the laws of the register table and of bit fields. -/
theorem registerAndFieldReadBack : Obligations.RegisterAndFieldReadBack :=
  ⟨fun s a b v => ⟨s.reg_setReg a v, s.reg_setReg_other a b v⟩,
   fun s a b lo n v h => ⟨s.f_setF a lo n v h, s.b_setF_other a lo n v, s.reg_setF_other a b lo n v⟩⟩

/-- Settles O50, from the law of the saturating counter field. -/
theorem eventCounterSaturates : Obligations.EventCounterSaturates :=
  fun s a b lo n h => ⟨s.f_bump a lo n h, s.b_bump_other a lo n, s.reg_bump_other a b lo n⟩

/-- R5: at reset no register is listed, so each reads the reset value of its description. -/
theorem State.reg_reset (a : Nat) : State.reset.reg a = regReset a := rfl

/-- Settles O48, by looking up the reset value of each of the twenty registers. -/
theorem registersAtReset : Obligations.RegistersAtReset := by
  unfold Obligations.RegistersAtReset
  simp only [State.reg_reset]
  decide +kernel

/-! ### Commands that carry a binary32 value -/

/-- R2: the values that fail the test have all exponent bits set (NaN and infinity), or none and a fraction (subnormal). -/
theorem f32Ok_eq_false_iff (v : F32) : f32Ok v = false ↔ fld v 23 8 = 255 ∨ (fld v 23 8 = 0 ∧ fld v 0 23 ≠ 0) := by
  simp only [f32Ok, f32Fin, fld, Bool.and_eq_false_iff, Bool.or_eq_false_iff, decide_eq_false_iff_not]
  omega

/-- R91: where the checks of `l` all answer `e` and one of them fails, `e` is the status, whatever stands after them. -/
theorem firstFail_append_of_mem {e : Nat} {l rest : List (Bool × Nat)} (hl : ∀ p ∈ l, p.2 = e) (hf : ∃ p ∈ l, p.1 = true) :
    firstFail (l ++ rest) = some e := by
  induction l with
  | nil => simp at hf
  | cons p l ih =>
    obtain ⟨b, x⟩ := p
    obtain rfl : x = e := hl (b, x) (by simp)
    cases b with
    | true => rfl
    | false => exact ih (fun p hp => hl p (by simp [hp])) (by simpa using hf)

/-- R91: a command in its turn whose first checks all answer BAD_ARG, one of which fails, is answered BAD_ARG and leaves the
state. -/
theorem runCmd_badArg {id code : Nat} {c : Cmd} {s : State} {body : Cmd → State → Reply × State} {run : Reply × State}
    (l rest : List (Bool × Nat)) (h : CmdTurn id code c s) (hb : body c s = checked (l ++ rest) s run)
    (hl : ∀ p ∈ l, p.2 = stBadArg) (hf : ∃ p ∈ l, p.1 = true) : runCmd id code body s = settle id (.st stBadArg) s := by
  rw [runCmd_turn h, hb, checked_fail (firstFail_append_of_mem hl hf)]

/-- R2: POINT.WRITE checks its value first. -/
theorem pointWrite_badFloat {id : Nat} {c : Cmd} {s : State} (h : CmdTurn id 0x0302 c s) (hv : f32Ok (mw c.words 2) = false) :
    Runs (.pointWrite id) s (settle id (.st stBadArg) s) :=
  congrArg Host.Outcome.next (runCmd_badArg [(!f32Ok (mw c.words 2), stBadArg)]
    (refFails 1 (mw c.words 1) ++ [(!domOn .rta s, stNoResource)]) h rfl (by simp) (by simp [hv]))

/-- R2: LOOP.SET checks every value that it carries after its mask. -/
theorem loopSet_badFloat {id : Nat} {c : Cmd} {s : State} (h : CmdTurn id 0x0402 c s) (hv : ∃ v ∈ argWords c 3, f32Ok v = false) :
    Runs (.loopSet id) s (settle id (.st stBadArg) s) :=
  congrArg Host.Outcome.next (runCmd_badArg [(decide (fld (mw c.words 2) 13 19 ≠ 0) || decide (mw c.words 2 = 0), stBadArg),
      (!(argWords c 3).all f32Ok, stBadArg)]
    (refFails 2 (mw c.words 1) ++ [(!domOn .cmb s, stNoResource)]) h rfl (by simp) ⟨_, .tail _ (.head _), by simpa using hv⟩)

/-- R2: LOOP.TUNE checks its step, its hysteresis and its band after its reserved bits. -/
theorem loopTune_badFloat {id : Nat} {c : Cmd} {s : State} (h : CmdTurn id 0x0404 c s)
    (hv : f32Ok (mw c.words 3) = false ∨ f32Ok (mw c.words 4) = false ∨ f32Ok (mw c.words 5) = false) :
    Runs (.loopTune id) s (settle id (.st stBadArg) s) :=
  congrArg Host.Outcome.next (runCmd_badArg [(!onlyBits (mw c.words 2) 7, stBadArg),
      (!([mw c.words 3, mw c.words 4, mw c.words 5].all f32Ok), stBadArg)]
    ([(decide (tmaxOf (mw c.words 6) < 60) || decide (86400 < tmaxOf (mw c.words 6)), stBadArg)]
      ++ refFails 2 (mw c.words 1) ++ [(!domOn .cmb s, stNoResource)])
    h rfl (by simp) ⟨_, .tail _ (.head _), by simpa [imp_iff_not_or] using hv⟩)

/-- R2: ZONE.SETPOINT checks its value first. -/
theorem zoneSetpoint_badFloat {id : Nat} {c : Cmd} {s : State} (h : CmdTurn id 0x0502 c s) (hv : f32Ok (mw c.words 2) = false) :
    Runs (.zoneSetpoint id) s (settle id (.st stBadArg) s) :=
  congrArg Host.Outcome.next (runCmd_badArg [(!f32Ok (mw c.words 2), stBadArg)] (refFails 3 (mw c.words 1)) h rfl (by simp) (by simp [hv]))

/-- R2: DRIVE.COMMAND checks its value after its reserved bits. -/
theorem driveCommand_badFloat {id : Nat} {c : Cmd} {s : State} (h : CmdTurn id 0x0702 c s) (hv : f32Ok (mw c.words 3) = false) :
    Runs (.driveCommand id) s (settle id (.st stBadArg) s) :=
  congrArg Host.Outcome.next (runCmd_badArg [(!onlyBits (mw c.words 2) 1, stBadArg), (!f32Ok (mw c.words 3), stBadArg)]
    (refFails 6 (mw c.words 1)) h rfl (by simp) (by simp [hv]))

/-- R2: FAN.COMMAND checks its value after its reserved bits. -/
theorem fanCommand_badFloat {id : Nat} {c : Cmd} {s : State} (h : CmdTurn id 0x0802 c s) (hv : f32Ok (mw c.words 3) = false) :
    Runs (.fanCommand id) s (settle id (.st stBadArg) s) :=
  congrArg Host.Outcome.next (runCmd_badArg [(!onlyBits (mw c.words 2) 1, stBadArg), (!f32Ok (mw c.words 3), stBadArg)]
    (refFails 7 (mw c.words 1) ++ [(!domOn .brk s, stNoResource)]) h rfl (by simp) (by simp [hv]))

/-- Settles O54: the values that fail the test, and the BAD_ARG that each of the six commands answers them with. -/
theorem commandsRejectBadBinary32 : Obligations.CommandsRejectBadBinary32 :=
  ⟨f32Ok_eq_false_iff, fun _ _ _ => pointWrite_badFloat, fun _ _ _ => loopSet_badFloat, fun _ _ _ => loopTune_badFloat,
   fun _ _ _ => zoneSetpoint_badFloat, fun _ _ _ => driveCommand_badFloat, fun _ _ _ => fanCommand_badFloat⟩

end Sys2Proof.Machine
end

section
/-! PROOFS. The events of the clock, of Sapflow and of the host port: what a row does is the branch of its meaning that its
condition chooses. -/

namespace Sys2Proof.Machine

open Sys2Proof

/-! ### Rows that choose a branch -/

/-- A command whose meaning is `u` answers any state that `u` equals. -/
theorem Runs.of_exec {c : Instr} {s t u : State} (he : exec c s = .next u) (hu : u = t) : Runs c s t := by
  rw [Runs, he, hu]

/-- A row whose condition holds does its first branch. -/
theorem Runs.of_pos {c : Instr} {s t u : State} {p : Prop} [Decidable p] (he : exec c s = .next (if p then t else u)) (hp : p) :
    Runs c s t := Runs.of_exec he (if_pos hp)

/-- A row whose condition fails does its second branch. -/
theorem Runs.of_neg {c : Instr} {s t u : State} {p : Prop} [Decidable p] (he : exec c s = .next (if p then u else t)) (hp : ¬ p) :
    Runs c s t := Runs.of_exec he (if_neg hp)

/-- Two flags that are not both down. -/
theorem or_of_not_and_false {x y : Bool} (h : ¬ (x = false ∧ y = false)) : x = true ∨ y = true := by
  simpa [or_iff_not_imp_left] using h

/-! ### The clock -/

/-- Settles O15: each row of the clock acts out of the backup domain's reset under its condition, and otherwise nothing changes. -/
theorem clockEvents : Obligations.ClockEvents := by
  refine ⟨?capture, ?captureHeld, ?second, ?secondStill, ?window, ?windowStill, ?switchOver, ?switchBack, ?brownout, ?brownoutHeld,
    ?reset, ?resetHeld, ?release, ?releaseNot, ?oscStop, ?oscStopNot, ?oscBack, ?oscBackNot, ?vbat, ?vbatHeld⟩
  case capture => exact fun _ s h => Runs.of_neg rfl (by simp [h])
  case captureHeld => exact fun _ s h => Runs.of_pos rfl (eq_true_of_ne_false h)
  case second => exact fun s h => Runs.of_pos rfl h
  case secondStill => exact fun s h => Runs.of_neg rfl h
  case window => exact fun s h ho => Runs.of_neg rfl (by simp [h, ho])
  case windowStill => exact fun s h => Runs.of_pos rfl (Bool.or_eq_true_iff.2 (or_of_not_and_false h))
  case switchOver => exact fun v s h hb hv => Runs.of_exec rfl ((if_neg (by simp [h])).trans (if_pos (by simp [hb, hv])))
  case switchBack =>
    exact fun v s h hb hv => Runs.of_exec rfl
      ((if_neg (by simp [h])).trans ((if_neg (by simp [hb])).trans (if_pos (by simp [hb, hv]))))
  case brownout => exact fun s h => Runs.of_neg rfl (by simp [h])
  case brownoutHeld => exact fun s h => Runs.of_pos rfl (eq_true_of_ne_false h)
  case reset => exact fun s h => Runs.of_neg rfl (by simp [h])
  case resetHeld => exact fun s h => Runs.of_pos rfl (eq_true_of_ne_false h)
  case release => exact fun s h => Runs.of_pos rfl h
  case releaseNot => exact fun s h => Runs.of_neg rfl h
  case oscStop => exact fun s h ho => Runs.of_neg rfl (by simp [h, ho])
  case oscStopNot => exact fun s h => Runs.of_pos rfl (Bool.or_eq_true_iff.2 (or_of_not_and_false h))
  case oscBack => exact fun s h ho => Runs.of_neg rfl (by simp [h, ho])
  case oscBackNot => exact fun s h => Runs.of_pos rfl (by simpa [or_iff_not_imp_left] using h)
  case vbat => exact fun _ s h => Runs.of_neg rfl (by simp [h])
  case vbatHeld => exact fun _ s h => Runs.of_pos rfl (eq_true_of_ne_false h)

/-! ### Sapflow -/

/-- R19, R33: a packet of a class below 3 that no router rejects passes the checks of the header. -/
theorem PacketOf.passes {k : Nat} {hdr : Flit} {payload : List Flit} (hp : PacketOf k hdr payload) (hk : k < 3)
    (badClass badLength badIsland short served : State) :
    (if hfld hdr 54 2 = 3 then badClass
      else if 32 < hfld hdr 42 6 then badLength
      else if !islandOk (hfld hdr 60 4) then badIsland
      else if hfld hdr 42 6 ≠ payload.length then short
      else served) = served := by
  obtain ⟨hcls, hlen, hdst, hpay⟩ := hp
  rw [if_neg (by omega), if_neg (by omega), if_neg (by simp [hdst]), if_neg (by simp [hpay])]

/-- R10: a flit that fails again after three failures has had its three retransmissions. -/
theorem fourth_crcFail {link : DieLink} {flit : Nat} {s : State} (hf : tblGet 0 s.fab.crcFlit (linkKey link) = flit + 1)
    (hn : 3 ≤ tblGet 0 s.fab.crcFails (linkKey link)) :
    ¬ (if tblGet 0 s.fab.crcFlit (linkKey link) = flit + 1 then tblGet 0 s.fab.crcFails (linkKey link) else 0) + 1 < 4 := by
  rw [if_pos hf]
  omega

/-- Settles O23: a packet passes its router's checks and is served by its class; the other rows choose a branch by their condition. -/
theorem fabricCommands : Obligations.FabricCommands := by
  refine ⟨?write, ?badClass, ?badLength, ?badIsland, ?response, ?stream, ?streamOff, ?request, ?requestRefused, ?credit, ?creditWaiting,
    ?creditOther, ?answer, ?crcFail, ?crcRequest, ?crcIdle, ?linkTimeout, ?linkReturn, ?linkReturnBark, ?idle, ?barkLoss, ?barkLossNot⟩
  case write => exact fun sec a v hw s ha hs hh => Runs.of_neg rfl (by simp [ha, hs, hh])
  case badClass => exact fun hdr p s h => Runs.of_pos rfl h
  case badLength => exact fun hdr p s h hl => Runs.of_exec rfl ((if_neg h).trans (if_pos hl))
  case badIsland =>
    exact fun hdr p s h hl hi => Runs.of_exec rfl ((if_neg h).trans ((if_neg (by omega)).trans (if_pos (by simp [hi]))))
  case response =>
    refine fun hdr p s h => Runs.of_exec rfl ((h.passes (by omega) _ _ _ _ _).trans ?_)
    simp only [h.1]
  case stream =>
    rintro hdr p d _ s h hd ho rfl
    refine Runs.of_exec rfl ((h.passes (by omega) _ _ _ _ _).trans ?_)
    simp [h.1, hd, ho, packetAt]
  case streamOff =>
    refine fun hdr p d s h hd ho => Runs.of_exec rfl ((h.passes (by omega) _ _ _ _ _).trans ?_)
    simp [h.1, hd, ho]
  case request =>
    refine fun hdr p t s h hr => Runs.of_exec rfl ((h.passes (by omega) _ _ _ _ _).trans ?_)
    rw [packetAt] at hr ⊢
    simp only [h.1, hr]
  case requestRefused =>
    refine fun hdr p s h hr => Runs.of_exec rfl ((h.passes (by omega) _ _ _ _ _).trans ?_)
    rw [packetAt] at hr
    simp only [h.1, hr]
  case credit =>
    rintro link rev cls x far s hx rfl hc hu hw
    refine Runs.of_exec rfl ?_
    simp only [hx, hw]
    exact if_neg (by omega)
  case creditWaiting =>
    rintro link rev cls x far w rest s hx rfl hc hu hw
    refine Runs.of_exec rfl ?_
    simp only [hx, hw]
    exact if_neg (by omega)
  case creditOther => exact fun link rev cls s h => Runs.of_pos rfl (.inl h)
  case answer =>
    intro src tag r rest s hr hfirst
    refine Runs.of_exec rfl ?_
    simp only [hr]
    exact if_neg (ne_true_of_eq_false hfirst)
  case crcFail =>
    rintro link flit n s rfl hn
    exact Runs.of_pos rfl hn
  case crcRequest =>
    rintro link flit t q rest s hf hn rfl hq
    refine Runs.of_exec rfl ((if_neg (fourth_crcFail hf hn)).trans ?_)
    simp only [hq]
  case crcIdle =>
    rintro link flit t s hf hn rfl hq
    refine Runs.of_exec rfl ((if_neg (fourth_crcFail hf hn)).trans ?_)
    simp only [hq]
  case linkTimeout => exact fun link s h => Runs.of_neg rfl (by simp [h])
  case linkReturn =>
    refine fun link s h => Runs.of_neg rfl ?_
    rcases h with h | h <;> simp [h]
  case linkReturnBark =>
    rintro link s rfl hb hr
    refine Runs.of_exec rfl ?_
    simp only [hb, decide_true, Bool.not_true, Bool.and_false, Bool.true_and]
    exact if_pos hr
  case idle => exact fun _ _ _ => rfl
  case barkLoss => exact fun s hb hh => Runs.of_neg rfl (by simp [hb, hh])
  case barkLossNot => exact fun s h => Runs.of_pos rfl (Bool.or_eq_true_iff.2 (or_of_not_and_false h))

/-! ### The host port -/

/-- Settles O40: each row of the host port acts out of reset under its condition, and otherwise leaves the state. -/
theorem hostPortEvents : Obligations.HostPortEvents := by
  refine ⟨?status, ?read, ?write, ?bothcs, ?bothcsHeld, ?go, ?goNot, ?abort, ?abortHeld, ?release, ?releaseHeld, ?nepoch, ?sepoch, ?sepochHeld,
    ?hostwd, ?hostwdHeld, ?dbin, ?dbinHeld, ?inbound, ?reply, ?watchdog⟩
  case status => exact fun _ _ m _ s h1 h2 => Runs.of_neg rfl (by simp [h1, h2])
  case read => exact fun _ _ m _ _ s h0 h2 => Runs.of_neg rfl (by simp [h0, h2])
  case write => exact fun _ _ m _ _ _ s h0 h1 => Runs.of_neg rfl (by simp [h0, h1])
  case bothcs => exact fun s h => Runs.of_neg rfl (by simp [h])
  case bothcsHeld => exact fun s h => Runs.of_pos rfl (eq_true_of_ne_false h)
  case go => exact fun ch s h hf => Runs.of_neg rfl (by simp [h, hf])
  case goNot => exact fun ch s h => Runs.of_pos rfl (or_of_not_and_false h)
  case abort => exact fun ch s h => Runs.of_neg rfl (by simp [h])
  case abortHeld => exact fun ch s h => Runs.of_pos rfl (eq_true_of_ne_false h)
  case release => exact fun ch s h => Runs.of_neg rfl (by simp [h])
  case releaseHeld => exact fun ch s h => Runs.of_pos rfl (eq_true_of_ne_false h)
  case nepoch => exact fun _ v s h => Runs.of_neg rfl (by simp [h])
  case sepoch => exact fun v s h => Runs.of_neg rfl (by simp [h])
  case sepochHeld => exact fun v s h => Runs.of_pos rfl (eq_true_of_ne_false h)
  case hostwd => exact fun _ v s h => Runs.of_neg rfl (by simp [h])
  case hostwdHeld => exact fun _ v s h => Runs.of_pos rfl (eq_true_of_ne_false h)
  case dbin => exact fun _ v s h => Runs.of_neg rfl (by simp [h])
  case dbinHeld => exact fun _ v s h => Runs.of_pos rfl (eq_true_of_ne_false h)
  case inbound => exact fun ch s h hf ht => Runs.of_pos rfl ⟨by simp [h], hf, ht⟩
  case reply => exact fun ch s h hf ht => Runs.of_pos rfl ⟨by simp [h], hf, ht⟩
  case watchdog => exact fun s h hn hb => Runs.of_neg rfl (by simp [h, hn, hb])

end Sys2Proof.Machine
end

section
/-! PROOFS. R19, R33: what a fabric error leaves in SYS_SFDROP and SYS_SFERR, and the packet that a router discards for its header. -/

namespace Sys2Proof.Machine

open Sys2Proof

/-! ### The fabric error registers -/

/-- A field of the register outside a counter that was counted up. -/
theorem State.f_bump_other (s : State) (a lo n lo' n' : Nat) (h : lo' + n' ≤ lo ∨ lo + n ≤ lo') :
    (s.bump a lo n).f a lo' n' = s.f a lo' n' := by
  rw [State.bump_eq_setF, State.f, State.reg_setF, fld_setFld_other _ _ _ _ _ _ h, State.f]

/-- A flag is its field of one bit. -/
theorem bit_eq_decide_fld (w : Word) (i : Nat) : bit w i = decide (fld w i 1 = 1) :=
  Nat.testBit_eq_decide_div_mod_eq

/-- A field of a header lies within its width. -/
theorem hfld_lt (hdr : Flit) (lo n : Nat) : hfld hdr lo n < 2 ^ n := Nat.mod_lt _ (Nat.two_pow_pos n)

/-- R33: the record of a fabric error: VALID, KIND, and SRC, DST, CLASS and TAG of the packet. -/
def errorRecord (kind : Nat) (hdr : Flit) : Word :=
  BitVec.ofNat 32 (((((8 + kind % 8) * 16 + hfld hdr 56 4) * 16 + hfld hdr 60 4) * 4 + hfld hdr 54 2) * 64 + hfld hdr 48 6) <<< 12

/-- R33, R7: a fabric error counts, and is recorded while VALID is 0. -/
theorem fabricError_eq (kind : Nat) (hdr : Flit) (s : State) :
    fabricError kind hdr s = if s.b aSysSferr 31 then s.bump aSysSfdrop 0 16
      else (s.bump aSysSfdrop 0 16).setReg aSysSferr (errorRecord kind hdr) := by
  have hvalid : (s.bump aSysSfdrop 0 16).b aSysSferr 31 = s.b aSysSferr 31 :=
    congrArg (bit · 31) (s.reg_bump_other aSysSfdrop aSysSferr 0 16 (by decide))
  rw [← hvalid]
  rfl

/-- A fabric error changes registers alone. -/
theorem fabricError_frame (kind : Nat) (hdr : Flit) (s : State) :
    fabricError kind hdr s = { s with regs := (fabricError kind hdr s).regs } := by
  rw [fabricError_eq]
  split <;> rfl

/-- A fabric error leaves every other register. -/
theorem reg_fabricError_other (kind : Nat) (hdr : Flit) (s : State) {a : Nat} (hd : a ≠ aSysSfdrop) (he : a ≠ aSysSferr) :
    (fabricError kind hdr s).reg a = s.reg a := by
  rw [fabricError_eq]
  split
  · exact s.reg_bump_other _ _ _ _ hd
  · rw [State.reg_setReg_other _ _ _ _ he, s.reg_bump_other _ _ _ _ hd]

/-- A fabric error leaves SYS_SFDROP as counted. -/
theorem reg_fabricError_drop (kind : Nat) (hdr : Flit) (s : State) :
    (fabricError kind hdr s).reg aSysSfdrop = (s.bump aSysSfdrop 0 16).reg aSysSfdrop := by
  rw [fabricError_eq]
  split
  · rfl
  · exact State.reg_setReg_other _ _ _ _ (by decide)

/-- R33: while VALID is 1 the record stays. -/
theorem reg_fabricError_recorded (kind : Nat) (hdr : Flit) (s : State) (hv : s.b aSysSferr 31 = true) :
    (fabricError kind hdr s).reg aSysSferr = s.reg aSysSferr := by
  rw [fabricError_eq, if_pos hv, s.reg_bump_other _ _ _ _ (by decide)]

/-- R33: while VALID is 0 the error is recorded. -/
theorem reg_fabricError_record (kind : Nat) (hdr : Flit) (s : State) (hv : s.b aSysSferr 31 = false) :
    (fabricError kind hdr s).reg aSysSferr = errorRecord kind hdr := by
  rw [fabricError_eq, if_neg (by simp [hv]), State.reg_setReg]

/-- The number that the record of an error spells. -/
theorem errorRecord_toNat (kind : Nat) (hdr : Flit) :
    (errorRecord kind hdr).toNat =
      (((((8 + kind % 8) * 16 + hfld hdr 56 4) * 16 + hfld hdr 60 4) * 4 + hfld hdr 54 2) * 64 + hfld hdr 48 6) * 4096 := by
  have hsrc := hfld_lt hdr 56 4
  have hdst := hfld_lt hdr 60 4
  have hcls := hfld_lt hdr 54 2
  have htag := hfld_lt hdr 48 6
  rw [errorRecord, BitVec.toNat_shiftLeft, BitVec.toNat_ofNat, Nat.shiftLeft_eq]
  omega

/-- R33: the fields of the record of an error. -/
theorem errorRecord_fields (kind : Nat) (hdr : Flit) (hk : kind < 8) :
    bit (errorRecord kind hdr) 31 = true ∧ fld (errorRecord kind hdr) 28 3 = kind ∧
      fld (errorRecord kind hdr) 24 4 = hfld hdr 56 4 ∧ fld (errorRecord kind hdr) 20 4 = hfld hdr 60 4 ∧
      fld (errorRecord kind hdr) 18 2 = hfld hdr 54 2 ∧ fld (errorRecord kind hdr) 12 6 = hfld hdr 48 6 := by
  have hsrc := hfld_lt hdr 56 4
  have hdst := hfld_lt hdr 60 4
  have hcls := hfld_lt hdr 54 2
  have htag := hfld_lt hdr 48 6
  simp only [bit_eq_decide_fld, fld, errorRecord_toNat, decide_eq_true_eq]
  omega

/-! ### The router -/

/-- R19: the kind of the error of a header that a router does not accept: 1 CLASS, 2 LEN, 3 DST. -/
def headerError (hdr : Flit) : Nat := if hfld hdr 54 2 = 3 then 1 else if 32 < hfld hdr 42 6 then 2 else 3

/-- R33: the kind fits its field. -/
theorem headerError_lt (hdr : Flit) : headerError hdr < 8 := by
  unfold headerError
  split_ifs <;> decide

/-- R19: a packet with a bad header is a fabric error and nothing else. -/
theorem routerReceive_badHeader (hdr : Flit) (payload : List Flit) (s : State)
    (h : hfld hdr 54 2 = 3 ∨ 32 < hfld hdr 42 6 ∨ islandOk (hfld hdr 60 4) = false) :
    Runs (.routerReceive hdr payload) s (fabricError (headerError hdr) hdr s) := by
  obtain ⟨-, badClass, badLength, badIsland, -⟩ := fabricCommands
  unfold headerError
  split_ifs with hcls hlen
  · exact badClass hdr payload s hcls
  · exact badLength hdr payload s hcls hlen
  · exact badIsland hdr payload s hcls (Nat.le_of_not_lt hlen) ((h.resolve_left hcls).resolve_left hlen)

/-- Settles O55: the router raises a fabric error, whose count, record and frame are the laws above. -/
theorem routerDiscardsBadHeader : Obligations.RouterDiscardsBadHeader := by
  intro hdr payload s h
  refine ⟨_, routerReceive_badHeader hdr payload s h, fabricError_frame _ _ _, fun a => reg_fabricError_other _ _ _, ?count, ?dropped,
    reg_fabricError_recorded _ _ _, ?record⟩
  case count => exact (congrArg (fld · 0 16) (reg_fabricError_drop _ _ _)).trans (s.f_bump aSysSfdrop 0 16 (by decide))
  case dropped => exact (congrArg (fld · 16 16) (reg_fabricError_drop _ _ _)).trans (s.f_bump_other aSysSfdrop 0 16 16 16 (by decide))
  case record =>
    intro hv
    simp only [State.b, State.f, reg_fabricError_record _ _ _ hv]
    exact errorRecord_fields _ hdr (headerError_lt hdr)

end Sys2Proof.Machine
end

section
/-! PROOFS. The rows of the drive channels and of the fans: what a row does is the branch of its meaning that its condition
chooses. -/

namespace Sys2Proof.Machine

open Sys2Proof

/-! ### Drive channels -/

/-- Settles O9: a row of the drive channels acts on the packet or the stage that its condition names, and otherwise nothing changes. -/
theorem driveChannelCommands : Obligations.DriveChannelCommands := by
  refine ⟨?demand, ?demandNone, ?requestHeld, ?request, ?endStop, ?endStopLate, ?endStopOther, ?openLoad, ?openLoadOff, ?offTest,
    ?offTestNot, ?overtemp, ?overtempOff, ?cooled, ?cooledNot, ?reverse, ?reversed, ?restore, ?restored, ?dinRead, ?dinReadNot,
    ?report, ?reportOff, ?manual, ?manualOff, ?tripAo, ?tripStage⟩
  case demand =>
    refine fun p t s htake hn => Runs.of_exec rfl ?_
    rw [htake]
    exact if_pos hn
  case demandNone =>
    refine fun s htake => Runs.of_exec rfl ?_
    rw [htake]
  case requestHeld =>
    refine fun p t s htake hn hready => Runs.of_exec rfl ?_
    rw [htake]
    exact (if_neg (by simp [hready])).trans (if_pos hn)
  case request =>
    rintro p t _ s htake rfl hn hready hfits
    refine Runs.of_exec rfl ?_
    rw [htake]
    exact (if_pos ⟨hn, hready⟩).trans (if_pos hfits)
  case endStop =>
    refine fun ch t s hm ht => Runs.of_exec rfl ((if_neg (not_not_intro hm)).trans ?_)
    rw [ht]
  case endStopLate =>
    refine fun ch t d toEnd s hm ht hd hms hcal => Runs.of_exec rfl ((if_neg (not_not_intro hm)).trans ?_)
    rw [ht, hd]
    exact if_pos ⟨hms, hcal⟩
  case endStopOther => exact fun ch s hm => Runs.of_pos rfl hm
  case openLoad =>
    refine fun ch t s ht hm hv => Runs.of_exec rfl ?_
    rw [ht]
    exact if_pos (by simp [hm, hv])
  case openLoadOff =>
    refine fun ch s ht => Runs.of_exec rfl ?_
    rw [ht]
  case offTest => exact fun n mv s hd hm hoff => Runs.of_pos rfl (by simp [hd, hm, hoff])
  case offTestNot => exact fun n mv s h => Runs.of_neg rfl (by simpa [and_assoc] using h)
  case overtemp => exact fun n s hd => Runs.of_pos rfl hd
  case overtempOff => exact fun n s hd => Runs.of_neg rfl hd
  case cooled => exact fun n s h => Runs.of_pos rfl h
  case cooledNot => exact fun n s h => Runs.of_neg rfl h
  case reverse => exact fun s h => Runs.of_neg rfl (ne_true_of_eq_false h)
  case reversed => exact fun s h => Runs.of_pos rfl (eq_true_of_ne_false h)
  case restore => exact fun s h => Runs.of_pos rfl h
  case restored => exact fun s h => Runs.of_neg rfl h
  case dinRead => exact fun n mv s hd hm => Runs.of_pos rfl (by simp [hd, hm])
  case dinReadNot => exact fun n mv s h => Runs.of_neg rfl (by simpa using h)
  case report => exact fun n ma s hd => Runs.of_pos rfl hd
  case reportOff => exact fun n ma s hd => Runs.of_neg rfl hd
  case manual => exact fun n v s hd => Runs.of_pos rfl hd
  case manualOff => exact fun n v s hd => Runs.of_neg rfl hd
  case tripAo =>
    rintro ch high _ s rfl hm hd
    exact Runs.of_pos rfl ⟨hm, hd⟩
  case tripStage =>
    rintro ch high _ s rfl hm hon
    refine Runs.of_exec rfl ((if_neg (fun h => ?_)).trans (if_pos ⟨hm, hon⟩))
    omega

/-- Settles O10: a write is refused, keeps the mode or changes it; a delay or a safe run that is due ends. -/
theorem driveWriteAndSafeCommands : Obligations.DriveWriteAndSafeCommands := by
  refine ⟨?refused, ?sameMode, ?newMode, ?delayEnd, ?noDelay, ?noSafeRun, ?safeRun, ?safeEnd, ?safeOff, ?safeClear⟩
  case refused => exact fun n v s hbad => Runs.of_pos rfl hbad
  case sameMode =>
    exact fun n v s hgood hmode => Runs.of_exec rfl ((if_neg (ne_true_of_eq_false hgood)).trans (if_pos hmode))
  case newMode =>
    exact fun n v s hgood hmode => Runs.of_exec rfl ((if_neg (ne_true_of_eq_false hgood)).trans (if_neg hmode))
  case delayEnd =>
    intro n t s hdue
    simp only [Runs, exec, execModeChangeDelayEnd, hdue]
  case noDelay =>
    intro n s hdue
    simp only [Runs, exec, execModeChangeDelayEnd, hdue]
  case noSafeRun =>
    intro s hq
    simp only [Runs, exec, execSafeRun, hq]
  case safeRun =>
    intro n up rest s hq
    simp only [Runs, exec, execSafeRun, hq]
  case safeEnd =>
    intro n t s hstart hsafe
    simp only [Runs, exec, execSafedurEnd, hstart, if_pos hsafe]
  case safeOff =>
    intro n s hstart
    simp only [Runs, exec, execSafedurEnd, hstart]
  case safeClear => exact fun _ _ _ => rfl

/-! ### Fans -/

/-- Settles O11: a row of the fans acts on an enabled fan in the state that the row names, and otherwise nothing changes. -/
theorem fanCommands : Obligations.FanCommands := by
  refine ⟨?duty, ?edge, ?edgeNot, ?loop, ?loopNot, ?stall, ?stallNot, ?lost, ?lostNot, ?kick, ?noWait, ?kickEnd, ?noKick, ?reset,
    ?resetNot, ?report, ?reportNot, ?clear⟩
  case duty =>
    refine fun p t s htake hf hd => Runs.of_exec rfl ?_
    rw [htake]
    exact if_pos ⟨hf, hd⟩
  case edge => exact fun f s hd hen => Runs.of_pos rfl (by simp [hd, hen])
  case edgeNot => exact fun f s h => Runs.of_neg rfl (by simpa using h)
  case loop => exact fun f s hd hen hspeed hrun hloss => Runs.of_pos rfl (by simp [hd, hen, hspeed, hrun, hloss])
  case loopNot => exact fun f s h => Runs.of_neg rfl (by simpa [and_assoc] using h)
  case stall => exact fun f ma s hd hen hrun hmin hon => Runs.of_pos rfl (by simp [hd, hen, hrun, hmin, hon])
  case stallNot => exact fun f ma s h => Runs.of_neg rfl (by simpa [and_assoc] using h)
  case lost => exact fun f s hd hlost hband => Runs.of_pos rfl (by simp [hd, hlost, hband])
  case lostNot => exact fun f s h => Runs.of_neg rfl (by simpa [and_assoc] using h)
  case kick =>
    intro f t s hwait hd hst
    simp only [Runs, exec, execKick, hwait, hd, hst, decide_true, Bool.and_self, if_true]
  case noWait =>
    intro f s hwait
    simp only [Runs, exec, execKick, hwait]
  case kickEnd =>
    intro f t s hkick hd hst
    simp only [Runs, exec, execKickEnd, hkick, hd, hst, decide_true, Bool.and_self, if_true]
  case noKick =>
    intro f s hkick
    simp only [Runs, exec, execKickEnd, hkick]
  case reset => exact fun f s hd hrun => Runs.of_pos rfl (by simp [hd, hrun])
  case resetNot => exact fun f s h => Runs.of_neg rfl (by simpa using h)
  case report => exact fun f s hd hen hpen => Runs.of_pos rfl (by simp [hd, hen, hpen])
  case reportNot => exact fun f s h => Runs.of_neg rfl (by simpa [and_assoc] using h)
  case clear => exact fun _ _ => rfl

end Sys2Proof.Machine
end

section
/-! PROOFS. The rows of domain power, operating points, the Crown watchdog, VFIELD, the thermal monitor and the safe stop. -/

namespace Sys2Proof.Machine

open Sys2Proof

/-- Settles O22: a step of an operating point is the first that its target still wants; the other rows choose a branch by their
condition. -/
theorem domainOperatingPointAndThermalCommands : Obligations.DomainOperatingPointAndThermalCommands := by
  refine ⟨?power, ?reached, ?raiseVoltage, ?clock, ?lowerVoltage, ?point, ?pointRefused, ?kick, ?kickHeld, ?fieldLow, ?fieldLowNot,
    ?fieldBack, ?fieldBackNot, ?sample, ?sampleHeld, ?holdEnd, ?feedback, ?feedbackOff⟩
  case power => exact fun _ _ => rfl
  case reached =>
    rintro n s ⟨hf, hv⟩
    exact Runs.of_exec rfl ((if_neg (by simp [hv])).trans ((if_neg (by simp [hf])).trans (if_neg (by simp [hv]))))
  case raiseVoltage => exact fun n s hv ha => Runs.of_pos rfl (by simp [hv, ha])
  case clock =>
    refine fun n s hv hf => Runs.of_exec rfl ((if_neg ?_).trans (if_pos hf))
    rcases hv with hv | hv <;> simp [hv]
  case lowerVoltage =>
    exact fun n s hv ha hf => Runs.of_exec rfl ((if_neg (by simp [hv])).trans ((if_neg (by simp [hf])).trans (if_pos (by simp [hv, ha]))))
  case point => exact fun n v s hok => Runs.of_pos rfl hok
  case pointRefused => exact fun n v s hok => Runs.of_neg rfl (ne_true_of_eq_false hok)
  case kick => exact fun v s hh => Runs.of_neg rfl (ne_true_of_eq_false hh)
  case kickHeld => exact fun v s hh => Runs.of_pos rfl (eq_true_of_ne_false hh)
  case fieldLow => exact fun s hv hh => Runs.of_neg rfl (by simp [hv, hh])
  case fieldLowNot => exact fun s h => Runs.of_pos rfl (Bool.or_eq_true_iff.2 (or_of_not_and_false h))
  case fieldBack => exact fun s hv hr => Runs.of_neg rfl (by simp [hv, hr])
  case fieldBackNot => exact fun s h => Runs.of_pos rfl (by simpa [or_iff_not_imp_left] using h)
  case sample =>
    refine fun readings s hh => Runs.of_exec rfl ?_
    rw [hh]
  case sampleHeld =>
    refine fun readings d at_ s hh => Runs.of_exec rfl ?_
    rw [hh]
  case holdEnd =>
    refine fun readings d at_ s hh => Runs.of_exec rfl ?_
    generalize s.pwr.held = held at hh ⊢
    subst hh
    rfl
  case feedback => exact fun high s hc => Runs.of_pos rfl hc
  case feedbackOff => exact fun high s hc => Runs.of_neg rfl hc

end Sys2Proof.Machine
end

section
/-! PROOFS. What each of the 337 commands leaves alone, said once: the parts outside its row of the table changes. -/

namespace Sys2Proof.Machine

open Sys2Proof

/-! ### From a mask to a list of parts -/

/-- The bits of a mask of Laws/Frame.lean that belong to none of the parts of a list. -/
def outside (l : List Part) (m : Nat) : Nat := l.foldl (fun n p => n ^^^ (n &&& 2 ^ p.bit)) m

/-- The parts are listed in the order of their bits. -/
theorem Part.all_getElem_bit (p : Part) : Part.all[p.bit]? = some p := by cases p <;> rfl

/-- Each part has a bit of its own. -/
theorem Part.bit_injective {p q : Part} (h : p.bit = q.bit) : p = q :=
  Option.some.inj (p.all_getElem_bit.symm.trans (h ▸ q.all_getElem_bit))

/-- The bit of a part that the list does not name stands. -/
theorem testBit_outside {p : Part} {l : List Part} (h : p ∉ l) (m : Nat) : (outside l m).testBit p.bit = m.testBit p.bit := by
  induction l generalizing m with
  | nil => rfl
  | cons q l ih =>
    have hbit : q.bit ≠ p.bit := fun e => h (Part.bit_injective e ▸ List.mem_cons_self)
    refine (ih (fun hp => h (List.mem_cons_of_mem q hp)) _).trans ?_
    rw [Nat.testBit_xor, Nat.testBit_and, Nat.testBit_two_pow_of_ne hbit, Bool.and_false, Bool.xor_false]

/-- An outcome that is a next state keeps the queue and every part of the state outside a list. -/
def Leaves (l : List Part) (s : State) (o : Host.Outcome State Fault Refusal) : Prop :=
  ∀ t, o = .next t → t.pending = s.pending ∧ ∀ p : Part, p ∉ l → p.Same s t

/-- A frame law whose mask has no bit outside a list of parts leaves every other part. -/
theorem KeepsOut.leaves {m : Nat} {l : List Part} {s : State} {o : Host.Outcome State Fault Refusal} (k : KeepsOut m s o)
    (h : outside l m = 0) : Leaves l s o :=
  fun t ht => ⟨(k t ht).pending, fun p hp =>
    (k t ht).same p ((testBit_outside hp m).symm.trans ((congrArg (Nat.testBit · p.bit) h).trans (Nat.zero_testBit _)))⟩

/-! ### The frame of every command -/

/-- Every command keeps the queue and the parts that its row of the table changes does not name: its own frame law, whose mask
lies within that row. -/
theorem exec_leaves (c : Instr) (s : State) : Leaves (changes c) s (exec c s) := by
  cases c with
  | flitCrcFail a => exact (execFlitCrcFail_fr a s).leaves rfl
  | bridgeLinkTimeout a => exact (execBridgeLinkTimeout_fr a s).leaves rfl
  | linkValidWordsReturn a => exact (execLinkValidWordsReturn_fr a s).leaves rfl
  | idleWord a b => exact (execIdleWord_fr a b s).leaves rfl
  | barkLinkLoss => exact (execBarkLinkLoss_fr s).leaves rfl
  | sysOppWrite a b => exact (execSysOppWrite_fr a b s).leaves rfl
  | oppStepComplete a => exact (execOppStepComplete_fr a s).leaves rfl
  | routerReceive a b => exact (execRouterReceive_fr a b s).leaves rfl
  | creditReturn a b => exact (execCreditReturn_fr a b s).leaves rfl
  | fabricResponse a b => exact (execFabricResponse_fr a b s).leaves rfl
  | registerWrite a b c d => exact (execRegisterWrite_fr a b c d s).leaves rfl
  | statusFrame a b c d => exact (execStatusFrame_fr a b c d s).leaves rfl
  | readFrame a b c d => exact (execReadFrame_fr a b c d s).leaves rfl
  | writeFrame a b c d => exact (execWriteFrame_fr a b c d s).leaves rfl
  | bothcs => exact (execBothcs_fr s).leaves rfl
  | go a => exact (execGo_fr a s).leaves rfl
  | abort a => exact (execAbort_fr a s).leaves rfl
  | replyRelease a => exact (execReplyRelease_fr a s).leaves rfl
  | nepochWrite a b => exact (execNepochWrite_fr a b s).leaves rfl
  | sepochWrite a => exact (execSepochWrite_fr a s).leaves rfl
  | epochChange a => exact (execEpochChange_fr a s).leaves rfl
  | hostwdWrite a b => exact (execHostwdWrite_fr a b s).leaves rfl
  | dbinWrite a b => exact (execDbinWrite_fr a b s).leaves rfl
  | doorbellAction a => exact (execDoorbellAction_fr a s).leaves rfl
  | messageTake => exact (execMessageTake_fr s).leaves rfl
  | inboundTimeout a => exact (execInboundTimeout_fr a s).leaves rfl
  | replyPost a => exact (execReplyPost_fr a s).leaves rfl
  | replyTimeout a => exact (execReplyTimeout_fr a s).leaves rfl
  | hostWatchdogExpiry => exact (execHostWatchdogExpiry_fr s).leaves rfl
  | crownWatchdogExpiry => exact (execCrownWatchdogExpiry_fr s).leaves rfl
  | watchdogKick a => exact (execWatchdogKick_fr a s).leaves rfl
  | crownRestart => exact (execCrownRestart_fr s).leaves rfl
  | sysInfo a => exact (execSysInfo_fr a s).leaves rfl
  | sysStatus a => exact (execSysStatus_fr a s).leaves rfl
  | sysAbort a => exact (execSysAbort_fr a s).leaves rfl
  | sysOwner a => exact (execSysOwner_fr a s).leaves rfl
  | sysReset a => exact (execSysReset_fr a s).leaves rfl
  | diagDumpCollect a => exact (execDiagDumpCollect_fr a s).leaves rfl
  | diagDumpRead a => exact (execDiagDumpRead_fr a s).leaves rfl
  | fwUpdateErase a => exact (execFwUpdateErase_fr a s).leaves rfl
  | fwUpdateWrite a => exact (execFwUpdateWrite_fr a s).leaves rfl
  | fwUpdateVerify a => exact (execFwUpdateVerify_fr a s).leaves rfl
  | fwUpdateConfirm a => exact (execFwUpdateConfirm_fr a s).leaves rfl
  | fwUpdateStatus a => exact (execFwUpdateStatus_fr a s).leaves rfl
  | cfgLoadBegin a => exact (execCfgLoadBegin_fr a s).leaves rfl
  | cfgLoadData a => exact (execCfgLoadData_fr a s).leaves rfl
  | cfgLoadEnd a b => exact (execCfgLoadEnd_fr a b s).leaves rfl
  | cfgMode a => exact (execCfgMode_fr a s).leaves rfl
  | cfgCondition a => exact (execCfgCondition_fr a s).leaves rfl
  | cfgQuery a => exact (execCfgQuery_fr a s).leaves rfl
  | pointRead a => exact (execPointRead_fr a s).leaves rfl
  | pointWrite a => exact (execPointWrite_fr a s).leaves rfl
  | pointStreamDrain a => exact (execPointStreamDrain_fr a s).leaves rfl
  | pointStreamAdd a => exact (execPointStreamAdd_fr a s).leaves rfl
  | pointStreamRemove a => exact (execPointStreamRemove_fr a s).leaves rfl
  | pointInfo a => exact (execPointInfo_fr a s).leaves rfl
  | loopRead a => exact (execLoopRead_fr a s).leaves rfl
  | loopSet a => exact (execLoopSet_fr a s).leaves rfl
  | loopMode a => exact (execLoopMode_fr a s).leaves rfl
  | loopTune a => exact (execLoopTune_fr a s).leaves rfl
  | zoneRead a => exact (execZoneRead_fr a s).leaves rfl
  | zoneSetpoint a => exact (execZoneSetpoint_fr a s).leaves rfl
  | zoneModel a => exact (execZoneModel_fr a s).leaves rfl
  | zoneModelReset a => exact (execZoneModelReset_fr a s).leaves rfl
  | schedRead a => exact (execSchedRead_fr a s).leaves rfl
  | schedWrite a => exact (execSchedWrite_fr a s).leaves rfl
  | schedCalendar a => exact (execSchedCalendar_fr a s).leaves rfl
  | schedOccupancy a => exact (execSchedOccupancy_fr a s).leaves rfl
  | driveRead a => exact (execDriveRead_fr a s).leaves rfl
  | driveCommand a => exact (execDriveCommand_fr a s).leaves rfl
  | driveDiag a => exact (execDriveDiag_fr a s).leaves rfl
  | driveSafeval a => exact (execDriveSafeval_fr a s).leaves rfl
  | driveCalibrate a => exact (execDriveCalibrate_fr a s).leaves rfl
  | driveBudget a => exact (execDriveBudget_fr a s).leaves rfl
  | fanRead a => exact (execFanRead_fr a s).leaves rfl
  | fanCommand a => exact (execFanCommand_fr a s).leaves rfl
  | fanFailsafe a => exact (execFanFailsafe_fr a s).leaves rfl
  | fanClearFail a => exact (execFanClearFail_fr a s).leaves rfl
  | busPort a => exact (execBusPort_fr a s).leaves rfl
  | busStatus a => exact (execBusStatus_fr a s).leaves rfl
  | busRaw a => exact (execBusRaw_fr a s).leaves rfl
  | busTwigDiscover a => exact (execBusTwigDiscover_fr a s).leaves rfl
  | busI2cScript a => exact (execBusI2cScript_fr a s).leaves rfl
  | groveStatus a => exact (execGroveStatus_fr a s).leaves rfl
  | groveResetNode a => exact (execGroveResetNode_fr a s).leaves rfl
  | groveAllotment a => exact (execGroveAllotment_fr a s).leaves rfl
  | groveSchedPush a => exact (execGroveSchedPush_fr a s).leaves rfl
  | storeRead a b => exact (execStoreRead_fr a b s).leaves rfl
  | storeWrite a => exact (execStoreWrite_fr a s).leaves rfl
  | storeCommit a b => exact (execStoreCommit_fr a b s).leaves rfl
  | storePassword a b => exact (execStorePassword_fr a b s).leaves rfl
  | storeStatus a => exact (execStoreStatus_fr a s).leaves rfl
  | recRead a => exact (execRecRead_fr a s).leaves rfl
  | recConfig a => exact (execRecConfig_fr a s).leaves rfl
  | recClearToken a => exact (execRecClearToken_fr a s).leaves rfl
  | recClear a => exact (execRecClear_fr a s).leaves rfl
  | recHealth a => exact (execRecHealth_fr a s).leaves rfl
  | clockGet a => exact (execClockGet_fr a s).leaves rfl
  | clockSet a => exact (execClockSet_fr a s).leaves rfl
  | clockAlarm a => exact (execClockAlarm_fr a s).leaves rfl
  | clockCalibrate a => exact (execClockCalibrate_fr a s).leaves rfl
  | expertRead a => exact (execExpertRead_fr a s).leaves rfl
  | expertWrite a => exact (execExpertWrite_fr a s).leaves rfl
  | expertClaim a => exact (execExpertClaim_fr a s).leaves rfl
  | expertRelease a => exact (execExpertRelease_fr a s).leaves rfl
  | expertClaims a => exact (execExpertClaims_fr a s).leaves rfl
  | safeStatus a => exact (execSafeStatus_fr a s).leaves rfl
  | safeForce a => exact (execSafeForce_fr a s).leaves rfl
  | safeRelease a => exact (execSafeRelease_fr a s).leaves rfl
  | trendStatus a => exact (execTrendStatus_fr a s).leaves rfl
  | trendSnapshot a => exact (execTrendSnapshot_fr a s).leaves rfl
  | trendDrain a => exact (execTrendDrain_fr a s).leaves rfl
  | trendAdvance a => exact (execTrendAdvance_fr a s).leaves rfl
  | overrideExpiry => exact (execOverrideExpiry_fr s).leaves rfl
  | inputTrip a => exact (execInputTrip_fr a s).leaves rfl
  | currLimitTrip a => exact (execCurrLimitTrip_fr a s).leaves rfl
  | isolRetest a b => exact (execIsolRetest_fr a b s).leaves rfl
  | ovrClear a => exact (execOvrClear_fr a s).leaves rfl
  | aincfgWrite a b => exact (execAincfgWrite_fr a b s).leaves rfl
  | dryRead a b => exact (execDryRead_fr a b s).leaves rfl
  | pulseEdge a b => exact (execPulseEdge_fr a b s).leaves rfl
  | stageReport a => exact (execStageReport_fr a s).leaves rfl
  | pirExcursion a b c => exact (execPirExcursion_fr a b c s).leaves rfl
  | pirHoldExpiry a => exact (execPirHoldExpiry_fr a s).leaves rfl
  | pirWarmupEnd a => exact (execPirWarmupEnd_fr a s).leaves rfl
  | pirSatResume a => exact (execPirSatResume_fr a s).leaves rfl
  | passStart a => exact (execPassStart_fr a s).leaves rfl
  | entryResult a b => exact (execEntryResult_fr a b s).leaves rfl
  | seqEntryWrite a b c => exact (execSeqEntryWrite_fr a b c s).leaves rfl
  | cnvctlWrite a b => exact (execCnvctlWrite_fr a b s).leaves rfl
  | urgentRequest a b => exact (execUrgentRequest_fr a b s).leaves rfl
  | urgentRun a b => exact (execUrgentRun_fr a b s).leaves rfl
  | resultArrival a => exact (execResultArrival_fr a s).leaves rfl
  | agedSweep => exact (execAgedSweep_fr s).leaves rfl
  | lvtLowRead a b => exact (execLvtLowRead_fr a b s).leaves rfl
  | i2cPassStart a => exact (execI2cPassStart_fr a s).leaves rfl
  | i2cTransactionEnd a b => exact (execI2cTransactionEnd_fr a b s).leaves rfl
  | i2cDelayEnd a => exact (execI2cDelayEnd_fr a s).leaves rfl
  | i2cBusRecovery a b => exact (execI2cBusRecovery_fr a b s).leaves rfl
  | i2cOvervoltage a => exact (execI2cOvervoltage_fr a s).leaves rfl
  | i2cOvvRetest a b => exact (execI2cOvvRetest_fr a b s).leaves rfl
  | twigRound a => exact (execTwigRound_fr a s).leaves rfl
  | twigPollReply a b => exact (execTwigPollReply_fr a b s).leaves rfl
  | twigReplyTimeout a => exact (execTwigReplyTimeout_fr a s).leaves rfl
  | twigReply a b => exact (execTwigReply_fr a b s).leaves rfl
  | twigShort a => exact (execTwigShort_fr a s).leaves rfl
  | twigPowerRetry a => exact (execTwigPowerRetry_fr a s).leaves rfl
  | twigPowerUpWait a => exact (execTwigPowerUpWait_fr a s).leaves rfl
  | twigSearchStep a b => exact (execTwigSearchStep_fr a b s).leaves rfl
  | twigAutoSearch a b => exact (execTwigAutoSearch_fr a b s).leaves rfl
  | display a b c => exact (execDisplay_fr a b c s).leaves rfl
  | cambEnable => exact (execCambEnable_fr s).leaves rfl
  | cambTick => exact (execCambTick_fr s).leaves rfl
  | cambSlotWrite a b c => exact (execCambSlotWrite_fr a b c s).leaves rfl
  | cambLock a b => exact (execCambLock_fr a b s).leaves rfl
  | cambStateWrite a b c => exact (execCambStateWrite_fr a b c s).leaves rfl
  | cambPointArrival => exact (execCambPointArrival_fr s).leaves rfl
  | staleLimit a => exact (execStaleLimit_fr a s).leaves rfl
  | ffStale a => exact (execFfStale_fr a s).leaves rfl
  | substExpiry a => exact (execSubstExpiry_fr a s).leaves rfl
  | substCountReset a => exact (execSubstCountReset_fr a s).leaves rfl
  | tunerArm a b => exact (execTunerArm_fr a b s).leaves rfl
  | tunerStop a => exact (execTunerStop_fr a s).leaves rfl
  | tuneTimeLimit a => exact (execTuneTimeLimit_fr a s).leaves rfl
  | tuneCycleLimit a => exact (execTuneCycleLimit_fr a s).leaves rfl
  | tuneRunEnd a => exact (execTuneRunEnd_fr a s).leaves rfl
  | modelUpdate a => exact (execModelUpdate_fr a s).leaves rfl
  | modelCtlWrite a b c => exact (execModelCtlWrite_fr a b c s).leaves rfl
  | modelSave a => exact (execModelSave_fr a s).leaves rfl
  | scheduleEvaluation => exact (execScheduleEvaluation_fr s).leaves rfl
  | clockChange => exact (execClockChange_fr s).leaves rfl
  | presenceBinEnd a => exact (execPresenceBinEnd_fr a s).leaves rfl
  | triggerEvaluation => exact (execTriggerEvaluation_fr s).leaves rfl
  | triggerDelayExpiry a b => exact (execTriggerDelayExpiry_fr a b s).leaves rfl
  | triggerStartupTimeout a b => exact (execTriggerStartupTimeout_fr a b s).leaves rfl
  | demandArrival => exact (execDemandArrival_fr s).leaves rfl
  | schedulerCycle a => exact (execSchedulerCycle_fr a s).leaves rfl
  | requestDurationEnd a => exact (execRequestDurationEnd_fr a s).leaves rfl
  | requestAged a => exact (execRequestAged_fr a s).leaves rfl
  | leaseEnd a => exact (execLeaseEnd_fr a s).leaves rfl
  | pdclassChange a => exact (execPdclassChange_fr a s).leaves rfl
  | allotmentTimeout => exact (execAllotmentTimeout_fr s).leaves rfl
  | ambientEstimate => exact (execAmbientEstimate_fr s).leaves rfl
  | actuatorRequest => exact (execActuatorRequest_fr s).leaves rfl
  | moveDeadTimeEnd a => exact (execMoveDeadTimeEnd_fr a s).leaves rfl
  | endStop a => exact (execEndStop_fr a s).leaves rfl
  | currentLimitTrip a b => exact (execCurrentLimitTrip_fr a b s).leaves rfl
  | openLoad a => exact (execOpenLoad_fr a s).leaves rfl
  | offStateTest a b => exact (execOffStateTest_fr a b s).leaves rfl
  | stageOvertemp a => exact (execStageOvertemp_fr a s).leaves rfl
  | stageCooled a => exact (execStageCooled_fr a s).leaves rfl
  | vfieldReverse => exact (execVfieldReverse_fr s).leaves rfl
  | vfieldRestore => exact (execVfieldRestore_fr s).leaves rfl
  | drvCtlWrite a b => exact (execDrvCtlWrite_fr a b s).leaves rfl
  | modeChangeDelayEnd a => exact (execModeChangeDelayEnd_fr a s).leaves rfl
  | dinRead a b => exact (execDinRead_fr a b s).leaves rfl
  | driveReport a b => exact (execDriveReport_fr a b s).leaves rfl
  | safeRun => exact (execSafeRun_fr s).leaves rfl
  | drvSafeclrWrite a b => exact (execDrvSafeclrWrite_fr a b s).leaves rfl
  | drvManWrite a b => exact (execDrvManWrite_fr a b s).leaves rfl
  | tachEdge a => exact (execTachEdge_fr a s).leaves rfl
  | fanSpeedLoop a => exact (execFanSpeedLoop_fr a s).leaves rfl
  | stall a b => exact (execStall_fr a b s).leaves rfl
  | tachLostTimeout a => exact (execTachLostTimeout_fr a s).leaves rfl
  | kick a => exact (execKick_fr a s).leaves rfl
  | kickEnd a => exact (execKickEnd_fr a s).leaves rfl
  | retryCountReset a => exact (execRetryCountReset_fr a s).leaves rfl
  | fanDutyArrival => exact (execFanDutyArrival_fr s).leaves rfl
  | fanSafeclrWrite a => exact (execFanSafeclrWrite_fr a s).leaves rfl
  | portConfigWrite a b => exact (execPortConfigWrite_fr a b s).leaves rfl
  | mstpFrameReceive a b => exact (execMstpFrameReceive_fr a b s).leaves rfl
  | readProperty a b => exact (execReadProperty_fr a b s).leaves rfl
  | readPropertyMultiple a b => exact (execReadPropertyMultiple_fr a b s).leaves rfl
  | writeProperty a b => exact (execWriteProperty_fr a b s).leaves rfl
  | writePropertyMultiple a b => exact (execWritePropertyMultiple_fr a b s).leaves rfl
  | readRange a b => exact (execReadRange_fr a b s).leaves rfl
  | subscribeCov a b => exact (execSubscribeCov_fr a b s).leaves rfl
  | covNotification a => exact (execCovNotification_fr a s).leaves rfl
  | covSubscriptionExpiry a => exact (execCovSubscriptionExpiry_fr a s).leaves rfl
  | whoIs a => exact (execWhoIs_fr a s).leaves rfl
  | whoHas a b c => exact (execWhoHas_fr a b c s).leaves rfl
  | timeSynchronization a => exact (execTimeSynchronization_fr a s).leaves rfl
  | utcTimeSynchronization a => exact (execUtcTimeSynchronization_fr a s).leaves rfl
  | deviceCommunicationControl a b c d => exact (execDeviceCommunicationControl_fr a b c d s).leaves rfl
  | reinitializeDevice a b c => exact (execReinitializeDevice_fr a b c s).leaves rfl
  | modbusFunction01 a b => exact (execModbusFunction01_fr a b s).leaves rfl
  | modbusFunction02 a b => exact (execModbusFunction02_fr a b s).leaves rfl
  | modbusFunction03 a b => exact (execModbusFunction03_fr a b s).leaves rfl
  | modbusFunction04 a b => exact (execModbusFunction04_fr a b s).leaves rfl
  | modbusFunction05 a b => exact (execModbusFunction05_fr a b s).leaves rfl
  | modbusFunction06 a b => exact (execModbusFunction06_fr a b s).leaves rfl
  | modbusFunction15 a b => exact (execModbusFunction15_fr a b s).leaves rfl
  | modbusFunction16 a b => exact (execModbusFunction16_fr a b s).leaves rfl
  | modbusPollRound a => exact (execModbusPollRound_fr a s).leaves rfl
  | modbusMasterReply a b => exact (execModbusMasterReply_fr a b s).leaves rfl
  | modbusMasterTimeout a => exact (execModbusMasterTimeout_fr a s).leaves rfl
  | rawByteReceive a b c => exact (execRawByteReceive_fr a b c s).leaves rfl
  | serviceFrame a => exact (execServiceFrame_fr a s).leaves rfl
  | linkUp a => exact (execLinkUp_fr a s).leaves rfl
  | linkDown a b => exact (execLinkDown_fr a b s).leaves rfl
  | ping a b => exact (execPing_fr a b s).leaves rfl
  | echo a b c => exact (execEcho_fr a b c s).leaves rfl
  | credit a b => exact (execCredit_fr a b s).leaves rfl
  | hopCreditTimeout a b => exact (execHopCreditTimeout_fr a b s).leaves rfl
  | graftFrameForward a b => exact (execGraftFrameForward_fr a b s).leaves rfl
  | ackTimeout a b => exact (execAckTimeout_fr a b s).leaves rfl
  | tick a b c => exact (execTick_fr a b c s).leaves rfl
  | tickSend => exact (execTickSend_fr s).leaves rfl
  | tickLoss => exact (execTickLoss_fr s).leaves rfl
  | hello a b => exact (execHello_fr a b s).leaves rfl
  | helloSend => exact (execHelloSend_fr s).leaves rfl
  | nodeAbsence a => exact (execNodeAbsence_fr a s).leaves rfl
  | graftCtlWrite a => exact (execGraftCtlWrite_fr a s).leaves rfl
  | listenEnd => exact (execListenEnd_fr s).leaves rfl
  | roleconfRelisten => exact (execRoleconfRelisten_fr s).leaves rfl
  | time a b => exact (execTime_fr a b s).leaves rfl
  | timeSend => exact (execTimeSend_fr s).leaves rfl
  | allot a b => exact (execAllot_fr a b s).leaves rfl
  | allocationCycle => exact (execAllocationCycle_fr s).leaves rfl
  | allotRepeat a => exact (execAllotRepeat_fr a s).leaves rfl
  | demand a b => exact (execDemand_fr a b s).leaves rfl
  | demandSend => exact (execDemandSend_fr s).leaves rfl
  | takeback a b => exact (execTakeback_fr a b s).leaves rfl
  | masterLoss => exact (execMasterLoss_fr s).leaves rfl
  | mbox a b => exact (execMbox_fr a b s).leaves rfl
  | mboxReply a b => exact (execMboxReply_fr a b s).leaves rfl
  | ack a b => exact (execAck_fr a b s).leaves rfl
  | forwardNodeAbsent a => exact (execForwardNodeAbsent_fr a s).leaves rfl
  | abortFrame a b => exact (execAbortFrame_fr a b s).leaves rfl
  | reset a b => exact (execReset_fr a b s).leaves rfl
  | sched a b => exact (execSched_fr a b s).leaves rfl
  | cal a b => exact (execCal_fr a b s).leaves rfl
  | point a b => exact (execPoint_fr a b s).leaves rfl
  | exportDue a => exact (execExportDue_fr a s).leaves rfl
  | importTimeout a => exact (execImportTimeout_fr a s).leaves rfl
  | zone a b => exact (execZone_fr a b s).leaves rfl
  | zoneEntrySend a => exact (execZoneEntrySend_fr a s).leaves rfl
  | zoneLinkTimeout a => exact (execZoneLinkTimeout_fr a s).leaves rfl
  | heartwoodScrub a b c d => exact (execHeartwoodScrub_fr a b c d s).leaves rfl
  | counterEvent a => exact (execCounterEvent_fr a s).leaves rfl
  | counterSlotWrite => exact (execCounterSlotWrite_fr s).leaves rfl
  | periodicSave a => exact (execPeriodicSave_fr a s).leaves rfl
  | parametersSave a => exact (execParametersSave_fr a s).leaves rfl
  | lockoutEnd a => exact (execLockoutEnd_fr a s).leaves rfl
  | trendRecord a => exact (execTrendRecord_fr a s).leaves rfl
  | trendProgram a => exact (execTrendProgram_fr a s).leaves rfl
  | trendOpen => exact (execTrendOpen_fr s).leaves rfl
  | recorderSecond => exact (execRecorderSecond_fr s).leaves rfl
  | recorderSample a => exact (execRecorderSample_fr a s).leaves rfl
  | grrCursorWrite a b => exact (execGrrCursorWrite_fr a b s).leaves rfl
  | grrPreswrWrite a => exact (execGrrPreswrWrite_fr a s).leaves rfl
  | saveDeferralTimeout => exact (execSaveDeferralTimeout_fr s).leaves rfl
  | recorderScrub a => exact (execRecorderScrub_fr a s).leaves rfl
  | bankFailure a b => exact (execBankFailure_fr a b s).leaves rfl
  | grrPowerUp a => exact (execGrrPowerUp_fr a s).leaves rfl
  | clearTokenExpiry => exact (execClearTokenExpiry_fr s).leaves rfl
  | rtcSecond => exact (execRtcSecond_fr s).leaves rfl
  | rtcCapture a => exact (execRtcCapture_fr a s).leaves rfl
  | rtcTimeWrite a b => exact (execRtcTimeWrite_fr a b s).leaves rfl
  | rtcHalt => exact (execRtcHalt_fr s).leaves rfl
  | rtcRun => exact (execRtcRun_fr s).leaves rfl
  | rtcCalWrite a => exact (execRtcCalWrite_fr a s).leaves rfl
  | calWindow => exact (execCalWindow_fr s).leaves rfl
  | powerPathSwitch a => exact (execPowerPathSwitch_fr a s).leaves rfl
  | fsoarmWrite a => exact (execFsoarmWrite_fr a s).leaves rfl
  | brownout => exact (execBrownout_fr s).leaves rfl
  | bkpreset => exact (execBkpreset_fr s).leaves rfl
  | oscstop => exact (execOscstop_fr s).leaves rfl
  | vblowSample a => exact (execVblowSample_fr a s).leaves rfl
  | trickleWrite a b => exact (execTrickleWrite_fr a b s).leaves rfl
  | vflow => exact (execVflow_fr s).leaves rfl
  | vflowClear => exact (execVflowClear_fr s).leaves rfl
  | sysPwrctlWrite a => exact (execSysPwrctlWrite_fr a s).leaves rfl
  | domainPowerUp a => exact (execDomainPowerUp_fr a s).leaves rfl
  | powerOnReset => exact (execPowerOnReset_fr s).leaves rfl
  | powerOnResetRelease a b => exact (execPowerOnResetRelease_fr a b s).leaves rfl
  | resetPin a => exact (execResetPin_fr a s).leaves rfl
  | startUp a => exact (execStartUp_fr a s).leaves rfl
  | powerFailWarning a => exact (execPowerFailWarning_fr a s).leaves rfl
  | powerFailClear => exact (execPowerFailClear_fr s).leaves rfl
  | thermalSample a => exact (execThermalSample_fr a s).leaves rfl
  | shutdownHoldEnd a => exact (execShutdownHoldEnd_fr a s).leaves rfl
  | safetyInputFault a b => exact (execSafetyInputFault_fr a b s).leaves rfl
  | safetyFaultEnd a b => exact (execSafetyFaultEnd_fr a b s).leaves rfl
  | safeStopHoldEnd => exact (execSafeStopHoldEnd_fr s).leaves rfl
  | fb a => exact (execFb_fr a s).leaves rfl
  | safectlWrite a b => exact (execSafectlWrite_fr a b s).leaves rfl
  | deviceReset => exact (execDeviceReset_fr s).leaves rfl
  | twigLimiting a b c d => exact (execTwigLimiting_fr a b c d s).leaves rfl
  | safedurEnd a => exact (execSafedurEnd_fr a s).leaves rfl
  | fanSpeedReport a => exact (execFanSpeedReport_fr a s).leaves rfl
  | modbusOtherFunction a b => exact (execModbusOtherFunction_fr a b s).leaves rfl
  | unrecognizedService a b => exact (execUnrecognizedService_fr a b s).leaves rfl
  | linkTraining a => exact (execLinkTraining_fr a s).leaves rfl
  | oscillatorRestart => exact (execOscillatorRestart_fr s).leaves rfl
  | bkpResetRelease => exact (execBkpResetRelease_fr s).leaves rfl
  | presenceChange a => exact (execPresenceChange_fr a s).leaves rfl

/-- A command that answers a next state leaves every part that its row of the table changes does not name. -/
theorem Runs.same {c : Instr} {s t : State} (h : Runs c s t) {p : Part} (hp : p ∉ changes c) : p.Same s t :=
  (exec_leaves c s t h).2 p hp

end Sys2Proof.Machine
end

section
/-! PROOFS. The host port and its mailboxes: which commands reach the host port's own state, ABORT (R61), and the error log as a world
sees it (R55). -/

namespace Sys2Proof.Machine

open Sys2Proof

/-! ### The host port's own state -/

/-- Settles O52: a command that changes the host port has the host port in its row of the table changes, and these rows are the
seventeen named. -/
theorem onlyTheseCommandsChangeHostPort : Obligations.OnlyTheseCommandsChangeHostPort := by
  refine fun c s t h => or_iff_not_imp_left.2 fun hne => ?_
  have hp : (changes c).contains .hp = true := by
    by_contra hp
    exact hne (h.same (p := .hp) fun hm => hp (List.contains_iff_mem.2 hm))
  cases c
  case statusFrame | readFrame | writeFrame | bothcs | go | epochChange | hostwdWrite | messageTake | replyPost | hostWatchdogExpiry
      | crownRestart | serviceFrame | powerOnReset | resetPin | startUp | thermalSample | deviceReset => simp
  all_goals exact Bool.noConfusion hp

/-! ### The status of a mailbox channel -/

/-- R56: the flags that a status word of a channel spells. -/
theorem bit_statWord : ∀ full taken tmo withdrawn buserr : Bool,
    let w : Word := BitVec.ofNat 32 (full.toNat + 2 * taken.toNat + 4 * tmo.toNat + 8 * withdrawn.toNat + 16 * buserr.toNat)
    bit w 0 = full ∧ bit w 1 = taken ∧ bit w 2 = tmo ∧ bit w 3 = withdrawn ∧ bit w 4 = buserr := by decide

/-- R56: the flags of a status register that was put. -/
theorem State.b_putStat (a : Nat) (full taken tmo withdrawn buserr : Bool) (s : State) :
    let t := putStat a full taken tmo withdrawn buserr s
    t.b a 0 = full ∧ t.b a 1 = taken ∧ t.b a 2 = tmo ∧ t.b a 3 = withdrawn ∧ t.b a 4 = buserr := by
  simp only [putStat, State.b, State.reg_setReg]
  exact bit_statWord full taken tmo withdrawn buserr

/-- Putting a status register leaves the others. -/
theorem State.reg_putStat_other (a b : Nat) (full taken tmo withdrawn buserr : Bool) (s : State) (h : b ≠ a) :
    (putStat a full taken tmo withdrawn buserr s).reg b = s.reg b := s.reg_setReg_other a b _ h

/-- R58: IEMPTY of a channel is a flag of HP_CHIRQ. -/
theorem setIempty_eq_setB (ch : Nat) (s : State) : setIempty ch s = s.setB aHpChirq ch true := rfl

/-- The status register of an inbound channel is not HP_CHIRQ. -/
theorem aHpInStat_ne_aHpChirq (ch : Nat) : aHpInStat ch ≠ aHpChirq := by
  unfold aHpInStat aHpChirq
  omega

/-! ### A message withdrawn -/

/-- R60, R61: what a withdrawal leaves in the status of its channel. -/
theorem withdraw_stat (ch : Nat) (tmo : Bool) (s : State) :
    let t := withdraw ch tmo s
    t.b (aHpInStat ch) 0 = false ∧ t.b (aHpInStat ch) 1 = s.b (aHpInStat ch) 1 ∧
      t.b (aHpInStat ch) 2 = (tmo || s.b (aHpInStat ch) 2) ∧ t.b (aHpInStat ch) 3 = true ∧
      t.b (aHpInStat ch) 4 = s.b (aHpInStat ch) 4 := by
  have hreg (u : State) : (setIempty ch u).reg (aHpInStat ch) = u.reg (aHpInStat ch) :=
    u.reg_setB_other _ _ _ _ (aHpInStat_ne_aHpChirq ch)
  simp only [withdraw, State.b, hreg]
  exact State.b_putStat _ _ _ _ _ _ s

/-- R58: a withdrawal sets IEMPTY of its channel. -/
theorem withdraw_iempty (ch : Nat) (tmo : Bool) (s : State) (h : ch < 32) : (withdraw ch tmo s).b aHpChirq ch = true :=
  State.b_setB _ _ _ _ h

/-- A withdrawal leaves every other bit of HP_CHIRQ. -/
theorem withdraw_chirq_other (ch i : Nat) (tmo : Bool) (s : State) (h : i ≠ ch) :
    (withdraw ch tmo s).b aHpChirq i = s.b aHpChirq i :=
  (State.b_setB_other _ _ _ _ _ h).trans
    (congrArg (bit · i) (State.reg_putStat_other _ _ _ _ _ _ _ s (aHpInStat_ne_aHpChirq ch).symm))

/-- A withdrawal leaves every register but its channel's status and HP_CHIRQ. -/
theorem withdraw_reg_other (ch a : Nat) (tmo : Bool) (s : State) (hs : a ≠ aHpInStat ch) (hc : a ≠ aHpChirq) :
    (withdraw ch tmo s).reg a = s.reg a :=
  (State.reg_setB_other _ _ _ _ _ hc).trans (State.reg_putStat_other _ _ _ _ _ _ _ s hs)

/-- A withdrawal changes registers alone. -/
theorem withdraw_frame (ch : Nat) (tmo : Bool) (s : State) : withdraw ch tmo s = { s with regs := (withdraw ch tmo s).regs } := rfl

/-- R61: ABORT withdraws the message of a full channel. -/
theorem abortSend_full {ch : Nat} {s : State} (h : s.b (aHpInStat ch) 0 = true) : abortSend ch s = withdraw ch false s := if_pos h

/-- R61: ABORT on an empty channel does nothing. -/
theorem abortSend_empty {ch : Nat} {s : State} (h : s.b (aHpInStat ch) 0 = false) : abortSend ch s = s :=
  if_neg (ne_true_of_eq_false h)

/-- Settles O57: out of reset ABORT is a withdrawal without a time-out, whose flags and frame are the laws above. -/
theorem abortWithdrawsMessage : Obligations.AbortWithdrawsMessage := by
  intro ch s hheld
  have habort : Runs (.abort ch) s (abortSend ch s) := Runs.of_neg rfl (ne_true_of_eq_false hheld)
  refine ⟨fun hempty => by rwa [abortSend_empty hempty] at habort, fun hfull => ?_⟩
  obtain ⟨h0, h1, h2, h3, h4⟩ := withdraw_stat ch false s
  rw [abortSend_full hfull] at habort
  exact ⟨_, habort, withdraw_frame ch false s, h0, h3, h2, h1, h4, withdraw_iempty ch false s (by omega),
    fun i => withdraw_chirq_other ch i false s, fun a => withdraw_reg_other ch a false s⟩

/-! ### The error log -/

/-- R55: through the non-secure chip select HP_ERRLOG reads 0 while CS is 1; in every other case it reads as it stands. -/
theorem hpRead_errlog (sec : Bool) (s : State) :
    hpRead sec aHpErrlog s = if !sec && s.b aHpErrlog 27 then 0 else s.reg aHpErrlog := by
  cases sec <;> rfl

/-- Settles O56, from the read of HP_ERRLOG. -/
theorem errorLogHiddenFromHcs : Obligations.ErrorLogHiddenFromHcs := by
  intro s
  simp only [hpRead_errlog]
  exact ⟨fun h => if_pos h, fun h => if_neg (ne_true_of_eq_false h), rfl⟩

end Sys2Proof.Machine
end

section
/-! PROOFS. The CFG commands and the events of the configuration: a command in its turn does its work when its checks pass, and an event
acts under its condition. -/

namespace Sys2Proof.Machine

open Sys2Proof

/-! ### Commands in their turn -/

/-- R86, R91: a command in its turn whose checks pass does what stands behind them. -/
theorem runCmd_checked {id code : Nat} {c : Cmd} {s t : State} {body : Cmd → State → Reply × State} {r : Reply}
    {l : List (Bool × Nat)} (h : CmdTurn id code c s) (hb : body c s = checked l s (r, t)) (hp : Passes l) :
    runCmd id code body s = settle id r t := by
  rw [runCmd_turn h, hb, checked_pass hp]

/-- R84: while the end of a command stands, the command is ending. -/
theorem endingOf_of_cmdEnding {id code : Nat} {c : Cmd} {e : Nat × List Word} {s : State} (h : CmdEnding id code c e s) :
    endingOf id s = true := by
  obtain ⟨hid, -, -, -, hend⟩ := h
  simp [endingOf, hid, hend]

/-- R91: a single check that does not fail passes. -/
theorem passes_single {b : Bool} {e : Nat} (h : b = false) : Passes [(b, e)] := by
  rw [h]
  rfl

/-! ### The configuration -/

/-- Settles O26: a CFG command in its turn whose checks pass does its work; an event of the configuration acts while firmware is
ready and its condition holds. -/
theorem configurationCommands : Obligations.ConfigurationCommands := by
  refine ⟨?loadBegin, ?loadData, ?loadEnd, ?mode, ?condition, ?loadEnding, ?expiry, ?expiryNot, ?change, ?changeNot, ?query,
    ?queryNoImage, ?queryZone, ?doorbell, ?doorbellNot⟩
  case loadBegin => exact fun id c s h hp => Runs.of_exec rfl (runCmd_checked h rfl hp)
  case loadData =>
    refine fun id c l s h hl hp => Runs.of_exec rfl (runCmd_checked h ?_ hp)
    simp only [hl]
  case loadEnd =>
    refine fun id m c l s h hm hbits hl => Runs.of_exec rfl ((if_neg (by simp [hm])).trans ?_)
    have hpass : Passes [(!onlyBits (mw c.words 1) 1, stBadArg)] := passes_single (congrArg Bool.not hbits)
    refine runCmd_checked h ?_ hpass
    simp only [hl]
  case mode =>
    refine fun id c s h hp howner hexp => Runs.of_exec rfl (runCmd_checked h ?_ hp)
    have hfree : ¬ (!bit (mw c.words 2) 31 && !ownerBase (mw c.words 1) s) = true := by
      rcases howner with hown | hown <;> simp [hown]
    simp only [if_neg hfree, checked_pass (passes_single (congrArg Bool.not hexp))]
  case condition => exact fun id c s h hp => Runs.of_exec rfl (runCmd_checked h rfl hp)
  case loadEnding =>
    refine fun id m c e s h => Runs.of_exec rfl ((if_neg (by simp [endingOf_of_cmdEnding h])).trans ?_)
    exact runCmd_ending h _
  case expiry => exact fun s hr => Runs.of_pos rfl hr
  case expiryNot => exact fun s hr => Runs.of_neg rfl hr
  case change => exact fun s hr hc => Runs.of_pos rfl (by simp [hr, hc])
  case changeNot => exact fun s h => Runs.of_neg rfl (by simpa using h)
  case query =>
    refine fun id c im s h hw him => Runs.of_exec rfl ((runCmd_turn h _).trans ?_)
    simp only [if_pos hw, him]
  case queryNoImage =>
    refine fun id c s h hw him => Runs.of_exec rfl ((runCmd_turn h _).trans ?_)
    simp only [if_pos hw, him]
  case queryZone =>
    refine fun id c s h hw hty hp => Runs.of_exec rfl (runCmd_checked h ?_ hp)
    simp only [if_neg hw, if_pos hty]
  case doorbell => exact fun i s hr hb => Runs.of_pos rfl (by simp [hr, hb])
  case doorbellNot => exact fun i s h => Runs.of_neg rfl (by simpa using h)

end Sys2Proof.Machine
end

section
/-! PROOFS. What firmware takes and posts, and power, reset and start-up: what a row does is the branch of its meaning that its
condition chooses. -/

namespace Sys2Proof.Machine

open Sys2Proof

/-- Settles O39: a row acts in the branch that its condition chooses, and otherwise leaves the state. -/
theorem firmwareAndResetEvents : Obligations.FirmwareAndResetEvents := by
  refine ⟨?take, ?parity, ?noMessage, ?takeNot, ?post, ?postNot, ?epoch, ?epochNot, ?start, ?startNot, ?watchdog, ?watchdogHeld,
    ?restart, ?restartAsked, ?por, ?porHeld, ?release, ?releaseNot, ?pinLow, ?pinHigh, ?deviceReset, ?warning, ?warningNot, ?clear,
    ?clearNot, ?domain, ?recorder, ?recorderNot⟩
  case take =>
    refine fun ch s hr hu hn hp => Runs.of_exec rfl ((if_neg (by simp [hr, hu])).trans ?_)
    simp only [hn]
    exact if_neg (ne_true_of_eq_false hp)
  case parity =>
    refine fun ch s hr hu hn hp => Runs.of_exec rfl ((if_neg (by simp [hr, hu])).trans ?_)
    simp only [hn]
    exact if_pos hp
  case noMessage =>
    refine fun s hr hu hn => Runs.of_exec rfl ((if_neg (by simp [hr, hu])).trans ?_)
    simp only [hn]
  case takeNot => exact fun s h => Runs.of_pos rfl (by simpa using h)
  case post => exact fun ch s hr => Runs.of_pos rfl hr
  case postNot => exact fun ch s hr => Runs.of_neg rfl hr
  case epoch => exact fun sec s hr he => Runs.of_pos rfl (by simp [hr, he])
  case epochNot => exact fun sec s h => Runs.of_neg rfl (by simpa using h)
  case start => exact fun boot s hh hd hw => Runs.of_neg rfl (by simp [hh, hd, hw])
  case startNot => exact fun boot s h => Runs.of_pos rfl (by simpa [or_assoc, or_iff_not_imp_left] using h)
  case watchdog => exact fun s hh => Runs.of_neg rfl (ne_true_of_eq_false hh)
  case watchdogHeld => exact fun s hh => Runs.of_pos rfl (eq_true_of_ne_false hh)
  case restart =>
    refine fun u s hh hd hc => Runs.of_exec rfl ((if_neg (by simp [hh, hd])).trans ?_)
    simp only [hc]
  case restartAsked =>
    refine fun u a b s hh hd hc hp => Runs.of_exec rfl ((if_neg (by simp [hh, hd])).trans ?_)
    simp only [hc, hp]
  case por => exact fun s hh => Runs.of_neg rfl hh
  case porHeld => exact fun s hh => Runs.of_pos rfl (not_not.1 hh)
  case release => exact fun sel ten s hh => Runs.of_neg rfl (not_not_intro hh)
  case releaseNot => exact fun sel ten s hh => Runs.of_pos rfl hh
  case pinLow =>
    refine fun s hh => Runs.of_exec rfl ((if_pos rfl).trans ?_)
    simp only [hh]
  case pinHigh => exact fun s hh => Runs.of_exec rfl ((if_neg Bool.false_ne_true).trans (if_pos hh))
  case deviceReset =>
    refine fun sc t a b s hh hp hsc => Runs.of_exec rfl ((if_neg (by simp [hh])).trans ?_)
    simp only [hp]
    exact if_neg hsc
  case warning =>
    rintro r _ s rfl hh hw hon
    exact Runs.of_neg rfl (by simp [hh, hw, hon])
  case warningNot =>
    rintro r _ s rfl h
    exact Runs.of_pos rfl (by simpa [or_assoc] using h)
  case clear =>
    refine fun t0 s hh hw hv => Runs.of_exec rfl ((if_neg (by simp [hh, hw])).trans ?_)
    simp only [hv]
  case clearNot =>
    rintro s (hh | hw | hv)
    · exact Runs.of_pos rfl (by simp [hh])
    · exact Runs.of_pos rfl (by simp [hw])
    · exact Runs.of_exec rfl (ite_eq_left_iff.2 fun _ => by simp only [hv])
  case domain =>
    refine fun d t s hd => Runs.of_exec rfl ?_
    simp only [hd]
  case recorder => exact fun failed s hd hup => Runs.of_neg rfl (by simp [hd, hup])
  case recorderNot => exact fun failed s h => Runs.of_pos rfl (by simpa [or_iff_not_imp_left] using h)

end Sys2Proof.Machine
end

section
/-! PROOFS. The firmware interface: references (R97), the commands that only read, and the EXPERT, DRIVE, FAN, BUS, GROVE and SYS
commands: a command in its turn whose checks pass does what stands behind them. -/

namespace Sys2Proof.Machine

open Sys2Proof

/-! ### What stands behind the checks -/

/-- R86, R91: a command in its turn whose checks pass answers `r` and leads to `t` when its work does. -/
theorem runCmd_work {id code : Nat} {c : Cmd} {s t : State} {body : Cmd → State → Reply × State} {r : Reply}
    {l : List (Bool × Nat)} {work : Reply × State} (h : CmdTurn id code c s) (hb : body c s = checked l s work) (hp : Passes l)
    (hw : work = (r, t)) : runCmd id code body s = settle id r t :=
  runCmd_checked h (hb.trans (congrArg (checked l s) hw)) hp

/-- R86, R91: a command in its turn is answered the status of the first check that fails, and leaves the state. -/
theorem runCmd_refused {id code e : Nat} {c : Cmd} {s : State} {body : Cmd → State → Reply × State} {l : List (Bool × Nat)}
    {work : Reply × State} (h : CmdTurn id code c s) (hb : body c s = checked l s work) (hf : firstFail l = some e) :
    runCmd id code body s = settle id (.st e) s := by
  rw [runCmd_turn h, hb, checked_fail hf]

/-- R91: work behind one more check that does not fail. -/
theorem checked_of_false {b : Bool} {e : Nat} {s : State} {work : Reply × State} (h : b = false) : checked [(b, e)] s work = work :=
  checked_pass (passes_single h)

/-- R36: a command whose link stands runs. -/
theorem overBark_up {s : State} {work : State → Reply × State} (h : bridgeFails .bark s = false) : overBark s work = work s :=
  if_neg (ne_true_of_eq_false h)

/-- R309: what is done with a resource that its base configuration or mode overlay owns. -/
theorem ite_not_ownerBase {α : Type} {r : Word} {s : State} {conflict work : α} (h : ownerBase r s = true) :
    (if !ownerBase r s then conflict else work) = work :=
  if_neg (by simp [h])

/-- R103: what is done with a resource that nobody claims. -/
theorem ite_claimed {α : Type} {r : Word} {s : State} {conflict work : α} (h : claimed r s = false) :
    (if claimed r s then conflict else work) = work :=
  if_neg (ne_true_of_eq_false h)

/-! ### Commands that only read -/

/-- Settles O53: the row of each of these commands in the table changes is the firmware's own part alone. -/
theorem readingCommandsLeaveTheBlock : Obligations.ReadingCommandsLeaveTheBlock := by
  intro id c hc s t h
  have hrow : changes c = [.fw] := List.eq_of_mem_replicate (n := 22) (List.mem_map_of_mem (f := changes) hc)
  have same (p : Part) (hp : p ≠ .fw) : p.Same s t := h.same (by rwa [hrow, List.mem_singleton])
  exact ⟨(exec_leaves c s t h).1, same .regs nofun, same .fab nofun, same .hp nofun, same .inp nofun, same .cnv nofun, same .rq nofun,
    same .field nofun, same .camb nofun, same .drv nofun, same .fan nofun, same .bus nofun, same .gft nofun, same .heart nofun,
    same .trend nofun, same .grr nofun, same .rtc nofun, same .pwr nofun, same .ther nofun, same .now nofun, same .free nofun⟩

/-! ### References -/

/-- R97: the object types that are counted, each with its count; blocks are named, not counted. -/
def objTable : List (Nat × Nat) :=
  [(1, 256), (2, 96), (3, 48), (4, 32), (5, 1), (6, 48), (7, 16), (8, 6), (9, 8), (10, 5), (11, 80), (12, 128), (13, 256), (14, 16),
   (15, 128), (16, 192), (17, 32), (18, 64), (19, 3), (20, 96)]

/-- R97: a type of the table has its count. -/
theorem objCount_of_mem_objTable : ∀ e ∈ objTable, objCount e.1 = some e.2 ∧ e.1 ≠ 0x1F := by decide

/-- R97: the known types are those of the table and the blocks. -/
theorem objCount_eq_none {t : Nat} (ht : t ∉ objTable.map (·.1)) (hb : t ≠ 0x1F) : objCount t = none := by
  unfold objCount
  split
  case h_22 => rfl
  case h_21 => exact absurd rfl hb
  all_goals exact absurd (by decide) ht

/-- R97: a reserved bit is BAD_ARG. -/
theorem refCheck_reserved {r : Word} (h : fld r 16 8 ≠ 0) : refCheck r = stBadArg := if_pos h

/-- R97: an unknown type is BAD_ARG. -/
theorem refCheck_unknown {r : Word} (h : objCount (refType r) = none) : refCheck r = stBadArg := by
  unfold refCheck
  rw [h, ite_self]
  rfl

/-- R97: a number at or beyond the count of its type is NOT_FOUND. -/
theorem refCheck_counted {r : Word} {n : Nat} (h0 : fld r 16 8 = 0) (hn : objCount (refType r) = some n) (ht : refType r ≠ 0x1F) :
    refCheck r = if refInst r < n then 0 else stNotFound := by
  unfold refCheck
  rw [if_neg (not_not_intro h0), hn]
  exact if_neg ht

/-- R97: a block number that is no block's is NOT_FOUND. -/
theorem refCheck_block {r : Word} (h0 : fld r 16 8 = 0) (ht : refType r = 0x1F) :
    refCheck r = if refInst r ∈ blockNums then 0 else stNotFound := by
  unfold refCheck
  rw [if_neg (not_not_intro h0), ht]
  rfl

/-- R107: SYS.OWNER answers the owner of an object, or the status that refuses its reference. -/
theorem sysOwner_runs {id : Nat} {c : Cmd} {s : State} (h : CmdTurn id 0x0104 c s) :
    Runs (.sysOwner id) s (if refCheck (mw c.words 1) = 0 then settle id (.done stOk [ownerOf (mw c.words 1) s]) s
      else settle id (.st (refCheck (mw c.words 1))) s) := by
  by_cases hr : refCheck (mw c.words 1) = 0
  · rw [if_pos hr]
    exact Runs.of_exec rfl (runCmd_work h rfl (passes_single (by simp [hr])) rfl)
  · rw [if_neg hr]
    exact Runs.of_exec rfl (runCmd_refused h rfl (if_pos (decide_eq_true hr)))

/-- Settles O58, by the cases of the check. -/
theorem referencesAreChecked : Obligations.ReferencesAreChecked := by
  refine ⟨fun r => refCheck_reserved, fun r ht hb => refCheck_unknown (objCount_eq_none ht hb), fun r e h0 he ht => ?_,
    fun r => refCheck_block, fun id c s => sysOwner_runs⟩
  obtain ⟨hn, hb⟩ := objCount_of_mem_objTable e he
  exact refCheck_counted h0 ((congrArg objCount ht).trans hn) (ne_of_eq_of_ne ht hb)

/-! ### The EXPERT commands -/

/-- Settles O28: what stands behind the checks of each command, where no resource has another owner. -/
theorem expertCommands : Obligations.ExpertCommands := by
  refine ⟨?read, ?write, ?writeConflict, ?claim, ?release, ?claims⟩
  case read => exact fun id c s h hp h0 => Runs.of_exec rfl (runCmd_work h rfl hp (if_pos h0))
  case write =>
    refine fun id c s h hp hn h0 => Runs.of_exec rfl (runCmd_work h rfl hp ?_)
    simp only [hn]
    exact if_pos h0
  case writeConflict =>
    refine fun id c r s h hp hr => Runs.of_exec rfl (runCmd_work h rfl hp ?_)
    simp only [hr]
  case claim =>
    refine fun id c s h hp hn => Runs.of_exec rfl (runCmd_work h rfl hp ?_)
    simp only [hn]
  case release => exact fun id c s h hp => Runs.of_exec rfl (runCmd_work h rfl hp rfl)
  case claims => exact fun id c s h => Runs.of_exec rfl (runCmd_turn h _)

/-! ### The DRIVE and FAN commands -/

/-- Settles O31: what stands behind the checks of each command, where the link stands and the resource is free to drive. -/
theorem driveAndFanCommands : Obligations.DriveAndFanCommands := by
  refine ⟨?read, ?override, ?endOverride, ?conflict, ?diag, ?safeval, ?calibrate, ?budget, ?fanRead, ?fanOverride, ?fanEnd, ?failsafe,
    ?clearFail⟩
  case read => exact fun id c s h hp hb => Runs.of_exec rfl (runCmd_work h rfl hp (overBark_up hb))
  case override =>
    refine fun id c s h hp ho hx hr h0 h5 => Runs.of_exec rfl (runCmd_work h rfl hp ?_)
    exact (ite_not_ownerBase ho).trans ((if_neg (ne_true_of_eq_false hx)).trans (checked_of_false (by simp [hr, h0, h5])))
  case endOverride =>
    exact fun id c s h hp ho hx => Runs.of_exec rfl (runCmd_work h rfl hp ((ite_not_ownerBase ho).trans (if_pos hx)))
  case conflict => exact fun id c s h hp ho => Runs.of_exec rfl (runCmd_work h rfl hp (if_pos (by simp [ho])))
  case diag =>
    refine fun id c s h hp hc hb => Runs.of_exec rfl (runCmd_work h rfl hp ?_)
    exact (if_neg (ne_true_of_eq_false (Bool.and_eq_false_iff.2 hc))).trans (overBark_up hb)
  case safeval =>
    exact fun id c s h hp hc hb => Runs.of_exec rfl (runCmd_work h rfl hp ((ite_claimed hc).trans (overBark_up hb)))
  case calibrate =>
    refine fun id c s h hp hf hm => Runs.of_exec rfl (runCmd_work h rfl hp ?_)
    simp only [hf]
    exact checked_of_false (by rcases hm with hm | hm <;> simp [hm])
  case budget => exact fun id c s h => Runs.of_exec rfl (runCmd_turn h _)
  case fanRead => exact fun id c s h hp hb => Runs.of_exec rfl (runCmd_work h rfl hp (overBark_up hb))
  case fanOverride =>
    refine fun id c s h hp ho hx hr hen => Runs.of_exec rfl (runCmd_work h rfl hp ?_)
    exact (ite_not_ownerBase ho).trans ((if_neg (ne_true_of_eq_false hx)).trans (checked_of_false (by simp [hr, hen])))
  case fanEnd =>
    exact fun id c s h hp ho hx => Runs.of_exec rfl (runCmd_work h rfl hp ((ite_not_ownerBase ho).trans (if_pos hx)))
  case failsafe =>
    exact fun id c s h hp hc hb => Runs.of_exec rfl (runCmd_work h rfl hp ((ite_claimed hc).trans (overBark_up hb)))
  case clearFail =>
    exact fun id c s h hp hc hb => Runs.of_exec rfl (runCmd_work h rfl hp ((ite_claimed hc).trans (overBark_up hb)))

/-! ### The BUS commands -/

/-- Settles O32: what stands behind the checks of each command, where the resource is the sender's. -/
theorem busCommands : Obligations.BusCommands := by
  refine ⟨?port, ?status, ?raw, ?discover, ?script⟩
  case port =>
    exact fun id c s h hp ho hr => Runs.of_exec rfl (runCmd_work h rfl hp ((ite_not_ownerBase ho).trans (checked_of_false hr)))
  case status => exact fun id c s h hp => Runs.of_exec rfl (runCmd_work h rfl hp rfl)
  case raw =>
    refine fun id c s h hp hroom ho => Runs.of_exec rfl (runCmd_work h rfl hp ?_)
    have hfits := Bool.and_eq_false_iff.2 (hroom.imp_right fun hle => decide_eq_false (Nat.not_lt.2 hle))
    exact (if_neg (ne_true_of_eq_false hfits)).trans (ite_not_ownerBase ho)
  case discover =>
    refine fun id c s h hp hf => Runs.of_exec rfl (runCmd_work h rfl hp ?_)
    simp only [hf]
  case script =>
    exact fun id c s h hp ho hr => Runs.of_exec rfl (runCmd_work h rfl hp ((ite_not_ownerBase ho).trans (checked_of_false hr)))

/-! ### The GROVE commands -/

/-- Settles O37: what stands behind the checks of each command, where no resource has another owner. -/
theorem groveCommands : Obligations.GroveCommands := by
  refine ⟨?status, ?resetNode, ?share, ?shareWrite, ?push, ?pushEnding⟩
  case status => exact fun id c s h => Runs.of_exec rfl (runCmd_turn h _)
  case resetNode => exact fun id c s h hp => Runs.of_exec rfl (runCmd_work h rfl hp rfl)
  case share => exact fun id c s h hp hw => Runs.of_exec rfl (runCmd_work h rfl hp (if_pos (by simp [hw])))
  case shareWrite =>
    rintro id c _ s h hp hw hc hb rfl
    refine Runs.of_exec rfl (runCmd_work h rfl hp ?_)
    exact (if_neg (by simp [hw])).trans ((ite_claimed hc).trans (checked_of_false hb))
  case push =>
    rintro id c _ _ _ s h hp hf rfl rfl rfl hhere hframes
    refine Runs.of_exec rfl (runCmd_work h rfl hp ?_)
    simp only [hf]
    exact if_neg (not_or.2 ⟨hhere, hframes⟩)
  case pushEnding => exact fun id c e s h => Runs.of_exec rfl (runCmd_ending h _)

/-! ### The SYS commands -/

/-- Settles O38: what stands behind the checks of each command, and the end of those that go on. -/
theorem systemCommands : Obligations.SystemCommands := by
  refine ⟨?erase, ?write, ?unsigned, ?verify, ?confirm, ?fwStatus, ?eraseEnding, ?writeEnding, ?verifyEnding, ?confirmEnding,
    ?fwStatusEnding, ?info, ?status, ?owner, ?abort, ?reset, ?resetPending, ?collect, ?dumpRead, ?collectEnding, ?dumpReadEnding⟩
  case erase => exact fun id c s h ho hp hb hs => Runs.of_exec rfl (fwUpdate_run h ho hp (.inr hb) (.inl hs) _)
  case write =>
    refine fun id c s h ho hp hb hs hw => Runs.of_exec rfl ((fwUpdate_run h ho hp (.inr hb) (.inl hs) _).trans ?_)
    simp only [checked_pass hw]
  case unsigned =>
    refine fun id c s h ho hp hb hs hv => Runs.of_exec rfl ((fwUpdate_run h ho hp (.inr hb) (.inl hs) _).trans ?_)
    simp only [if_pos hv]
  case verify =>
    refine fun id c s h ho hp hb hs => Runs.of_exec rfl ((fwUpdate_run h ho hp (.inr hb) (.inl hs) _).trans ?_)
    by_cases hv : (!slotForm (fwSlot c) s || !Config.imageSigned (slotWords (fwSlot c) s)) = true
    · simp only [if_pos hv, if_pos (Or.inl hv)]
    by_cases hn : slotSvn (fwSlot c) s < svnFloorNow s
    · simp only [if_neg hv, if_pos hn, if_pos (Or.inr hn)]
    · simp only [if_neg hv, if_neg hn, if_neg (not_or.2 ⟨hv, hn⟩)]
  case confirm =>
    refine fun id c s h ho hp hs hb ht => Runs.of_exec rfl ((fwUpdate_run h ho hp (.inl rfl) (.inl hs) _).trans ?_)
    simp only [if_pos (And.intro hb ht)]
  case fwStatus => exact fun id c s h ho hp => Runs.of_exec rfl (fwUpdate_run h ho hp (.inl rfl) (.inr rfl) _)
  case eraseEnding | writeEnding | verifyEnding | confirmEnding | fwStatusEnding =>
    exact fun id c e s h ho => Runs.of_exec rfl (runOp_ending h ho _)
  case info => exact fun id c s h => Runs.of_exec rfl (runCmd_turn h _)
  case status => exact fun id c s h => Runs.of_exec rfl (runCmd_turn h _)
  case owner => exact fun id c s h hp => Runs.of_exec rfl (runCmd_work h rfl hp rfl)
  case abort =>
    refine fun id c x s h hp hx hsec hr hk => Runs.of_exec rfl (runCmd_work h rfl hp ?_)
    simp only [hx]
    rw [if_neg (by rcases hsec with h | h <;> simp [h]), if_neg (by simp [hr]), if_pos hk]
  case reset =>
    refine fun id c s h hp hn => Runs.of_exec rfl (runCmd_work h rfl hp ?_)
    simp only [hn]
    exact if_neg Bool.false_ne_true
  case resetPending =>
    refine fun id c r s h hp hr hle => Runs.of_exec rfl (runCmd_work h rfl hp ?_)
    simp only [hr]
    exact if_pos (decide_eq_true hle)
  case collect =>
    refine fun id c s h ho hp => Runs.of_exec rfl ((runOp_turn h ho _).trans ?_)
    simp only [checked_pass hp]
  case dumpRead =>
    refine fun id c s h ho hp => Runs.of_exec rfl ((runOp_turn h ho _).trans ?_)
    simp only [checked_pass hp]
  case collectEnding | dumpReadEnding => exact fun id c e s h ho => Runs.of_exec rfl (runOp_ending h ho _)

end Sys2Proof.Machine
end

section
/-! PROOFS. The rows of the input stages and of the presence detectors: what a row does is the branch of its meaning that its
condition chooses, after a mode change whose time has come (R130). -/

namespace Sys2Proof.Machine

open Sys2Proof

/-! ### Input stages -/

/-- Settles O2: a row acts on a stage that is connected and in the mode that the row needs; otherwise only the mode settles. -/
theorem inputStageCommands : Obligations.InputStageCommands := by
  refine ⟨?trip, ?tripNot, ?limit, ?limitNot, ?retest, ?first, ?retestOff, ?retestClosed, ?ovr, ?ovrNot, ?config, ?configOff, ?dry,
    ?dryNot, ?pulse, ?pulseNot, ?report, ?reportNot⟩
  case trip => exact fun n mv s hj hm hw => Runs.of_pos rfl (by simp [hj, hm, hw])
  case tripNot => exact fun n mv s h => Runs.of_neg rfl (by simpa [and_assoc] using h)
  case limit => exact fun n us s hj hm hheld => Runs.of_pos rfl (by simp [hj, hm, hheld])
  case limitNot => exact fun n us s h => Runs.of_neg rfl (by simpa [and_assoc] using h)
  case retest => exact fun n r s hd hisol => Runs.of_exec rfl ((if_neg (by simp [hd])).trans (if_pos hisol))
  case first =>
    exact fun n r s hd hisol hj => Runs.of_exec rfl
      ((if_neg (by simp [hd])).trans ((if_neg (ne_true_of_eq_false hisol)).trans (if_pos hj)))
  case retestOff => exact fun n r s hd => Runs.of_pos rfl (by simp [hd])
  case retestClosed =>
    exact fun n r s hisol hj => Runs.of_exec rfl
      (ite_eq_left_iff.2 fun _ => (if_neg (ne_true_of_eq_false hisol)).trans (if_neg (ne_true_of_eq_false hj)))
  case ovr =>
    intro n t s hclosed hisol
    simp only [Runs, exec, execOvrClear, hclosed, if_neg (ne_true_of_eq_false hisol)]
  case ovrNot =>
    rintro n s (hopen | hisol)
    · simp only [Runs, exec, execOvrClear, hopen]
    · simp only [Runs, exec, execOvrClear, if_pos hisol]
      split <;> rfl
  case config => exact fun n v s hd => Runs.of_pos rfl hd
  case configOff => exact fun n v s hd => Runs.of_neg rfl hd
  case dry => exact fun n mv s hj hm => Runs.of_pos rfl (by simp [hj, hm])
  case dryNot => exact fun n mv s h => Runs.of_neg rfl (by simpa using h)
  case pulse => exact fun n mv s hj hm => Runs.of_pos rfl (by simp [hj, hm])
  case pulseNot => exact fun n mv s h => Runs.of_neg rfl (by simpa using h)
  case report =>
    refine fun n s hd hpen hm hknown => Runs.of_exec rfl ((if_pos ?_).trans ?_)
    · simpa [hd, hpen, hm, Option.isSome_iff_ne_none, imp_iff_not_or] using hknown
    · simp only [Bool.and_eq_true, decide_eq_true_eq]
  case reportNot => exact fun n s h => Runs.of_neg rfl (by simpa [and_assoc] using h)

/-! ### Presence detectors -/

/-- Settles O3: an excursion is observed in PYRO mode by a detector that is on; an end happens when its time is set. -/
theorem presenceDetectorCommands : Obligations.PresenceDetectorCommands := by
  refine ⟨?excursion, ?excursionNot, ?hold, ?holdNot, ?warm, ?warmNot, ?resume, ?resumeNot⟩
  case excursion => exact fun k out src s hp => Runs.of_pos rfl hp
  case excursionNot => exact fun k out src s hp => Runs.of_neg rfl hp
  case hold | warm | resume =>
    intro k t s hend
    simp only [Runs, exec, execPirHoldExpiry, execPirWarmupEnd, execPirSatResume, hend]
  case holdNot | warmNot | resumeNot =>
    intro k s hend
    simp only [Runs, exec, execPirHoldExpiry, execPirWarmupEnd, execPirSatResume, hend]

end Sys2Proof.Machine
end

section
/-! PROOFS. R163: the partitions of the result queue: what an arrival and a delivery leave in the partition, in its register and in
every other one. -/

namespace Sys2Proof.Machine

open Sys2Proof

/-- A key of a table with one default reads as written. -/
theorem tblGet_tblSet_same {α : Type} [DecidableEq α] (d : α) (t : Tbl α) (k : Nat) (v : α) : tblGet d (tblSet d t k v) k = v :=
  tblGetD_set_same t k v

/-! ### The entries of a partition -/

/-- The entries of a partition depend on the result queue alone. -/
theorem partOf_congr {s t : State} (h : t.rq = s.rq) (p : Nat) : partOf p t = partOf p s := by
  unfold partOf
  rw [h]

/-- A partition holds the entries that were set. -/
@[simp] theorem partOf_setPart_same (p : Nat) (l : List PartEntry) (s : State) : partOf p (setPart p l s) = l := by
  unfold partOf setPart
  rw [State.setF_rq]
  split
  · rfl
  · split <;> rfl

/-- R163: setting a partition leaves the others. -/
theorem partOf_setPart_other (l : List PartEntry) (s : State) : ∀ {p q : Fin 3}, q ≠ p → partOf q (setPart p l s) = partOf q s
  | 0, 1, _ | 0, 2, _ | 1, 0, _ | 1, 2, _ | 2, 0, _ | 2, 1, _ => rfl
  | 0, 0, h | 1, 1, h | 2, 2, h => absurd rfl h

/-- Setting a partition leaves the marks of the next delivery. -/
@[simp] theorem setPart_lostNext (p : Nat) (l : List PartEntry) (s : State) : (setPart p l s).rq.lostNext = s.rq.lostNext := by
  unfold setPart
  rw [State.setF_rq]
  split
  · rfl
  · split <;> rfl

/-! ### The register of a partition -/

/-- Setting a partition shows its fill in RQ_PARTp. -/
theorem reg_setPart_same (p : Nat) (l : List PartEntry) (s : State) :
    (setPart p l s).reg (aRqPart p) = setFld (s.reg (aRqPart p)) 0 10 l.length := State.reg_setF ..

/-- Setting a partition leaves every register but RQ_PARTp. -/
theorem reg_setPart_other (p : Nat) (l : List PartEntry) (s : State) {a : Nat} (h : a ≠ aRqPart p) : (setPart p l s).reg a = s.reg a :=
  State.reg_setF_other _ _ _ _ _ _ h

/-- Setting a partition leaves LOST. -/
theorem setPart_lost (p : Nat) (l : List PartEntry) (s : State) : (setPart p l s).f (aRqPart p) 16 16 = s.f (aRqPart p) 16 16 := by
  unfold State.f
  rw [reg_setPart_same, fld_setFld_other _ _ _ _ _ _ (by decide)]

/-- Setting a partition leaves OVF. -/
theorem setPart_ovf (p : Nat) (l : List PartEntry) (s : State) : (setPart p l s).b (aRqPart p) 15 = s.b (aRqPart p) 15 := by
  unfold State.b
  rw [reg_setPart_same, bit_setFld_other _ _ _ _ _ (by decide)]

/-- RQ_PARTp is not the doorbell register. -/
theorem aRqPart_ne_aHpDbout (p : Nat) : aRqPart p ≠ aHpDbout := by
  unfold aRqPart aHpDbout
  omega

/-- The latest-value table lies apart from the partition registers and from the doorbell register. -/
theorem latestValue_ne {n : Nat} (hn : n < 256) (p : Nat) :
    (aRqLvtlo n ≠ aRqPart p ∧ aRqLvtlo n ≠ aHpDbout) ∧ aRqLvthi n ≠ aRqPart p ∧ aRqLvthi n ≠ aHpDbout := by
  unfold aRqLvtlo aRqLvthi aRqPart aHpDbout
  omega

/-! ### The event of a half-full stream -/

/-- R69: ringing doorbell bits leaves every register but HP_DBOUT. -/
theorem reg_ringBits_other {a : Nat} (h : a ≠ aHpDbout) (bits : List Nat) (s : State) : (forEach bits ringBit s).reg a = s.reg a := by
  unfold forEach
  induction bits generalizing s with
  | nil => rfl
  | cons b bits ih => exact (ih (ringBit b s)).trans (s.reg_setReg_other _ _ _ h)

/-- R302: an event leaves every register but HP_DBOUT. -/
theorem reg_ringEvent_other {a : Nat} (h : a ≠ aHpDbout) (code : Nat) (s : State) : (ringEvent code s).reg a = s.reg a := by
  unfold ringEvent
  split
  · exact reg_ringBits_other h _ s
  · split <;> rfl

/-! ### An arrival -/

/-- R163: what is noted when the oldest entry of partition p is dropped: LOST, OVF, the mark, and the count of the stream. -/
def noteDrop (p : Nat) (s : State) : State :=
  { (s.bump (aRqPart p) 16 16).setB (aRqPart p) 15 true with
    rq := { s.rq with lostNext := tblSet false s.rq.lostNext p true }
    fw := if p = 2 then { s.fw with streamLost := min 65535 (s.fw.streamLost + 1) } else s.fw }

/-- R163: at a full partition the oldest entry leaves, the new one joins the end, and the drop is noted. -/
theorem appendPart_full {p : Nat} {s : State} (h : partCap p ≤ (partOf p s).length) (e : PartEntry) :
    appendPart p e s = setPart p ((partOf p s).drop 1 ++ [e]) (noteDrop p s) := by
  have hquiet : (p = 2 && decide ((partOf p s).length = 128)) = false := by
    unfold partCap at h
    simp only [Bool.and_eq_false_imp, decide_eq_true_eq, decide_eq_false_iff_not]
    split at h <;> omega
  unfold appendPart
  simp only [decide_eq_true h, hquiet, if_true, true_and, Bool.false_eq_true, if_false]
  by_cases hp : p = 2
  · rw [noteDrop, if_pos hp, if_pos hp]
    rfl
  · rw [noteDrop, if_neg hp, if_neg hp]
    rfl

/-- R163: at a partition with room the new entry joins the end; the stream's 129th entry is an event. -/
theorem appendPart_room {p : Nat} {s : State} (h : (partOf p s).length < partCap p) (e : PartEntry) :
    appendPart p e s = if p = 2 && decide ((partOf p s).length = 128) then ringEvent 2 (setPart p (partOf p s ++ [e]) s)
      else setPart p (partOf p s ++ [e]) s := by
  simp [appendPart, Nat.not_le.2 h]

/-- An arrival with room leaves the queue that the partition with one more entry makes. -/
theorem rq_appendPart_room {p : Nat} {s : State} (h : (partOf p s).length < partCap p) (e : PartEntry) :
    (appendPart p e s).rq = (setPart p (partOf p s ++ [e]) s).rq := by
  rw [appendPart_room h]
  split
  · exact (ringEvent_fr 2 _).rq rfl
  · rfl

/-- An arrival with room leaves the registers that the partition with one more entry makes, but for HP_DBOUT. -/
theorem reg_appendPart_room {p : Nat} {s : State} (h : (partOf p s).length < partCap p) (e : PartEntry) {a : Nat} (ha : a ≠ aHpDbout) :
    (appendPart p e s).reg a = (setPart p (partOf p s ++ [e]) s).reg a := by
  rw [appendPart_room h]
  split
  · exact reg_ringEvent_other ha 2 _
  · rfl

/-- The registers once a drop is noted: LOST counted up and OVF set. -/
theorem reg_noteDrop (p : Nat) (s : State) (a : Nat) :
    (noteDrop p s).reg a = ((s.bump (aRqPart p) 16 16).setB (aRqPart p) 15 true).reg a := State.reg_congr rfl a

/-- Noting a drop leaves every register but RQ_PARTp. -/
theorem reg_noteDrop_other (p : Nat) (s : State) {a : Nat} (h : a ≠ aRqPart p) : (noteDrop p s).reg a = s.reg a := by
  rw [reg_noteDrop, State.reg_setB_other _ _ _ _ _ h, State.reg_bump_other _ _ _ _ _ h]

/-- R7, R163: a drop counts once in LOST. -/
theorem noteDrop_lost (p : Nat) (s : State) : (noteDrop p s).f (aRqPart p) 16 16 = min (s.f (aRqPart p) 16 16 + 1) 65535 := by
  have hlost : (noteDrop p s).f (aRqPart p) 16 16 = (s.bump (aRqPart p) 16 16).f (aRqPart p) 16 16 := by
    rw [State.f, reg_noteDrop, State.reg_setB, fld_setBit_other _ _ _ _ _ (by decide), State.f]
  exact hlost.trans (s.f_bump _ _ _ (by decide))

/-- R163: a drop sets OVF. -/
theorem noteDrop_ovf (p : Nat) (s : State) : (noteDrop p s).b (aRqPart p) 15 = true := by
  rw [State.b, reg_noteDrop]
  exact State.b_setB _ _ _ _ (by decide)

/-- R163: a drop marks the next delivery. -/
theorem noteDrop_marks (p : Nat) (s : State) : tblGet false (noteDrop p s).rq.lostNext p = true :=
  tblGet_tblSet_same false s.rq.lostNext p true

/-- R163: what an arrival at a full partition leaves in it. -/
theorem appendPart_full_effect {p : Nat} {s : State} (h : partCap p ≤ (partOf p s).length) (e : PartEntry) :
    partOf p (appendPart p e s) = (partOf p s).drop 1 ++ [e] ∧
      (appendPart p e s).f (aRqPart p) 16 16 = min (s.f (aRqPart p) 16 16 + 1) 65535 ∧
      (appendPart p e s).b (aRqPart p) 15 = true ∧ tblGet false (appendPart p e s).rq.lostNext p = true := by
  rw [appendPart_full h, setPart_lost, setPart_ovf, setPart_lostNext]
  exact ⟨partOf_setPart_same _ _ _, noteDrop_lost p s, noteDrop_ovf p s, noteDrop_marks p s⟩

/-- R163: what an arrival at a partition with room leaves in it. -/
theorem appendPart_room_effect {p : Nat} {s : State} (h : (partOf p s).length < partCap p) (e : PartEntry) :
    partOf p (appendPart p e s) = partOf p s ++ [e] ∧ (appendPart p e s).f (aRqPart p) 16 16 = s.f (aRqPart p) 16 16 ∧
      (appendPart p e s).b (aRqPart p) 15 = s.b (aRqPart p) 15 ∧ (appendPart p e s).rq.lostNext = s.rq.lostNext := by
  have hrq := rq_appendPart_room h e
  have hreg := reg_appendPart_room h e (aRqPart_ne_aHpDbout p)
  refine ⟨(partOf_congr hrq p).trans (partOf_setPart_same _ _ _), ?_, ?_, ?_⟩
  · exact (congrArg (fld · 16 16) hreg).trans (setPart_lost p _ s)
  · exact (congrArg (bit · 15) hreg).trans (setPart_ovf p _ s)
  · rw [hrq, setPart_lostNext]

/-- R163: an arrival leaves the other partitions. -/
theorem partOf_appendPart_other {p q : Fin 3} (hq : q ≠ p) (e : PartEntry) (s : State) : partOf q (appendPart p e s) = partOf q s := by
  rcases Nat.lt_or_ge (partOf p s).length (partCap p) with h | h
  · rw [partOf_congr (rq_appendPart_room h e), partOf_setPart_other _ _ hq]
  · rw [appendPart_full h, partOf_setPart_other _ _ hq]
    rfl

/-- An arrival leaves every register but RQ_PARTp and HP_DBOUT. -/
theorem reg_appendPart_other (p : Nat) (e : PartEntry) (s : State) {a : Nat} (ha : a ≠ aRqPart p ∧ a ≠ aHpDbout) :
    (appendPart p e s).reg a = s.reg a := by
  rcases Nat.lt_or_ge (partOf p s).length (partCap p) with h | h
  · rw [reg_appendPart_room h e ha.2, reg_setPart_other _ _ _ ha.1]
  · rw [appendPart_full h, reg_setPart_other _ _ _ ha.1, reg_noteDrop_other _ _ ha.1]

/-! ### A delivery -/

/-- R163: the entry that is delivered: the head, with the LOST flag when partition p is marked. -/
def delivered (p : Nat) (e : PartEntry) (s : State) : PartEntry :=
  if tblGet false s.rq.lostNext p then { e with hi := setBit e.hi 1 true } else e

/-- R163: the mark of partition p cleared. -/
def unmark (p : Nat) (s : State) : State := { s with rq := { s.rq with lostNext := tblSet false s.rq.lostNext p false } }

/-- R163: a delivery takes the head and clears the mark. -/
theorem popPart_cons {p : Nat} {e : PartEntry} {l : List PartEntry} {s : State} (h : partOf p s = e :: l) :
    popPart p s = some (delivered p e s, setPart p l (unmark p s)) := by
  simp only [popPart, h, delivered, unmark]

/-- R163: the mark is all that a delivery adds to the entry. -/
theorem delivered_fields (p : Nat) (e : PartEntry) (s : State) : (delivered p e s).point = e.point ∧ (delivered p e s).val = e.val ∧
    (delivered p e s).hi = if tblGet false s.rq.lostNext p then setBit e.hi 1 true else e.hi := by
  unfold delivered
  split <;> exact ⟨rfl, rfl, rfl⟩

/-- Settles O60: an arrival at a full partition and at one with room, and a delivery, each with what it leaves. -/
theorem partitionsAreFirstInFirstOut : Obligations.PartitionsAreFirstInFirstOut := by
  refine ⟨fun p e s => ⟨fun h => appendPart_full_effect h e, fun h => appendPart_room_effect h e,
    fun q hq => partOf_appendPart_other hq e s, fun n hn => ?arrivalTable⟩, fun p e l s h => ?delivery⟩
  case arrivalTable =>
    obtain ⟨hlo, hhi⟩ := latestValue_ne hn p
    exact ⟨reg_appendPart_other p e s hlo, reg_appendPart_other p e s hhi⟩
  case delivery =>
    obtain ⟨hpoint, hval, hhi⟩ := delivered_fields p e s
    refine ⟨delivered p e s, setPart p l (unmark p s), popPart_cons h, partOf_setPart_same _ _ _, hpoint, hval, hhi, ?mark,
      fun q hq => partOf_setPart_other l (unmark p s) hq, fun n hn => ?table⟩
    case mark =>
      rw [setPart_lostNext]
      exact tblGet_tblSet_same false s.rq.lostNext p false
    case table =>
      obtain ⟨⟨hlo, -⟩, hhi, -⟩ := latestValue_ne hn p
      exact ⟨reg_setPart_other p l _ hlo, reg_setPart_other p l _ hhi⟩

end Sys2Proof.Machine
end

section
/-! PROOFS. The rows of the result queue, of the converters and of Cambium, and the POINT commands: a row does the branch of its
meaning that its condition chooses, and a command in its turn whose checks pass does what stands behind them. -/

namespace Sys2Proof.Machine

open Sys2Proof

/-! ### The result queue -/

/-- Settles O1: each row acts while the RTA domain is on, an arrival on the next result of its source, and otherwise nothing
changes. -/
theorem resultQueueCommands : Obligations.ResultQueueCommands := by
  refine ⟨?arrival, ?arrivalNone, ?sweep, ?sweepOff, ?read, ?readOff⟩
  case arrival =>
    intro src p t s htake hon
    simp only [Runs, exec, execResultArrival, htake, if_pos hon]
  case arrivalNone =>
    intro src s htake
    simp only [Runs, exec, execResultArrival, htake]
  case sweep => exact fun s hon => Runs.of_pos rfl hon
  case sweepOff => exact fun s hoff => Runs.of_neg rfl hoff
  case read => exact fun r p s hon => Runs.of_pos rfl hon
  case readOff => exact fun r p s hoff => Runs.of_neg rfl hoff

/-! ### The converters -/

/-- Settles O4: a row acts while its converter's domain is on and its other conditions hold, and otherwise nothing changes. -/
theorem converterCommands : Obligations.ConverterCommands := by
  refine ⟨?pass, ?passNot, ?entry, ?entryNone, ?urgent, ?urgentNot, ?request, ?requestOff, ?seq, ?seqOff, ?control, ?controlOff⟩
  case pass => exact fun c s hd hen hcur hurg hstop => Runs.of_pos rfl (by simp only [hd, hen, hcur, hurg, hstop]; rfl)
  case passNot => exact fun c s h => Runs.of_neg rfl (by simpa [and_assoc] using h)
  case entry =>
    intro c samples e s hcur hurg hd
    cases hturn : urgentTurn c s <;> simp only [Runs, exec, execEntryResult, hcur, hurg, if_pos hd, hturn]
  case entryNone =>
    intro c samples s h
    simp only [Runs, exec, execEntryResult]
    split
    next e hcur hurg =>
      rcases h with hnone | hrun
      · simp [hnone] at hcur
      · exact absurd hurg hrun
    next => rfl
  case urgent => exact fun c samples s hd hrun => Runs.of_pos rfl (by rw [hd, hrun]; rfl)
  case urgentNot => exact fun c samples s h => Runs.of_neg rfl (by simpa using h)
  case request | control => exact fun c v s hd => Runs.of_pos rfl hd
  case requestOff | controlOff => exact fun c v s hd => Runs.of_neg rfl hd
  case seq => exact fun n hi v s hd => Runs.of_pos rfl hd
  case seqOff => exact fun n hi v s hd => Runs.of_neg rfl hd

/-! ### Cambium -/

/-- Settles O7: a row acts while the CMB domain is on and its other conditions hold, and otherwise nothing changes. -/
theorem cambiumCommands : Obligations.CambiumCommands := by
  refine ⟨?slot, ?slotNot, ?lock, ?lockOff, ?state, ?stateOff, ?point, ?pointNone, ?tick, ?tickNot, ?enable, ?enableOff, ?stale,
    ?staleNot, ?feed, ?feedNot, ?subst, ?substNot, ?reset, ?resetNot⟩
  case slot => exact fun n off v s hd hoff => Runs.of_pos rfl (by simp [hd, hoff])
  case slotNot => exact fun n off v s h => Runs.of_neg rfl (by simpa using h)
  case lock => exact fun n lock s hd => Runs.of_pos rfl hd
  case lockOff => exact fun n lock s hd => Runs.of_neg rfl hd
  case state => exact fun n out v s hd => Runs.of_pos rfl hd
  case stateOff => exact fun n out v s hd => Runs.of_neg rfl hd
  case point =>
    intro p t s htake
    simp only [Runs, exec, execCambPointArrival, htake]
  case pointNone =>
    intro s htake
    simp only [Runs, exec, execCambPointArrival, htake]
  case tick => exact fun s hd hen => Runs.of_pos rfl (by simp [hd, hen])
  case tickNot => exact fun s h => Runs.of_neg rfl (by simpa using h)
  case enable => exact fun s hd => Runs.of_pos rfl hd
  case enableOff => exact fun s hd => Runs.of_neg rfl hd
  case stale => exact fun n s hd hm hsub => Runs.of_pos rfl (by simp [hd, hm, hsub])
  case staleNot => exact fun n s h => Runs.of_neg rfl (by simpa [and_assoc] using h)
  case feed => exact fun n s hd hm hk => Runs.of_pos rfl (by simp [hd, hm, hk])
  case feedNot => exact fun n s h => Runs.of_neg rfl (by simpa [and_assoc] using h)
  case subst => exact fun n s hd hsub => Runs.of_pos rfl (by simp [hd, hsub])
  case substNot => exact fun n s h => Runs.of_neg rfl (by simpa using h)
  case reset => exact fun n s hd hsub hgood => Runs.of_pos rfl (by simp [hd, hsub, hgood])
  case resetNot => exact fun n s h => Runs.of_neg rfl (by simpa [and_assoc] using h)

/-! ### The POINT commands -/

/-- R86, R91: an operation in its turn whose checks pass answers `r` and leads to `t` when its work does. -/
theorem runOp_work {id code mine : Nat} {op : Cmd → Nat} {valid : List Nat} {c : Cmd} {s t : State} {body : Cmd → State → Reply × State}
    {r : Reply} {l : List (Bool × Nat)} (h : CmdTurn id code c s) (ho : op c = mine) (hb : body c s = checked l s (r, t)) (hp : Passes l) :
    runOp id code op mine valid body s = settle id r t := by
  rw [runOp_turn h ho, hb, checked_pass hp]

/-- Settles O29: what stands behind the checks of each command; POINT.WRITE answers CONFLICT for a point that is not virtual. -/
theorem pointCommands : Obligations.PointCommands := by
  refine ⟨?read, ?write, ?writeConflict, ?drain, ?add, ?remove, ?info⟩
  case read => exact fun id c s h hp => Runs.of_exec rfl (runCmd_checked h rfl hp)
  case write =>
    exact fun id c s h hp hvirt hrange => Runs.of_exec rfl
      (runCmd_work h rfl hp ((if_neg (not_not_intro hvirt)).trans (checked_pass hrange)))
  case writeConflict => exact fun id c s h hp hother => Runs.of_exec rfl (runCmd_work h rfl hp (if_pos hother))
  case drain | add | remove => exact fun id c s h ho hp => Runs.of_exec rfl (runOp_work h ho rfl hp)
  case info => exact fun id c s h hp => Runs.of_exec rfl (runCmd_checked h rfl hp)

end Sys2Proof.Machine
end

section
/-! PROOFS. The rows of the sensor ports and of the Twig segments: a row does the branch of its meaning that its condition chooses,
where something waits for it. -/

namespace Sys2Proof.Machine

open Sys2Proof

/-! ### Sensor ports -/

/-- Settles O5: a row acts on a port whose conditions hold, or on the transaction or delay that is in hand, and otherwise nothing
changes. -/
theorem sensorPortCommands : Obligations.SensorPortCommands := by
  refine ⟨?pass, ?passNot, ?trans, ?transNone, ?delay, ?delayNone, ?recovery, ?recoveryNot, ?volts, ?voltsNot, ?retest, ?retestNot⟩
  case pass =>
    exact fun p s hd hen hovv hcur hstuck => Runs.of_pos rfl (by simp only [hd, hen, hovv, hcur, hstuck]; rfl)
  case passNot => exact fun p s h => Runs.of_neg rfl (by simpa [and_assoc] using h)
  case trans =>
    intro p out t s hcur hd hovv hdelay hstuck
    simp only [Runs, exec, execI2cTransactionEnd, hcur]
    exact congrArg Host.Outcome.next (if_pos (by simp only [hd, hovv, hdelay, hstuck]; rfl))
  case transNone =>
    intro p out s hcur
    simp only [Runs, exec, execI2cTransactionEnd, hcur]
  case delay =>
    intro p t e s hcur hdelay
    simp only [Runs, exec, execI2cDelayEnd, hcur, hdelay]
  case delayNone =>
    intro p s hdelay
    cases hcur : (i2cSt p s).cur <;> simp only [Runs, exec, execI2cDelayEnd, hcur, hdelay]
  case recovery => exact fun p pulses s hd hen hovv hcause => Runs.of_pos rfl (by simp [hd, hen, hovv, hcause])
  case recoveryNot => exact fun p pulses s h => Runs.of_neg rfl (by simpa [and_assoc] using h)
  case volts => exact fun r s hd hovv hhigh => Runs.of_pos rfl (by simp [hd, hovv, hhigh])
  case voltsNot => exact fun r s h => Runs.of_neg rfl (by simpa [and_assoc] using h)
  case retest => exact fun p v s hd hovv => Runs.of_pos rfl (by simp [hd, hovv])
  case retestNot => exact fun p v s h => Runs.of_neg rfl (by simpa using h)

/-! ### Twig segments -/

/-- Settles O6: a row acts on a segment whose conditions hold, or on the request, limit, retry or wait that is in hand, and otherwise
nothing changes. -/
theorem twigSegmentCommands : Obligations.TwigSegmentCommands := by
  refine ⟨?search, ?searchNot, ?auto, ?autoNot, ?round, ?roundNot, ?poll, ?pollBad, ?pollNone, ?missing, ?missingNot, ?ident, ?replyNone,
    ?short, ?shortNone, ?retry, ?retryNone, ?wait, ?waitNone, ?limiting, ?limitingNot, ?display, ?displayNot⟩
  case search => exact fun g seen s hready hawait hpoll => Runs.of_pos rfl (by simp [hready, hawait, hpoll])
  case searchNot => exact fun g seen s h => Runs.of_neg rfl (by simpa [and_assoc] using h)
  case auto =>
    exact fun g seen s hready hauto hrun hawait hpoll hqueue hfits =>
      Runs.of_pos rfl (by simp only [hready, hauto, hrun, hawait, hpoll, hqueue, hfits]; rfl)
  case autoNot => exact fun g seen s h => Runs.of_neg rfl (by simpa [and_assoc] using h)
  case round =>
    exact fun g s hd hen hfull hpoll hawait => Runs.of_pos rfl (by simp only [hd, hen, hfull, hpoll, hawait]; rfl)
  case roundNot => exact fun g s h => Runs.of_neg rfl (by simpa [and_assoc] using h)
  case poll =>
    intro g frame r d a tgl payload s hawait hcmd hparse ha hdir htgl hlen
    simp only [Runs, exec, execTwigPollReply, hawait, if_pos hcmd, hparse]
    exact if_pos ⟨ha, hdir, htgl, trivial, hlen⟩
  case pollBad =>
    intro g frame r s hawait hcmd hparse
    simp only [Runs, exec, execTwigPollReply, hawait, if_pos hcmd, hparse]
  case pollNone =>
    intro g frame s hawait
    simp only [Runs, exec, execTwigPollReply, hawait]
  case missing => exact fun g s hawait => Runs.of_pos rfl hawait
  case missingNot => exact fun g s hawait => Runs.of_neg rfl hawait
  case ident =>
    intro g frame r a tgl payload s hawait hcmd hparse ha htgl hlen
    have hnotPoll : ¬ r.cmd = 1 := by omega
    have hnotAssign : ¬ r.cmd = 0x11 := by omega
    simp only [Runs, exec, execTwigReply, hawait, if_neg hnotPoll, hparse]
    refine (if_neg (fun h => hnotAssign h.2.1)).trans (if_pos ⟨?_, hcmd, trivial, ha, hlen⟩)
    simpa using htgl
  case replyNone =>
    intro g frame s hawait
    simp only [Runs, exec, execTwigReply, hawait]
  case short =>
    intro g t s hlimit hd hen hpwr
    simp only [Runs, exec, execTwigShort, hlimit]
    exact congrArg Host.Outcome.next (if_pos (by simp [hd, hen, hpwr]))
  case shortNone =>
    intro g s hlimit
    simp only [Runs, exec, execTwigShort, hlimit]
  case retry | wait =>
    intro g t s hdue
    simp only [Runs, exec, execTwigPowerRetry, execTwigPowerUpWait, hdue]
  case retryNone | waitNone =>
    intro g s hnone
    simp only [Runs, exec, execTwigPowerRetry, execTwigPowerUpWait, hnone]
  case limiting => exact fun g lim deciV ma s hd hpwr => Runs.of_pos rfl (by simp [hd, hpwr])
  case limitingNot => exact fun g lim deciV ma s h => Runs.of_neg rfl (by simpa using h)
  case display =>
    exact fun u field data s hd hunit haddr hok hnew => Runs.of_pos rfl (by simp [hd, hunit, haddr, hok, hnew])
  case displayNot => exact fun u field data s h => Runs.of_neg rfl (by simpa [and_assoc] using h)

end Sys2Proof.Machine
end

section
/-! PROOFS. The LOOP commands and the end of a tuning run: a command in its turn does what stands behind its checks where the slot is
the sender's, and firmware hands a tuner back once the tuner is no longer busy. -/

namespace Sys2Proof.Machine

open Sys2Proof

/-- Settles O30: what stands behind the checks of each command, where the base configuration or a mode owns the loop or a tuner and its
resources are free; a run that has ended is finished while firmware is ready. -/
theorem loopCommands : Obligations.LoopCommands := by
  refine ⟨?read, ?set, ?mode, ?tune, ?runEnd⟩
  case read => exact fun id c s h hp => Runs.of_exec rfl (runCmd_checked h rfl hp)
  case set =>
    exact fun id c s h hp howner hbreaks => Runs.of_exec rfl
      (runCmd_work h rfl hp ((ite_not_ownerBase howner).trans (checked_of_false hbreaks)))
  case mode => exact fun id c s h hp howner => Runs.of_exec rfl (runCmd_work h rfl hp (ite_not_ownerBase howner))
  case tune =>
    refine fun id c k s h hp hfree hrefs hok htuner => Runs.of_exec rfl (runCmd_work h rfl hp ?_)
    simp only [hfree, hrefs]
    exact checked_of_false (by simp [hok, htuner])
  case runEnd =>
    intro k r s hrun hready hbusy
    simp only [Runs, exec, execTuneRunEnd, hrun]
    exact congrArg Host.Outcome.next (if_pos (by simp [hready, hbusy]))

end Sys2Proof.Machine
end

section
/-! PROOFS. The rows of the tuners, of the zone models and of Heartwood: a row does the branch of its meaning that its condition
chooses. -/

namespace Sys2Proof.Machine

open Sys2Proof

/-! ### Relay tuners and zone models -/

/-- Settles O8: a row acts while the CMB domain is on and its other conditions hold, and otherwise nothing changes. -/
theorem tunerAndModelCommands : Obligations.TunerAndModelCommands := by
  refine ⟨?arm, ?armOff, ?stop, ?stopNot, ?time, ?timeNot, ?cycles, ?cyclesNot, ?model, ?modelNot⟩
  case arm => exact fun k v s hd => Runs.of_pos rfl hd
  case armOff => exact fun k v s hd => Runs.of_neg rfl hd
  case stop => exact fun k s hd hen => Runs.of_pos rfl (by simp [hd, hen])
  case stopNot => exact fun k s h => Runs.of_neg rfl (by simpa using h)
  case time => exact fun k s hd hrun => Runs.of_pos rfl (by simp [hd, hrun])
  case timeNot => exact fun k s h => Runs.of_neg rfl (by simpa using h)
  case cycles => exact fun k s hd hrun hcount => Runs.of_pos rfl (by simp [hd, hrun, hcount])
  case cyclesNot => exact fun k s h => Runs.of_neg rfl (by simpa [and_assoc] using h)
  case model => exact fun z off v s hd hoff => Runs.of_pos rfl (by simp [hd, hoff])
  case modelNot => exact fun z off v s h => Runs.of_neg rfl (by simpa using h)

/-! ### Heartwood -/

/-- Settles O19: a row acts while Heartwood answers, while the source of its counter is live, or while firmware may write, and otherwise
nothing changes; a lock-out ends when its end is set. -/
theorem heartwoodEvents : Obligations.HeartwoodEvents := by
  refine ⟨?scrub, ?scrubOff, ?slot, ?slotOff, ?event, ?eventNot, ?periodic, ?periodicNot, ?params, ?paramsNot, ?models, ?modelsNot,
    ?lockout, ?lockoutNone⟩
  case scrub => exact fun corr1 corr2 unver uncorr s hon => Runs.of_neg rfl (by simp [hon])
  case scrubOff => exact fun corr1 corr2 unver uncorr s hoff => Runs.of_pos rfl (by simpa using hoff)
  case slot => exact fun s hon => Runs.of_pos rfl hon
  case slotOff => exact fun s hoff => Runs.of_neg rfl hoff
  case event => exact fun k s hd hlive => Runs.of_neg rfl (by simp [hd, hlive])
  case eventNot => exact fun k s h => Runs.of_pos rfl (by simpa [imp_iff_not_or] using h)
  case periodic => exact fun medium s hw hserve hd => Runs.of_neg rfl (by simp [hw, hserve, hd])
  case params | models => exact fun medium s hw hd hrec => Runs.of_neg rfl (by simp [hw, hd, hrec])
  case periodicNot | paramsNot | modelsNot =>
    exact fun medium s h => Runs.of_pos rfl (by simpa [imp_iff_not_or, or_assoc] using h)
  case lockout =>
    intro a t s hend
    simp only [Runs, exec, execLockoutEnd, hend]
  case lockoutNone =>
    intro a s hend
    simp only [Runs, exec, execLockoutEnd, hend]

end Sys2Proof.Machine
end

section
/-! PROOFS. The evaluation of triggers, schedules, presence and models, and the ZONE and SCHED commands: an event acts while firmware
is ready, and a command in its turn does what stands behind its checks where the sender may write the zone or schedule. -/

namespace Sys2Proof.Machine

open Sys2Proof

/-! ### Triggers, schedules, presence and models -/

/-- Settles O24: an event acts while firmware is ready and what it waits for is set, and otherwise nothing changes. -/
theorem triggerAndScheduleEvents : Obligations.TriggerAndScheduleEvents := by
  refine ⟨?triggers, ?triggersNot, ?delay, ?delayNone, ?startup, ?schedules, ?schedulesNot, ?presence, ?presenceNot, ?bin, ?binNone,
    ?model, ?modelNot⟩
  case triggers | schedules => exact fun s hready => Runs.of_pos rfl hready
  case triggersNot | schedulesNot => exact fun s hready => Runs.of_neg rfl hready
  case delay =>
    intro ov pt x t s hready hdue
    simp only [Runs, exec, execTriggerDelayExpiry, hready, hdue]
  case delayNone =>
    intro ov pt s hdue
    cases hready : ready s <;> simp only [Runs, exec, execTriggerDelayExpiry, hready, hdue]
  case startup =>
    intro ov pt t s hready hend
    simp only [Runs, exec, execTriggerStartupTimeout, hready, hend]
  case presence => exact fun z s hready => Runs.of_pos rfl hready
  case presenceNot => exact fun z s hready => Runs.of_neg rfl hready
  case bin =>
    intro z t s hready hnow hquarter hpos
    simp only [Runs, exec, execPresenceBinEnd, hready, hnow]
    exact congrArg Host.Outcome.next (if_pos ⟨hquarter, hpos⟩)
  case binNone =>
    intro z s hnow
    cases hready : ready s <;> simp only [Runs, exec, execPresenceBinEnd, hready, hnow]
  case model => exact fun z s hd hen => Runs.of_pos rfl (by simp [hd, hen])
  case modelNot => exact fun z s h => Runs.of_neg rfl (by simpa using h)

/-! ### The ZONE and SCHED commands -/

/-- Settles O25: what stands behind the checks of each command, where the base configuration or a mode owns what is written; a calendar
entry is written when its word says so and shown in either case. -/
theorem zoneAndScheduleCommands : Obligations.ZoneAndScheduleCommands := by
  refine ⟨?zoneRead, ?setpoint, ?model, ?modelReset, ?schedRead, ?schedWrite, ?calendarRead, ?calendarWrite, ?occupancy⟩
  case zoneRead | model | schedRead | occupancy => exact fun id c s h hp => Runs.of_exec rfl (runCmd_checked h rfl hp)
  case setpoint | schedWrite =>
    exact fun id c s h hp howner hrange => Runs.of_exec rfl
      (runCmd_work h rfl hp ((ite_not_ownerBase howner).trans (checked_pass hrange)))
  case modelReset => exact fun id c s h hp howner => Runs.of_exec rfl (runCmd_work h rfl hp (ite_not_ownerBase howner))
  case calendarRead => exact fun id c s h hp hread => Runs.of_exec rfl (runCmd_work h rfl hp (if_pos (by simp [hread])))
  case calendarWrite =>
    exact fun id c s h hp hwrite howner hrange => Runs.of_exec rfl
      (runCmd_work h rfl hp ((if_neg (by simp [hwrite])).trans ((ite_not_ownerBase howner).trans (checked_pass hrange))))

end Sys2Proof.Machine
end

section
/-! PROOFS. The rows of the energy scheduler: its cycle, the ends of durations, waits, leases and dead times, and what it shows of
classes, allotments and the ambient estimate. -/

namespace Sys2Proof.Machine

open Sys2Proof

/-- Settles O12: each cycle runs whole; the other rows act where an end, a request, a new class or an estimate stands, and otherwise
change nothing but, for the estimate, the time of the next one. -/
theorem energySchedulerCommands : Obligations.EnergySchedulerCommands := by
  refine ⟨?cycle, ?duration, ?durationNone, ?aged, ?agedNone, ?lease, ?leaseNone, ?dead, ?deadNone, ?pdclass, ?pdclassSame, ?allot,
    ?allotNone, ?ambient, ?ambientNone⟩
  case cycle => exact fun vf ma s => rfl
  case duration =>
    intro n t s hdue
    simp only [Runs, exec, execRequestDurationEnd, hdue]
  -- The statement writes out the row's choice between a calibration run and the demand: the two matches agree by `rfl`.
  case dead =>
    intro n t s hend
    simp only [Runs, exec, execMoveDeadTimeEnd, hend] <;> rfl
  case aged =>
    intro n r s hpend hrej haged hcls
    simp only [Runs, exec, execRequestAged, hpend]
    exact congrArg Host.Outcome.next (if_neg (by simp [hrej, haged, hcls]))
  case lease =>
    intro n r s hrun hkind hdur
    simp only [Runs, exec, execLeaseEnd, hrun]
    exact congrArg Host.Outcome.next (if_pos ⟨hkind, hdur⟩)
  case durationNone | agedNone | leaseNone | deadNone =>
    intro n s hnone
    simp only [Runs, exec, execRequestDurationEnd, execRequestAged, execLeaseEnd, execMoveDeadTimeEnd, hnone]
  case pdclass => exact fun cls s hnew => Runs.of_neg rfl hnew
  case pdclassSame => exact fun cls s hsame => Runs.of_pos rfl (not_not.mp hsame)
  case allot | ambient =>
    intro x s hsome
    simp only [Runs, exec, execAllotmentTimeout, execAmbientEstimate, hsome]
  case allotNone | ambientNone =>
    intro s hnone
    simp only [Runs, exec, execAllotmentTimeout, execAmbientEstimate, hnone]

end Sys2Proof.Machine
end

section
/-! PROOFS. The frames of the grove that a node takes: a frame heard anew has the effect of its type, whether the Graft block or
firmware takes it. -/

namespace Sys2Proof.Machine

open Sys2Proof

/-- A node on the line is joined, so it is not in LISTEN (R408). -/
theorem grState_ne_listen_of_onLine {p : Nat} {s : State} (h : onLine p s = true) : grState s ≠ 1 := by
  simp only [onLine, Bool.and_eq_true, decide_eq_true_eq] at h
  omega

/-- What HELLO `g` of full length is taken with, where `fresh` says that its node was not known before: a standby that acts is
asked to give back, and a new node of a joined grove is served (R408, R413, R428). -/
def helloTaken (fresh : Bool) (g : GrParsed) (t : State) : Nat × State :=
  (0, let u := takeBack g (judgeHello g t); if fresh ∧ grState u = 2 then nodeJoined g.src u else u)

/-- R403, R408: a node on the line notes a HELLO of full length from another node and then takes it. -/
theorem execHello_noted {p : Fin 2} {f : List Byte} {g : GrParsed} {s : State} (h : FrameNew 0x01 p f g (noteHello p g s))
    (hdom : domOn .gft s = true) (hline : onLine p s = true) (hlen : g.payload.length = 16) (hother : g.src ≠ myNode s) :
    execHello p f s = .next (takeFrame 0x01 p f g (helloTaken (grNode g.src s).isNone g) (noteHello p g s)) := by
  have ⟨_, _, hparse, hty, _⟩ := h
  have hlisten : grState s ≠ 1 := grState_ne_listen_of_onLine hline
  have hnote : (if domOn .gft s && (decide (g.ty = 0x01) && decide (g.payload.length = 16)) && onLine p s then noteHello p g s else s)
      = noteHello p g s := if_pos (by simp [hdom, hty, hlen, hline])
  simp only [execHello, hparse]
  rw [if_neg (by simp [hlisten]), if_neg (by simp [hother]), hnote, receive_new h]
  simp only [hlen, ne_eq, not_true_eq_false, if_false]
  rfl

/-- Settles O35: a frame heard anew is taken by the row of its type, those of firmware while it is ready; a HELLO is noted first, and a
TICK counts at a member on the line. -/
theorem groveFrames : Obligations.GroveFrames := by
  refine ⟨?ack, ?time, ?allot, ?demand, ?takeback, ?point, ?reset, ?sched, ?cal, ?zone, ?mbox, ?mboxReply, ?abortFrame, ?hello, ?tick⟩
  case ack | time | allot | demand | takeback | point => exact fun p frame g s h => Runs.of_exec rfl (receive_new h _)
  case reset | sched | cal | zone | mbox | mboxReply | abortFrame =>
    exact fun p frame g s h hready => Runs.of_exec rfl (receiveFw_new h hready _)
  case hello => exact fun p frame g s h hdom hline hlen _ hother => execHello_noted h hdom hline hlen hother
  case tick =>
    exact fun p count delay s hdom hline hact => Runs.of_exec rfl
      ((if_neg (by simp [grState_ne_listen_of_onLine hline])).trans (if_pos (by simp [hdom, hline, hact])))

end Sys2Proof.Machine
end

section
/-! PROOFS. What every command and every step keeps: each of the 337 commands answers a next state, keeps the queue and the canonical
form of the register table, and never turns back time or the count of free values; so does every step, and every run of any length. -/

namespace Sys2Proof.Machine

open Sys2Proof

/-! ### The step -/

/-- Settles O41: the step reads the front of the queue. -/
theorem stepRunsFrontCommand : Obligations.StepRunsFrontCommand := by
  intro c q s hq
  simp only [step, hq]

/-- Settles O42: the step reads that the queue is empty. -/
theorem stepOnEmptyQueueTicks : Obligations.StepOnEmptyQueueTicks := by
  intro s hq
  simp only [step, hq]

/-! ### Every command answers -/

/-- Every command answers a next state: most are one by their form, the others branch on what waits for them and answer one in each
branch. -/
theorem exec_answers (c : Instr) (s : State) : ∃ t, exec c s = .next t := by
  cases c
  case resultArrival | ovrClear | pirHoldExpiry | pirWarmupEnd | pirSatResume | entryResult | i2cTransactionEnd | i2cDelayEnd
      | twigPollReply | twigReply | twigShort | twigPowerRetry | twigPowerUpWait | modeChangeDelayEnd | safeRun | safedurEnd | kick
      | kickEnd =>
    simp only [exec, execResultArrival, execOvrClear, execPirHoldExpiry, execPirWarmupEnd, execPirSatResume, execEntryResult,
      execI2cTransactionEnd, execI2cDelayEnd, execTwigPollReply, execTwigReply, execTwigShort, execTwigPowerRetry, execTwigPowerUpWait,
      execModeChangeDelayEnd, execSafeRun, execSafedurEnd, execKick, execKickEnd]
    repeat' split
    all_goals exact ⟨_, rfl⟩
  all_goals exact ⟨_, rfl⟩

/-! ### What every command keeps -/

/-- Every command keeps what its own frame law says. The laws are named here once more, beside exec_leaves, for what it leaves out: the
order of time and of the count of free values, and the canonical form, where a command changes these parts. -/
theorem exec_keeps (c : Instr) (s : State) : ∃ m, KeepsOut m s (exec c s) := by
  cases c with
  | flitCrcFail a => exact ⟨_, execFlitCrcFail_fr a s⟩
  | bridgeLinkTimeout a => exact ⟨_, execBridgeLinkTimeout_fr a s⟩
  | linkValidWordsReturn a => exact ⟨_, execLinkValidWordsReturn_fr a s⟩
  | idleWord a b => exact ⟨_, execIdleWord_fr a b s⟩
  | barkLinkLoss => exact ⟨_, execBarkLinkLoss_fr s⟩
  | sysOppWrite a b => exact ⟨_, execSysOppWrite_fr a b s⟩
  | oppStepComplete a => exact ⟨_, execOppStepComplete_fr a s⟩
  | routerReceive a b => exact ⟨_, execRouterReceive_fr a b s⟩
  | creditReturn a b => exact ⟨_, execCreditReturn_fr a b s⟩
  | fabricResponse a b => exact ⟨_, execFabricResponse_fr a b s⟩
  | registerWrite a b c d => exact ⟨_, execRegisterWrite_fr a b c d s⟩
  | statusFrame a b c d => exact ⟨_, execStatusFrame_fr a b c d s⟩
  | readFrame a b c d => exact ⟨_, execReadFrame_fr a b c d s⟩
  | writeFrame a b c d => exact ⟨_, execWriteFrame_fr a b c d s⟩
  | bothcs => exact ⟨_, execBothcs_fr s⟩
  | go a => exact ⟨_, execGo_fr a s⟩
  | abort a => exact ⟨_, execAbort_fr a s⟩
  | replyRelease a => exact ⟨_, execReplyRelease_fr a s⟩
  | nepochWrite a b => exact ⟨_, execNepochWrite_fr a b s⟩
  | sepochWrite a => exact ⟨_, execSepochWrite_fr a s⟩
  | epochChange a => exact ⟨_, execEpochChange_fr a s⟩
  | hostwdWrite a b => exact ⟨_, execHostwdWrite_fr a b s⟩
  | dbinWrite a b => exact ⟨_, execDbinWrite_fr a b s⟩
  | doorbellAction a => exact ⟨_, execDoorbellAction_fr a s⟩
  | messageTake => exact ⟨_, execMessageTake_fr s⟩
  | inboundTimeout a => exact ⟨_, execInboundTimeout_fr a s⟩
  | replyPost a => exact ⟨_, execReplyPost_fr a s⟩
  | replyTimeout a => exact ⟨_, execReplyTimeout_fr a s⟩
  | hostWatchdogExpiry => exact ⟨_, execHostWatchdogExpiry_fr s⟩
  | crownWatchdogExpiry => exact ⟨_, execCrownWatchdogExpiry_fr s⟩
  | watchdogKick a => exact ⟨_, execWatchdogKick_fr a s⟩
  | crownRestart => exact ⟨_, execCrownRestart_fr s⟩
  | sysInfo a => exact ⟨_, execSysInfo_fr a s⟩
  | sysStatus a => exact ⟨_, execSysStatus_fr a s⟩
  | sysAbort a => exact ⟨_, execSysAbort_fr a s⟩
  | sysOwner a => exact ⟨_, execSysOwner_fr a s⟩
  | sysReset a => exact ⟨_, execSysReset_fr a s⟩
  | diagDumpCollect a => exact ⟨_, execDiagDumpCollect_fr a s⟩
  | diagDumpRead a => exact ⟨_, execDiagDumpRead_fr a s⟩
  | fwUpdateErase a => exact ⟨_, execFwUpdateErase_fr a s⟩
  | fwUpdateWrite a => exact ⟨_, execFwUpdateWrite_fr a s⟩
  | fwUpdateVerify a => exact ⟨_, execFwUpdateVerify_fr a s⟩
  | fwUpdateConfirm a => exact ⟨_, execFwUpdateConfirm_fr a s⟩
  | fwUpdateStatus a => exact ⟨_, execFwUpdateStatus_fr a s⟩
  | cfgLoadBegin a => exact ⟨_, execCfgLoadBegin_fr a s⟩
  | cfgLoadData a => exact ⟨_, execCfgLoadData_fr a s⟩
  | cfgLoadEnd a b => exact ⟨_, execCfgLoadEnd_fr a b s⟩
  | cfgMode a => exact ⟨_, execCfgMode_fr a s⟩
  | cfgCondition a => exact ⟨_, execCfgCondition_fr a s⟩
  | cfgQuery a => exact ⟨_, execCfgQuery_fr a s⟩
  | pointRead a => exact ⟨_, execPointRead_fr a s⟩
  | pointWrite a => exact ⟨_, execPointWrite_fr a s⟩
  | pointStreamDrain a => exact ⟨_, execPointStreamDrain_fr a s⟩
  | pointStreamAdd a => exact ⟨_, execPointStreamAdd_fr a s⟩
  | pointStreamRemove a => exact ⟨_, execPointStreamRemove_fr a s⟩
  | pointInfo a => exact ⟨_, execPointInfo_fr a s⟩
  | loopRead a => exact ⟨_, execLoopRead_fr a s⟩
  | loopSet a => exact ⟨_, execLoopSet_fr a s⟩
  | loopMode a => exact ⟨_, execLoopMode_fr a s⟩
  | loopTune a => exact ⟨_, execLoopTune_fr a s⟩
  | zoneRead a => exact ⟨_, execZoneRead_fr a s⟩
  | zoneSetpoint a => exact ⟨_, execZoneSetpoint_fr a s⟩
  | zoneModel a => exact ⟨_, execZoneModel_fr a s⟩
  | zoneModelReset a => exact ⟨_, execZoneModelReset_fr a s⟩
  | schedRead a => exact ⟨_, execSchedRead_fr a s⟩
  | schedWrite a => exact ⟨_, execSchedWrite_fr a s⟩
  | schedCalendar a => exact ⟨_, execSchedCalendar_fr a s⟩
  | schedOccupancy a => exact ⟨_, execSchedOccupancy_fr a s⟩
  | driveRead a => exact ⟨_, execDriveRead_fr a s⟩
  | driveCommand a => exact ⟨_, execDriveCommand_fr a s⟩
  | driveDiag a => exact ⟨_, execDriveDiag_fr a s⟩
  | driveSafeval a => exact ⟨_, execDriveSafeval_fr a s⟩
  | driveCalibrate a => exact ⟨_, execDriveCalibrate_fr a s⟩
  | driveBudget a => exact ⟨_, execDriveBudget_fr a s⟩
  | fanRead a => exact ⟨_, execFanRead_fr a s⟩
  | fanCommand a => exact ⟨_, execFanCommand_fr a s⟩
  | fanFailsafe a => exact ⟨_, execFanFailsafe_fr a s⟩
  | fanClearFail a => exact ⟨_, execFanClearFail_fr a s⟩
  | busPort a => exact ⟨_, execBusPort_fr a s⟩
  | busStatus a => exact ⟨_, execBusStatus_fr a s⟩
  | busRaw a => exact ⟨_, execBusRaw_fr a s⟩
  | busTwigDiscover a => exact ⟨_, execBusTwigDiscover_fr a s⟩
  | busI2cScript a => exact ⟨_, execBusI2cScript_fr a s⟩
  | groveStatus a => exact ⟨_, execGroveStatus_fr a s⟩
  | groveResetNode a => exact ⟨_, execGroveResetNode_fr a s⟩
  | groveAllotment a => exact ⟨_, execGroveAllotment_fr a s⟩
  | groveSchedPush a => exact ⟨_, execGroveSchedPush_fr a s⟩
  | storeRead a b => exact ⟨_, execStoreRead_fr a b s⟩
  | storeWrite a => exact ⟨_, execStoreWrite_fr a s⟩
  | storeCommit a b => exact ⟨_, execStoreCommit_fr a b s⟩
  | storePassword a b => exact ⟨_, execStorePassword_fr a b s⟩
  | storeStatus a => exact ⟨_, execStoreStatus_fr a s⟩
  | recRead a => exact ⟨_, execRecRead_fr a s⟩
  | recConfig a => exact ⟨_, execRecConfig_fr a s⟩
  | recClearToken a => exact ⟨_, execRecClearToken_fr a s⟩
  | recClear a => exact ⟨_, execRecClear_fr a s⟩
  | recHealth a => exact ⟨_, execRecHealth_fr a s⟩
  | clockGet a => exact ⟨_, execClockGet_fr a s⟩
  | clockSet a => exact ⟨_, execClockSet_fr a s⟩
  | clockAlarm a => exact ⟨_, execClockAlarm_fr a s⟩
  | clockCalibrate a => exact ⟨_, execClockCalibrate_fr a s⟩
  | expertRead a => exact ⟨_, execExpertRead_fr a s⟩
  | expertWrite a => exact ⟨_, execExpertWrite_fr a s⟩
  | expertClaim a => exact ⟨_, execExpertClaim_fr a s⟩
  | expertRelease a => exact ⟨_, execExpertRelease_fr a s⟩
  | expertClaims a => exact ⟨_, execExpertClaims_fr a s⟩
  | safeStatus a => exact ⟨_, execSafeStatus_fr a s⟩
  | safeForce a => exact ⟨_, execSafeForce_fr a s⟩
  | safeRelease a => exact ⟨_, execSafeRelease_fr a s⟩
  | trendStatus a => exact ⟨_, execTrendStatus_fr a s⟩
  | trendSnapshot a => exact ⟨_, execTrendSnapshot_fr a s⟩
  | trendDrain a => exact ⟨_, execTrendDrain_fr a s⟩
  | trendAdvance a => exact ⟨_, execTrendAdvance_fr a s⟩
  | overrideExpiry => exact ⟨_, execOverrideExpiry_fr s⟩
  | inputTrip a => exact ⟨_, execInputTrip_fr a s⟩
  | currLimitTrip a => exact ⟨_, execCurrLimitTrip_fr a s⟩
  | isolRetest a b => exact ⟨_, execIsolRetest_fr a b s⟩
  | ovrClear a => exact ⟨_, execOvrClear_fr a s⟩
  | aincfgWrite a b => exact ⟨_, execAincfgWrite_fr a b s⟩
  | dryRead a b => exact ⟨_, execDryRead_fr a b s⟩
  | pulseEdge a b => exact ⟨_, execPulseEdge_fr a b s⟩
  | stageReport a => exact ⟨_, execStageReport_fr a s⟩
  | pirExcursion a b c => exact ⟨_, execPirExcursion_fr a b c s⟩
  | pirHoldExpiry a => exact ⟨_, execPirHoldExpiry_fr a s⟩
  | pirWarmupEnd a => exact ⟨_, execPirWarmupEnd_fr a s⟩
  | pirSatResume a => exact ⟨_, execPirSatResume_fr a s⟩
  | passStart a => exact ⟨_, execPassStart_fr a s⟩
  | entryResult a b => exact ⟨_, execEntryResult_fr a b s⟩
  | seqEntryWrite a b c => exact ⟨_, execSeqEntryWrite_fr a b c s⟩
  | cnvctlWrite a b => exact ⟨_, execCnvctlWrite_fr a b s⟩
  | urgentRequest a b => exact ⟨_, execUrgentRequest_fr a b s⟩
  | urgentRun a b => exact ⟨_, execUrgentRun_fr a b s⟩
  | resultArrival a => exact ⟨_, execResultArrival_fr a s⟩
  | agedSweep => exact ⟨_, execAgedSweep_fr s⟩
  | lvtLowRead a b => exact ⟨_, execLvtLowRead_fr a b s⟩
  | i2cPassStart a => exact ⟨_, execI2cPassStart_fr a s⟩
  | i2cTransactionEnd a b => exact ⟨_, execI2cTransactionEnd_fr a b s⟩
  | i2cDelayEnd a => exact ⟨_, execI2cDelayEnd_fr a s⟩
  | i2cBusRecovery a b => exact ⟨_, execI2cBusRecovery_fr a b s⟩
  | i2cOvervoltage a => exact ⟨_, execI2cOvervoltage_fr a s⟩
  | i2cOvvRetest a b => exact ⟨_, execI2cOvvRetest_fr a b s⟩
  | twigRound a => exact ⟨_, execTwigRound_fr a s⟩
  | twigPollReply a b => exact ⟨_, execTwigPollReply_fr a b s⟩
  | twigReplyTimeout a => exact ⟨_, execTwigReplyTimeout_fr a s⟩
  | twigReply a b => exact ⟨_, execTwigReply_fr a b s⟩
  | twigShort a => exact ⟨_, execTwigShort_fr a s⟩
  | twigPowerRetry a => exact ⟨_, execTwigPowerRetry_fr a s⟩
  | twigPowerUpWait a => exact ⟨_, execTwigPowerUpWait_fr a s⟩
  | twigSearchStep a b => exact ⟨_, execTwigSearchStep_fr a b s⟩
  | twigAutoSearch a b => exact ⟨_, execTwigAutoSearch_fr a b s⟩
  | display a b c => exact ⟨_, execDisplay_fr a b c s⟩
  | cambEnable => exact ⟨_, execCambEnable_fr s⟩
  | cambTick => exact ⟨_, execCambTick_fr s⟩
  | cambSlotWrite a b c => exact ⟨_, execCambSlotWrite_fr a b c s⟩
  | cambLock a b => exact ⟨_, execCambLock_fr a b s⟩
  | cambStateWrite a b c => exact ⟨_, execCambStateWrite_fr a b c s⟩
  | cambPointArrival => exact ⟨_, execCambPointArrival_fr s⟩
  | staleLimit a => exact ⟨_, execStaleLimit_fr a s⟩
  | ffStale a => exact ⟨_, execFfStale_fr a s⟩
  | substExpiry a => exact ⟨_, execSubstExpiry_fr a s⟩
  | substCountReset a => exact ⟨_, execSubstCountReset_fr a s⟩
  | tunerArm a b => exact ⟨_, execTunerArm_fr a b s⟩
  | tunerStop a => exact ⟨_, execTunerStop_fr a s⟩
  | tuneTimeLimit a => exact ⟨_, execTuneTimeLimit_fr a s⟩
  | tuneCycleLimit a => exact ⟨_, execTuneCycleLimit_fr a s⟩
  | tuneRunEnd a => exact ⟨_, execTuneRunEnd_fr a s⟩
  | modelUpdate a => exact ⟨_, execModelUpdate_fr a s⟩
  | modelCtlWrite a b c => exact ⟨_, execModelCtlWrite_fr a b c s⟩
  | modelSave a => exact ⟨_, execModelSave_fr a s⟩
  | scheduleEvaluation => exact ⟨_, execScheduleEvaluation_fr s⟩
  | clockChange => exact ⟨_, execClockChange_fr s⟩
  | presenceBinEnd a => exact ⟨_, execPresenceBinEnd_fr a s⟩
  | triggerEvaluation => exact ⟨_, execTriggerEvaluation_fr s⟩
  | triggerDelayExpiry a b => exact ⟨_, execTriggerDelayExpiry_fr a b s⟩
  | triggerStartupTimeout a b => exact ⟨_, execTriggerStartupTimeout_fr a b s⟩
  | demandArrival => exact ⟨_, execDemandArrival_fr s⟩
  | schedulerCycle a => exact ⟨_, execSchedulerCycle_fr a s⟩
  | requestDurationEnd a => exact ⟨_, execRequestDurationEnd_fr a s⟩
  | requestAged a => exact ⟨_, execRequestAged_fr a s⟩
  | leaseEnd a => exact ⟨_, execLeaseEnd_fr a s⟩
  | pdclassChange a => exact ⟨_, execPdclassChange_fr a s⟩
  | allotmentTimeout => exact ⟨_, execAllotmentTimeout_fr s⟩
  | ambientEstimate => exact ⟨_, execAmbientEstimate_fr s⟩
  | actuatorRequest => exact ⟨_, execActuatorRequest_fr s⟩
  | moveDeadTimeEnd a => exact ⟨_, execMoveDeadTimeEnd_fr a s⟩
  | endStop a => exact ⟨_, execEndStop_fr a s⟩
  | currentLimitTrip a b => exact ⟨_, execCurrentLimitTrip_fr a b s⟩
  | openLoad a => exact ⟨_, execOpenLoad_fr a s⟩
  | offStateTest a b => exact ⟨_, execOffStateTest_fr a b s⟩
  | stageOvertemp a => exact ⟨_, execStageOvertemp_fr a s⟩
  | stageCooled a => exact ⟨_, execStageCooled_fr a s⟩
  | vfieldReverse => exact ⟨_, execVfieldReverse_fr s⟩
  | vfieldRestore => exact ⟨_, execVfieldRestore_fr s⟩
  | drvCtlWrite a b => exact ⟨_, execDrvCtlWrite_fr a b s⟩
  | modeChangeDelayEnd a => exact ⟨_, execModeChangeDelayEnd_fr a s⟩
  | dinRead a b => exact ⟨_, execDinRead_fr a b s⟩
  | driveReport a b => exact ⟨_, execDriveReport_fr a b s⟩
  | safeRun => exact ⟨_, execSafeRun_fr s⟩
  | drvSafeclrWrite a b => exact ⟨_, execDrvSafeclrWrite_fr a b s⟩
  | drvManWrite a b => exact ⟨_, execDrvManWrite_fr a b s⟩
  | tachEdge a => exact ⟨_, execTachEdge_fr a s⟩
  | fanSpeedLoop a => exact ⟨_, execFanSpeedLoop_fr a s⟩
  | stall a b => exact ⟨_, execStall_fr a b s⟩
  | tachLostTimeout a => exact ⟨_, execTachLostTimeout_fr a s⟩
  | kick a => exact ⟨_, execKick_fr a s⟩
  | kickEnd a => exact ⟨_, execKickEnd_fr a s⟩
  | retryCountReset a => exact ⟨_, execRetryCountReset_fr a s⟩
  | fanDutyArrival => exact ⟨_, execFanDutyArrival_fr s⟩
  | fanSafeclrWrite a => exact ⟨_, execFanSafeclrWrite_fr a s⟩
  | portConfigWrite a b => exact ⟨_, execPortConfigWrite_fr a b s⟩
  | mstpFrameReceive a b => exact ⟨_, execMstpFrameReceive_fr a b s⟩
  | readProperty a b => exact ⟨_, execReadProperty_fr a b s⟩
  | readPropertyMultiple a b => exact ⟨_, execReadPropertyMultiple_fr a b s⟩
  | writeProperty a b => exact ⟨_, execWriteProperty_fr a b s⟩
  | writePropertyMultiple a b => exact ⟨_, execWritePropertyMultiple_fr a b s⟩
  | readRange a b => exact ⟨_, execReadRange_fr a b s⟩
  | subscribeCov a b => exact ⟨_, execSubscribeCov_fr a b s⟩
  | covNotification a => exact ⟨_, execCovNotification_fr a s⟩
  | covSubscriptionExpiry a => exact ⟨_, execCovSubscriptionExpiry_fr a s⟩
  | whoIs a => exact ⟨_, execWhoIs_fr a s⟩
  | whoHas a b c => exact ⟨_, execWhoHas_fr a b c s⟩
  | timeSynchronization a => exact ⟨_, execTimeSynchronization_fr a s⟩
  | utcTimeSynchronization a => exact ⟨_, execUtcTimeSynchronization_fr a s⟩
  | deviceCommunicationControl a b c d => exact ⟨_, execDeviceCommunicationControl_fr a b c d s⟩
  | reinitializeDevice a b c => exact ⟨_, execReinitializeDevice_fr a b c s⟩
  | modbusFunction01 a b => exact ⟨_, execModbusFunction01_fr a b s⟩
  | modbusFunction02 a b => exact ⟨_, execModbusFunction02_fr a b s⟩
  | modbusFunction03 a b => exact ⟨_, execModbusFunction03_fr a b s⟩
  | modbusFunction04 a b => exact ⟨_, execModbusFunction04_fr a b s⟩
  | modbusFunction05 a b => exact ⟨_, execModbusFunction05_fr a b s⟩
  | modbusFunction06 a b => exact ⟨_, execModbusFunction06_fr a b s⟩
  | modbusFunction15 a b => exact ⟨_, execModbusFunction15_fr a b s⟩
  | modbusFunction16 a b => exact ⟨_, execModbusFunction16_fr a b s⟩
  | modbusPollRound a => exact ⟨_, execModbusPollRound_fr a s⟩
  | modbusMasterReply a b => exact ⟨_, execModbusMasterReply_fr a b s⟩
  | modbusMasterTimeout a => exact ⟨_, execModbusMasterTimeout_fr a s⟩
  | rawByteReceive a b c => exact ⟨_, execRawByteReceive_fr a b c s⟩
  | serviceFrame a => exact ⟨_, execServiceFrame_fr a s⟩
  | linkUp a => exact ⟨_, execLinkUp_fr a s⟩
  | linkDown a b => exact ⟨_, execLinkDown_fr a b s⟩
  | ping a b => exact ⟨_, execPing_fr a b s⟩
  | echo a b c => exact ⟨_, execEcho_fr a b c s⟩
  | credit a b => exact ⟨_, execCredit_fr a b s⟩
  | hopCreditTimeout a b => exact ⟨_, execHopCreditTimeout_fr a b s⟩
  | graftFrameForward a b => exact ⟨_, execGraftFrameForward_fr a b s⟩
  | ackTimeout a b => exact ⟨_, execAckTimeout_fr a b s⟩
  | tick a b c => exact ⟨_, execTick_fr a b c s⟩
  | tickSend => exact ⟨_, execTickSend_fr s⟩
  | tickLoss => exact ⟨_, execTickLoss_fr s⟩
  | hello a b => exact ⟨_, execHello_fr a b s⟩
  | helloSend => exact ⟨_, execHelloSend_fr s⟩
  | nodeAbsence a => exact ⟨_, execNodeAbsence_fr a s⟩
  | graftCtlWrite a => exact ⟨_, execGraftCtlWrite_fr a s⟩
  | listenEnd => exact ⟨_, execListenEnd_fr s⟩
  | roleconfRelisten => exact ⟨_, execRoleconfRelisten_fr s⟩
  | time a b => exact ⟨_, execTime_fr a b s⟩
  | timeSend => exact ⟨_, execTimeSend_fr s⟩
  | allot a b => exact ⟨_, execAllot_fr a b s⟩
  | allocationCycle => exact ⟨_, execAllocationCycle_fr s⟩
  | allotRepeat a => exact ⟨_, execAllotRepeat_fr a s⟩
  | demand a b => exact ⟨_, execDemand_fr a b s⟩
  | demandSend => exact ⟨_, execDemandSend_fr s⟩
  | takeback a b => exact ⟨_, execTakeback_fr a b s⟩
  | masterLoss => exact ⟨_, execMasterLoss_fr s⟩
  | mbox a b => exact ⟨_, execMbox_fr a b s⟩
  | mboxReply a b => exact ⟨_, execMboxReply_fr a b s⟩
  | ack a b => exact ⟨_, execAck_fr a b s⟩
  | forwardNodeAbsent a => exact ⟨_, execForwardNodeAbsent_fr a s⟩
  | abortFrame a b => exact ⟨_, execAbortFrame_fr a b s⟩
  | reset a b => exact ⟨_, execReset_fr a b s⟩
  | sched a b => exact ⟨_, execSched_fr a b s⟩
  | cal a b => exact ⟨_, execCal_fr a b s⟩
  | point a b => exact ⟨_, execPoint_fr a b s⟩
  | exportDue a => exact ⟨_, execExportDue_fr a s⟩
  | importTimeout a => exact ⟨_, execImportTimeout_fr a s⟩
  | zone a b => exact ⟨_, execZone_fr a b s⟩
  | zoneEntrySend a => exact ⟨_, execZoneEntrySend_fr a s⟩
  | zoneLinkTimeout a => exact ⟨_, execZoneLinkTimeout_fr a s⟩
  | heartwoodScrub a b c d => exact ⟨_, execHeartwoodScrub_fr a b c d s⟩
  | counterEvent a => exact ⟨_, execCounterEvent_fr a s⟩
  | counterSlotWrite => exact ⟨_, execCounterSlotWrite_fr s⟩
  | periodicSave a => exact ⟨_, execPeriodicSave_fr a s⟩
  | parametersSave a => exact ⟨_, execParametersSave_fr a s⟩
  | lockoutEnd a => exact ⟨_, execLockoutEnd_fr a s⟩
  | trendRecord a => exact ⟨_, execTrendRecord_fr a s⟩
  | trendProgram a => exact ⟨_, execTrendProgram_fr a s⟩
  | trendOpen => exact ⟨_, execTrendOpen_fr s⟩
  | recorderSecond => exact ⟨_, execRecorderSecond_fr s⟩
  | recorderSample a => exact ⟨_, execRecorderSample_fr a s⟩
  | grrCursorWrite a b => exact ⟨_, execGrrCursorWrite_fr a b s⟩
  | grrPreswrWrite a => exact ⟨_, execGrrPreswrWrite_fr a s⟩
  | saveDeferralTimeout => exact ⟨_, execSaveDeferralTimeout_fr s⟩
  | recorderScrub a => exact ⟨_, execRecorderScrub_fr a s⟩
  | bankFailure a b => exact ⟨_, execBankFailure_fr a b s⟩
  | grrPowerUp a => exact ⟨_, execGrrPowerUp_fr a s⟩
  | clearTokenExpiry => exact ⟨_, execClearTokenExpiry_fr s⟩
  | rtcSecond => exact ⟨_, execRtcSecond_fr s⟩
  | rtcCapture a => exact ⟨_, execRtcCapture_fr a s⟩
  | rtcTimeWrite a b => exact ⟨_, execRtcTimeWrite_fr a b s⟩
  | rtcHalt => exact ⟨_, execRtcHalt_fr s⟩
  | rtcRun => exact ⟨_, execRtcRun_fr s⟩
  | rtcCalWrite a => exact ⟨_, execRtcCalWrite_fr a s⟩
  | calWindow => exact ⟨_, execCalWindow_fr s⟩
  | powerPathSwitch a => exact ⟨_, execPowerPathSwitch_fr a s⟩
  | fsoarmWrite a => exact ⟨_, execFsoarmWrite_fr a s⟩
  | brownout => exact ⟨_, execBrownout_fr s⟩
  | bkpreset => exact ⟨_, execBkpreset_fr s⟩
  | oscstop => exact ⟨_, execOscstop_fr s⟩
  | vblowSample a => exact ⟨_, execVblowSample_fr a s⟩
  | trickleWrite a b => exact ⟨_, execTrickleWrite_fr a b s⟩
  | vflow => exact ⟨_, execVflow_fr s⟩
  | vflowClear => exact ⟨_, execVflowClear_fr s⟩
  | sysPwrctlWrite a => exact ⟨_, execSysPwrctlWrite_fr a s⟩
  | domainPowerUp a => exact ⟨_, execDomainPowerUp_fr a s⟩
  | powerOnReset => exact ⟨_, execPowerOnReset_fr s⟩
  | powerOnResetRelease a b => exact ⟨_, execPowerOnResetRelease_fr a b s⟩
  | resetPin a => exact ⟨_, execResetPin_fr a s⟩
  | startUp a => exact ⟨_, execStartUp_fr a s⟩
  | powerFailWarning a => exact ⟨_, execPowerFailWarning_fr a s⟩
  | powerFailClear => exact ⟨_, execPowerFailClear_fr s⟩
  | thermalSample a => exact ⟨_, execThermalSample_fr a s⟩
  | shutdownHoldEnd a => exact ⟨_, execShutdownHoldEnd_fr a s⟩
  | safetyInputFault a b => exact ⟨_, execSafetyInputFault_fr a b s⟩
  | safetyFaultEnd a b => exact ⟨_, execSafetyFaultEnd_fr a b s⟩
  | safeStopHoldEnd => exact ⟨_, execSafeStopHoldEnd_fr s⟩
  | fb a => exact ⟨_, execFb_fr a s⟩
  | safectlWrite a b => exact ⟨_, execSafectlWrite_fr a b s⟩
  | deviceReset => exact ⟨_, execDeviceReset_fr s⟩
  | twigLimiting a b c d => exact ⟨_, execTwigLimiting_fr a b c d s⟩
  | safedurEnd a => exact ⟨_, execSafedurEnd_fr a s⟩
  | fanSpeedReport a => exact ⟨_, execFanSpeedReport_fr a s⟩
  | modbusOtherFunction a b => exact ⟨_, execModbusOtherFunction_fr a b s⟩
  | unrecognizedService a b => exact ⟨_, execUnrecognizedService_fr a b s⟩
  | linkTraining a => exact ⟨_, execLinkTraining_fr a s⟩
  | oscillatorRestart => exact ⟨_, execOscillatorRestart_fr s⟩
  | bkpResetRelease => exact ⟨_, execBkpResetRelease_fr s⟩
  | presenceChange a => exact ⟨_, execPresenceChange_fr a s⟩

/-- A command that answers a next state keeps the queue, the order of time and of the count of free values, and the canonical form. -/
theorem Runs.keeps {c : Instr} {s t : State} (h : Runs c s t) : ∃ m, Keeps m s t :=
  (exec_keeps c s).imp fun _ k => k t h

/-- Settles O51: the frame of every command. -/
theorem eachCommandLeavesOtherParts : Obligations.EachCommandLeavesOtherParts :=
  fun c s => exec_leaves c s

/-! ### What every step keeps -/

/-- A step is a command from the state without its front command, or a tick: the state that it answers comes by what Laws/Frame.lean
allows from the state with the rest of the queue. -/
theorem step_keeps {s t : State} (h : step s = .next t) : ∃ m, Keeps m { s with pending := s.pending.tail } t := by
  cases hq : s.pending with
  | nil =>
    obtain rfl : { s with now := s.now + 1 } = t := by simpa [stepOnEmptyQueueTicks s hq] using h
    rw [List.tail_nil, ← hq]
    exact ⟨_, Keeps.put_now s _ (Nat.le_succ _)⟩
  | cons c q =>
    rw [stepRunsFrontCommand c q s hq] at h
    exact Runs.keeps h

/-- Settles O43: the frame of every command, and of every step. -/
theorem commandLeavesQueueAndTimeForward : Obligations.CommandLeavesQueueAndTimeForward := by
  refine ⟨fun c s t h => ?_, fun s t h => ?_⟩
  · obtain ⟨m, k⟩ := h.keeps
    exact ⟨k.pending, k.time, k.draws⟩
  · obtain ⟨m, k⟩ := step_keeps h
    exact ⟨k.pending, k.time, k.draws⟩

/-- Settles O44: the front command answers, and so does the tick. -/
theorem everyStepAnswersNextState : Obligations.EveryStepAnswersNextState := by
  intro s
  cases hq : s.pending with
  | nil => exact ⟨_, stepOnEmptyQueueTicks s hq⟩
  | cons c q =>
    rw [stepRunsFrontCommand c q s hq]
    exact exec_answers c _

/-- Settles O45: the register table of a state says whether it is canonical, whatever its queue. -/
theorem everyStepKeepsRegistersCanonical : Obligations.EveryStepKeepsRegistersCanonical := by
  intro s t hs h
  obtain ⟨m, k⟩ := step_keeps h
  exact k.canon hs

/-! ### Runs -/

/-- Settles O46: at reset no register is listed. -/
theorem resetIsCanonical : Obligations.ResetIsCanonical := rfl

/-- A run of one step more is that step and then the run. -/
theorem runSteps_succ {n : Nat} {s t : State} (h : step s = .next t) : runSteps (n + 1) s = runSteps n t := by
  simp only [runSteps, h]

/-- Settles O47, by induction on the number of steps: the first step answers a canonical state, from which the rest is safe. -/
theorem everyRunIsSafe : Obligations.EveryRunIsSafe := by
  intro n
  induction n with
  | zero => exact fun s hs => ⟨s, rfl, hs⟩
  | succ n ih =>
    intro s hs
    obtain ⟨t, ht⟩ := everyStepAnswersNextState s
    obtain ⟨u, hu, hcanon⟩ := ih t (everyStepKeepsRegistersCanonical s t hs ht)
    exact ⟨u, (runSteps_succ ht).trans hu, hcanon⟩

end Sys2Proof.Machine
end

section
/-! PROOFS. The building buses: the rows of their ports, the requests to a Modbus slave and to the service UART, and the BACnet
services: a row acts in the mode that it needs, and a request that is served is run and answered. -/

namespace Sys2Proof.Machine

open Sys2Proof

/-! ### Ports and the Modbus master -/

/-- Settles O13: a row acts while the BUS domain is on and its port is in the row's mode, and otherwise nothing changes. -/
theorem buildingBusPortCommands : Obligations.BuildingBusPortCommands := by
  refine ⟨?config, ?configOff, ?mstp, ?mstpNot, ?raw, ?rawNot, ?poll, ?pollNot, ?reply, ?replyNot, ?timeout, ?timeoutNot⟩
  case config => exact fun p v s hd => Runs.of_pos rfl hd
  case configOff => exact fun p v s hd => Runs.of_neg rfl hd
  case mstp => exact fun p r s hd hm => Runs.of_pos rfl (by simp [hd, hm])
  case mstpNot => exact fun p r s h => Runs.of_neg rfl (by simpa using h)
  case raw => exact fun p byte err s hd hm => Runs.of_pos rfl (by simp [hd, hm])
  case rawNot => exact fun p byte err s h => Runs.of_neg rfl (by simpa using h)
  case poll => exact fun p s hd hm hidle => Runs.of_pos rfl (by simp only [hd, hm, hidle]; rfl)
  case pollNot => exact fun p s h => Runs.of_neg rfl (by simpa [and_assoc] using h)
  case reply => exact fun p frame s hd hm => Runs.of_pos rfl (by simp [hd, hm])
  case replyNot => exact fun p frame s h => Runs.of_neg rfl (by simpa using h)
  case timeout => exact fun p s hd hm => Runs.of_pos rfl (by simp [hd, hm])
  case timeoutNot => exact fun p s h => Runs.of_neg rfl (by simpa using h)

/-! ### The Modbus slave and the service UART -/

/-- Settles O33: a slave port runs and answers a request that firmware serves; a command frame goes into channel 15 when it is empty. -/
theorem modbusAndServiceRequests : Obligations.ModbusAndServiceRequests := by
  refine ⟨?f01, ?f02, ?f03, ?f04, ?f05, ?f06, ?f15, ?f16, ?other, ?service, ?busy⟩
  case f01 | f02 | f03 | f04 | f05 | f06 | f15 | f16 | other => exact fun p frame bs s h => Runs.of_exec rfl (slaveFrame_run h _)
  case service =>
    refine fun wire seq ws s hh hd hw hfull => Runs.of_exec rfl ((if_neg (by simp [hh, hd])).trans ?_)
    simp only [hw]
    exact if_neg (ne_true_of_eq_false hfull)
  case busy =>
    refine fun wire seq ws s hh hd hw hfull => Runs.of_exec rfl ((if_neg (by simp [hh, hd])).trans ?_)
    simp only [hw]
    exact if_pos hfull

/-! ### BACnet requests -/

/-- R378: a request at the port that serves BACnet is answered with what its service gives. -/
theorem serve_eq {r : BacReq} {always : Bool} {s t : State} {f : State → BacBody × State} {b : BacBody}
    (h : bacUp r.port always s = true) (hf : f (crownDrain s) = (b, t)) : serve r always f s = answer r b t := by
  rw [serve_run h, hf]

/-- R453: behind the right password a request runs. -/
theorem withPassword_right {pw : List Byte} {run : State → BacBody × State} {s : State}
    (h : (checkPassword 0 true (bacPassword pw) s).1 = 0) : withPassword pw run s = run (checkPassword 0 true (bacPassword pw) s).2 :=
  if_pos h

/-- R453: behind a wrong password a request is answered so. -/
theorem withPassword_wrong {pw : List Byte} {run : State → BacBody × State} {s : State}
    (h : (checkPassword 0 true (bacPassword pw) s).1 ≠ 0) :
    withPassword pw run s = (.passwordFailure, (checkPassword 0 true (bacPassword pw) s).2) :=
  if_neg h

/-- R380: a time synchronization sets the clock of a device that serves BACnet, is not slave to a grove's time and owns its clock. -/
theorem syncTime_eq {p : Nat} {t : Word} {s : State} (hp : mstpPort s = some p) (hup : bacUp p false s = true) (hrole : grRole s ≠ 1)
    (howner : ownerBase rtcRef s = true) : syncTime t s = setClock t.toNat s := by
  simp only [syncTime, hp]
  exact if_pos (by simp [hup, hrole, howner])

/-- Settles O34: each service at the port that serves BACnet, each notification that is due, and each end and answer. -/
theorem bacnetServices : Obligations.BacnetServices := by
  refine ⟨?read, ?readMany, ?write, ?writeMany, ?range, ?subscribe, ?cancel, ?renew, ?notify, ?expiry, ?expiryNone, ?whoIs, ?whoIsNot,
    ?whoHas, ?time, ?utc, ?comm, ?commWrong, ?reinit, ?unknown⟩
  case read | readMany | write | writeMany => exact fun req x s h => Runs.of_exec rfl (serve_run h _)
  case range =>
    rintro req range _ s h rfl hobj hup
    exact Runs.of_exec rfl (serve_eq h ((if_neg (by simp [hobj])).trans (if_neg (by simp [hup]))))
  case subscribe =>
    rintro req sub i _ s h rfl hc hobj hpres hlife hnew hfree
    refine Runs.of_exec rfl (serve_eq h ?_)
    simp only [hfree]
    rw [List.find?_eq_none.2 ?notListed, Option.none_or]
    case notListed =>
      intro k _
      cases hk : covSub k (crownDrain s) with
      | none => simp
      | some o => simpa using hnew k o hk
    exact (if_neg (by simp [hc])).trans ((if_neg (by simp [hobj, hpres])).trans (if_neg (Nat.not_lt.2 hlife)))
  -- The row and the statement each write out how a listed subscription is found: erw sees through the two matches.
  case cancel =>
    rintro req sub i _ s h rfl hold hc
    refine Runs.of_exec rfl (serve_eq h ?_)
    dsimp only
    erw [hold]
    exact if_pos hc
  case renew =>
    rintro req sub i _ s h rfl hold hc hobj hpres hlife
    refine Runs.of_exec rfl (serve_eq h ?_)
    dsimp only
    erw [hold]
    exact (if_neg (by simp [hc])).trans ((if_neg (by simp [hobj, hpres])).trans (if_neg (Nat.not_lt.2 hlife)))
  case notify =>
    rintro i c v _ s hsub hready rfl hnow hup hcomm hlast
    simp only [Runs, exec, execCovNotification, hsub, if_pos hready, hnow]
    exact congrArg Host.Outcome.next (if_pos (by simp [hup, hcomm, hlast]))
  case expiry =>
    intro i t s hend
    simp only [Runs, exec, execCovSubscriptionExpiry, hend]
  case expiryNone =>
    intro i s hend
    simp only [Runs, exec, execCovSubscriptionExpiry, hend]
  case whoIs => exact fun limits s h => Runs.of_pos rfl h
  case whoIsNot => exact fun limits s h => Runs.of_neg rfl h
  case whoHas => exact fun limits obj inst s h hobj => Runs.of_pos rfl (by simp [h, hobj])
  case time | utc => exact fun t p s hp hup hrole howner => Runs.of_exec rfl (syncTime_eq hp hup hrole howner)
  case comm => exact fun req mode minutes pw s h hpw => Runs.of_exec rfl (serve_eq h (withPassword_right hpw))
  case commWrong => exact fun req mode minutes pw s h hpw => Runs.of_exec rfl (serve_eq h (withPassword_wrong hpw))
  case reinit =>
    rintro req warm pw s h hpw rfl hnone
    refine Runs.of_exec rfl (serve_eq h ((withPassword_right hpw).trans ?_))
    simp only [hnone]
    rfl
  case unknown =>
    rintro req confirmed s rfl h
    exact Runs.of_exec rfl ((if_pos rfl).trans (serve_eq h rfl))

end Sys2Proof.Machine
end

section
/-! PROOFS. The Graft link and the grove: frames, credits, links and the state of a node, and what a node sends and judges at its
times: a row acts in the state that its rule names, on what waits for it. -/

namespace Sys2Proof.Machine

open Sys2Proof

/-! ### The link and the state of a node -/

/-- Settles O14: a row acts while the GFT domain is on and the port or the node is in the row's state, and otherwise nothing changes. -/
theorem graftLinkCommands : Obligations.GraftLinkCommands := by
  refine ⟨?forward, ?forwardNot, ?credit, ?creditNot, ?hop, ?train, ?trainNot, ?up, ?upNot, ?down, ?downNot, ?ping, ?pingNot, ?echo,
    ?echoNot, ?control, ?controlOff, ?listen, ?listenNot, ?relisten, ?relistenNot, ?hello, ?helloNot, ?absent, ?absentNone⟩
  case forward => exact fun p frame s hd hl => Runs.of_pos rfl (by simp [hd, hl])
  case forwardNot => exact fun p frame s h => Runs.of_neg rfl (by simpa using h)
  case credit => exact fun p d s hd hl => Runs.of_pos rfl (by simp [hd, hl])
  case creditNot => exact fun p d s h => Runs.of_neg rfl (by simpa using h)
  case hop => exact fun p cls s hd hcls => Runs.of_pos rfl (by simpa [hd] using hcls)
  case train => exact fun p s hd hst hl => Runs.of_pos rfl (by simp [hd, hst, hl])
  case trainNot => exact fun p s h => Runs.of_neg rfl (by simpa [and_assoc] using h)
  case up => exact fun p s hd hst hl => Runs.of_pos rfl (by simp [hd, hst, hl])
  case upNot => exact fun p s h => Runs.of_neg rfl (by simpa [and_assoc] using h)
  case down => exact fun p v s hd hl => Runs.of_pos rfl (by simp [hd, hl])
  case downNot => exact fun p v s h => Runs.of_neg rfl (by simpa using h)
  case ping => exact fun p rx s hd hl => Runs.of_pos rfl (by simp [hd, hl])
  case pingNot => exact fun p rx s h => Runs.of_neg rfl (by simpa using h)
  case echo => exact fun p n turnaround s hd hl => Runs.of_pos rfl (by simp [hd, hl])
  case echoNot => exact fun p n turnaround s h => Runs.of_neg rfl (by simpa using h)
  case control => exact fun v s hd => Runs.of_pos rfl hd
  case controlOff => exact fun v s hd => Runs.of_neg rfl hd
  case listen => exact fun s hd hst => Runs.of_pos rfl (by simp [hd, hst])
  case listenNot => exact fun s h => Runs.of_neg rfl (by simpa using h)
  case relisten => exact fun s hd hst hconf => Runs.of_pos rfl (by simp [hd, hst, hconf])
  case relistenNot => exact fun s h => Runs.of_neg rfl (by simpa [and_assoc] using h)
  case hello => exact fun s hd hst => Runs.of_pos rfl (by simp [hd, hst])
  case helloNot => exact fun s h => Runs.of_neg rfl (by simpa using h)
  case absent =>
    intro node g s hnode hd
    simp only [Runs, exec, execNodeAbsence, hnode, if_pos hd]
  case absentNone =>
    intro node s hnode
    simp only [Runs, exec, execNodeAbsence, hnode]

/-! ### Times of a node -/

/-- R404: an unacknowledged frame that is no reply is sent again until its third repetition, and is then given up. -/
theorem execAckTimeout_command {cls : Fin 4} {seq : Half} {x : GrSend} {s : State}
    (hx : s.gft.unacked.find? (fun x => decide (x.cls = cls.val) && decide (x.seq = seq.toNat)) = some x) (hd : domOn .gft s = true)
    (hty : (x.frame.headD 0).toNat ≠ 0x81) :
    execAckTimeout cls seq s = .next (let t := freshLine (s.advTo (x.sentAt + msT 20))
      if x.tries < 3 then
        let y := { x with sentAt := t.now, tries := x.tries + 1 }
        launch x.dst x.cls x.frame { t with gft := { t.gft with unacked := t.gft.unacked.map (fun z => if z = x then y else z) } }
      else frameAnswered x 2 t) := by
  simp only [execAckTimeout, hx, hd, hty, decide_false, Bool.false_and, Bool.or_false, decide_eq_true_eq]
  rfl

/-- Settles O36: a row acts while its node is joined and, where the row says so, acts for the grove or does not, on what waits for it;
and otherwise nothing changes. -/
theorem groveEvents : Obligations.GroveEvents := by
  refine ⟨?ackNone, ?again, ?given, ?tick, ?tickNot, ?loss, ?lossNot, ?time, ?demand, ?demandNone, ?alloc, ?allocNot, ?allot, ?master,
    ?masterNot, ?exportDue, ?exportNot, ?stale, ?staleNone, ?zone, ?zoneLost, ?gone⟩
  case ackNone =>
    intro cls seq s hx
    simp only [Runs, exec, execAckTimeout, hx]
  case again => exact fun cls seq x s hx hd hty htries => Runs.of_exec (execAckTimeout_command hx hd hty) (if_pos htries)
  case given =>
    exact fun cls seq x s hx hd hty htries => Runs.of_exec (execAckTimeout_command hx hd hty) (if_neg (Nat.not_lt.2 htries))
  case tick => exact fun s hd hst hact => Runs.of_pos rfl (by simp [hd, hst, hact])
  case tickNot => exact fun s h => Runs.of_neg rfl (by simpa [and_assoc] using h)
  case loss => exact fun s hd hst hact => Runs.of_pos rfl (by simp [hd, hst, hact])
  case lossNot => exact fun s h => Runs.of_neg rfl (by simpa [and_assoc] using h)
  case time =>
    intro t s hnow hd hready hst hact hat
    simp only [Runs, exec, execTimeSend, hnow]
    exact congrArg Host.Outcome.next (if_pos (by simp [hd, hready, hst, hact, hat]))
  case demand =>
    intro g s hg hd hst
    simp only [Runs, exec, execDemandSend, hg]
    exact congrArg Host.Outcome.next (if_pos (by simp [hd, hst]))
  case demandNone =>
    intro s hg
    simp only [Runs, exec, execDemandSend, hg]
  case alloc => exact fun s hd hready hst hact => Runs.of_pos rfl (by simp [hd, hready, hst, hact])
  case allocNot => exact fun s h => Runs.of_neg rfl (by simpa [and_assoc] using h)
  case allot => exact fun g s hd hready hst hact hw => Runs.of_pos rfl (by simp [hd, hready, hst, hact, hw])
  case master => exact fun s hd hst hact => Runs.of_pos rfl (by simp [hd, hst, hact])
  case masterNot => exact fun s h => Runs.of_neg rfl (by simpa [and_assoc] using h)
  case exportDue => exact fun k s hd hst hen => Runs.of_pos rfl (by simp [hd, hst, hen])
  case exportNot => exact fun k s h => Runs.of_neg rfl (by simpa [and_assoc] using h)
  case stale =>
    intro p i s hi hvirt
    simp only [Runs, exec, execImportTimeout, hi, if_pos hvirt]
  case staleNone =>
    intro p s hi
    simp only [Runs, exec, execImportTimeout, hi]
  case zone =>
    rintro z _ t m q sp _ s hready hd hst rfl hlinks rfl hout
    have hjoined : (ready s && domOn .gft s && decide (grState s = 2)) = true := by simp [hready, hd, hst]
    refine Runs.of_exec rfl ((if_pos (Bool.and_eq_true_iff.2 ⟨hjoined, decide_eq_true hlinks⟩)).trans ?_)
    generalize tblGet none s.gft.zoneOut z = out at hout ⊢
    subst hout
    rfl
  case zoneLost =>
    intro z im s hready him hlinked hlost
    refine Runs.of_pos rfl ?_
    simp only [him, hready, hlinked, hlost]
    rfl
  case gone =>
    rintro node t _ s hat rfl hready hmine
    simp only [Runs, exec, execForwardNodeAbsent, hat]
    exact congrArg Host.Outcome.next (if_pos (by simpa [hready] using hmine))

end Sys2Proof.Machine
end

section
/-! PROOFS. Storage: the STORE commands, and the records, pages and commands of the trend store: a command in its turn does what stands
behind its checks, and for an area behind its password. -/

namespace Sys2Proof.Machine

open Sys2Proof

/-! ### Commands in their turn -/

/-- R86: a command in its turn answers what its meaning answers and leads where it leads. -/
theorem runCmd_eq {id code : Nat} {c : Cmd} {s t : State} {body : Cmd → State → Reply × State} {r : Reply} (h : CmdTurn id code c s)
    (hb : body c s = (r, t)) : runCmd id code body s = settle id r t := by
  rw [runCmd_turn h, hb]

/-- R91: a check that does not fail, before checks that pass. -/
theorem passes_cons {b : Bool} {e : Nat} {l : List (Bool × Nat)} (hb : b = false) (hl : Passes l) : Passes ((b, e) :: l) :=
  (if_neg (ne_true_of_eq_false hb)).trans hl

/-- R91: checks that pass, before checks that pass. -/
theorem passes_append {l k : List (Bool × Nat)} (hl : Passes l) (hk : Passes k) : Passes (l ++ k) := by
  induction l with
  | nil => exact hk
  | cons p l ih =>
    obtain ⟨b, e⟩ := p
    cases b with
    | true => cases hl
    | false => exact ih hl

/-! ### The STORE commands -/

/-- Settles O20: what stands behind the checks of each command, where a record is written to its end and a password is right. -/
theorem storeCommands : Obligations.StoreCommands := by
  refine ⟨?readCounter, ?readArea, ?writeCounter, ?writeArea, ?commit, ?commitEnding, ?password, ?status⟩
  case readCounter =>
    refine fun id medium c n s h htarget hm hd hok hsilent hbad => Runs.of_exec rfl (runCmd_eq h ?_)
    simp only [htarget]
    refine (checked_pass (passes_cons (by simp [hm]) (passes_single (by simp [hd])))).trans ?_
    exact (if_neg (by simp [hok, hsilent])).trans (if_neg hbad)
  case readArea =>
    refine fun id medium c a off s h htarget hp hkeys hpw => Runs.of_exec rfl (runCmd_eq h ?_)
    simp only [htarget]
    exact (checked_pass hp).trans ((if_neg (ne_true_of_eq_false hkeys)).trans (if_pos hpw))
  case writeCounter =>
    refine fun id medium c n s h htarget hp hok => Runs.of_exec rfl (runCmd_eq h ?_)
    simp only [htarget]
    refine (checked_pass hp).trans ((if_neg (by simp [hok])).trans ?_)
    cases medium <;> rfl
  case writeArea =>
    refine fun id medium c a off s h htarget hp hkeys hpw => Runs.of_exec rfl (runCmd_eq h ?_)
    simp only [htarget]
    exact (checked_pass hp).trans ((if_neg (ne_true_of_eq_false hkeys)).trans (if_pos hpw))
  case commit =>
    refine fun id medium c a off s h htarget hoff hw hd hkeys hpw hdone => Runs.of_exec rfl ((if_neg (by simp [hw])).trans (runCmd_eq h ?_))
    simp only [htarget]
    refine (checked_pass (passes_cons (by simp [hoff]) (passes_single (by simp [hd])))).trans ?_
    refine (if_neg (ne_true_of_eq_false hkeys)).trans ((if_neg (not_not_intro hpw)).trans ?_)
    simp only [hdone]
  case commitEnding =>
    exact fun id medium c e s h => Runs.of_exec rfl ((if_neg (by simp [endingOf_of_cmdEnding h])).trans (runCmd_ending h _))
  case password =>
    refine fun id medium c s h hw hbits hd hdone => Runs.of_exec rfl ((if_neg (by simp [hw])).trans (runCmd_eq h ?_))
    refine (checked_pass (passes_cons (congrArg Bool.not hbits) (passes_single (by simp [hd])))).trans ?_
    simp only [hdone]
  case status =>
    exact fun id c s h hd => Runs.of_exec rfl (runCmd_checked h rfl (passes_single (by simp [hd])))

/-! ### The trend store -/

/-- R461: a TREND command whose own checks pass runs while the store has no status of its own to answer. -/
theorem trendCmd_pass {s : State} {form : List (Bool × Nat)} {run : Reply × State} (hf : Passes form) (h : trendStatus s = 0) :
    trendCmd s form run = run :=
  checked_pass (passes_append hf (passes_single (by simp [h])))

/-- Settles O21: a record is taken while firmware is ready, a page is programmed and the store opened under their conditions, and a
command runs while the store is open. -/
theorem trendStoreCommands : Obligations.TrendStoreCommands := by
  refine ⟨?record, ?recordNot, ?page, ?pageNot, ?opens, ?opensNot, ?status, ?snapshot, ?drain, ?drainEnding, ?advance⟩
  case record => exact fun l s hready => Runs.of_pos rfl hready
  case recordNot => exact fun l s hready => Runs.of_neg rfl hready
  case page =>
    refine fun ok erased x xs s hup hbuf => Runs.of_exec rfl ((if_neg (by simp [hup])).trans ?_)
    simp only [hbuf]
  case pageNot =>
    rintro ok erased s (hdown | hempty)
    · exact Runs.of_pos rfl (by simp [hdown])
    · exact Runs.of_exec rfl (ite_eq_left_iff.2 fun _ => by simp only [hempty])
  case opens =>
    exact fun s hready hd hsfdp hsize hopen hclosed hrec =>
      Runs.of_pos rfl (by simp [hready, hd, hsfdp, hsize, hopen, hclosed, hrec])
  case opensNot => exact fun s h => Runs.of_neg rfl (by simpa [and_assoc] using h)
  case status | snapshot => exact fun id c s h hst => Runs.of_exec rfl (runCmd_eq h (trendCmd_pass rfl hst))
  case drain =>
    refine fun id bad c s h hend hst hbits hlo hhi => Runs.of_exec rfl ?_
    simp only [hend, Bool.false_eq_true, if_false]
    refine runCmd_eq h (trendCmd_pass (passes_cons (congrArg Bool.not hbits) (passes_single ?_)) hst)
    exact decide_eq_false (by omega)
  case drainEnding =>
    refine fun id bad c e s hend h => Runs.of_exec rfl ?_
    simp only [hend, if_true]
    exact runCmd_ending h _
  case advance =>
    rintro id c _ s h hst rfl hle hr hlt
    refine Runs.of_exec rfl (runCmd_eq h ((trendCmd_pass rfl hst).trans (checked_of_false ?_)))
    simp only [hle, hr, hlt]
    rfl

end Sys2Proof.Machine
end

section
/-! PROOFS. The growth-ring recorder and the clock: the recorder's events and the REC commands, the writes of the clock's registers and
the CLOCK commands: an event acts under its condition, and a command in its turn does what stands behind its checks. -/

namespace Sys2Proof.Machine

open Sys2Proof

/-! ### The events of the recorder -/

/-- Settles O17: a row acts while the recorder is powered and its other conditions hold, or on the deferral or the token that is set, and
otherwise nothing changes. -/
theorem recorderEvents : Obligations.RecorderEvents := by
  refine ⟨?preserved, ?preservedOff, ?second, ?secondNot, ?sample, ?sampleDropped, ?sampleNone, ?deferNone, ?defer, ?cursor, ?cursorOff,
    ?bank, ?bankNot, ?scrub, ?scrubNot, ?token, ?tokenNone⟩
  case preserved => exact fun v s hd => Runs.of_pos rfl hd
  case preservedOff => exact fun v s hd => Runs.of_neg rfl hd
  case second => exact fun s hon hdefer hdue => Runs.of_pos rfl (by simp only [hon, hdefer, hdue]; rfl)
  case secondNot => exact fun s h => Runs.of_neg rfl (by simpa [and_assoc] using h)
  case sample =>
    intro c p t s htake hon hen hgroup hlate hsent hnew
    simp only [Runs, exec, execRecorderSample, htake]
    exact congrArg Host.Outcome.next (if_neg (by simp [hon, hen, hgroup, hlate, hsent, hnew]))
  case sampleDropped =>
    intro c p t s htake hdrop
    simp only [Runs, exec, execRecorderSample, htake]
    exact congrArg Host.Outcome.next (if_pos (by simpa [or_assoc] using hdrop))
  case sampleNone =>
    intro c s htake
    simp only [Runs, exec, execRecorderSample, htake]
  case defer | token =>
    intro t s hset
    simp only [Runs, exec, execSaveDeferralTimeout, execClearTokenExpiry, hset]
  case deferNone | tokenNone =>
    intro s hnone
    simp only [Runs, exec, execSaveDeferralTimeout, execClearTokenExpiry, hnone]
  case cursor => exact fun reader v s hd => Runs.of_pos rfl hd
  case cursorOff => exact fun reader v s hd => Runs.of_neg rfl hd
  case bank => exact fun bank words s hd hup hwords => Runs.of_neg rfl (by simp only [hd, hup, hwords]; exact Bool.false_ne_true)
  case bankNot => exact fun bank words s h => Runs.of_pos rfl (by simpa [or_assoc, imp_iff_not_or] using h)
  case scrub => exact fun corrected s hd hup => Runs.of_neg rfl (by simp [hd, hup])
  case scrubNot => exact fun corrected s h => Runs.of_pos rfl (by simpa [imp_iff_not_or] using h)

/-! ### The REC commands -/

/-- A command in its turn is the command of its number. -/
theorem CmdTurn.cmdById_eq {id code : Nat} {c : Cmd} {s : State} (h : CmdTurn id code c s) : cmdById id s = some c := h.1

/-- Settles O18: what stands behind the checks of each command; REC.CLEAR without a token gives one, and with one uses it up. -/
theorem recorderCommands : Obligations.RecorderCommands := by
  refine ⟨?read, ?config, ?health, ?clearToken, ?clear, ?clearWrong⟩
  case read => exact fun id c s h hp => Runs.of_exec rfl (runCmd_checked h rfl hp)
  case config =>
    exact fun id c s h hp howner hclaim hbad => Runs.of_exec rfl
      (runCmd_work h rfl hp ((ite_not_ownerBase howner).trans ((ite_claimed hclaim).trans (checked_of_false hbad))))
  case health =>
    refine fun id c s h hbits hpart hon => Runs.of_exec rfl (runCmd_checked h rfl ?_)
    refine passes_cons (congrArg Bool.not hbits) (passes_cons (by simp [hpart]) (passes_single ?_))
    rcases hon with hd | h1 | h2
    · simp [hd]
    · simp [h1]
    · simp [h2]
  case clearToken =>
    refine fun id c s h hop hp => Runs.of_exec rfl ?_
    simp only [CmdTurn.cmdById_eq h, if_pos hop]
    exact runCmd_checked h rfl hp
  case clear =>
    refine fun id c s h hop hp htok => Runs.of_exec rfl ?_
    simp only [CmdTurn.cmdById_eq h, if_pos hop]
    exact runCmd_work h rfl hp (if_pos htok)
  case clearWrong =>
    refine fun id c s h hop hp htok => Runs.of_exec rfl ?_
    simp only [CmdTurn.cmdById_eq h, if_pos hop]
    exact runCmd_work h rfl hp (if_neg (ne_true_of_eq_false htok))

/-! ### The clock -/

/-- R309: what a command does to a clock that its base configuration or a mode owns. -/
theorem rtcOwned_owner {s : State} {run : Reply × State} (h : ownerBase rtcRef s = true) : rtcOwned s run = run := if_pos h

/-- R493: a legal value of a time register is written while the clock is halted; the seconds begin anew. -/
theorem rtcTimeWrite_legal {k : Nat} {v : Word} {s : State} (hheld : s.rtc.held = false) (hwday : k ≠ 3) (hlast : k ≠ 8)
    (hhalt : halted s = true) (hok : timeFieldOk k (fld v 0 (timeFieldBits k)) = true) :
    rtcTimeWrite k v s = (let t := s.setReg (aRtcSec + 4 * k) (BitVec.ofNat 32 (fld v 0 (timeFieldBits k)))
      if k = 0 then { t with rtc := { t.rtc with sub := 0, secWritten := true } } else t) :=
  (if_neg (ne_true_of_eq_false hheld)).trans ((if_neg (not_or.2 ⟨hwday, hlast⟩)).trans
    ((if_neg (by simp [hhalt])).trans (if_neg (by simp [hok]))))

/-- Settles O16: a register is written out of the backup domain's reset with a legal value, and a command in its turn does what stands
behind its checks on a clock that its base configuration or a mode owns. -/
theorem clockWritesAndCommands : Obligations.ClockWritesAndCommands := by
  refine ⟨?time, ?halt, ?run, ?cal, ?arm, ?trickle, ?get, ?set, ?alarm, ?calibrate⟩
  case time => exact fun i v s hheld hwday hlast hhalt hok => Runs.of_exec rfl (rtcTimeWrite_legal hheld hwday hlast hhalt hok)
  case halt => exact fun s hheld hhalt => Runs.of_neg rfl (by simp [hheld, hhalt])
  case run => exact fun s hheld hhalt hdate => Runs.of_exec rfl ((if_neg (by simp [hheld, hhalt])).trans (if_neg (by simp [hdate])))
  case cal => exact fun v s hheld hv => Runs.of_exec rfl ((if_neg (ne_true_of_eq_false hheld)).trans (if_neg hv))
  case arm => exact fun v s hheld => Runs.of_neg rfl (ne_true_of_eq_false hheld)
  case trickle =>
    refine fun sec v s hheld hsec hv => Runs.of_exec rfl ((if_neg (by simp [hheld, hsec])).trans (if_neg ?_))
    rcases hv with hoff | hcharging | hkey
    · simp [hoff]
    · simp [hcharging]
    · simp [hkey]
  case get => exact fun id c s h => Runs.of_exec rfl (runCmd_turn h _)
  case set => exact fun id c s h howner => Runs.of_exec rfl (runCmd_eq h (rtcOwned_owner howner))
  case alarm =>
    exact fun id c s h hbits howner hok => Runs.of_exec rfl
      (runCmd_work h rfl (passes_single (congrArg Bool.not hbits)) ((rtcOwned_owner howner).trans (checked_of_false (by simp [hok]))))
  case calibrate =>
    exact fun id c s h howner hlo hhi => Runs.of_exec rfl
      (runCmd_eq h ((rtcOwned_owner howner).trans (checked_of_false (decide_eq_false (by omega)))))

end Sys2Proof.Machine
end

section
/-! PROOFS. The safety inputs, the safe stop and the SAFE commands: an input is judged out of the power-on reset, and a command in its
turn does what stands behind its checks. -/

namespace Sys2Proof.Machine

open Sys2Proof

/-- Settles O27: what a reading of a safety input and the end of the hold bring, and what stands behind the checks of each command. -/
theorem safetyCommands : Obligations.SafetyCommands := by
  refine ⟨?fault, ?faultEnd, ?hold, ?holdNone, ?control, ?controlHeld, ?status, ?force, ?release⟩
  case fault =>
    rintro i mv _ _ s hon rfl rfl
    exact Runs.of_neg rfl (by simp [hon])
  case faultEnd =>
    rintro i mv _ _ s hon rfl rfl hst hlo hhi
    exact Runs.of_exec rfl ((if_neg (by simp [hon])).trans (if_neg (by simp [hst, hlo, hhi])))
  case hold =>
    intro t s hend
    simp only [Runs, exec, execSafeStopHoldEnd, hend]
  case holdNone =>
    intro s hend
    simp only [Runs, exec, execSafeStopHoldEnd, hend]
  case control => exact fun sec v s hheld => Runs.of_neg rfl (ne_true_of_eq_false hheld)
  case controlHeld => exact fun sec v s hheld => Runs.of_pos rfl (eq_true_of_ne_false hheld)
  case status => exact fun id c s h => Runs.of_exec rfl (runCmd_turn h _)
  case force => exact fun id c s h hp => Runs.of_exec rfl (runCmd_checked h rfl hp)
  case release => exact fun id c s h hp => Runs.of_exec rfl (runCmd_checked h rfl hp)

end Sys2Proof.Machine
end
